-- ==== Sys2Proof/Syntax.lean ====
section
/-! DEFINITION. Syntax: the commands of the block, one constructor for each row of the table of commands, and the types of
their operands. -/

namespace Sys2Proof

/-- Scope types in the order of R17, which is also their code in MBX_CMD[STYPE]. -/
inductive Scope where
  | inst | die | quad | tile | seam | sk | sp | cmn
  deriving DecidableEq, Repr

/-- What a SECDED or link check finds on a word: the outcome of a code that the spec does not lay out. -/
inductive Lchk where
  | clean | corrected | uncorrectable (syndrome : Nat)
  deriving DecidableEq, Repr

/-- What the code of an on-chip array finds on the word that is read (R583): the outcome of a code that the spec
does not lay out, with the place and the word address of an uncorrectable error. -/
inductive Ecc where
  | clean | dataUe (flit addr : Nat) | headerUe (addr : Nat)
  deriving DecidableEq, Repr

/-- What the code of the Stuffsack staging finds (R583): an error in the free bitmap, in a queue's state, in its
descriptor assembly, or in beat `k` of a packet, with the word address. -/
inductive StageErr where
  | clean | bitmap (addr : Nat) | queue (addr : Nat) | assembly (addr : Nat) | beat (k addr : Nat)
  deriving DecidableEq, Repr

/-- What a receive lane of a seam has had in the 32 framing bits that end with a frame (R378): the word, its first bit in
bit 31, and the skew of the lane in frames. -/
structure LaneRun where
  /-- physical lane -/
  lane : Nat
  /-- skew in frames -/
  skew : Nat
  /-- the 32 framing bits -/
  word : Nat
  deriving DecidableEq, Repr

/-- What a crossing does to a frame on its way (R374, R377, R378): the codeword bits that it inverts, and the runs of
framing bits that end with the frame; a lane in use that it does not name is aligned. -/
structure FrameErr where
  /-- codeword bits inverted, 0 to 1539 -/
  flips : List Nat
  /-- runs of framing bits -/
  runs : List LaneRun
  deriving DecidableEq, Repr

/-- A frame that arrives as sent. -/
def FrameErr.clean : FrameErr := ⟨[], []⟩

/-- A dwell of a margin scan (R385): the toggles of OSERR of a lane at a test point; a point that is not named has none. -/
structure ScanPoint where
  /-- physical lane -/
  lane : Nat
  /-- eye under test: 0 lower, 1 middle, 2 upper -/
  eye : Nat
  /-- phase offset in 1/64 UI -/
  dh : Int
  /-- voltage offset in mV -/
  dv : Int
  /-- toggles in the dwell -/
  toggles : Nat
  deriving DecidableEq, Repr

/-- The crossings between clock domains of R470: EAP ingress and egress of a tile, service port, spill port, the two
FIFOs of a crossing-side, Guyline station of a tile, Groundsheet cell of a tile, Lantern of a die, MAP to crossbar,
crossbar to Guyline master, debug attachment, OTP controller. -/
inductive Cdc where
  | eapIn (t : Nat) | eapOut (t : Nat) | sp (d : Nat) | sk (n : Nat) | seamTx (ss c : Nat) | seamRx (ss c : Nat)
  | station (t : Nat) | cell (t : Nat) | lantern (d : Nat) | mapXbar | xbarGuy | debug | otp
  deriving DecidableEq, Repr

/-- The power-domain handshakes of R638: PD_TL, PD_TS and PD_TS_RET of a tile, PD_QP of a quadrant, PD_FAM and PD_UQ of
a die. -/
inductive Pd where
  | tl (t : Nat) | ts (t : Nat) | ret (t : Nat) | qp (q : Nat) | fam (d : Nat) | uq (d : Nat)
  deriving DecidableEq, Repr

/-- A transfer that a crossbar master presents (R511): master 0 MAP, 1 Warden, 2 debug port, 3 Guyline master; byte address;
bytes of each access, 1, 2 or 4; words, 1 for a single access and 2 to 16 for a burst; write data, one number for each
word. -/
structure XOffer where
  /-- master -/
  master : Nat
  /-- a write -/
  write : Bool
  /-- byte address -/
  addr : Nat
  /-- bytes of each access -/
  size : Nat
  /-- words -/
  words : Nat
  /-- write data -/
  data : List Nat
  deriving DecidableEq, Repr

/-- The commands. Operands name the unit that the command concerns, the value that a write carries, and what only the
outside or a code that the spec does not lay out decides; packets, frames and messages under way are state. By name: `t`
tile, `d` die, `q` quadrant (or queue, for a spill port), `n` unit number (with `sp` true the service port `n`, else the
edge NI of tile `n`; a spill port or a Commons bank), `p` port, `vc` virtual channel, `ss` seam-side of R15, `c` crossing,
`m` mailbox (4 to 7 the slots of N4), `k` tag or counter, `tag` Guyline tag, `who` requester of an object write (R481: 0 to
3 mailboxes, 4 to 7 crossbar slots, 8 to 11 collector, 12 none), `v` value written, `sub` subindex, `sc` and `num` scope,
`tm` time, `clk` both clocks of the fenced crossing run (R471), `e`, `ea`, `eb`, `hck`, `ue`, `ce` what an error code
finds, `miss` and `fails` array bits that do not take. An operand that is a pair joins the unit with what a code or the outside
shows there in this command: `tileLinks` LCHK at the transmit adapters, `dieCheck` HCHK, `dieBad` words of the FAM copy with
an uncorrectable error, `errors` the hold queue and such words, `laneWords` words of a sideband lane, `crossingCycles` cycles
without an acknowledgement. -/
inductive Instr where
  /-- ROUTER_FLIT_RECEIVE (R58): A phit arrives at a router input; LCHK is checked, single-bit errors are corrected
  and the flits enter their input VCs. -/
  | routerFlitReceive (t p : Nat) (ea eb : Lchk)
  /-- CREDIT_RETURN (R57): A credit return for a VC arrives at a sender and frees one flit buffer from the next QCLK
  cycle onwards. -/
  | creditReturn (t snd : Nat)
  /-- SWITCH_ALLOCATION (R109): In a QCLK cycle each router output grants up to two waiting flits by the priority
  levels, and increments HOPS on each head it grants. -/
  | switchAllocation (tileLinks : Nat × List (Nat × Lchk))
  /-- HEAD_AGED (R111): A head flit that has lost allocation for AGE_LIMIT cycles with credit available becomes aged.
  -/
  | headAged (t p vc : Nat)
  /-- KNOCK_RECEIVED (R115): KNOCK rising on a tile input makes the Groundsheet wake the tile. -/
  | knockReceived (t p : Nat)
  /-- AWAKE_RISE (R97): A receiver's AWAKE rises at the sender, which drops KNOCK and loads its initial credits if
  they are owed. -/
  | awakeRise (t p : Nat)
  /-- OUTPUT_DEAD (R118): AWAKE has not risen KNOCK_LIMIT after KNOCK, so the output becomes DEAD and raises
  KNOCK_TIMEOUT. -/
  | outputDead (t p : Nat)
  /-- EAP_INGRESS_BEAT (R139): An ingress beat is presented on the EAP and is checked for parity, credit and E_AWAKE,
  then staged. -/
  | eapIngressBeat (t : Nat) (data : BitVec 640) (mc : Nat) (first last psn : Bool) (par : Nat)
  /-- INGRESS_PACKET_CHECK (R141): When the LAST beat has arrived, the edge NI checks the packet, looks it up,
  rewrites the header and queues it for injection. -/
  | ingressPacketCheck (t : Nat) (e : Ecc) (ue : Bool)
  /-- FAM_FETCH_RETURN (R208): A lens-miss fetch returns from the FAM copy; the entry is installed if no commit
  intervened, and the check completes. -/
  | famFetchReturn (t : Nat) (bad : List (Nat × Nat))
  /-- VIOLATION_QUEUE_ENTER (R213): A violating request that waited in staging enters the violation queue when an
  entry frees. -/
  | violationQueueEnter (sp : Bool) (n : Nat)
  /-- VIOLATION_ANSWER_RELEASE (R212): When VIOLATION_FLOOR has passed since the lookup time, a violation answer is
  placed at the front of its egress FIFO. -/
  | violationAnswerRelease (sp : Bool) (n : Nat)
  /-- HOLD_QUEUE_ENTER (R234): A request held in staging enters the hold queue in arrival order when space frees. -/
  | holdQueueEnter (sp : Bool) (n : Nat)
  /-- INJECTION_SELECT (R301): The injection scheduler selects one eligible packet by strict priority and the fair
  queue, and injects it into its router. -/
  | injectionSelect (sp : Bool) (n : Nat) (ue : Option Nat)
  /-- EGRESS_PACKET_ARRIVE (R297): A packet's last flit is written to egress storage; HCHK is checked and the packet
  joins its egress FIFO or is handled for a DOWN port. -/
  | egressPacketArrive (t : Nat) (hck : Lchk) (e : Ecc)
  /-- EGRESS_SELECT (R301): The egress scheduler selects one eligible packet and writes it to the EAP FIFO or the
  service-port up stream. -/
  | egressSelect (sp : Bool) (n : Nat) (ue : Option Nat)
  /-- RESPONSE_ARRIVE (R82): A response reaches its requester NI and is accepted against its tag, or is discarded as a
  stray response. -/
  | responseArrive (t : Nat)
  /-- EAP_CREDIT_RETURN (R148): A high bit of I_ECRED returns one egress credit of its class to the edge NI. -/
  | eapCreditReturn (t mask : Nat)
  /-- EAP_EPOCH_BEGIN (R149): E_READY is high and I_LINK is not DOWN, so an epoch begins and both sides return initial
  credits. -/
  | eapEpochBegin (t : Nat)
  /-- TAG_GRANT (R157): The edge NI grants one free tag to the port controller in an ECLK cycle. -/
  | tagGrant (t k : Nat)
  /-- TAG_GRANT_RESUME (R187): EDGE_REQ_TIMEOUT has elapsed since a tile, quadrant or die reset ended, so the edge NI
  begins granting tags. -/
  | tagGrantResume (t : Nat)
  /-- EDGE_CREDIT_LOW (R153): 4,096 ECLK cycles into an epoch the credits for a large class have never reached 52, so
  EDGE_CREDIT_LOW is raised. -/
  | edgeCreditLow (t : Nat)
  /-- TAG_EXPIRY (R164): An outstanding tag is found past its deadline; the NI synthesises its missing parts, or ends
  a FLUSH or a parked request. -/
  | tagExpiry (sp : Bool) (n k : Nat) (ue : Bool)
  /-- QUARANTINE_RELEASE (R172): A quarantined tag is freed at the first visit at or after its original deadline. -/
  | quarantineRelease (t k : Nat)
  /-- I_LINK_CHANGE (R168): The port controller changes I_LINK among DOWN, ACTIVE and RETRAIN. -/
  | iLinkChange (t code : Nat)
  /-- PORT_GONE_RECEIVE (R171): An edge NI receives PORT_GONE and completes its tags and FLUSHes towards the gone
  tile. -/
  | portGoneReceive (t : Nat)
  /-- EDGE_FENCE_WRITE (R174): A write of EDGE_FENCE sets or clears the tile's Groundsheet fence latch through the
  tile station. -/
  | edgeFenceWrite (who t v : Nat)
  /-- I_KNOCK (R181): The port controller raises I_KNOCK to wake a sleeping edge NI. -/
  | iKnock (t : Nat)
  /-- GRANULE_WRITE (R191): A write of GRANULE sets the granule and locks it, or is DENIED once it is locked. -/
  | granuleWrite (who v : Nat)
  /-- TABLE_ELEMENT_WRITE (R221): A write of a FAM, SHARE_GROUP or PBR_ROUTE element appends records to the stage and
  all four overlays. -/
  | tableElementWrite (who : Nat) (dbg : Bool) (table elem v : Nat)
  /-- FAM_COMMIT_WRITE (R227): A write of T to FAM_COMMIT arms the commit and sends LENS_INV to every NI. -/
  | famCommitWrite (who tm : Nat)
  /-- LENS_INV_RECEIVE (R228): An NI receives LENS_INV, loads T into its lens comparator and answers with a LENS_ACK
  DRAIN_DONE. -/
  | lensInvReceive (t : Nat)
  /-- LENS_ACK_RECEIVE (R228): The die's FAM control counts a LENS_ACK; once all are in and every die has loaded T,
  the mailbox operation ends OK. -/
  | lensAckReceive (dieCheck : Nat × Lchk)
  /-- COMMIT_JUDGE (R229): At T minus 5 µs, the block abandons the commit or fences every NI that has not
  acknowledged. -/
  | commitJudge
  /-- COMMIT_TAKE_EFFECT (R230): At Lantern time T the overlay records take effect, the lenses clear, parked requests
  are looked up again and the state returns to IDLE. -/
  | commitTakeEffect (u : Nat) (errors : Ecc × List (Nat × Nat × Nat))
  /-- OVERLAY_DRAIN_DONE (R230): The committed overlay finishes draining into the FAM banks, and lookups stop
  consulting it. -/
  | overlayDrainDone (d : Nat)
  /-- STAGE_CLEAR_WRITE (R233): A write of STAGE_CLEAR empties the stage and overlays unless a commit is armed. -/
  | stageClearWrite (who v : Nat)
  /-- DRAIN_WRITE (R239): A write of a tile to DRAIN starts a drain and sends DRAIN_MARK to every NI. -/
  | drainWrite (who d : Nat)
  /-- DRAIN_MARK_RECEIVE (R240): An NI marks its tags outstanding towards the drained tile, and reports at once when
  there are none. -/
  | drainMarkReceive (t : Nat)
  /-- DRAIN_REPORT (R240): An NI whose marked tags have all been freed or quarantined sends DRAIN_DONE. -/
  | drainReport (sp : Bool) (n : Nat)
  /-- DRAIN_DONE_RECEIVE (R241): The FAM control counts a drain report, and when all 260 NIs have reported DRAIN_STATE
  becomes DONE. -/
  | drainDoneReceive (dieCheck : Nat × Lchk)
  /-- VIOL_CLEAR_WRITE (R215): A write of VIOL_CLEAR clears the violation record. -/
  | violClearWrite (who : Nat) (sc : Scope) (num v : Nat)
  /-- SP_DOWN_WORD (R259): A down word arrives on the service port and is parity-checked into the down buffer. -/
  | spDownWord (d : Nat) (head : Bool) (w par : Nat)
  /-- SP_LD (R272): The service-port NI takes an LD message and answers it by forwarding or sends it as AG_RD subject
  to the ordering rules. -/
  | spLd (dieBad : Nat × List (Nat × Nat))
  /-- SP_ST (R275): The service-port NI takes an ST message; a NORMAL store enters or merges into the posted-write
  buffer and is acknowledged, and a DEVICE store waits. -/
  | spSt (dieBad : Nat × List (Nat × Nat))
  /-- SP_XLD (R266): The service-port NI takes an XLD message and sends it as AG_XLD, or as AG_RD towards an edge
  target. -/
  | spXld (dieBad : Nat × List (Nat × Nat))
  /-- SP_XST (R287): The service-port NI takes an XST message, drains the buffer and sends AG_XST, or fails it towards
  an edge target. -/
  | spXst (dieBad : Nat × List (Nat × Nat))
  /-- SP_LB (R281): The service-port NI takes a load barrier and holds later accesses of its identifier. -/
  | spLb (d : Nat)
  /-- SP_SB (R281): The service-port NI takes a store barrier, drains the identifier's entries and holds later stores.
  -/
  | spSb (d : Nat)
  /-- SP_FB (R281): The service-port NI takes a full barrier, drains the identifier's entries and holds every later
  access. -/
  | spFb (d : Nat)
  /-- SP_RESERVED_OP (R261): A request message with a reserved OP is refused with RESULT ERROR. -/
  | spReservedOp (d : Nat)
  /-- SP_ACCESS_SEND (R271): An access whose ordering conditions have come to hold is sent into the fabric as an AG
  packet. -/
  | spAccessSend (dieBad : Nat × List (Nat × Nat))
  /-- PWB_MERGE_HOLD_EXPIRY (R277): A WAITING entry becomes eligible after SP_MERGE_HOLD cycles and is sent as one
  AG_WR. -/
  | pwbMergeHoldExpiry (dieBad : Nat × List (Nat × Nat))
  /-- SP_RESPONSE_ARRIVE (R270): An AG response reaches the service-port NI and completes its access or buffered
  store. -/
  | spResponseArrive (d : Nat) (hck : Lchk)
  /-- SP_BARRIER_ACK (R281): A barrier's condition comes to hold and it is acknowledged. -/
  | spBarrierAck (d : Nat)
  /-- SP_RESPONSE_SEND (R263): The NI presents a response message on the up stream once it holds credits for every
  word. -/
  | spResponseSend (d : Nat)
  /-- SP_UP_CREDIT (R259): SPd_UP_CRED returns one up-word credit to the block. -/
  | spUpCredit (d : Nat)
  /-- SP_EXC_REQ_RISE (R289): SPd_EXC_REQ is sampled high, so the NI raises SPd_DN_HOLD and makes every buffered entry
  eligible. -/
  | spExcReqRise (d : Nat)
  /-- SP_EXC_ACK (R289): Every store buffered at the request has completed, so SPd_EXC_ACK rises. -/
  | spExcAck (d : Nat)
  /-- SP_EXC_REQ_FALL (R289): SPd_EXC_REQ falls; SPd_EXC_ACK and SPd_DN_HOLD fall and message taking resumes. -/
  | spExcReqFall (d : Nat)
  /-- SP_RESET (R290): SPd_RST_N low resets the service-port NI, discarding buffered stores into STORES_LOST. -/
  | spReset (d : Nat)
  /-- SP_REQUEST_RESUME (R291): SP_REQ_TIMEOUT has elapsed since a non-instance reset ended, so SPd_READY rises and
  down credits return. -/
  | spRequestResume (d : Nat)
  /-- SP_POWER_DOWN_REQUEST (R292): A request to take the service-port tile below T1 holds the down stream and drains
  the buffer. -/
  | spPowerDownRequest (d : Nat)
  /-- CMN_READ (R283): A Commons bank performs a read request and queues its data answer. -/
  | cmnRead (n ce : Nat) (ue : Option Nat)
  /-- CMN_WRITE (R283): A Commons bank performs a write request, clears reservations on the granule and queues its
  completion. -/
  | cmnWrite (n ce : Nat) (ue : Option Nat)
  /-- CMN_XLD (R286): A Commons bank performs an AG_XLD and sets its identifier's reservation. -/
  | cmnXld (n ce : Nat) (ue : Option Nat)
  /-- CMN_XST (R287): A Commons bank performs an AG_XST that succeeds or fails against its reservation. -/
  | cmnXst (n ce : Nat) (ue : Option Nat)
  /-- CMN_UNSUPPORTED (R283): A Commons bank answers an unsupported request with UNSUPPORTED parts, or discards an
  MC2–MC7 packet, and raises CMN_MALFORMED. -/
  | cmnUnsupported (n : Nat)
  /-- CMN_RESV_GRAN_WRITE (R288): A write of CMN_RESV_GRAN changes the reservation granule and clears every
  reservation. -/
  | cmnResvGranWrite (who n v : Nat)
  /-- CMN_RESV_CLEAR_WRITE (R288): A write of CMN_RESV_CLEAR clears every reservation of the bank. -/
  | cmnResvClearWrite (who n v : Nat)
  /-- SCHED_WEIGHT_WRITE (R309): A write of SCHED_WEIGHT recomputes the reciprocal from the next selection and keeps
  the tag. -/
  | schedWeightWrite (who : Nat) (sp : Bool) (n sub v : Nat)
  /-- SHAPER_RATE_WRITE (R313): A write of SHAPER_RATE brings the bucket up to date at the old rate and applies the
  new one. -/
  | shaperRateWrite (who : Nat) (sp : Bool) (n sub v : Nat)
  /-- SHAPER_BURST_WRITE (R314): A write of SHAPER_BURST brings the bucket up to date and caps its count at the new
  depth. -/
  | shaperBurstWrite (who : Nat) (sp : Bool) (n sub v : Nat)
  /-- SHAPER_CLEAR_WRITE (R315): A write of SHAPER_CLEAR sets the token count to zero. -/
  | shaperClearWrite (who : Nat) (sp : Bool) (n sub v : Nat)
  /-- POLICE_CIR_WRITE (R320): A write of POLICE_CIR brings the policer up to date and applies the new rate. -/
  | policeCirWrite (who t v : Nat)
  /-- POLICE_CBS_WRITE (R320): A write of POLICE_CBS lowers the policer count to the new CBS. -/
  | policeCbsWrite (who t v : Nat)
  /-- GATE_APPLY_WRITE (R323): A write of GATE_APPLY captures the gate list and sets its base, or is DENIED. -/
  | gateApplyWrite (who : Nat) (sp : Bool) (n sub v : Nat)
  /-- GATE_SCHEDULE_START (R324): At its base, a pending schedule replaces the running one. -/
  | gateScheduleStart (sp : Bool) (n sub : Nat)
  /-- GATE_BOUNDARY (R324): A gate entry boundary takes effect, opening or closing the class's window. -/
  | gateBoundary (sp : Bool) (n sub : Nat)
  /-- GATE_EN_WRITE (R329): A write of GATE_EN enables or disables a gate, and is DENIED when no schedule has been
  applied. -/
  | gateEnWrite (who : Nat) (sp : Bool) (n sub v : Nat)
  /-- HIST_SAMPLE (R330): Every HIST_PERIOD cycles each scheduler samples the depth and head-of-line delay of each SC
  queue. -/
  | histSample (sp : Bool) (n : Nat)
  /-- STALL_CONDITION_RISE (R345): The stall condition of an edge port rises and every resident SC5 packet is dropped.
  -/
  | stallConditionRise (t : Nat)
  /-- SPILL_START (R342): A spill queue enters SPILLING when its conditions hold and sends an ASK. -/
  | spillStart (t i : Nat)
  /-- SPILL_END (R344): A spill queue with nothing outbound, spilled or pulled returns to RESIDENT. -/
  | spillEnd (t i : Nat)
  /-- SPILL_ASK (R351): A spill port receives an ASK and answers it with a GRANT of space, or GRANT 0. -/
  | spillAsk (n : Nat)
  /-- SPILL_GRANT (R348): An edge NI receives a GRANT; a grant of zero puts the queue in BLOCKED. -/
  | spillGrant (t : Nat)
  /-- SPILL_REASK (R348): 1 µs after a GRANT of zero, the NI asks again. -/
  | spillReask (t i : Nat)
  /-- SPILL_SEND (R348): The NI sends an outbound packet as a SPILL envelope once its unused grant covers it. -/
  | spillSend (t i : Nat)
  /-- SPILL_RECEIVE (R355): A spill port receives a SPILL and writes the packet and its descriptor into its chunk. -/
  | spillReceive (n : Nat) (e : StageErr)
  /-- SPILL_PULL_SEND (R348): The NI sends a PULL and reserves egress storage when the queue falls below PULL_WATER
  minus 53. -/
  | spillPullSend (t i : Nat)
  /-- SPILL_PULL (R348): A spill port answers a PULL with RETURN packets in SEQ order, or with NONE. -/
  | spillPull (n : Nat)
  /-- SPILL_RETURN (R350): An edge NI receives a RETURN, checks its SEQ and HCHK and makes the packet resident. -/
  | spillReturn (t : Nat) (hck : Lchk)
  /-- SPILL_NONE (R348): An edge NI receives NONE in answer to a PULL. -/
  | spillNone (t : Nat)
  /-- SPILL_ABANDON_RECEIVE (R362): An ABANDON is received and the receiver discards the spill state of the named
  queues. -/
  | spillAbandonReceive (sk : Bool) (n : Nat)
  /-- SPILL_TIMEOUT (R362): An ASK or PULL has no answer within SPILL_TIMEOUT, so the queue is abandoned. -/
  | spillTimeout (t i : Nat)
  /-- SK_COMMAND (R358): A spill port presents a read or write command head, and the beats of a write, on its out
  stream. -/
  | skCommand (n : Nat)
  /-- SK_OUT_CREDIT (R358): SKn_OCRED returns one out-word credit to the spill port. -/
  | skOutCredit (n : Nat)
  /-- SK_READ_BEAT (R358): The DRAM controller presents a read beat, or the last read beat, which is checked and
  staged. -/
  | skReadBeat (n q data par : Nat) (err : Bool) (ue : Option Nat)
  /-- SK_WRITE_DONE (R358): The DRAM controller answers a write with write done. -/
  | skWriteDone (n q : Nat)
  /-- SK_WRITE_FAILED (R361): The DRAM controller answers a write with write failed, and the queue of its QID is
  abandoned. -/
  | skWriteFailed (n q : Nat)
  /-- SK_RSP_TIMEOUT (R361): A command unanswered for SK_RSP_TIMEOUT makes the spill port FAILED. -/
  | skRspTimeout (n : Nat)
  /-- SK_MEMREADY_CHANGE (R361): SKn_MEMREADY changes; a fall while RUN makes the port FAILED. -/
  | skMemreadyChange (n : Nat) (level : Bool)
  /-- SK_RECOVER_WRITE (R363): A write of SK_RECOVER starts clearing the free bitmap of a FAILED port. -/
  | skRecoverWrite (who n v : Nat)
  /-- SK_RECOVER_DONE (R363): After 65,536 QCLK cycles the bitmap is clear and the port returns to RUN. -/
  | skRecoverDone (n : Nat)
  /-- SK_ENABLE_WRITE (R367): A write of SK_ENABLE starts the port, or stops it and abandons every queue. -/
  | skEnableWrite (who n v : Nat)
  /-- SEAM_FRAME_RECEIVE (R377): A receive adapter decodes a frame, delivers its slots and credits, and handles
  ACKSEQ, NAK, AWAKE and CMD. -/
  | seamFrameReceive (ss c : Nat) (e : FrameErr)
  /-- SEAM_TRAINING_PHASE_END (R380): A training phase ends; lanes are excluded and the next phase starts, or training
  ends or fails. -/
  | seamTrainingPhaseEnd (ss c : Nat) (pll : Bool) (los lol bad eqs : Nat)
  /-- SEAM_MARGIN_SCAN (R385): Each SEAM_SCAN_PERIOD the receive side scans each in-use lane's margin. -/
  | seamMarginScan (ss c : Nat) (tog : List ScanPoint)
  /-- SEAM_LANE_LOSS (R386): RXLOS or RXLOL rises on an in-use lane, raising SEAM_LOS or SEAM_LOL and requesting
  repair or a retrain. -/
  | seamLaneLoss (ss c los lol : Nat)
  /-- SEAM_REPAIR_REQ (R388): The transmit side receives REPAIR_REQ and starts training the lowest spare. -/
  | seamRepairReq (ss c : Nat)
  /-- SEAM_SPARE_TRAINED (R388): The receive side has trained the spare and sends REPAIR_READY. -/
  | seamSpareTrained (ss c : Nat) (ok : Bool)
  /-- SEAM_REPAIR_READY (R388): The transmit side receives REPAIR_READY and sends REPAIR_AT. -/
  | seamRepairReady (ss c : Nat)
  /-- SEAM_REPAIR_AT (R388): REPAIR_AT arrives and both sides apply the new lane map from the next frame. -/
  | seamRepairAt (ss c : Nat)
  /-- SEAM_RETRAIN_CMD (R387): A RETRAIN command arrives and its direction starts the training it names. -/
  | seamRetrainCmd (ss c : Nat)
  /-- SEAM_REPAIR_LANE_WRITE (R386): A write of SEAM_REPAIR_LANE requests repair of an in-use lane. -/
  | seamRepairLaneWrite (who ss c v : Nat)
  /-- SEAM_RETRAIN_WRITE (R394): A write of SEAM_RETRAIN starts short or full training of both directions of a
  crossing. -/
  | seamRetrainWrite (who ss c v : Nat)
  /-- SEAM_PLL_LOSS (R395): TXPLL_LOCK falls in service, raising SEAM_PLL and taking all eight crossings of the side
  DOWN. -/
  | seamPllLoss (ss : Nat)
  /-- SEAM_SLEEP_REQUEST (R396): After SEAM_SLEEP_IDLE of idleness the receive side lowers AWAKE and sends SLEEP. -/
  | seamSleepRequest (ss c : Nat)
  /-- SEAM_SLEEP_RECEIVE (R396): The transmit side receives SLEEP and answers SLEPT or KNOCK. -/
  | seamSleepReceive (ss : Nat)
  /-- SEAM_SLEPT_RECEIVE (R396): The receive side receives SLEPT, sets its lanes IDLE and the direction is in SLEEP.
  -/
  | seamSleptReceive (ss : Nat)
  /-- SEAM_DEEP_ENTRY (R398): A direction in SLEEP for SEAM_DEEP_IDLE enters DEEP with every lane OFF. -/
  | seamDeepEntry (ss c : Nat)
  /-- SEAM_KNOCK (R399): KNOCK on a seam port sets the transmit lanes ON and sends KNOCK on the sideband. -/
  | seamKnock (ss c : Nat)
  /-- SEAM_KNOCK_RECEIVE (R399): The receive side receives KNOCK and wakes from SLEEP or DEEP. -/
  | seamKnockReceive (ss : Nat)
  /-- SEAM_AWAKE_MESSAGE (R399): An AWAKE message arrives on the sideband and sets the level of AWAKE. -/
  | seamAwakeMessage (ss : Nat)
  /-- SEAM_STATE_MESSAGE (R392): A STATE message arrives, updating the peer's direction states and the crossing's
  route state. -/
  | seamStateMessage (ss : Nat)
  /-- SEAM_STATE_SEND (R402): A side sends STATE on a direction-state change, or after 1 ms without one. -/
  | seamStateSend (ss c : Nat)
  /-- SIDEBAND_LOCK_LOSS (R403): A sideband lane loses lock for 1 µs, moving traffic to the other lane or raising
  SEAM_SB_LOSS. -/
  | sidebandLockLoss (ss lane : Nat)
  /-- SIDEBAND_LOCK_REGAIN (R403): A sideband lane regains lock and resumes its duties. -/
  | sidebandLockRegain (ss : Nat) (laneWords : Nat × List Nat)
  /-- RST_ENTER_RECEIVE (R404): A side receives RST_ENTER, takes the crossing DOWN, raises SEAM_PEER_RESET and answers
  RST_SEEN. -/
  | rstEnterReceive (ss : Nat)
  /-- RST_SEEN_RECEIVE (R405): The reset side's Groundsheet receives RST_SEEN and answers RST_ACK. -/
  | rstSeenReceive (ss : Nat)
  /-- RST_ACK_RECEIVE (R404): The other side receives RST_ACK and reverts the crossing's sequence, replay and credit
  state. -/
  | rstAckReceive (ss : Nat)
  /-- LANTERN_SPINE_CHECK (R411): Every 65,536 LCLK cycles the Lantern sends its value on the check line, and
  mismatching tiles reload it. -/
  | lanternSpineCheck (d : Nat) (l : List (Nat × Int))
  /-- LANTERN_EXCHANGE (R415): Every 16 µs a follower sends TIME_REQ to its upstream. -/
  | lanternExchange (d : Nat)
  /-- TIME_REQ_RECEIVE (R415): An upstream receives TIME_REQ and answers TIME_RSP with t2 and t3. -/
  | timeReqReceive (ss turn : Nat)
  /-- TIME_RSP_RECEIVE (R417): A follower receives TIME_RSP, computes its offset and delay, and steps or adjusts INC
  by its state. -/
  | timeRspReceive (ss : Nat)
  /-- PPS_IN_EDGE (R421): A counted PPS_IN rising edge runs the lead Lantern's servo. -/
  | ppsInEdge (d : Nat)
  /-- PPS_TIMEOUT (R422): No PPS_IN edge within LANTERN_PPS_TIMEOUT puts the lead Lantern in HOLDOVER. -/
  | ppsTimeout
  /-- LREFCLK_LOSS (R423): LREFCLK is lost, so the Lantern PLL holds and the Lantern enters HOLDOVER. -/
  | lrefclkLoss (d : Nat)
  /-- LREFCLK_RETURN (R423): LREFCLK returns and the PLL relocks, moving the Lantern to ACQUIRE. -/
  | lrefclkReturn (d : Nat)
  /-- TIME_SAMPLE (R425): A time sample arrives on TSg and its offset is used or forwarded to D0 in UP_OFFSET. -/
  | timeSample (g w : Nat)
  /-- TIME_CMD_RECEIVE (R425): A TIME_CMD of kind UP_OFFSET or STEP arrives and is forwarded or applied. -/
  | timeCmdReceive (ss : Nat)
  /-- UP_TIMEOUT (R426): No good sample within LANTERN_UP_TIMEOUT puts the lead Lantern in HOLDOVER. -/
  | upTimeout
  /-- LANTERN_STEP_WRITE (R427): A write of LANTERN_STEP requests a step of the instance at apply time A. -/
  | lanternStepWrite (who v : Nat)
  /-- LANTERN_SET_WRITE (R427): A write of LANTERN_SET requests the step that makes fabric time equal the value at A.
  -/
  | lanternSetWrite (who v : Nat)
  /-- STEP_APPLY (R427): At die time A the step is applied on every tile of the die through the step strobe. -/
  | stepApply (d : Nat)
  /-- PPS_OUT_EDGE (R432): PPS_OUT rises where fabric time less the offset is a whole second. -/
  | ppsOutEdge (d : Nat)
  /-- PPS_OUT_FALL (R432): PPS_OUT falls after LANTERN_PPS_OUT_WIDTH. -/
  | ppsOutFall (d : Nat)
  /-- TIME_FRAME (R435): A 128-bit time frame begins on the time bus of a port group. -/
  | timeFrame (g : Nat)
  /-- LANTERN_SOURCE_WRITE (R442): A write of LANTERN_SOURCE returns the lead Lantern to ACQUIRE or FREE and clears
  its integral term. -/
  | lanternSourceWrite (who v : Nat)
  /-- QCLK_FREQ_WRITE (R446): A write of QCLK_FREQ sets the frequency for the next relock, or is DENIED unless every
  PLL is Parked. -/
  | qclkFreqWrite (who v : Nat)
  /-- TILE_DOZE_ENTRY (R451): TILE_DOZE_IDLE expires with the sleep conditions holding, and the tile enters T1. -/
  | tileDozeEntry (t : Nat)
  /-- TILE_NAP_ENTRY (R453): TILE_NAP_IDLE expires with the conditions holding, and the tile enters T2. -/
  | tileNapEntry (t : Nat)
  /-- TILE_OFF_ENTRY (R451): TILE_OFF_IDLE expires, or a T3 request is granted, and the tile enters T3. -/
  | tileOffEntry (t : Nat)
  /-- TILE_WAKE (R453): A knock or wake request starts a tile's exit from T1, T2 or T3, or aborts an entry. -/
  | tileWake (t : Nat)
  /-- TILE_WAKE_DONE (R453): The wake sequence completes, the clock gate opens and AWAKE rises. -/
  | tileWakeDone (t : Nat)
  /-- PD_ACK_CHANGE (R639): A power-domain ACK follows its REQ, letting the waiting power sequence proceed. -/
  | pdAckChange (k : Pd)
  /-- PC_T3_REQ (R641): The power controller asks for a tile in T3, and the Groundsheet grants it when the conditions
  hold. -/
  | pcT3Req (t : Nat) (level : Bool)
  /-- PC_UQ_REQ (R642): The power controller asks for the UNIQUE domain off, or releases that request. -/
  | pcUqReq (level : Bool)
  /-- TILE_HOLD_WRITE (R457): A write of TILE_HOLD wakes the tile and keeps it in T0, or releases it. -/
  | tileHoldWrite (who t v : Nat)
  /-- TILE_DEEPEST_WRITE (R463): A write of TILE_DEEPEST wakes a tile that is deeper than its new limit. -/
  | tileDeepestWrite (who t v : Nat)
  /-- FABRIC_MODE_WRITE (R462): A write of FABRIC_MODE loads the routing, seam and power objects in every unit and
  relocks quadrants as needed. -/
  | fabricModeWrite (who v : Nat)
  /-- QPLL_PARK (R459): A quadrant whose tiles have slept for QPLL_PARK_IDLE parks its PLL. -/
  | qpllPark (q : Nat)
  /-- QPLL_RELOCK_DONE (R461): The 8 µs relock completes, the PLL is Running and waiting wakes proceed. -/
  | qpllRelockDone (q : Nat)
  /-- QPLL_HOLD_WRITE (R459): A write of QPLL_HOLD keeps the PLL Running, and relocks it when it is Parked. -/
  | qpllHoldWrite (who q v : Nat)
  /-- CDC_IDLE_EVENT (R469): A crossing that has carried nothing for 256 sending cycles sends an idle event. -/
  | cdcIdleEvent (x : Cdc) (acked : Bool)
  /-- CDC_TIMEOUT (R470): A crossing handshake is not acknowledged within CDC_TIMEOUT, so the crossing is fenced with
  its owner's effect. -/
  | cdcTimeout (crossingCycles : Cdc × Nat)
  /-- CDC_RELEASE_DONE (R471): After a clear, the crossing's two release handshakes complete and the fence lifts. -/
  | cdcReleaseDone (x : Cdc)
  /-- PEER_RESET_RECEIVE (R473): The other side of an internal crossing sees PEER_RESET, abandons transfers and
  answers RESET_SEEN. -/
  | peerResetReceive (x : Cdc)
  /-- RESET_ACK_RECEIVE (R473): RESET_ACK reverts the crossing's multi-bit values to their reset values. -/
  | resetAckReceive (x : Cdc)
  /-- GUY_FRAME_CLAIM (R482): A station claims a READ or WRITE frame, performs the access and sends a RESP onward. -/
  | guyFrameClaim (tag : Nat) (ue clk : Bool)
  /-- GUY_BCAST (R483): A station that holds a broadcast object applies the write and increments COUNT. -/
  | guyBcast (tag d : Nat) (clk : Bool)
  /-- GUY_RESP_RETURN (R485): A frame returns to the Guyline master, which checks it and ends, resends or turns the
  operation. -/
  | guyRespReturn (tag : Nat) (ok : Bool)
  /-- GUY_TIMEOUT (R485): A frame has not returned within GUY_TIMEOUT, so it is resent once or the operation times
  out. -/
  | guyTimeout (tag : Nat)
  /-- GUY_BREAK (R486): A seam hop loses both sideband lanes and the die station before it begins turning frames back.
  -/
  | guyBreak (ss : Nat)
  /-- STATION_BYPASS_CHANGE (R484): A tile station's by-pass closes or opens between frames, with die-station values
  written on opening. -/
  | stationBypassChange (t : Nat)
  /-- MAP_BUS_WRITE (R488): A control-bus write of a MAP register with no row of its own, judged for width, alignment
  and mapping. -/
  | mapBusWrite (off size : Nat) (half : Bool) (v : Nat) (clk : Bool)
  /-- MAP_KEY_WRITE (R490): A write of MAP_KEY opens the lock with the key value, or closes it and raises KEY_BAD. -/
  | mapKeyWrite (v : Nat)
  /-- MAP_CRC_REF_WRITE (R507): A guarded write of MAP_CRC_REF sets the reference and REF_VALID. -/
  | mapCrcRefWrite (v : Nat)
  /-- MAP_CRC_RESTART (R506): A write of MAP_CRC_CTL[RESTART] discards every pass in progress and starts new ones. -/
  | mapCrcRestart (v : Nat)
  /-- MAP_RESET_TILE (R493): A guarded MAP_RESET write with SCOPE TILE starts a tile reset. -/
  | mapResetTile (num : Nat) (cold : Bool)
  /-- MAP_RESET_QUADRANT (R493): A guarded MAP_RESET write with SCOPE QUADRANT starts a quadrant reset. -/
  | mapResetQuadrant (num : Nat) (cold : Bool)
  /-- MAP_RESET_DIE (R493): A guarded MAP_RESET write with SCOPE DIE starts a die reset. -/
  | mapResetDie (num : Nat) (cold : Bool)
  /-- MAP_RESET_INSTANCE (R493): A guarded MAP_RESET write with SCOPE INSTANCE starts an instance reset, replacing any
  in progress. -/
  | mapResetInstance (num : Nat) (cold : Bool)
  /-- MAP_FLT_FIRST_CLEAR (R575): A W1C write of MAP_FLT_FIRST frees the MAP family's first-source latch or clears
  OVF. -/
  | mapFltFirstClear (v : Nat)
  /-- MAP_FLT_PEND_CLEAR (R574): A W1C write of MAP_FLT_PEND clears pending MAP sources subject to their kind. -/
  | mapFltPendClear (v : Nat) (clk : Bool)
  /-- MAP_FLT_FORCE (R573): A write of MAP_FLT_FORCE raises MAP sources as though their causes occurred. -/
  | mapFltForce (v : Nat)
  /-- MBX_READ (R496): A write of MBX_CMD with OP READ and GO starts a mailbox read. -/
  | mbxRead (m cmd : Nat)
  /-- MBX_WRITE (R496): A write of MBX_CMD with OP WRITE and GO starts a mailbox write. -/
  | mbxWrite (m cmd : Nat)
  /-- MBX_WRITE_SEG (R499): A write of MBX_CMD with OP WRITE_SEG collects one segment of a larger object. -/
  | mbxWriteSeg (m cmd : Nat)
  /-- MBX_INVALID_OP (R496): A write of MBX_CMD with OP 0 or 4–7 and GO ends the operation with DENIED. -/
  | mbxInvalidOp (m cmd : Nat)
  /-- MBX_COMPLETE (R496): A server's answer arrives; BUSY clears and CODE, and for a read the data, are written in
  one cycle. -/
  | mbxComplete (m : Nat)
  /-- MBX_TIMEOUT (R502): An operation still BUSY after MBX_TIMEOUT ends with TIMEOUT. -/
  | mbxTimeout (m : Nat)
  /-- SCRUB_PASS_COMPLETE (R506): A die's scrubber completes a pass of its image, sets DONE and compares it with REF.
  -/
  | scrubPassComplete (d : Nat) (ue : List (Nat × Nat × Nat)) (bad : Option (Nat × Nat))
  /-- WARDEN_WDOG (R509): The Warden watchdog period passes without a clear, and the Warden restarts. -/
  | wardenWdog (addr : Nat)
  /-- WARDEN_REMAP_WRITE (R510): A write of WARDEN_REMAP places Warden SRAM at zero and restarts the Warden, or locks
  at 0. -/
  | wardenRemapWrite (who v : Nat)
  /-- XBAR_TRANSFER (R511): A crossbar master's single access or burst is granted, decoded and answered by its target.
  -/
  | xbarTransfer (n : Nat) (offers : List XOffer) (ans : Bool) (ue : Option (List Nat)) (miss : Nat)
  /-- XBAR_TIMEOUT (R513): A target has not answered in time, so the crossbar answers ERROR and raises XBAR_TIMEOUT.
  -/
  | xbarTimeout (n : Nat)
  /-- TICKET_SUBMIT (R550): The last segment of TICKET_SUBMIT completes, and the ticket enters VERIFYING. -/
  | ticketSubmit (who v : Nat)
  /-- TICKET_VERIFY_DONE (R547): Verification of a ticket ends, rejecting it at the first failing check or applying
  it. -/
  | ticketVerifyDone
  /-- DEBUG_TICKET_EXPIRY (R552): An active debug ticket reaches its end time in run time, and DEBUG_TICKET becomes
  NONE. -/
  | debugTicketExpiry
  /-- SEAL_BURN_WRITE (R540): A guarded write of SEAL_BURN starts programming every seal-field bit, or is DENIED. -/
  | sealBurnWrite (who v : Nat)
  /-- SEAL_BURN_DONE (R540): Seal programming and read-back finish and SEAL_STATE is decided. -/
  | sealBurnDone (miss : Nat)
  /-- OTP_PROGRAM_WRITE (R562): A guarded write of OTP_PROGRAM starts programming a new Boot Parameter Record, or is
  DENIED. -/
  | otpProgramWrite (who record : Nat)
  /-- OTP_PROGRAM_DONE (R562): Record programming and read-back finish, ending OK or marking the slot spent. -/
  | otpProgramDone (fails : List (Nat × Nat))
  /-- OTP_CMD_PROGRAM (R565): A Warden write of OTP_CMD[PROGRAM] ORs OTP_WDATA into an array word, or is refused. -/
  | otpCmdProgram (miss : Nat)
  /-- VE_HASH_START (R566): A write of VE_CMD with HASH_START begins a SHA-384 hash. -/
  | veHashStart
  /-- VE_HASH_FINISH (R566): A write of VE_CMD with HASH_FINISH completes the digest over VE_LEN bytes. -/
  | veHashFinish
  /-- VE_VERIFY (R566): A write of VE_CMD with VERIFY checks an ECDSA P-384 signature. -/
  | veVerify
  /-- VE_NONCE_DRAW (R542): A write of VE_CMD with NONCE_DRAW draws the instance nonce under the entropy health tests.
  -/
  | veNonceDraw
  /-- VE_DATA_WRITE (R566): A write of VE_DATA feeds four message bytes to the running hash. -/
  | veDataWrite (w : Nat)
  /-- VE_OP_COMPLETE (R566): A verify-engine operation completes and BUSY falls with its result. -/
  | veOpComplete (samples : List Nat) (fail : Option Nat)
  /-- BOOT_DEFAULT_MODE (R647): 1 ms after an instance reset without a FABRIC_MODE write, the boot ROM writes
  DEFAULT_MODE and closes the boot window. -/
  | bootDefaultMode
  /-- FAULT_FIRST_CLEAR (R575): A write of 0 to FIRST frees the first-source latch. -/
  | faultFirstClear (who : Nat) (sc : Scope) (num : Nat) (lantern : Bool) (v : Nat)
  /-- FAULT_PEND_CLEAR (R574): A write of ones to PEND clears events and conditions whose cause has ended. -/
  | faultPendClear (who : Nat) (sc : Scope) (num : Nat) (lantern : Bool) (ones : Nat) (clk : Bool)
  /-- FAULT_OVF_CLEAR (R535): A write of 0 to OVF clears it. -/
  | faultOvfClear (who : Nat) (sc : Scope) (num : Nat) (lantern : Bool) (v : Nat)
  /-- FAULT_FORCE (R573): A write of FORCE raises the selected sources with zero INFO. -/
  | faultForce (who : Nat) (sc : Scope) (num : Nat) (lantern : Bool) (v : Nat)
  /-- RST_COLD_ASSERT (R585): RST_COLD_N goes low and asserts a cold instance reset. -/
  | rstColdAssert
  /-- RST_COLD_RELEASE (R615): RST_COLD_N is released; straps are sampled and domains switch on in order. -/
  | rstColdRelease (straps : List Nat)
  /-- RST_WARM_ASSERT (R585): RST_WARM_N goes low and asserts a warm instance reset. -/
  | rstWarmAssert
  /-- RST_WARM_RELEASE (R585): RST_WARM_N is released synchronously to AOCLK. -/
  | rstWarmRelease
  /-- RESET_END (R586): A reset's duration ends, its units leave reset and retention objects are reloaded from the
  shadow. -/
  | resetEnd (sc : Scope) (num : Nat)
  /-- VDD_AO_LOSS (R644): A die loses VDD_AO and the surviving dies treat it as a peer in reset. -/
  | vddAoLoss (d : Nat)
  /-- CNT_EVENT_WRITE (R594): A write of CNT_EVENT selects a counter's event from the next cycle, or is DENIED. -/
  | cntEventWrite (who t k v : Nat)
  /-- CNT_VALUE_WRITE (R595): A write of CNT_VALUE sets a counter before that cycle's increment. -/
  | cntValueWrite (who t k v : Nat)
  /-- SNAPSHOT_AT_WRITE (R599): A write of SNAPSHOT_AT arms a snapshot in every tile station. -/
  | snapshotAtWrite (who tm : Nat)
  /-- SNAPSHOT_TAKE (R600): At T each tile copies CYC and its counters into the shadows. -/
  | snapshotTake
  /-- SNAPSHOT_TAKEN (R602): At T plus 1 µs SNAPSHOT_STATE becomes TAKEN and SNAPSHOT_TIME takes T. -/
  | snapshotTaken
  /-- COLLECT_START (R603): At a multiple of COLLECT_PERIOD the Counter Collector arms a snapshot and then reads every
  tile's shadows. -/
  | collectStart
  /-- COLLECT_COMPLETE (R605): Every tile's entry has been written into Warden SRAM and COLLECT_DONE takes the
  snapshot time. -/
  | collectComplete
  /-- COLLECT_PERIOD_WRITE (R603): A write of COLLECT_PERIOD starts or stops the collector, or is DENIED while a
  snapshot is armed. -/
  | collectPeriodWrite (who v : Nat)
  /-- TRACE_RECORD_WRITE (R609): The trace tree takes a record from a tile queue and writes it into the die's quarter.
  -/
  | traceRecordWrite (t : Nat)
  /-- TRACE_CLEAR_WRITE (R611): A write of TRACE_CLEAR empties every quarter and restarts SEQ. -/
  | traceClearWrite (who v : Nat)
  /-- MAP_BUS_ACCESS (R627): MB_SEL is captured and the MAP performs the access and pulses MB_ACK within 8 MCLK
  cycles. -/
  | mapBusAccess (write : Bool) (off size : Nat) (half : Bool) (v : Nat) (clk : Bool)
  /-- DEBUG_ACCESS (R630): A debug-port request is accepted and becomes a crossbar transfer, or is answered with
  DBG_RERR. -/
  | debugAccess (write : Bool) (addr size blen : Nat) (data : List Nat)
  /-- SP_RESET_RELEASE (R258): SPd_RST_N rises and the service-port NI leaves reset synchronously to SPCLK, accepting
  responses at once and starting its SP_REQ_TIMEOUT wait. -/
  | spResetRelease (d : Nat)
  /-- RXLOS_FALL (R403): RXLOS_l falls on the lanes of a sleeping or deep direction whose sidebands are lost, and the
  receive side treats it as a KNOCK and wakes. -/
  | rxlosFall (ss c lanes : Nat)
  /-- SEAM_TRAIN_MESSAGE (R380): A TRAIN message arrives on sideband lane 1 with the peer's training phase and
  excluded lanes, which join the union of exclusions for the direction. -/
  | seamTrainMessage (ss : Nat)
  /-- VDD_AO_RETURN (R623): VDD_AO returns to a die while RST_COLD_N is held low, and its Groundsheet comes up running
  AOCLK, the sidebands and the Lantern, with the other domains held off. -/
  | vddAoReturn (d : Nat)
  deriving DecidableEq, Repr

end Sys2Proof
end

