-- ==== Sys2Proof/Decode.lean ====
section
/-! DEFINITION. Decode: commands that a word spells. No row of the table of commands gives bits, so no word spells one. -/

namespace Sys2Proof

/-- The command that a word of `nbits` bits spells: none, since no row of the table gives bits. -/
def decodeTableWord (_nbits _w : Nat) : Option Instr := none

end Sys2Proof
end

