-- ==== Sys2Proof/Word.lean ====
section
/-! DEFINITION. Word: bit fields of natural numbers, and sparse maps.
A field is named by its lowest bit and its width, as the tables of spec/ name them (R22). A sparse map is
the plain-data form of every table, memory and unit array of the block: a list of key and value pairs with
strictly rising keys in which no entry equals the value that an unlisted key reads as. -/

namespace Sys2Proof

/-- The `n` bits of `v` from bit `lo` upwards. -/
def field (v lo n : Nat) : Nat := (v >>> lo) % 2 ^ n

/-- `v` with the `n` bits from bit `lo` upwards replaced by the low `n` bits of `x`. -/
def setField (v lo n x : Nat) : Nat :=
  v % 2 ^ lo + (x % 2 ^ n) * 2 ^ lo + (v >>> (lo + n)) * 2 ^ (lo + n)

/-- Bit `k` of `v`. -/
def bit (v k : Nat) : Bool := v.testBit k

/-- A truth value as the number 0 or 1. -/
def b2n (b : Bool) : Nat := if b then 1 else 0

/-- The number with bit `k` alone set. -/
def mask (k : Nat) : Nat := 2 ^ k

/-- `v` with bit `k` set. -/
def setBit (v k : Nat) : Nat := v ||| mask k

/-- `v` with every bit of `m` cleared. -/
def clearBits (v m : Nat) : Nat := v - (v &&& m)

/-- How many of the low `n` bits of `v` are 1. -/
def popcount (v : Nat) : Nat → Nat
  | 0 => 0
  | n + 1 => popcount v n + b2n (v.testBit n)

/-- A two's-complement reading of the low `n` bits (R521, I64). -/
def toSigned (v n : Nat) : Int :=
  if v % 2 ^ n < 2 ^ (n - 1) then (v % 2 ^ n : Nat) else ((v % 2 ^ n : Nat) : Int) - (2 ^ n : Nat)

/-- The two's-complement form of `x` in `n` bits. -/
def ofSigned (x : Int) (n : Nat) : Nat := (x % (2 ^ n : Nat)).toNat

/-- A sparse map. -/
abbrev SMap (α : Type) := List (Nat × α)

namespace SMap
variable {α : Type}

/-- The value at key `k`; `d` is what an unlisted key reads as. -/
def get (d : Nat → α) : SMap α → Nat → α
  | [], k => d k
  | (k', v) :: m, k => if k = k' then v else get d m k

/-- The map without key `k`. -/
def erase : SMap α → Nat → SMap α
  | [], _ => []
  | (k', v) :: m, k => if k = k' then erase m k else (k', v) :: erase m k

/-- The map with `v` listed at key `k`, keys kept rising. -/
def insert : SMap α → Nat → α → SMap α
  | [], k, v => [(k, v)]
  | (k', v') :: m, k, v =>
    if k < k' then (k, v) :: (k', v') :: m
    else if k = k' then (k, v) :: m
    else (k', v') :: insert m k v

/-- The map that reads `v` at `k`, in canonical form: an entry that equals what an unlisted key reads as
is not listed. -/
def set [DecidableEq α] (d : Nat → α) (m : SMap α) (k : Nat) (v : α) : SMap α :=
  if v = d k then erase m k else insert m k v

/-- Every key of the map is at least `lo`, keys rise strictly, and no entry equals its unlisted value. -/
def wfFrom [DecidableEq α] (d : Nat → α) : Nat → SMap α → Bool
  | _, [] => true
  | lo, (k, v) :: m => decide (lo ≤ k) && !decide (v = d k) && wfFrom d (k + 1) m

/-- The canonical form. -/
def wf [DecidableEq α] (d : Nat → α) (m : SMap α) : Bool := wfFrom d 0 m

end SMap

/-- The list with element `i` replaced by `f` of it. -/
def modAt {α : Type} (l : List α) (i : Nat) (f : α → α) : List α :=
  match l, i with
  | [], _ => []
  | x :: xs, 0 => f x :: xs
  | x :: xs, i + 1 => x :: modAt xs i f

/-- The list without the first element that satisfies `p`. -/
def dropFirst {α : Type} (p : α → Bool) : List α → List α
  | [] => []
  | x :: xs => if p x then xs else x :: dropFirst p xs

/-- `f` applied `n` times. -/
def iter {α : Type} (f : α → α) : Nat → α → α
  | 0, x => x
  | n + 1, x => iter f n (f x)

end Sys2Proof
end

