-- ==== Sys2Proof/Machine/Crc.lean ====
section
/-! DEFINITION. Crc: the cyclic redundancy codes that the block computes over bytes: CRC-32C (R355, R505, R557),
CRC-16 (R437) and CRC-8 (R401, R480). -/

namespace Sys2Proof

/-- One bit of a reflected CRC. -/
def crcBitR (poly c : Nat) : Nat := if c % 2 = 1 then (c / 2) ^^^ poly else c / 2
/-- One byte of a reflected CRC. -/
def crcByteR (poly c b : Nat) : Nat := iter (crcBitR poly) 8 (c ^^^ (b % 256))

/-- CRC-32C over `n` bytes of a little-endian number, continued from a register value. -/
def crc32cFrom : Nat → Nat → Nat → Nat
  | c, _, 0 => c
  | c, v, n + 1 => crc32cFrom (crcByteR 0x82F63B78 c (v % 256)) (v / 256) n

/-- CRC-32C over `n` bytes of a little-endian number, in the common form: register of ones at the start, complement at
the end. PRESUMED (log 11). -/
def crc32c (v n : Nat) : Nat := crc32cFrom 0xFFFFFFFF v n ^^^ 0xFFFFFFFF

/-- One bit of a CRC of width `w`, most significant bit first. -/
def crcBitL (w poly c : Nat) (b : Bool) : Nat :=
  let top := c.testBit (w - 1) != b
  let c' := c * 2 % 2 ^ w
  if top then c' ^^^ poly else c'

/-- A CRC of width `w` over bits `n - 1` down to 0 of a number. -/
def crcBits (w poly : Nat) : Nat → Nat → Nat → Nat
  | c, _, 0 => c
  | c, v, n + 1 => crcBits w poly (crcBitL w poly c (v.testBit n)) v n

end Sys2Proof
end

