-- ==== Sys2Proof/Machine/Catalogue.lean ====
section
/-! DEFINITION. Catalogue: the object dictionary (R517 to R535): scope types (R17), types and their sizes (R521),
access codes (R26), the rows of the catalogue tables with their defaults and ranges (R534), and what a written
value becomes (R29). -/

namespace Sys2Proof

/-- STYPE code of a scope type. -/
def Scope.code : Scope → Nat
  | .inst => 0 | .die => 1 | .quad => 2 | .tile => 3 | .seam => 4 | .sk => 5 | .sp => 6 | .cmn => 7

/-- The scope type of a STYPE code. -/
def Scope.ofCode : Nat → Option Scope
  | 0 => some .inst | 1 => some .die | 2 => some .quad | 3 => some .tile | 4 => some .seam
  | 5 => some .sk | 6 => some .sp | 7 => some .cmn | _ => none

/-- How many units a scope type has (R17). -/
def Scope.count : Scope → Nat
  | .inst => 1 | .die => 4 | .quad => 16 | .tile => 256 | .seam => 8 | .sk => 8 | .sp => 4 | .cmn => 8

/-- Object types (R29). -/
inductive ObjTy where
  | u8 | u16 | u32 | u64 | i64 | bool | enm | time80 | entry64 | blob (n : Nat)
  deriving DecidableEq, Repr

/-- Size in bytes (R521). -/
def ObjTy.bytes : ObjTy → Nat
  | .u8 => 1 | .bool => 1 | .enm => 1 | .u16 => 2 | .u32 => 4 | .u64 => 8 | .entry64 => 8 | .i64 => 8
  | .time80 => 10 | .blob n => n

/-- Access codes (R26). -/
inductive Access where
  | ro | rw | rwg | rwl | rwt | wo | rc
  deriving DecidableEq, Repr

/-- Ranges of the catalogue. -/
inductive Rng where
  | any                                 -- every value of the type
  | clip (lo hi : Nat) (zero : Bool)    -- lo to hi, and 0 as well when `zero`
  | clipI (m : Nat)                     -- signed, -m to m
  | enum (n : Nat)                      -- n named values
  | mask (n : Nat)                      -- the low n bits; the others are reserved
  | margin                              -- [7:0] 0 to 32, [15:8] 0 to 127
  | icred                               -- EDGE_ICRED, by class (R152)
  | rate (hi : Nat)                     -- 1 to hi; 0 is DENIED (R316)
  | traceK                              -- 0 or 4 to 24; 1 to 3 is DENIED (R607)
  deriving DecidableEq, Repr

/-- A row of the catalogue. -/
structure ObjRow where
  /-- index -/
  idx : Nat
  /-- subindexes -/
  subs : List Nat
  /-- type -/
  ty : ObjTy
  /-- access -/
  acc : Access
  /-- default, where it is one number for every unit and subindex -/
  dflt : Nat
  /-- scope types -/
  scopes : List Scope
  /-- range -/
  rng : Rng
  deriving DecidableEq, Repr

namespace O

/-- IDENTITY (R534). -/
def IDENTITY : Nat := 0x1000
/-- INSTANCE_REV (R534). -/
def INSTANCE_REV : Nat := 0x1001
/-- FABRIC_MODE (R534). -/
def FABRIC_MODE : Nat := 0x1010
/-- GUY_TIMEOUT (R534). -/
def GUY_TIMEOUT : Nat := 0x1020
/-- GUY_STATE (R534). -/
def GUY_STATE : Nat := 0x1021
/-- GUY_RETRIES (R534). -/
def GUY_RETRIES : Nat := 0x1022
/-- GUY_ABSENT (R534). -/
def GUY_ABSENT : Nat := 0x1023
/-- MBX_TIMEOUT (R534). -/
def MBX_TIMEOUT : Nat := 0x1030
/-- WARDEN_STATE (R534). -/
def WARDEN_STATE : Nat := 0x1040
/-- WARDEN_WDOG (R534). -/
def WARDEN_WDOG : Nat := 0x1041
/-- WARDEN_RESTARTS (R534). -/
def WARDEN_RESTARTS : Nat := 0x1042
/-- WARDEN_IMAGE (R534). -/
def WARDEN_IMAGE : Nat := 0x1043
/-- XBAR_FABRIC_BASE (R534). -/
def XBAR_FABRIC_BASE : Nat := 0x1050
/-- XBAR_ERRORS (R534). -/
def XBAR_ERRORS : Nat := 0x1051
/-- WARDEN_REMAP (R534). -/
def WARDEN_REMAP : Nat := 0x1060
/-- XBAR_PRIO (R534). -/
def XBAR_PRIO : Nat := 0x1061
/-- SEAL_STATE (R534). -/
def SEAL_STATE : Nat := 0x1100
/-- INSTANCE_NONCE (R534). -/
def INSTANCE_NONCE : Nat := 0x1101
/-- TICKET_COUNTER (R534). -/
def TICKET_COUNTER : Nat := 0x1102
/-- TICKET_SUBMIT (R534). -/
def TICKET_SUBMIT : Nat := 0x1103
/-- CONFIG_MEASURE (R534). -/
def CONFIG_MEASURE : Nat := 0x1104
/-- SEAL_BURN (R534). -/
def SEAL_BURN : Nat := 0x1105
/-- TICKET_STATE (R534). -/
def TICKET_STATE : Nat := 0x1106
/-- TICKET_RESULT (R534). -/
def TICKET_RESULT : Nat := 0x1107
/-- DEBUG_TICKET (R534). -/
def DEBUG_TICKET : Nat := 0x1108
/-- AUTH_KEY_HASH (R534). -/
def AUTH_KEY_HASH : Nat := 0x1109
/-- OTP_GEN (R534). -/
def OTP_GEN : Nat := 0x1110
/-- OTP_SPARE (R534). -/
def OTP_SPARE : Nat := 0x1111
/-- OTP_PROGRAM (R534). -/
def OTP_PROGRAM : Nat := 0x1112
/-- GRANULE (R534). -/
def GRANULE : Nat := 0x2000
/-- STAGE_COUNT (R534). -/
def STAGE_COUNT : Nat := 0x2001
/-- FAM_COMMIT (R534). -/
def FAM_COMMIT : Nat := 0x2002
/-- FAM_COMMIT_STATE (R534). -/
def FAM_COMMIT_STATE : Nat := 0x2003
/-- DRAIN (R534). -/
def DRAIN : Nat := 0x2004
/-- DRAIN_STATE (R534). -/
def DRAIN_STATE : Nat := 0x2005
/-- STAGE_CLEAR (R534). -/
def STAGE_CLEAR : Nat := 0x2006
/-- DRAIN_REPORTED (R534). -/
def DRAIN_REPORTED : Nat := 0x2007
/-- DRAIN_EXPIRED (R534). -/
def DRAIN_EXPIRED : Nat := 0x2008
/-- COMMIT_LAST (R534). -/
def COMMIT_LAST : Nat := 0x2009
/-- COMMIT_SEQ (R534). -/
def COMMIT_SEQ : Nat := 0x200A
/-- LENS_ACK_FENCED (R534). -/
def LENS_ACK_FENCED : Nat := 0x200B
/-- VIOLATION_FLOOR (R534). -/
def VIOLATION_FLOOR : Nat := 0x2010
/-- BIND_PBR_REACH (R534). -/
def BIND_PBR_REACH : Nat := 0x2011
/-- SP_BIND (R534). -/
def SP_BIND : Nat := 0x2012
/-- VIOL_ADDR (R534). -/
def VIOL_ADDR : Nat := 0x2020
/-- VIOL_KIND (R534). -/
def VIOL_KIND : Nat := 0x2020
/-- VIOL_MASTER (R534). -/
def VIOL_MASTER : Nat := 0x2020
/-- VIOL_REGION (R534). -/
def VIOL_REGION : Nat := 0x2020
/-- VIOL_FLAGS (R534). -/
def VIOL_FLAGS : Nat := 0x2020
/-- VIOL_CLEAR (R534). -/
def VIOL_CLEAR : Nat := 0x2020
/-- VIOL_COUNT (R534). -/
def VIOL_COUNT : Nat := 0x2021
/-- HOLD_DEPTH (R534). -/
def HOLD_DEPTH : Nat := 0x2022
/-- HOLD_PEAK (R534). -/
def HOLD_PEAK : Nat := 0x2023
/-- ABSENT_CNT (R534). -/
def ABSENT_CNT : Nat := 0x2024
/-- LENS_HIT (R534). -/
def LENS_HIT : Nat := 0x2025
/-- LENS_MISS (R534). -/
def LENS_MISS : Nat := 0x2026
/-- ROUTE_MODE (R534). -/
def ROUTE_MODE : Nat := 0x2100
/-- EXPRESS_BIAS (R534). -/
def EXPRESS_BIAS : Nat := 0x2101
/-- SLEEP_PENALTY (R534). -/
def SLEEP_PENALTY : Nat := 0x2102
/-- DEGRADE_PENALTY (R534). -/
def DEGRADE_PENALTY : Nat := 0x2103
/-- SA_WEIGHT (R534). -/
def SA_WEIGHT : Nat := 0x2104
/-- AGE_LIMIT (R534). -/
def AGE_LIMIT : Nat := 0x2105
/-- KNOCK_LIMIT (R534). -/
def KNOCK_LIMIT : Nat := 0x2106
/-- CROSSING_AVOID (R534). -/
def CROSSING_AVOID : Nat := 0x2110
/-- CROSSING_ROUTE_STATE (R534). -/
def CROSSING_ROUTE_STATE : Nat := 0x2111
/-- SEAM_DISCARD (R534). -/
def SEAM_DISCARD : Nat := 0x2112
/-- PORT_DEAD (R534). -/
def PORT_DEAD : Nat := 0x2120
/-- KNOCK_DISCARD (R534). -/
def KNOCK_DISCARD : Nat := 0x2121
/-- TRUNCATED (R534). -/
def TRUNCATED : Nat := 0x2122
/-- ESCAPE_ENTRIES (R534). -/
def ESCAPE_ENTRIES : Nat := 0x2123
/-- AGE_GRANTS (R534). -/
def AGE_GRANTS : Nat := 0x2124
/-- LINK_CE (R534). -/
def LINK_CE : Nat := 0x2125
/-- SCHED_WEIGHT (R534). -/
def SCHED_WEIGHT : Nat := 0x2200
/-- SC_OVERHEAD (R534). -/
def SC_OVERHEAD : Nat := 0x2201
/-- SHAPER_EN (R534). -/
def SHAPER_EN : Nat := 0x2202
/-- SHAPER_RATE (R534). -/
def SHAPER_RATE : Nat := 0x2203
/-- SHAPER_BURST (R534). -/
def SHAPER_BURST : Nat := 0x2204
/-- SHAPER_TOKENS (R534). -/
def SHAPER_TOKENS : Nat := 0x2205
/-- SHAPER_CLEAR (R534). -/
def SHAPER_CLEAR : Nat := 0x2206
/-- GATE_EN (R534). -/
def GATE_EN : Nat := 0x2207
/-- GATE_RATE (R534). -/
def GATE_RATE : Nat := 0x2208
/-- GATE_MAXLEN (R534). -/
def GATE_MAXLEN : Nat := 0x2209
/-- GATE_GUARD (R534). -/
def GATE_GUARD : Nat := 0x220A
/-- GATE_APPLY (R534). -/
def GATE_APPLY : Nat := 0x220B
/-- GATE_STATE (R534). -/
def GATE_STATE : Nat := 0x220C
/-- GATE_OVERSIZE (R534). -/
def GATE_OVERSIZE : Nat := 0x220D
/-- GATE_WAITS (R534). -/
def GATE_WAITS : Nat := 0x220E
/-- POLICE_CIR (R534). -/
def POLICE_CIR : Nat := 0x2210
/-- POLICE_CBS (R534). -/
def POLICE_CBS : Nat := 0x2211
/-- POLICE_PASS (R534). -/
def POLICE_PASS : Nat := 0x2212
/-- POLICE_DROP (R534). -/
def POLICE_DROP : Nat := 0x2213
/-- SCHED_PKTS (R534). -/
def SCHED_PKTS : Nat := 0x2220
/-- SCHED_BYTES (R534). -/
def SCHED_BYTES : Nat := 0x2221
/-- SCHED_VTIME (R534). -/
def SCHED_VTIME : Nat := 0x2222
/-- HIST_DEPTH (R534). -/
def HIST_DEPTH : Nat := 0x2230
/-- HIST_DELAY (R534). -/
def HIST_DELAY : Nat := 0x2231
/-- HIST_PERIOD (R534). -/
def HIST_PERIOD : Nat := 0x2232
/-- HIST_DELAY_UNIT (R534). -/
def HIST_DELAY_UNIT : Nat := 0x2233
/-- GATE_LIST_INJ (R534). -/
def GATE_LIST_INJ : Nat := 0x2241
/-- GATE_LIST_EGR (R534). -/
def GATE_LIST_EGR : Nat := 0x2251
/-- SP_BUF_DEPTH (R534). -/
def SP_BUF_DEPTH : Nat := 0x2300
/-- SP_PROV (R534). -/
def SP_PROV : Nat := 0x2301
/-- SP_REQ_TIMEOUT (R534). -/
def SP_REQ_TIMEOUT : Nat := 0x2302
/-- SP_MERGE_HOLD (R534). -/
def SP_MERGE_HOLD : Nat := 0x2303
/-- SP_TAGS_OUT (R534). -/
def SP_TAGS_OUT : Nat := 0x2304
/-- SP_FWD_CNT (R534). -/
def SP_FWD_CNT : Nat := 0x2305
/-- SP_BARRIER_CNT (R534). -/
def SP_BARRIER_CNT : Nat := 0x2306
/-- SP_EXC_DRAINS (R534). -/
def SP_EXC_DRAINS : Nat := 0x2307
/-- SP_STORE_FAULTS (R534). -/
def SP_STORE_FAULTS : Nat := 0x2308
/-- STORES_LOST (R534). -/
def STORES_LOST : Nat := 0x2309
/-- SP_XST_EDGE (R534). -/
def SP_XST_EDGE : Nat := 0x230A
/-- CMN_RESV_GRAN (R534). -/
def CMN_RESV_GRAN : Nat := 0x2310
/-- CMN_RESV_COUNT (R534). -/
def CMN_RESV_COUNT : Nat := 0x2311
/-- CMN_RESV_CLEAR (R534). -/
def CMN_RESV_CLEAR : Nat := 0x2312
/-- CMN_XST_OK (R534). -/
def CMN_XST_OK : Nat := 0x2313
/-- CMN_XST_FAIL (R534). -/
def CMN_XST_FAIL : Nat := 0x2314
/-- CMN_RESV_EVICT (R534). -/
def CMN_RESV_EVICT : Nat := 0x2315
/-- CMN_CE (R534). -/
def CMN_CE : Nat := 0x2316
/-- EDGE_LINK (R534). -/
def EDGE_LINK : Nat := 0x2400
/-- EDGE_FENCE (R534). -/
def EDGE_FENCE : Nat := 0x2401
/-- EDGE_FENCE_CAUSE (R534). -/
def EDGE_FENCE_CAUSE : Nat := 0x2402
/-- EDGE_ICRED (R534). -/
def EDGE_ICRED : Nat := 0x2403
/-- EDGE_PROV (R534). -/
def EDGE_PROV : Nat := 0x2404
/-- EDGE_REQ_TIMEOUT (R534). -/
def EDGE_REQ_TIMEOUT : Nat := 0x2405
/-- EDGE_TAGS_OUT (R534). -/
def EDGE_TAGS_OUT : Nat := 0x2406
/-- EDGE_TAGS_QUAR (R534). -/
def EDGE_TAGS_QUAR : Nat := 0x2407
/-- EDGE_TAG_PEAK (R534). -/
def EDGE_TAG_PEAK : Nat := 0x2408
/-- EDGE_TIMEOUTS (R534). -/
def EDGE_TIMEOUTS : Nat := 0x2409
/-- EDGE_MALFORMED_CNT (R534). -/
def EDGE_MALFORMED_CNT : Nat := 0x240A
/-- EDGE_PARITY_CNT (R534). -/
def EDGE_PARITY_CNT : Nat := 0x240B
/-- EDGE_OVERRUN_CNT (R534). -/
def EDGE_OVERRUN_CNT : Nat := 0x240C
/-- EDGE_STRAY_CNT (R534). -/
def EDGE_STRAY_CNT : Nat := 0x240D
/-- EDGE_DOWN_DISCARD (R534). -/
def EDGE_DOWN_DISCARD : Nat := 0x240E
/-- EDGE_SC_FIXED (R534). -/
def EDGE_SC_FIXED : Nat := 0x240F
/-- EDGE_ECRED (R534). -/
def EDGE_ECRED : Nat := 0x2410
/-- EDGE_LINK_CHANGES (R534). -/
def EDGE_LINK_CHANGES : Nat := 0x2411
/-- EDGE_FLUSHES (R534). -/
def EDGE_FLUSHES : Nat := 0x2412
/-- EDGE_SYNTH (R534). -/
def EDGE_SYNTH : Nat := 0x2413
/-- SPILL_EN (R534). -/
def SPILL_EN : Nat := 0x3000
/-- SPILL_HIGH (R534). -/
def SPILL_HIGH : Nat := 0x3001
/-- SPILL_QMIN (R534). -/
def SPILL_QMIN : Nat := 0x3002
/-- SPILL_QUOTA (R534). -/
def SPILL_QUOTA : Nat := 0x3003
/-- SPILL_PORT (R534). -/
def SPILL_PORT : Nat := 0x3004
/-- SPILL_TIMEOUT (R534). -/
def SPILL_TIMEOUT : Nat := 0x3005
/-- PULL_WATER (R534). -/
def PULL_WATER : Nat := 0x3006
/-- SPILL_QSTATE (R534). -/
def SPILL_QSTATE : Nat := 0x3007
/-- SPILL_QPKTS (R534). -/
def SPILL_QPKTS : Nat := 0x3008
/-- SPILL_PKTS (R534). -/
def SPILL_PKTS : Nat := 0x3010
/-- RETURN_PKTS (R534). -/
def RETURN_PKTS : Nat := 0x3011
/-- SPILL_REFUSED (R534). -/
def SPILL_REFUSED : Nat := 0x3012
/-- SPILL_LOST (R534). -/
def SPILL_LOST : Nat := 0x3013
/-- SC5_STALL_DROP (R534). -/
def SC5_STALL_DROP : Nat := 0x3014
/-- SK_BASE (R534). -/
def SK_BASE : Nat := 0x3020
/-- SK_CHUNKS (R534). -/
def SK_CHUNKS : Nat := 0x3021
/-- SK_ENABLE (R534). -/
def SK_ENABLE : Nat := 0x3022
/-- SK_STATE (R534). -/
def SK_STATE : Nat := 0x3023
/-- SK_RECOVER (R534). -/
def SK_RECOVER : Nat := 0x3024
/-- SK_FREE (R534). -/
def SK_FREE : Nat := 0x3025
/-- SK_RSP_TIMEOUT (R534). -/
def SK_RSP_TIMEOUT : Nat := 0x3026
/-- SK_PEAK_CHUNKS (R534). -/
def SK_PEAK_CHUNKS : Nat := 0x3027
/-- SK_WR_BEATS (R534). -/
def SK_WR_BEATS : Nat := 0x3028
/-- SK_RD_BEATS (R534). -/
def SK_RD_BEATS : Nat := 0x3029
/-- SK_ABANDONS (R534). -/
def SK_ABANDONS : Nat := 0x302A
/-- SEAM_TX_STATE (R534). -/
def SEAM_TX_STATE : Nat := 0x3100
/-- SEAM_RX_STATE (R534). -/
def SEAM_RX_STATE : Nat := 0x3101
/-- SEAM_TX_EXCL (R534). -/
def SEAM_TX_EXCL : Nat := 0x3102
/-- SEAM_RX_EXCL (R534). -/
def SEAM_RX_EXCL : Nat := 0x3103
/-- SEAM_RX_SPARES (R534). -/
def SEAM_RX_SPARES : Nat := 0x3104
/-- SEAM_MARGIN_WARN (R534). -/
def SEAM_MARGIN_WARN : Nat := 0x3105
/-- SEAM_MARGIN_REPAIR (R534). -/
def SEAM_MARGIN_REPAIR : Nat := 0x3106
/-- SEAM_SCAN_PERIOD (R534). -/
def SEAM_SCAN_PERIOD : Nat := 0x3107
/-- SEAM_CORR_REPAIR (R534). -/
def SEAM_CORR_REPAIR : Nat := 0x3108
/-- SEAM_REPLAY_LIMIT (R534). -/
def SEAM_REPLAY_LIMIT : Nat := 0x3109
/-- SEAM_AUTO_REPAIR (R534). -/
def SEAM_AUTO_REPAIR : Nat := 0x310A
/-- SEAM_ALLOW_DEGRADE (R534). -/
def SEAM_ALLOW_DEGRADE : Nat := 0x310B
/-- SEAM_SLEEP_IDLE (R534). -/
def SEAM_SLEEP_IDLE : Nat := 0x310C
/-- SEAM_DEEP_IDLE (R534). -/
def SEAM_DEEP_IDLE : Nat := 0x310D
/-- SEAM_RETRAIN (R534). -/
def SEAM_RETRAIN : Nat := 0x3110
/-- SEAM_REPAIR_LANE (R534). -/
def SEAM_REPAIR_LANE : Nat := 0x3111
/-- SEAM_REPLAYS (R534). -/
def SEAM_REPLAYS : Nat := 0x3112
/-- SEAM_FEC_UE (R534). -/
def SEAM_FEC_UE : Nat := 0x3113
/-- SEAM_FEC_CE (R534). -/
def SEAM_FEC_CE : Nat := 0x3114
/-- SEAM_RETRAINS (R534). -/
def SEAM_RETRAINS : Nat := 0x3115
/-- SEAM_MARGIN (R534). -/
def SEAM_MARGIN : Nat := 0x3120
/-- SEAM_LANE_CORR (R534). -/
def SEAM_LANE_CORR : Nat := 0x3121
/-- SEAM_LANE_EQ (R534). -/
def SEAM_LANE_EQ : Nat := 0x3122
/-- SEAM_SB_STATE (R534). -/
def SEAM_SB_STATE : Nat := 0x3130
/-- LANTERN_TIME (R534). -/
def LANTERN_TIME : Nat := 0x3200
/-- LANTERN_SET (R534). -/
def LANTERN_SET : Nat := 0x3201
/-- LANTERN_STEP (R534). -/
def LANTERN_STEP : Nat := 0x3202
/-- LANTERN_SOURCE (R534). -/
def LANTERN_SOURCE : Nat := 0x3203
/-- LANTERN_STATE (R534). -/
def LANTERN_STATE : Nat := 0x3204
/-- LANTERN_OFFSET (R534). -/
def LANTERN_OFFSET : Nat := 0x3205
/-- LANTERN_RATE (R534). -/
def LANTERN_RATE : Nat := 0x3206
/-- LANTERN_DELAY (R534). -/
def LANTERN_DELAY : Nat := 0x3207
/-- LANTERN_UPSTREAM (R534). -/
def LANTERN_UPSTREAM : Nat := 0x3208
/-- LANTERN_ASYM (R534). -/
def LANTERN_ASYM : Nat := 0x3209
/-- PPS_DELAY (R534). -/
def PPS_DELAY : Nat := 0x320A
/-- LANTERN_PPS_OUT_OFFSET (R534). -/
def LANTERN_PPS_OUT_OFFSET : Nat := 0x320B
/-- LANTERN_PPS_OUT_WIDTH (R534). -/
def LANTERN_PPS_OUT_WIDTH : Nat := 0x320C
/-- LANTERN_TIME_CONST (R534). -/
def LANTERN_TIME_CONST : Nat := 0x320D
/-- LOCK_THRESH (R534). -/
def LOCK_THRESH : Nat := 0x320E
/-- STEP_THRESH (R534). -/
def STEP_THRESH : Nat := 0x320F
/-- LANTERN_PPS_TIMEOUT (R534). -/
def LANTERN_PPS_TIMEOUT : Nat := 0x3210
/-- LANTERN_UP_PORT (R534). -/
def LANTERN_UP_PORT : Nat := 0x3211
/-- LANTERN_UP_TIMEOUT (R534). -/
def LANTERN_UP_TIMEOUT : Nat := 0x3212
/-- LANTERN_TB_EN (R534). -/
def LANTERN_TB_EN : Nat := 0x3213
/-- LANTERN_STEPS (R534). -/
def LANTERN_STEPS : Nat := 0x3214
/-- LANTERN_STEP_SUM (R534). -/
def LANTERN_STEP_SUM : Nat := 0x3215
/-- PPS_IN_COUNT (R534). -/
def PPS_IN_COUNT : Nat := 0x3216
/-- UP_SAMPLE_COUNT (R534). -/
def UP_SAMPLE_COUNT : Nat := 0x3217
/-- TILE_STATE (R534). -/
def TILE_STATE : Nat := 0x3300
/-- TILE_DOZE_IDLE (R534). -/
def TILE_DOZE_IDLE : Nat := 0x3301
/-- TILE_NAP_IDLE (R534). -/
def TILE_NAP_IDLE : Nat := 0x3302
/-- TILE_OFF_IDLE (R534). -/
def TILE_OFF_IDLE : Nat := 0x3303
/-- TILE_HOLD (R534). -/
def TILE_HOLD : Nat := 0x3304
/-- TILE_DEEPEST (R534). -/
def TILE_DEEPEST : Nat := 0x3305
/-- TILE_WAKES (R534). -/
def TILE_WAKES : Nat := 0x3306
/-- TILE_TIME_IN (R534). -/
def TILE_TIME_IN : Nat := 0x3307
/-- QCLK_FREQ (R534). -/
def QCLK_FREQ : Nat := 0x3310
/-- QPLL_STATE (R534). -/
def QPLL_STATE : Nat := 0x3311
/-- QPLL_PARK_IDLE (R534). -/
def QPLL_PARK_IDLE : Nat := 0x3312
/-- QPLL_HOLD (R534). -/
def QPLL_HOLD : Nat := 0x3313
/-- QPLL_RELOCKS (R534). -/
def QPLL_RELOCKS : Nat := 0x3314
/-- CDC_TIMEOUT (R534). -/
def CDC_TIMEOUT : Nat := 0x3320
/-- CDC_TIMEOUTS (R534). -/
def CDC_TIMEOUTS : Nat := 0x3321
/-- CYC (R534). -/
def CYC : Nat := 0x7000
/-- CNT_EVENT (R534). -/
def CNT_EVENT : Nat := 0x7001
/-- CNT_VALUE (R534). -/
def CNT_VALUE : Nat := 0x7002
/-- CNT_CHAIN (R534). -/
def CNT_CHAIN : Nat := 0x7003
/-- CNT_ENABLE (R534). -/
def CNT_ENABLE : Nat := 0x7004
/-- CNT_OVF (R534). -/
def CNT_OVF : Nat := 0x7005
/-- COLLECT_PERIOD (R534). -/
def COLLECT_PERIOD : Nat := 0x7010
/-- COLLECT_ADDR (R534). -/
def COLLECT_ADDR : Nat := 0x7011
/-- COLLECT_DONE (R534). -/
def COLLECT_DONE : Nat := 0x7012
/-- SNAPSHOT_AT (R534). -/
def SNAPSHOT_AT : Nat := 0x7100
/-- SNAPSHOT_STATE (R534). -/
def SNAPSHOT_STATE : Nat := 0x7101
/-- SNAPSHOT_TIME (R534). -/
def SNAPSHOT_TIME : Nat := 0x7102
/-- SHADOW_CYC (R534). -/
def SHADOW_CYC : Nat := 0x7103
/-- SHADOW_CNT (R534). -/
def SHADOW_CNT : Nat := 0x7104
/-- TRACE_K (R534). -/
def TRACE_K : Nat := 0x7110
/-- TRACE_MODE (R534). -/
def TRACE_MODE : Nat := 0x7111
/-- TRACE_COUNT (R534). -/
def TRACE_COUNT : Nat := 0x7112
/-- TRACE_CLEAR (R534). -/
def TRACE_CLEAR : Nat := 0x7113
/-- TRACE_LOST (R534). -/
def TRACE_LOST : Nat := 0x7114

/-- The fault family objects of R535: FIRST 1, PEND 2, OVF 3, FORCE 4, EN 5, INFO0 to INFO3 6 to 9. -/
def FAULT : Nat := 0x6000
/-- The fault family of a die's Lantern (R535). -/
def FAULT_LANTERN : Nat := 0x6001
/-- FAM (R246). -/
def FAM : Nat := 0x5000
/-- SHARE_GROUP (R246). -/
def SHARE_GROUP : Nat := 0x5001
/-- PBR_ROUTE (R246). -/
def PBR_ROUTE : Nat := 0x5002
/-- FAM_STAGE (R246). -/
def FAM_STAGE : Nat := 0x5003
/-- TRACE (R612). -/
def TRACE : Nat := 0x5010

end O

/-- Subindexes 0x10*d + s for s 0 to 5 (R303). -/
def ss05 : List Nat := [0, 1, 2, 3, 4, 5, 16, 17, 18, 19, 20, 21]
/-- Subindexes 0x10*d + s for s 1 to 5 (R303). -/
def ss15 : List Nat := [1, 2, 3, 4, 5, 17, 18, 19, 20, 21]
/-- Subindexes 0x10*d + s for s 2 to 5 (R303). -/
def ss25 : List Nat := [2, 3, 4, 5, 18, 19, 20, 21]

/-- Catalogue rows of indexes 0x1000 to 0x10FF (R534). -/
def rows10 : List ObjRow :=
  [⟨O.IDENTITY, [0], (.blob 32), .ro, 0, [.inst], .any⟩,
   ⟨O.INSTANCE_REV, [0], .u16, .ro, 0x0142, [.inst], .any⟩,
   ⟨O.FABRIC_MODE, [0], .enm, .rw, 1, [.inst], (.enum 3)⟩,
   ⟨O.GUY_TIMEOUT, [0], .u32, .rw, 100, [.inst], (.clip 10 10000 false)⟩,
   ⟨O.GUY_STATE, [0], .u8, .ro, 0, [.inst], .any⟩,
   ⟨O.GUY_RETRIES, [0], .u32, .rc, 0, [.inst], .any⟩,
   ⟨O.GUY_ABSENT, [0], .u32, .rc, 0, [.inst], .any⟩,
   ⟨O.MBX_TIMEOUT, [0], .u32, .rw, 10, [.inst], (.clip 1 1000 false)⟩,
   ⟨O.WARDEN_STATE, [0], .enm, .ro, 0, [.inst], (.enum 3)⟩,
   ⟨O.WARDEN_WDOG, [0], .u32, .rw, 10, [.inst], (.clip 1 1000 true)⟩,
   ⟨O.WARDEN_RESTARTS, [0], .u32, .rc, 0, [.inst], .any⟩,
   ⟨O.WARDEN_IMAGE, [0], .u32, .ro, 0, [.inst], .any⟩,
   ⟨O.XBAR_FABRIC_BASE, [0], .u64, .rw, 0, [.inst], .any⟩,
   ⟨O.XBAR_ERRORS, [0], .u32, .rc, 0, [.inst], .any⟩,
   ⟨O.WARDEN_REMAP, [1], .bool, .rwl, 0, [.inst], .any⟩,
   ⟨O.XBAR_PRIO, [1, 4, 16, 17, 18, 19, 20, 21, 32, 33, 34, 36, 37, 49], .u8, .rw, 0, [.inst], (.clip 0 15 false)⟩]

/-- Catalogue rows of indexes 0x1100 to 0x11FF (R534). -/
def rows11 : List ObjRow :=
  [⟨O.SEAL_STATE, [0], .enm, .ro, 0, [.inst], (.enum 2)⟩,
   ⟨O.INSTANCE_NONCE, [0], (.blob 32), .ro, 0, [.inst], .any⟩,
   ⟨O.TICKET_COUNTER, [0], .u64, .ro, 0, [.inst], .any⟩,
   ⟨O.TICKET_SUBMIT, [0], (.blob 4096), .wo, 0, [.inst], .any⟩,
   ⟨O.CONFIG_MEASURE, [0], (.blob 48), .ro, 0, [.inst], .any⟩,
   ⟨O.SEAL_BURN, [0], .u32, .rwg, 0, [.inst], .any⟩,
   ⟨O.TICKET_STATE, [0], .enm, .ro, 0, [.inst], (.enum 4)⟩,
   ⟨O.TICKET_RESULT, [0], .u8, .ro, 0, [.inst], .any⟩,
   ⟨O.DEBUG_TICKET, [0], .enm, .ro, 0, [.inst], (.enum 2)⟩,
   ⟨O.AUTH_KEY_HASH, [0], (.blob 48), .ro, 0, [.inst], .any⟩,
   ⟨O.OTP_GEN, [0], .u8, .ro, 0, [.inst], .any⟩,
   ⟨O.OTP_SPARE, [0], .u8, .ro, 0, [.inst], .any⟩,
   ⟨O.OTP_PROGRAM, [0], (.blob 2048), .rwg, 0, [.inst], .any⟩]

/-- Catalogue rows of indexes 0x2000 to 0x20FF (R534). -/
def rows20a : List ObjRow :=
  [⟨O.GRANULE, [0], .enm, .rwl, 1, [.inst], (.enum 3)⟩,
   ⟨O.STAGE_COUNT, [0], .u16, .ro, 0, [.inst], .any⟩,
   ⟨O.FAM_COMMIT, [0], .time80, .wo, 0, [.inst], .any⟩,
   ⟨O.FAM_COMMIT_STATE, [0], .enm, .ro, 0, [.inst], (.enum 3)⟩,
   ⟨O.DRAIN, [0], .u8, .wo, 0, [.inst], .any⟩,
   ⟨O.DRAIN_STATE, [0], .enm, .ro, 0, [.inst], (.enum 3)⟩,
   ⟨O.STAGE_CLEAR, [0], .bool, .wo, 0, [.inst], .any⟩,
   ⟨O.DRAIN_REPORTED, [0], .u16, .ro, 0, [.inst], .any⟩,
   ⟨O.DRAIN_EXPIRED, [0], .u32, .ro, 0, [.inst], .any⟩,
   ⟨O.COMMIT_LAST, [0], .time80, .ro, 0, [.inst], .any⟩,
   ⟨O.COMMIT_SEQ, [0], .u8, .ro, 0, [.inst], .any⟩,
   ⟨O.LENS_ACK_FENCED, [0], .u16, .rc, 0, [.inst], .any⟩,
   ⟨O.VIOLATION_FLOOR, [0], .u32, .rwt, 600, [.inst], (.clip 0 1000000 false)⟩,
   ⟨O.BIND_PBR_REACH, [0], .u16, .rwt, 0x0001, [.tile], .any⟩,
   ⟨O.SP_BIND, [0], .u8, .rwt, 0x00, [.sp], (.mask 4)⟩,
   ⟨O.VIOL_ADDR, [1], .u64, .ro, 0, [.tile, .sp, .die], .any⟩,
   ⟨O.VIOL_KIND, [2], .u8, .ro, 0, [.tile, .sp, .die], .any⟩,
   ⟨O.VIOL_MASTER, [3], .u32, .ro, 0, [.tile, .sp, .die], .any⟩,
   ⟨O.VIOL_REGION, [4], .u32, .ro, 0, [.tile, .sp, .die], .any⟩,
   ⟨O.VIOL_FLAGS, [5], .u8, .ro, 0, [.tile, .sp, .die], .any⟩,
   ⟨O.VIOL_CLEAR, [6], .bool, .wo, 0, [.tile, .sp, .die], .any⟩,
   ⟨O.VIOL_COUNT, [0], .u64, .rc, 0, [.tile, .sp, .die], .any⟩,
   ⟨O.HOLD_DEPTH, [0], .u8, .ro, 0, [.tile, .sp], .any⟩,
   ⟨O.HOLD_PEAK, [0], .u8, .rc, 0, [.tile, .sp], .any⟩]

/-- Catalogue rows of indexes 0x2000 to 0x20FF (R534). -/
def rows20b : List ObjRow :=
  [⟨O.ABSENT_CNT, [0], .u64, .rc, 0, [.tile, .sp], .any⟩,
   ⟨O.LENS_HIT, [0], .u64, .rc, 0, [.tile], .any⟩,
   ⟨O.LENS_MISS, [0], .u64, .rc, 0, [.tile], .any⟩]

/-- Catalogue rows of indexes 0x2100 to 0x21FF (R534). -/
def rows21 : List ObjRow :=
  [⟨O.ROUTE_MODE, [0], .enm, .rw, 0, [.inst], (.enum 2)⟩,
   ⟨O.EXPRESS_BIAS, [0], .u8, .rw, 4, [.inst], (.clip 0 64 false)⟩,
   ⟨O.SLEEP_PENALTY, [0], .u8, .rw, 48, [.inst], (.clip 0 128 false)⟩,
   ⟨O.DEGRADE_PENALTY, [0], .u8, .rw, 32, [.inst], (.clip 0 128 false)⟩,
   ⟨O.SA_WEIGHT, [1, 2, 3, 4, 5], .u8, .rw, 0, [.inst], (.clip 1 255 false)⟩,
   ⟨O.AGE_LIMIT, [0], .u16, .rw, 1024, [.inst], (.clip 64 65535 false)⟩,
   ⟨O.KNOCK_LIMIT, [0], .u32, .rw, 100, [.inst], (.clip 40 100000 false)⟩,
   ⟨O.CROSSING_AVOID, [0], .u8, .rw, 0, [.seam], .any⟩,
   ⟨O.CROSSING_ROUTE_STATE, [0], .u16, .ro, 0xAAAA, [.seam], .any⟩,
   ⟨O.SEAM_DISCARD, [0], .u64, .rc, 0, [.seam], .any⟩,
   ⟨O.PORT_DEAD, [0], .u8, .ro, 0, [.tile], .any⟩,
   ⟨O.KNOCK_DISCARD, [0], .u64, .rc, 0, [.tile], .any⟩,
   ⟨O.TRUNCATED, [0], .u64, .rc, 0, [.tile], .any⟩,
   ⟨O.ESCAPE_ENTRIES, [0], .u64, .rc, 0, [.tile], .any⟩,
   ⟨O.AGE_GRANTS, [0], .u64, .rc, 0, [.tile], .any⟩,
   ⟨O.LINK_CE, [0], .u64, .rc, 0, [.tile], .any⟩]

/-- Catalogue rows of indexes 0x2200 to 0x22FF (R534). -/
def rows22a : List ObjRow :=
  [⟨O.SCHED_WEIGHT, ss25, .u8, .rw, 0, [.tile, .sp], (.clip 1 255 false)⟩,
   ⟨O.SC_OVERHEAD, ss05, .u8, .rw, 0, [.tile, .sp], (.clip 0 255 false)⟩,
   ⟨O.SHAPER_EN, ss15, .bool, .rw, 0, [.tile, .sp], .any⟩,
   ⟨O.SHAPER_RATE, ss15, .u32, .rw, 32000, [.tile, .sp], (.rate 64000)⟩,
   ⟨O.SHAPER_BURST, ss15, .u32, .rw, 16384, [.tile, .sp], (.clip 0 4194304 false)⟩,
   ⟨O.SHAPER_TOKENS, ss15, .i64, .ro, 16384, [.tile, .sp], .any⟩,
   ⟨O.SHAPER_CLEAR, ss15, .bool, .wo, 0, [.tile, .sp], .any⟩,
   ⟨O.GATE_EN, ss15, .bool, .rw, 0, [.tile, .sp], .any⟩,
   ⟨O.GATE_RATE, ss15, .u32, .rw, 32000, [.tile, .sp], (.clip 1000 64000 false)⟩,
   ⟨O.GATE_MAXLEN, ss15, .u8, .rw, 52, [.tile, .sp], (.clip 1 52 false)⟩,
   ⟨O.GATE_GUARD, ss15, .u32, .ro, 130, [.tile, .sp], .any⟩,
   ⟨O.GATE_APPLY, ss15, .time80, .wo, 0, [.tile, .sp], .any⟩,
   ⟨O.GATE_STATE, ss15, .u8, .ro, 0, [.tile, .sp], .any⟩,
   ⟨O.GATE_OVERSIZE, ss15, .u64, .rc, 0, [.tile, .sp], .any⟩,
   ⟨O.GATE_WAITS, ss15, .u64, .rc, 0, [.tile, .sp], .any⟩,
   ⟨O.POLICE_CIR, [0], .u32, .rw, 1000, [.tile], (.clip 0 64000 false)⟩,
   ⟨O.POLICE_CBS, [0], .u32, .rw, 16384, [.tile], (.clip 0 1048576 false)⟩,
   ⟨O.POLICE_PASS, [0], .u64, .rc, 0, [.tile], .any⟩,
   ⟨O.POLICE_DROP, [0], .u64, .rc, 0, [.tile], .any⟩,
   ⟨O.SCHED_PKTS, ss05, .u64, .rc, 0, [.tile, .sp], .any⟩,
   ⟨O.SCHED_BYTES, ss05, .u64, .rc, 0, [.tile, .sp], .any⟩,
   ⟨O.SCHED_VTIME, [0, 1], .u64, .ro, 0, [.tile, .sp], .any⟩,
   ⟨O.HIST_DEPTH, ss05, (.blob 32), .rc, 0, [.tile, .sp], .any⟩,
   ⟨O.HIST_DELAY, ss05, (.blob 32), .rc, 0, [.tile, .sp], .any⟩]

/-- Catalogue rows of indexes 0x2200 to 0x22FF (R534). -/
def rows22b : List ObjRow :=
  [⟨O.HIST_PERIOD, [0], .u16, .rw, 4096, [.tile, .sp], (.clip 16 65535 false)⟩,
   ⟨O.HIST_DELAY_UNIT, [0], .u16, .rw, 8, [.tile, .sp], (.clip 1 65535 false)⟩,
   ⟨O.GATE_LIST_INJ, (List.range 16), .u32, .rw, 0, [.tile, .sp], .any⟩,
   ⟨O.GATE_LIST_INJ + 1, (List.range 16), .u32, .rw, 0, [.tile, .sp], .any⟩,
   ⟨O.GATE_LIST_INJ + 2, (List.range 16), .u32, .rw, 0, [.tile, .sp], .any⟩,
   ⟨O.GATE_LIST_INJ + 3, (List.range 16), .u32, .rw, 0, [.tile, .sp], .any⟩,
   ⟨O.GATE_LIST_INJ + 4, (List.range 16), .u32, .rw, 0, [.tile, .sp], .any⟩,
   ⟨O.GATE_LIST_EGR, (List.range 16), .u32, .rw, 0, [.tile, .sp], .any⟩,
   ⟨O.GATE_LIST_EGR + 1, (List.range 16), .u32, .rw, 0, [.tile, .sp], .any⟩,
   ⟨O.GATE_LIST_EGR + 2, (List.range 16), .u32, .rw, 0, [.tile, .sp], .any⟩,
   ⟨O.GATE_LIST_EGR + 3, (List.range 16), .u32, .rw, 0, [.tile, .sp], .any⟩,
   ⟨O.GATE_LIST_EGR + 4, (List.range 16), .u32, .rw, 0, [.tile, .sp], .any⟩]

/-- Catalogue rows of indexes 0x2300 to 0x23FF (R534). -/
def rows23 : List ObjRow :=
  [⟨O.SP_BUF_DEPTH, [0], .u8, .ro, 0, [.sp], .any⟩,
   ⟨O.SP_PROV, [0], .u16, .rwt, 0, [.sp], (.clip 0 4095 false)⟩,
   ⟨O.SP_REQ_TIMEOUT, [0], .u32, .rw, 2000, [.sp], (.clip 1 4000000 false)⟩,
   ⟨O.SP_MERGE_HOLD, [0], .u8, .rw, 4, [.sp], (.clip 0 64 false)⟩,
   ⟨O.SP_TAGS_OUT, [0], .u16, .ro, 0, [.sp], .any⟩,
   ⟨O.SP_FWD_CNT, [0], .u64, .rc, 0, [.sp], .any⟩,
   ⟨O.SP_BARRIER_CNT, [0], .u64, .rc, 0, [.sp], .any⟩,
   ⟨O.SP_EXC_DRAINS, [0], .u32, .rc, 0, [.sp], .any⟩,
   ⟨O.SP_STORE_FAULTS, [0], .u64, .rc, 0, [.sp], .any⟩,
   ⟨O.STORES_LOST, [0], .u32, .rc, 0, [.sp], .any⟩,
   ⟨O.SP_XST_EDGE, [0], .u64, .rc, 0, [.sp], .any⟩,
   ⟨O.CMN_RESV_GRAN, [0], .enm, .rw, 0, [.cmn], (.enum 7)⟩,
   ⟨O.CMN_RESV_COUNT, [0], .u16, .ro, 0, [.cmn], .any⟩,
   ⟨O.CMN_RESV_CLEAR, [0], .bool, .wo, 0, [.cmn], .any⟩,
   ⟨O.CMN_XST_OK, [0], .u64, .rc, 0, [.cmn], .any⟩,
   ⟨O.CMN_XST_FAIL, [0], .u64, .rc, 0, [.cmn], .any⟩,
   ⟨O.CMN_RESV_EVICT, [0], .u64, .rc, 0, [.cmn], .any⟩,
   ⟨O.CMN_CE, [0], .u64, .rc, 0, [.cmn], .any⟩]

/-- Catalogue rows of indexes 0x2400 to 0x24FF (R534). -/
def rows24 : List ObjRow :=
  [⟨O.EDGE_LINK, [0], .enm, .ro, 0, [.tile], (.enum 3)⟩,
   ⟨O.EDGE_FENCE, [0], .bool, .rw, 0, [.tile], .any⟩,
   ⟨O.EDGE_FENCE_CAUSE, [0], .u8, .ro, 0, [.tile], .any⟩,
   ⟨O.EDGE_ICRED, [1, 2, 3, 4, 5, 6, 7, 8], .u8, .rw, 0, [.tile], .icred⟩,
   ⟨O.EDGE_PROV, [0], .u16, .rwt, 0, [.tile], (.clip 0 4095 false)⟩,
   ⟨O.EDGE_REQ_TIMEOUT, [0], .u32, .rw, 2000, [.tile], (.clip 1 4000000 false)⟩,
   ⟨O.EDGE_TAGS_OUT, [0], .u16, .ro, 0, [.tile], .any⟩,
   ⟨O.EDGE_TAGS_QUAR, [0], .u16, .ro, 0, [.tile], .any⟩,
   ⟨O.EDGE_TAG_PEAK, [0], .u16, .rc, 0, [.tile], .any⟩,
   ⟨O.EDGE_TIMEOUTS, [0], .u64, .rc, 0, [.tile], .any⟩,
   ⟨O.EDGE_MALFORMED_CNT, [0], .u64, .rc, 0, [.tile], .any⟩,
   ⟨O.EDGE_PARITY_CNT, [0], .u64, .rc, 0, [.tile], .any⟩,
   ⟨O.EDGE_OVERRUN_CNT, [0], .u64, .rc, 0, [.tile], .any⟩,
   ⟨O.EDGE_STRAY_CNT, [0], .u64, .rc, 0, [.tile], .any⟩,
   ⟨O.EDGE_DOWN_DISCARD, [0], .u64, .rc, 0, [.tile], .any⟩,
   ⟨O.EDGE_SC_FIXED, [0], .u64, .rc, 0, [.tile], .any⟩,
   ⟨O.EDGE_ECRED, [1, 2, 3, 4, 5, 6, 7, 8], .u16, .ro, 0, [.tile], .any⟩,
   ⟨O.EDGE_LINK_CHANGES, [0], .u32, .rc, 0, [.tile], .any⟩,
   ⟨O.EDGE_FLUSHES, [0], .u64, .rc, 0, [.tile], .any⟩,
   ⟨O.EDGE_SYNTH, [0], .u64, .rc, 0, [.tile], .any⟩]

/-- Catalogue rows of indexes 0x3000 to 0x30FF (R534). -/
def rows30a : List ObjRow :=
  [⟨O.SPILL_EN, [0], .bool, .rw, 1, [.tile], .any⟩,
   ⟨O.SPILL_HIGH, [0], .u16, .rw, 512, [.tile], (.clip 64 704 false)⟩,
   ⟨O.SPILL_QMIN, [0], .u8, .rw, 16, [.tile], (.clip 1 255 false)⟩,
   ⟨O.SPILL_QUOTA, [0], .u32, .rw, 256, [.tile], (.clip 1 1048576 false)⟩,
   ⟨O.SPILL_PORT, [0], .enm, .rw, 0, [.tile], (.enum 3)⟩,
   ⟨O.SPILL_TIMEOUT, [0], .u32, .rw, 1000, [.tile], (.clip 10 4000000 false)⟩,
   ⟨O.PULL_WATER, [0], .u8, .rw, 160, [.tile], (.clip 106 255 false)⟩,
   ⟨O.SPILL_QSTATE, [1, 2, 3, 4, 7], .enm, .ro, 0, [.tile], (.enum 3)⟩,
   ⟨O.SPILL_QPKTS, [1, 2, 3, 4, 7], .u32, .ro, 0, [.tile], .any⟩,
   ⟨O.SPILL_PKTS, [0], .u64, .rc, 0, [.tile], .any⟩,
   ⟨O.RETURN_PKTS, [0], .u64, .rc, 0, [.tile], .any⟩,
   ⟨O.SPILL_REFUSED, [0], .u64, .rc, 0, [.tile], .any⟩,
   ⟨O.SPILL_LOST, [0], .u64, .rc, 0, [.tile], .any⟩,
   ⟨O.SC5_STALL_DROP, [0], .u64, .rc, 0, [.tile], .any⟩,
   ⟨O.SK_BASE, [0], .u32, .rw, 0, [.sk], (.clip 0 1073740800 false)⟩,
   ⟨O.SK_CHUNKS, [0], .u32, .rw, 0, [.sk], .any⟩,
   ⟨O.SK_ENABLE, [0], .bool, .rw, 0, [.sk], .any⟩,
   ⟨O.SK_STATE, [0], .enm, .ro, 0, [.sk], (.enum 3)⟩,
   ⟨O.SK_RECOVER, [0], .bool, .wo, 0, [.sk], .any⟩,
   ⟨O.SK_FREE, [0], .u32, .ro, 0, [.sk], .any⟩,
   ⟨O.SK_RSP_TIMEOUT, [0], .u32, .rw, 100, [.sk], (.clip 1 100000 false)⟩,
   ⟨O.SK_PEAK_CHUNKS, [0], .u32, .rc, 0, [.sk], .any⟩,
   ⟨O.SK_WR_BEATS, [0], .u64, .rc, 0, [.sk], .any⟩,
   ⟨O.SK_RD_BEATS, [0], .u64, .rc, 0, [.sk], .any⟩]

/-- Catalogue rows of indexes 0x3000 to 0x30FF (R534). -/
def rows30b : List ObjRow :=
  [⟨O.SK_ABANDONS, [0], .u64, .rc, 0, [.sk], .any⟩]

/-- Catalogue rows of indexes 0x3100 to 0x31FF (R534). -/
def rows31 : List ObjRow :=
  [⟨O.SEAM_TX_STATE, [0, 1, 2, 3, 4, 5, 6, 7], .enm, .ro, 0, [.seam], (.enum 7)⟩,
   ⟨O.SEAM_RX_STATE, [0, 1, 2, 3, 4, 5, 6, 7], .enm, .ro, 0, [.seam], (.enum 7)⟩,
   ⟨O.SEAM_TX_EXCL, [0, 1, 2, 3, 4, 5, 6, 7], .u32, .ro, 0, [.seam], .any⟩,
   ⟨O.SEAM_RX_EXCL, [0, 1, 2, 3, 4, 5, 6, 7], .u32, .ro, 0, [.seam], .any⟩,
   ⟨O.SEAM_RX_SPARES, [0, 1, 2, 3, 4, 5, 6, 7], .u8, .ro, 2, [.seam], .any⟩,
   ⟨O.SEAM_MARGIN_WARN, [0], .u16, .rw, 0x0C08, [.seam], .margin⟩,
   ⟨O.SEAM_MARGIN_REPAIR, [0], .u16, .rw, 0x0604, [.seam], .margin⟩,
   ⟨O.SEAM_SCAN_PERIOD, [0], .u32, .rw, 100, [.seam], (.clip 16 10000 false)⟩,
   ⟨O.SEAM_CORR_REPAIR, [0], .u32, .rw, 100000, [.seam], (.clip 1 4294967295 false)⟩,
   ⟨O.SEAM_REPLAY_LIMIT, [0], .u8, .rw, 4, [.seam], (.clip 1 15 false)⟩,
   ⟨O.SEAM_AUTO_REPAIR, [0], .bool, .rw, 1, [.seam], .any⟩,
   ⟨O.SEAM_ALLOW_DEGRADE, [0], .bool, .rw, 1, [.seam], .any⟩,
   ⟨O.SEAM_SLEEP_IDLE, [0], .u32, .rw, 20000, [.seam], (.clip 200 10000000 true)⟩,
   ⟨O.SEAM_DEEP_IDLE, [0], .u32, .rw, 0, [.seam], (.clip 20 100000000 true)⟩,
   ⟨O.SEAM_RETRAIN, [0, 1, 2, 3, 4, 5, 6, 7], .u8, .wo, 0, [.seam], (.clip 1 2 false)⟩,
   ⟨O.SEAM_REPAIR_LANE, [0, 1, 2, 3, 4, 5, 6, 7], .u8, .wo, 0, [.seam], (.clip 0 29 false)⟩,
   ⟨O.SEAM_REPLAYS, [0, 1, 2, 3, 4, 5, 6, 7], .u64, .rc, 0, [.seam], .any⟩,
   ⟨O.SEAM_FEC_UE, [0, 1, 2, 3, 4, 5, 6, 7], .u64, .rc, 0, [.seam], .any⟩,
   ⟨O.SEAM_FEC_CE, [0, 1, 2, 3, 4, 5, 6, 7], .u64, .rc, 0, [.seam], .any⟩,
   ⟨O.SEAM_RETRAINS, [0, 1, 2, 3, 4, 5, 6, 7], .u32, .rc, 0, [.seam], .any⟩,
   ⟨O.SEAM_MARGIN, (List.range 240), .u16, .ro, 0, [.seam], .any⟩,
   ⟨O.SEAM_LANE_CORR, (List.range 240), .u32, .rc, 0, [.seam], .any⟩,
   ⟨O.SEAM_LANE_EQ, (List.range 240), .u16, .ro, 0, [.seam], .any⟩,
   ⟨O.SEAM_SB_STATE, [0], .u8, .ro, 0, [.seam], .any⟩]

/-- Catalogue rows of indexes 0x3200 to 0x32FF (R534). -/
def rows32 : List ObjRow :=
  [⟨O.LANTERN_TIME, [0], .time80, .ro, 0, [.inst, .die], .any⟩,
   ⟨O.LANTERN_SET, [0], .time80, .wo, 0, [.inst], .any⟩,
   ⟨O.LANTERN_STEP, [0], .i64, .wo, 0, [.inst], (.clipI 1000000000000000)⟩,
   ⟨O.LANTERN_SOURCE, [0], .enm, .rw, 0, [.inst], (.enum 3)⟩,
   ⟨O.LANTERN_STATE, [0], .enm, .ro, 0, [.inst, .die], (.enum 4)⟩,
   ⟨O.LANTERN_OFFSET, [0], .i64, .ro, 0, [.inst, .die], .any⟩,
   ⟨O.LANTERN_RATE, [0], .i64, .ro, 0, [.inst, .die], .any⟩,
   ⟨O.LANTERN_DELAY, [0], .u32, .ro, 0, [.die], .any⟩,
   ⟨O.LANTERN_UPSTREAM, [0], .enm, .ro, 0, [.die], (.enum 5)⟩,
   ⟨O.LANTERN_ASYM, [0, 1, 2, 3], .i64, .rw, 0, [.inst], (.clipI 1000)⟩,
   ⟨O.PPS_DELAY, [0], .i64, .rw, 0, [.inst], (.clipI 1000000)⟩,
   ⟨O.LANTERN_PPS_OUT_OFFSET, [0], .i64, .rw, 0, [.inst], (.clipI 1000000)⟩,
   ⟨O.LANTERN_PPS_OUT_WIDTH, [0], .u32, .rw, 100000, [.inst], (.clip 0 900000 false)⟩,
   ⟨O.LANTERN_TIME_CONST, [0], .u16, .rw, 8, [.inst], (.clip 1 1000 false)⟩,
   ⟨O.LOCK_THRESH, [0], .u32, .rw, 20, [.inst], (.clip 1 1000 false)⟩,
   ⟨O.STEP_THRESH, [0], .u32, .rw, 1000, [.inst], (.clip 1 1000000000 true)⟩,
   ⟨O.LANTERN_PPS_TIMEOUT, [0], .u32, .rw, 1500, [.inst], (.clip 1100 10000 false)⟩,
   ⟨O.LANTERN_UP_PORT, [0], .u8, .rw, 0, [.inst], (.clip 0 255 false)⟩,
   ⟨O.LANTERN_UP_TIMEOUT, [0], .u32, .rw, 100, [.inst], (.clip 1 10000 false)⟩,
   ⟨O.LANTERN_TB_EN, [0], .u16, .rw, 0xFFFF, [.die], .any⟩,
   ⟨O.LANTERN_STEPS, [0], .u32, .rc, 0, [.inst, .die], .any⟩,
   ⟨O.LANTERN_STEP_SUM, [0], .i64, .ro, 0, [.inst, .die], .any⟩,
   ⟨O.PPS_IN_COUNT, [0], .u64, .rc, 0, [.inst], .any⟩,
   ⟨O.UP_SAMPLE_COUNT, [0], .u64, .rc, 0, [.inst], .any⟩]

/-- Catalogue rows of indexes 0x3300 to 0x33FF (R534). -/
def rows33 : List ObjRow :=
  [⟨O.TILE_STATE, [0], .enm, .ro, 0, [.tile], (.enum 6)⟩,
   ⟨O.TILE_DOZE_IDLE, [0], .u16, .rw, 64, [.tile], (.clip 1 65535 true)⟩,
   ⟨O.TILE_NAP_IDLE, [0], .u32, .rw, 50000, [.tile], (.clip 500 100000000 true)⟩,
   ⟨O.TILE_OFF_IDLE, [0], .u32, .rw, 0, [.tile], (.clip 100 100000000 true)⟩,
   ⟨O.TILE_HOLD, [0], .bool, .rw, 0, [.tile], .any⟩,
   ⟨O.TILE_DEEPEST, [0], .enm, .rw, 1, [.tile], (.enum 3)⟩,
   ⟨O.TILE_WAKES, [0], .u64, .rc, 0, [.tile], .any⟩,
   ⟨O.TILE_TIME_IN, [1, 2, 3, 4], .u64, .rc, 0, [.tile], .any⟩,
   ⟨O.QCLK_FREQ, [0], .enm, .rw, 0, [.inst], (.enum 4)⟩,
   ⟨O.QPLL_STATE, [0], .enm, .ro, 1, [.quad], (.enum 3)⟩,
   ⟨O.QPLL_PARK_IDLE, [0], .u32, .rw, 0, [.quad], (.clip 10 100000000 true)⟩,
   ⟨O.QPLL_HOLD, [0], .bool, .rw, 0, [.quad], .any⟩,
   ⟨O.QPLL_RELOCKS, [0], .u32, .rc, 0, [.quad], .any⟩,
   ⟨O.CDC_TIMEOUT, [0], .u32, .rw, 1024, [.inst], (.clip 256 65536 false)⟩,
   ⟨O.CDC_TIMEOUTS, [0], .u32, .rc, 0, [.die], .any⟩]

/-- Catalogue rows of indexes 0x7000 to 0x70FF (R534). -/
def rows70 : List ObjRow :=
  [⟨O.CYC, [0], .u64, .ro, 0, [.tile], .any⟩,
   ⟨O.CNT_EVENT, [0, 1, 2, 3, 4, 5, 6, 7], .u16, .rw, 0, [.tile], .any⟩,
   ⟨O.CNT_VALUE, [0, 1, 2, 3, 4, 5, 6, 7], .u64, .rw, 0, [.tile], (.clip 0 281474976710655 false)⟩,
   ⟨O.CNT_CHAIN, [0, 1, 2, 3, 4, 5, 6], .bool, .rw, 0, [.tile], .any⟩,
   ⟨O.CNT_ENABLE, [0], .u8, .rw, 0, [.tile], .any⟩,
   ⟨O.CNT_OVF, [0], .u8, .rc, 0, [.tile], .any⟩,
   ⟨O.COLLECT_PERIOD, [0], .u32, .rw, 0, [.inst], (.clip 100 10000000 true)⟩,
   ⟨O.COLLECT_ADDR, [0], .u32, .rw, 0x20020000, [.inst], .any⟩,
   ⟨O.COLLECT_DONE, [0], .time80, .ro, 0, [.inst], .any⟩]

/-- Catalogue rows of indexes 0x7100 to 0x71FF (R534). -/
def rows71 : List ObjRow :=
  [⟨O.SNAPSHOT_AT, [0], .time80, .wo, 0, [.inst], .any⟩,
   ⟨O.SNAPSHOT_STATE, [0], .enm, .ro, 0, [.inst], (.enum 3)⟩,
   ⟨O.SNAPSHOT_TIME, [0], .time80, .ro, 0, [.inst], .any⟩,
   ⟨O.SHADOW_CYC, [0], .u64, .ro, 0, [.tile], .any⟩,
   ⟨O.SHADOW_CNT, [0, 1, 2, 3, 4, 5, 6, 7], .u64, .ro, 0, [.tile], .any⟩,
   ⟨O.TRACE_K, [0], .u8, .rw, 0, [.tile], .traceK⟩,
   ⟨O.TRACE_MODE, [0], .enm, .rw, 0, [.inst], (.enum 2)⟩,
   ⟨O.TRACE_COUNT, [0], .u32, .ro, 0, [.inst], .any⟩,
   ⟨O.TRACE_CLEAR, [0], .bool, .wo, 0, [.inst], .any⟩,
   ⟨O.TRACE_LOST, [0], .u64, .rc, 0, [.inst], .any⟩]

/-- Fault family rows (R535). -/
def rows60 : List ObjRow :=
  [⟨O.FAULT, [1], .u16, .rw, 0, [.tile, .seam, .sk, .sp, .cmn, .die, .inst], .any⟩,
   ⟨O.FAULT, [2], .u64, .rw, 0, [.tile, .seam, .sk, .sp, .cmn, .die, .inst], .any⟩,
   ⟨O.FAULT, [3], .bool, .rw, 0, [.tile, .seam, .sk, .sp, .cmn, .die, .inst], .any⟩,
   ⟨O.FAULT, [4], .u64, .wo, 0, [.tile, .seam, .sk, .sp, .cmn, .die, .inst], .any⟩,
   ⟨O.FAULT, [5], .u64, .rw, 0, [.tile, .seam, .sk, .sp, .cmn, .die, .inst], .any⟩,
   ⟨O.FAULT, [6, 7, 8, 9], .u64, .ro, 0, [.tile, .seam, .sk, .sp, .cmn, .die, .inst], .any⟩,
   ⟨O.FAULT_LANTERN, [1], .u16, .rw, 0, [.die], .any⟩,
   ⟨O.FAULT_LANTERN, [2], .u64, .rw, 0, [.die], .any⟩,
   ⟨O.FAULT_LANTERN, [3], .bool, .rw, 0, [.die], .any⟩,
   ⟨O.FAULT_LANTERN, [4], .u64, .wo, 0, [.die], .any⟩,
   ⟨O.FAULT_LANTERN, [5], .u64, .rw, 0, [.die], .any⟩,
   ⟨O.FAULT_LANTERN, [6, 7, 8, 9], .u64, .ro, 0, [.die], .any⟩]

/-- Table rows (R246, R612); each carries subindex 0 (R519). -/
def rows50 : List ObjRow :=
  [⟨O.FAM, [0], .entry64, .rwt, 0, [.inst, .die], .any⟩,
   ⟨O.SHARE_GROUP, [0], .blob 32, .rwt, 0, [.inst, .die], .any⟩,
   ⟨O.PBR_ROUTE, [0], .u16, .rwt, 0, [.inst, .die], .any⟩,
   ⟨O.FAM_STAGE, [0], .blob 16, .ro, 0, [.inst], .any⟩,
   ⟨O.TRACE, [0], .blob 64, .ro, 0, [.inst], .any⟩]

/-- The catalogue (R534, R535). -/
def catalogue : List ObjRow :=
  rows10 ++ rows11 ++ rows20a ++ rows20b ++ rows21 ++ rows22a ++ rows22b ++ rows23 ++ rows24 ++ rows30a ++ rows30b ++ rows31 ++ rows32 ++ rows33 ++ rows70 ++ rows71 ++ rows50 ++ rows60

/-- The row of an object in a scope type (R518). -/
def objRow (sc : Scope) (idx sub : Nat) : Option ObjRow :=
  catalogue.find? (fun r => r.idx == idx && r.subs.contains sub && r.scopes.contains sc)

/-- How many elements a table object has; 0 for an object that is no table. -/
def elemCount (idx : Nat) : Nat :=
  if idx = O.FAM then 1048576 else if idx = O.SHARE_GROUP then 4096 else if idx = O.PBR_ROUTE then 4096
  else if idx = O.FAM_STAGE then 4096 else if idx = O.TRACE then 49152 else 0

/-- Default priorities of the crossbar paths (R514). -/
def prioDefault (sub : Nat) : Nat :=
  if sub = 0x04 ∨ sub = 0x31 then 12 else if sub / 16 = 2 then 4 else 8

/-- The default of an object for unit `num` and subindex `sub` (R523, R534). -/
def objDefault (sc : Scope) (num idx sub : Nat) : Nat :=
  if idx = O.SA_WEIGHT then [0, 16, 8, 2, 4, 1].getD sub 0
  else if idx = O.SCHED_WEIGHT then [0, 0, 8, 2, 4, 1].getD (sub % 16) 0
  else if idx = O.EDGE_ICRED then [0, 32, 80, 32, 80, 16, 16, 80, 64].getD sub 0
  else if idx = O.EDGE_PROV then num
  else if idx = O.SP_PROV then 4092 + num
  else if idx = O.XBAR_PRIO then prioDefault sub
  else match objRow sc idx sub with
    | some r => r.dflt
    | none => 0

/-- The key of an object's value in the object store. -/
def objKey (sc : Scope) (num idx sub : Nat) : Nat := ((sc.code * 256 + num) * 65536 + idx) * 256 + sub

/-- The default at a key of the object store. -/
def keyDefault (k : Nat) : Nat :=
  match Scope.ofCode (k >>> 32) with
  | some sc => objDefault sc (field k 24 8) (field k 8 16) (field k 0 8)
  | none => 0

/-- Clips a value into lo to hi; `zero` lets 0 stand as written (R29). -/
def clipTo (lo hi : Nat) (zero : Bool) (v : Nat) : Nat :=
  if zero ∧ v = 0 then 0 else if v < lo then lo else if hi < v then hi else v

/-- Clips a signed value into -m to m (R29), in the 64-bit form. -/
def clipSigned (m : Nat) (v : Nat) : Nat :=
  let x := toSigned v 64
  if x < -(m : Int) then ofSigned (-(m : Int)) 64 else if (m : Int) < x then ofSigned m 64 else v

/-- What a written value becomes: the value to store, or `none` when the write ends with DENIED (R29, R522).
CLIPPED is reported when the stored value differs from the value written. -/
def judgeValue (ty : ObjTy) (rng : Rng) (sub v : Nat) : Option Nat :=
  match ty, rng with
  | .bool, _ => some (if v = 0 then 0 else 1)
  | _, .enum n => if v < n then some v else none
  | _, .clip lo hi z => some (clipTo lo hi z v)
  | _, .clipI m => some (clipSigned m v)
  | _, .mask n => some (v % 2 ^ n)
  | _, .margin => some (min (v % 256) 32 + 256 * min (field v 8 8) 127)
  | _, .icred =>
    if sub = 1 ∨ sub = 3 ∨ sub = 5 ∨ sub = 6 then some (clipTo 1 64 false v) else some (clipTo 52 96 false v)
  | _, .rate hi => if v = 0 then none else some (clipTo 1 hi false v)
  | _, .traceK => if 1 ≤ v ∧ v ≤ 3 then none else some (clipTo 0 24 false v)
  | _, .any => some v

/-- Whether storing `v'` for a written `v` reports CLIPPED (R29); dropping reserved bits and making a BOOL of a
non-zero value is no clip. -/
def isClipped (ty : ObjTy) (rng : Rng) (v v' : Nat) : Bool :=
  match ty, rng with
  | .bool, _ => false
  | _, .mask _ => false
  | _, _ => decide (v ≠ v')

/-- The greatest value of an RC counter of a type, where it stops (R524). -/
def ObjTy.top (ty : ObjTy) : Nat := 2 ^ (8 * ty.bytes) - 1

end Sys2Proof
end

