-- ==== Sys2Proof/Machine/LanternState.lean ====
section
/-! DEFINITION. LanternState: the state of a die's Lantern (R408 to R442), and the messages of the seam
sideband (R401, R404, R415). -/

namespace Sys2Proof.Machine

/-- Lantern states (R417, R420). -/
inductive LanternSt where
  | free | acquire | locked | holdover
  deriving DecidableEq, Repr

/-- LANTERN_STATE encoding (R441, R522). -/
def LanternSt.code : LanternSt → Nat
  | .free => 0 | .acquire => 1 | .locked => 2 | .holdover => 3

/-- A Lantern. Offsets and steps are in 2^-16 ns, the accumulator in 2^-40 ns (R410). -/
structure Lantern where
  /-- die time accumulator -/
  acc : Nat
  /-- INC adjustment, parts per 10^12 (LANTERN_RATE) -/
  rate : Int
  /-- rate that the integral term holds, parts per 10^12 -/
  base : Int
  /-- removals of offsets that run (R417): the rate of each in parts per 10^12, and the exchanges left to it -/
  removing : List (Int × Nat)
  /-- state -/
  st : LanternSt
  /-- the first large offset of ACQUIRE has been stepped (R417) -/
  stepped : Bool
  /-- integral term of the servo (R421), in 2^-16 ns -/
  integ : Int
  /-- consecutive good offsets -/
  good : Nat
  /-- consecutive exchanges without an offset -/
  miss : Nat
  /-- last offset -/
  offset : Int
  /-- last delay in ps -/
  delay : Nat
  /-- seam of the upstream in use (R414) -/
  upstream : Option Nat
  /-- hops from D0 that the die reports; 3 for no path (R415) -/
  hops : Nat
  /-- sequence and t1 of the exchange under way -/
  req : Option (Nat × Nat)
  /-- next exchange sequence -/
  seq : Nat
  /-- pending step: apply time and amount (R427); for LANTERN_SET the amount is found at apply time -/
  step : Option (Nat × Int)
  /-- sum of the steps since cold reset (R429), 96 bits signed -/
  stepSum : Int
  /-- run time of the last counted PPS_IN edge, or of the write that starts its timeout (R422) -/
  ppsAt : Nat
  /-- run time of the last counted PPS_IN edge (R634) -/
  edgeAt : Option Nat
  /-- die time in ns of the last PPS_IN edge -/
  ppsNs : Nat
  /-- run time of the last good sample, or of the write that starts its timeout (R426) -/
  upAt : Nat
  /-- die time in ns of the last good sample (R581) -/
  upNs : Nat
  /-- sequence of the last sample received (R425) -/
  upSeq : Option Nat
  /-- the last sample failed its CRC -/
  upBad : Bool
  /-- LREFCLK is present and the PLL is locked (R423) -/
  refOk : Bool
  /-- PPS_OUT is high since this time -/
  ppsOut : Option Nat
  /-- whole second of the last PPS_OUT rise -/
  ppsSec : Nat
  /-- tile time registers that differ from the die time: signed difference in 2^-40 ns (R411) -/
  dev : SMap Int
  /-- last time frame of each port group of the die (R435) -/
  frames : SMap Nat
  /-- the time bus carries STATE INVALID (R438) -/
  invalid : Bool
  deriving DecidableEq, Repr

/-- A Lantern at the end of a cold instance reset (R408, R441). -/
def Lantern.reset : Lantern :=
  ⟨0, 0, 0, [], .free, false, 0, 0, 0, 0, 0, none, 3, none, 0, none, 0, 0, none, 0, 0, 0, none, false, true, none, 0, [],
    [], false⟩

/-- Die time as TIME80. -/
def Lantern.time (l : Lantern) : Nat := l.acc / 2 ^ 24 % 2 ^ 80

/-- Run time of the die (R429), as TIME80 units. -/
def Lantern.run (l : Lantern) : Int := (l.time : Int) - l.stepSum

/-- INC in 2^-40 ns for one LCLK cycle of 2 ns (R410). -/
def Lantern.inc (l : Lantern) : Nat := ((2 : Int) ^ 41 + (2 : Int) ^ 41 * l.rate / 1000000000000).toNat

/-- Time of a tile's register as TIME80 (R411). -/
def Lantern.tileTime (l : Lantern) (t : Nat) : Nat :=
  (((l.acc : Int) + l.dev.get (fun _ => 0) t).toNat / 2 ^ 24) % 2 ^ 80

/-- Nanoseconds as TIME80 units. -/
def ns (n : Nat) : Nat := n * 65536
/-- Microseconds as TIME80 units. -/
def us (n : Nat) : Nat := n * 65536000
/-- Milliseconds as TIME80 units. -/
def ms (n : Nat) : Nat := n * 65536000000

end Sys2Proof.Machine
end

