-- ==== Sys2Proof/Config.lean ====
section
/-! DEFINITION. Config: the values the spec leaves open, as constants with no body. A statement about one of
them holds whatever its value. -/

namespace Sys2Proof.Config

/-- The SECDED code of R69 over the 117 header bits. The spec does not give the matrix, so the stored check is
an uninterpreted function of the 128-bit header. Free value (log 2). -/
opaque hchk : Nat → Nat

/-- A value that the spec leaves undefined, for the `n`-th time one is needed. Free value (log 3). -/
opaque free : Nat → Nat

/-- The CXL opcode that a synthesised or violation answer carries in QUAL, for the message named by its
argument: 0 MemData, 1 Cmp, 2 BI-ConflictAck, 3 H2D_RSP GO-Err, 4 H2D_RSP GO, 5 BIRspI, 6 RspIHitI.
The spec names the messages and not their encodings. Free value (log 4). -/
opaque cxlOpcode : Nat → Nat

/-- The other QUAL fields of an H2D_RSP that the block makes: 0 and 1 the cache state of GO-Err and of GO with state I,
2 RspPRE. Free value (log 4). -/
opaque cxlState : Nat → Nat

/-- Whether a D2H_REQ with this CXL opcode expects data (R166, R211). The CXL specification decides it, and
spec/ does not list it. Free value (log 4). -/
opaque d2hExpectsData : Nat → Bool

/-- The byte at an address of the boot ROM (R508). Free value (log 5). -/
opaque bootRom : Nat → Nat

/-- The trace LFSR of an NI (R607) after one step: the spec gives its width and not its polynomial. Free value
(log 7). -/
opaque lfsrNext : BitVec 32 → BitVec 32

/-- The seed of the trace LFSR from the tile number and the first four bytes of INSTANCE_NONCE (R607). Free value
(log 7). -/
opaque lfsrSeed : Nat → Nat → BitVec 32

/-- Whether an LFSR value tags the packet at TRACE_K `k` (R607). Free value (log 7). -/
opaque sampled : BitVec 32 → Nat → Bool

/-- The rate, in parts per 10^12, that the integral term of a LOCKED follower holds after an offset, from the rate
before and the offset (R417): the spec gives the term and not its gain. Free value (log 12). -/
opaque followerRate : Int → Int → Int

/-- The identifier and the length in bytes that the header of a Warden image gives, from the content of Warden SRAM
(R510, R555, R606): the spec names both and gives no layout of the header. Free value (log 13). -/
opaque imageHeader : List (Nat × BitVec 8) → Nat × Nat

/-- The field polynomial of GF(2^10) below its top bit (R374): the spec names the code and not the polynomial. Free value
(log 84). -/
opaque rsPoly : Nat

/-- The power of the first root of the generator of RS(154,136) (R374). Free value (log 84). -/
opaque rsFirst : Nat

/-- What the decoder makes of a received word with more than 9 wrong symbols (R374, R377): the message of another codeword,
or none. Free value (log 84). -/
opaque rsBeyond : Nat → Option Nat

/-- The 55 bits of PRBS13Q that a spare in training for repair carries in a frame, by the number of the frame (R388). Free
value (log 85). -/
opaque prbs13 : Nat → Nat

/-- The FFE taps that the block sets on a lane at training, by crossing-side and lane (R371, R372). Free value (log 85). -/
opaque txTaps : Nat → Nat → Nat

/-- Which of the lanes in use drives SRCLK, by crossing-side and the mask of excluded lanes (R369). Free value (log 85). -/
opaque clockLane : Nat → Nat → Nat

end Sys2Proof.Config
end

