-- ==== Sys2Proof/Machine/Geometry.lean ====
section
/-! DEFINITION. Geometry: tiles, coordinates, ports, seams and the units placed on tiles (R6 to R16, R33 to
R40), and the dimension-order route (R100). A tile is its number 0 to 255; a router port is its number of R578:
N 0, S 1, E 2, W 3, XE 4, YE 5, slot 0 6, slot 1 7. -/

namespace Sys2Proof

/-- Die of a tile (R7). -/
def dieOf (t : Nat) : Nat := t / 64
/-- Column of a tile within its die (R7). -/
def xOf (t : Nat) : Nat := t % 8
/-- Row of a tile within its die (R7). -/
def yOf (t : Nat) : Nat := t / 8 % 8
/-- Global column (R8). -/
def gxOf (t : Nat) : Nat := xOf t + 8 * (dieOf t % 2)
/-- Global row (R8). -/
def gyOf (t : Nat) : Nat := yOf t + 8 * (dieOf t / 2)
/-- The tile at global coordinates (R7, R8). -/
def tileAt (gx gy : Nat) : Nat := 64 * (gx / 8 + 2 * (gy / 8)) + 8 * (gy % 8) + gx % 8
/-- Quadrant of a tile (R10). -/
def quadOf (t : Nat) : Nat := 4 * dieOf t + 2 * (yOf t / 4) + xOf t / 4
/-- The tiles of a quadrant. -/
def tilesOfQuad (q : Nat) : List Nat := (List.range 256).filter (fun t => quadOf t == q)
/-- The tiles of a die. -/
def tilesOfDie (d : Nat) : List Nat := (List.range 64).map (fun i => 64 * d + i)

/-- Router ports by their numbers of R578. -/
def pN : Nat := 0
@[inherit_doc pN] def pS : Nat := 1
@[inherit_doc pN] def pE : Nat := 2
@[inherit_doc pN] def pW : Nat := 3
@[inherit_doc pN] def pXE : Nat := 4
@[inherit_doc pN] def pYE : Nat := 5
@[inherit_doc pN] def pSlot0 : Nat := 6
@[inherit_doc pN] def pSlot1 : Nat := 7
/-- The sender that feeds slot 0 of the router: the edge NI (a sender number of the model, not a port). -/
def sndNi : Nat := 8
/-- The sender that feeds slot 1 of the router: the slot-1 unit. -/
def sndUnit : Nat := 9

/-- The kinds of slot-1 unit (R40). -/
inductive Unit1 where
  | none | sp (n : Nat) | cmn (n : Nat) | sk (n : Nat)
  deriving DecidableEq, Repr

/-- The unit in slot 1 of a tile (R40). -/
def unit1 (t : Nat) : Unit1 :=
  let d := dieOf t
  if xOf t = 0 ∧ yOf t = 0 then .sp d
  else if xOf t = 3 ∧ yOf t = 3 then .cmn (2 * d)
  else if xOf t = 4 ∧ yOf t = 4 then .cmn (2 * d + 1)
  else if xOf t = 0 ∧ yOf t = 7 then .sk (2 * d)
  else if xOf t = 7 ∧ yOf t = 0 then .sk (2 * d + 1)
  else .none

/-- Tile of service port `d` (R16). -/
def spTile (d : Nat) : Nat := 64 * d
/-- Tile of Commons bank `n` (R16, R40). -/
def cmnTile (n : Nat) : Nat := 64 * (n / 2) + (if n % 2 = 0 then 27 else 36)
/-- Tile of spill port `n` (R16, R40). -/
def skTile (n : Nat) : Nat := 64 * (n / 2) + (if n % 2 = 0 then 56 else 7)
/-- Whether a tile holds a service port. -/
def isSpTile (t : Nat) : Bool := t % 64 == 0
/-- Whether a tile holds a Commons bank. -/
def isCmnTile (t : Nat) : Bool := t % 64 == 27 || t % 64 == 36

/-- The seam-side and crossing behind a mesh port of a tile, where the die edge faces another die
(R14, R15, R38). -/
def seamPort (t p : Nat) : Option (Nat × Nat) :=
  let d := dieOf t
  if p = pE ∧ xOf t = 7 ∧ d % 2 = 0 then some (if d = 0 then 0 else 2, yOf t)
  else if p = pW ∧ xOf t = 0 ∧ d % 2 = 1 then some (if d = 1 then 1 else 3, yOf t)
  else if p = pS ∧ yOf t = 7 ∧ d / 2 = 0 then some (if d = 0 then 4 else 6, xOf t)
  else if p = pN ∧ yOf t = 0 ∧ d / 2 = 1 then some (if d = 2 then 5 else 7, xOf t)
  else none

/-- Die of a seam-side (R15). -/
def sideDie (ss : Nat) : Nat := [0, 1, 2, 3, 0, 2, 1, 3].getD ss 0
/-- Seam of a seam-side (R15). -/
def sideSeam (ss : Nat) : Nat := ss / 2
/-- The seam-side that faces a seam-side (R15). -/
def farSide (ss : Nat) : Nat := if ss % 2 = 0 then ss + 1 else ss - 1
/-- The seam-sides of a die (R15). -/
def sidesOfDie (d : Nat) : List Nat := (List.range 8).filter (fun ss => sideDie ss == d)
/-- The tile and port behind crossing `c` of a seam-side (R14, R38). -/
def sideTile (ss c : Nat) : Nat × Nat :=
  let base := 64 * sideDie ss
  if ss < 4 then (if ss % 2 = 0 then (base + 8 * c + 7, pE) else (base + 8 * c, pW))
  else (if ss % 2 = 0 then (base + 56 + c, pS) else (base + c, pN))

/-- The neighbour that a port joins within the die, with the port at its far end (R35, R36); `none` for a
seam port, an unconnected port (R39) and the slots. -/
def neighbour (t p : Nat) : Option (Nat × Nat) :=
  let x := xOf t
  let y := yOf t
  if p = pN then (if y = 0 then none else some (t - 8, pS))
  else if p = pS then (if y = 7 then none else some (t + 8, pN))
  else if p = pE then (if x = 7 then none else some (t + 1, pW))
  else if p = pW then (if x = 0 then none else some (t - 1, pE))
  else if p = pXE then some (if x ≤ 3 then t + 4 else t - 4, pXE)
  else if p = pYE then some (if y ≤ 3 then t + 32 else t - 32, pYE)
  else none

/-- Whether a port is joined to anything (R39, R40). -/
def connected (t p : Nat) : Bool :=
  if p = pSlot0 then true
  else if p = pSlot1 then decide (unit1 t ≠ .none)
  else (neighbour t p).isSome || (seamPort t p).isSome

/-- Seam crossing of a die that a side's tile uses, for a die-edge row or column (R106): the seam-side of die
`d` on its vertical seam. -/
def verticalSide (d : Nat) : Nat := d
/-- The seam-side of die `d` on its horizontal seam. -/
def horizontalSide (d : Nat) : Nat := [4, 6, 5, 7].getD d 4

/-- Signed distance between two global coordinates. -/
def delta (a b : Nat) : Int := (b : Int) - (a : Int)

/-- The express reach in a dimension whose local coordinate is `c` (R100). -/
def reach (c : Nat) : Int := if c ≤ 3 then 4 else -4

/-- Whether the express port may carry a distance without overshoot (R100). -/
def expressFits (dl : Int) (c : Nat) : Bool :=
  decide (0 < reach c * dl) && decide ((reach c).natAbs ≤ dl.natAbs)

/-- `step` of R100: the output of one dimension. -/
def stepOut (dl : Int) (express plus minus c : Nat) : Nat :=
  if expressFits dl c then express else if 0 < dl then plus else minus

/-- `productive` of R103: the outputs of one dimension that reduce the distance. -/
def productive (dl : Int) (express plus minus c : Nat) : List Nat :=
  (if 0 < dl then plus else minus) :: (if expressFits dl c then [express] else [])

/-- `route_escape` of R100: the escape output at router `r` for a destination tile and slot. -/
def routeEscape (r dt ds : Nat) : Nat :=
  let dx := delta (gxOf r) (gxOf dt)
  let dy := delta (gyOf r) (gyOf dt)
  if dx ≠ 0 then stepOut dx pXE pE pW (xOf r)
  else if dy ≠ 0 then stepOut dy pYE pS pN (yOf r)
  else if ds = 0 then pSlot0 else pSlot1

/-- The outputs of `candidates` of R103 before any is removed. -/
def productiveAll (r dt ds : Nat) : List Nat :=
  let dx := delta (gxOf r) (gxOf dt)
  let dy := delta (gyOf r) (gyOf dt)
  if dx = 0 ∧ dy = 0 then [if ds = 0 then pSlot0 else pSlot1]
  else (if dx ≠ 0 then productive dx pXE pE pW (xOf r) else [])
    ++ (if dy ≠ 0 then productive dy pYE pS pN (yOf r) else [])

/-- The global coordinates of the tile at which an output lands (R35 to R38). -/
def landing (r p : Nat) : Nat × Nat :=
  let gx := gxOf r
  let gy := gyOf r
  if p = pN then (gx, gy - 1) else if p = pS then (gx, gy + 1)
  else if p = pE then (gx + 1, gy) else if p = pW then (gx - 1, gy)
  else if p = pXE then (if xOf r ≤ 3 then gx + 4 else gx - 4, gy)
  else if p = pYE then (gx, if yOf r ≤ 3 then gy + 4 else gy - 4)
  else (gx, gy)

/-- The crossing ahead of a candidate output (R106): the seam-side of the router's die and the crossing that
the escape route from the landing tile uses, if it uses one. -/
def crossingAhead (r dt p : Nat) : Option (Nat × Nat) :=
  let l := landing r p
  let d := dieOf r
  let ld := l.1 / 8 + 2 * (l.2 / 8)
  if ld ≠ d then none
  else if l.1 / 8 ≠ gxOf dt / 8 then some (verticalSide d, l.2 % 8)
  else if l.2 / 8 ≠ gyOf dt / 8 then some (horizontalSide d, xOf dt)
  else none

/-- Rank of an escape channel (R124): output `p` of the router of tile `t`; slots are 33. -/
def escapeRank (t p : Nat) : Nat :=
  if p = pE then 1 + gxOf t
  else if p = pW then 16 - gxOf t
  else if p = pXE then (if xOf t ≤ 3 then 1 + gxOf t else 16 - gxOf t)
  else if p = pS then 17 + gyOf t
  else if p = pN then 32 - gyOf t
  else if p = pYE then (if yOf t ≤ 3 then 17 + gyOf t else 32 - gyOf t)
  else 33

end Sys2Proof
end

