-- ==== Sys2Proof/Machine/Packet.lean ====
section
/-! DEFINITION. Packet: flits, the header (R60), the response view (R68), the extent word (R73), the opcode
table (R77), body and length (R70) and the packets that the block itself makes (R165, R166, R211). -/

namespace Sys2Proof

/-- A flit with its slot control (R54). VC and LCHK belong to the link; the rest travels with the flit. -/
structure Flit where
  /-- DATA, 640 bits -/
  data : BitVec 640
  /-- head flit of its packet -/
  first : Bool
  /-- last flit of its packet -/
  last : Bool
  /-- the flit's data is poisoned -/
  psn : Bool
  /-- header check, meaningful on a head flit -/
  hchk : BitVec 8
  deriving DecidableEq, Repr

/-- A packet: its flits, head first. -/
abbrev Packet := List Flit

/-- A flit of zeros. -/
def Flit.zero : Flit := ⟨0, false, false, false, 0⟩

/-- A bit field of the flit's data. -/
def Flit.fld (f : Flit) (lo n : Nat) : Nat := field f.data.toNat lo n
/-- The flit with a bit field of its data replaced. -/
def Flit.put (f : Flit) (lo n x : Nat) : Flit := { f with data := BitVec.ofNat 640 (setField f.data.toNat lo n x) }

/-- The head flit of a packet. -/
def headOf (p : Packet) : Flit := p.headD Flit.zero
/-- The packet with its head flit changed. -/
def mapHead (f : Flit → Flit) : Packet → Packet
  | [] => []
  | x :: xs => f x :: xs

/-- A header bit field of a packet (R60). -/
def hdr (p : Packet) (lo n : Nat) : Nat := (headOf p).fld lo n
/-- DEST_TILE (R60). -/
def destTile (p : Packet) : Nat := hdr p 0 8
/-- DEST_SLOT (R60). -/
def destSlot (p : Packet) : Nat := hdr p 8 1
/-- SRC_TILE (R60). -/
def srcTile (p : Packet) : Nat := hdr p 9 8
/-- SRC_SLOT (R60). -/
def srcSlot (p : Packet) : Nat := hdr p 17 1
/-- MC (R60). -/
def mcOf (p : Packet) : Nat := hdr p 18 3
/-- SC (R60). -/
def scOf (p : Packet) : Nat := hdr p 21 3
/-- OPC (R60). -/
def opcOf (p : Packet) : Nat := hdr p 24 5
/-- ORD (R60). -/
def ordOf (p : Packet) : Nat := hdr p 29 1
/-- SAMPLE (R60). -/
def sampleOf (p : Packet) : Bool := hdr p 31 1 == 1
/-- LEN (R60). -/
def lenOf (p : Packet) : Nat := hdr p 32 6
/-- TAG (R60). -/
def tagOf (p : Packet) : Nat := hdr p 38 11
/-- OID or QUAL (R60, R62). -/
def oidOf (p : Packet) : Nat := hdr p 49 10
/-- HOPS (R60). -/
def hopsOf (p : Packet) : Nat := hdr p 59 5
/-- PROV (R60). -/
def provOf (p : Packet) : Nat := hdr p 64 12
/-- ADDR, the line address [51:6] (R66). -/
def addrOf (p : Packet) : Nat := hdr p 76 46
/-- STATUS of the response view (R68). -/
def statusOf (p : Packet) : Nat := hdr p 76 3
/-- BCNT of the response view (R68). -/
def rspBcnt (p : Packet) : Nat := hdr p 83 13
/-- PARTS of the response view (R68). -/
def partsOf (p : Packet) : Nat := hdr p 103 2
/-- The 128 header bits. -/
def header (p : Packet) : Nat := hdr p 0 128

/-- The extent word, the first 8 bytes of the body (R73). -/
def extent (p : Packet) : Nat := hdr p 128 64
/-- BOFF of the extent word (R73). -/
def boffOf (p : Packet) : Nat := field (extent p) 0 6
/-- BCNT of the extent word (R73). -/
def bcntOf (p : Packet) : Nat := field (extent p) 6 13
/-- KIND of the extent word (R73). -/
def kindOf (p : Packet) : Nat := field (extent p) 19 3

/-- The body bytes of a packet as one little-endian number (R23): 64 bytes of the head flit, then 80 of each
later flit. -/
def bodyNat : Packet → Nat
  | [] => 0
  | h :: rest =>
    h.fld 128 512 + 2 ^ 512 * (rest.foldr (fun f acc => f.data.toNat + 2 ^ 640 * acc) 0)

/-- Whether any flit of the packet is poisoned (R59). -/
def poisoned (p : Packet) : Bool := p.any (·.psn)

/-- The room for body bytes in `n` flits, C(n) (R70). -/
def capacity (n : Nat) : Nat := 64 + 80 * (n - 1)

/-- The smallest LEN whose capacity holds `size` body bytes (R70). -/
def lenFor (size : Nat) : Nat := if size ≤ 64 then 1 else 1 + (size - 64 + 79) / 80

/-- Continuation flits with the given body number, `n` of them. -/
def moreFlits (psn : Bool) : Nat → Nat → List Flit
  | 0, _ => []
  | n + 1, v => ⟨BitVec.ofNat 640 v, false, n == 0, psn, 0⟩ :: moreFlits psn n (v >>> 640)

/-- The header with the HOPS field and the reserved bits zero: what HCHK covers (R69). -/
def hchkInput (h : Nat) : Nat := setField (h % 2 ^ 122) 59 5 0

/-- A packet of LEN flits with header `h` (LEN written into it) and body `body`; `psn` marks every data flit
as poisoned. HCHK is generated over the header (R69). -/
def mkPacket (h body len : Nat) (psn : Bool) : Packet :=
  let h' := setField h 32 6 len
  ⟨BitVec.ofNat 640 (h' % 2 ^ 128 + 2 ^ 128 * body), true, len == 1, psn, BitVec.ofNat 8 (Config.hchk (hchkInput h'))⟩
    :: moreFlits psn (len - 1) (body >>> 512)

/-- Regenerates HCHK over the header fields of a packet (R69). -/
def rehchk (p : Packet) : Packet :=
  mapHead (fun f => { f with hchk := BitVec.ofNat 8 (Config.hchk (hchkInput (f.fld 0 128))) }) p

/-! ## The opcode table (R77) -/

/-- Routing kinds of the opcode table. -/
inductive RouteKind where
  | fam | pbr | famOrPbr | response | direct | pbrOrDirect
  deriving DecidableEq, Repr

/-- Service-class entries of the opcode table (R79). -/
inductive ScRule where
  | memory | memoryD2h | fixed (sc : Nat) | echo | msg
  deriving DecidableEq, Repr

/-- Body sizes of the opcode table. -/
inductive BodyRule where
  | bytes (n : Nat)          -- a fixed size
  | extentOnly               -- 8 bytes
  | extentData               -- 8 + BCNT of the extent word
  | rspData                  -- BCNT of the response view
  | extentMsg                -- 8, or 8 + BCNT for KIND 1
  | any                      -- any LEN (DATAGRAM)
  deriving DecidableEq, Repr

/-- A row of the opcode table (R77). -/
structure OpRow where
  /-- message class -/
  mc : Nat
  /-- opcode -/
  opc : Nat
  /-- route -/
  route : RouteKind
  /-- service class -/
  sc : ScRule
  /-- ORD (R63) -/
  ord : Bool
  /-- greatest KIND of the extent word, when the opcode has one -/
  kinds : Option Nat
  /-- body size -/
  body : BodyRule
  /-- a port controller may present it (R78) -/
  edge : Bool
  deriving DecidableEq, Repr

/-- The opcode table (R77), message classes 0 and 1. -/
def opRowsReq : List OpRow :=
  [⟨0, 0x00, .fam, .memory, false, none, .bytes 0, true⟩,
   ⟨0, 0x01, .fam, .memory, false, none, .bytes 0, true⟩,
   ⟨0, 0x02, .fam, .memory, false, none, .bytes 0, true⟩,
   ⟨0, 0x03, .fam, .memory, false, none, .bytes 0, true⟩,
   ⟨0, 0x04, .fam, .memory, false, none, .bytes 0, true⟩,
   ⟨0, 0x05, .fam, .memory, false, none, .bytes 0, true⟩,
   ⟨0, 0x06, .fam, .fixed 1, false, none, .bytes 0, true⟩,
   ⟨0, 0x08, .pbr, .memoryD2h, false, none, .bytes 0, true⟩,
   ⟨0, 0x0C, .pbr, .fixed 4, true, some 2, .extentOnly, true⟩,
   ⟨0, 0x0D, .famOrPbr, .fixed 4, false, some 7, .extentOnly, true⟩,
   ⟨0, 0x10, .direct, .fixed 4, true, some 7, .extentOnly, false⟩,
   ⟨0, 0x11, .direct, .fixed 4, true, some 7, .extentOnly, false⟩,
   ⟨1, 0x00, .fam, .memory, false, none, .bytes 64, true⟩,
   ⟨1, 0x01, .fam, .memory, false, none, .bytes 72, true⟩,
   ⟨1, 0x0C, .pbr, .fixed 4, true, some 4, .extentData, true⟩,
   ⟨1, 0x0D, .famOrPbr, .fixed 4, false, some 7, .extentData, true⟩,
   ⟨1, 0x10, .direct, .fixed 4, true, some 7, .extentData, false⟩,
   ⟨1, 0x11, .direct, .fixed 4, true, some 7, .extentData, false⟩]

/-- The opcode table (R77), message classes 2 to 7. -/
def opRowsRest : List OpRow :=
  [⟨2, 0x00, .response, .echo, false, none, .bytes 0, true⟩,
   ⟨2, 0x08, .response, .echo, false, none, .bytes 0, true⟩,
   ⟨2, 0x0C, .response, .echo, false, none, .bytes 0, true⟩,
   ⟨2, 0x10, .response, .echo, false, none, .bytes 0, false⟩,
   ⟨2, 0x1E, .response, .echo, false, none, .bytes 0, false⟩,
   ⟨3, 0x00, .response, .echo, false, none, .bytes 64, true⟩,
   ⟨3, 0x08, .response, .echo, false, none, .bytes 64, true⟩,
   ⟨3, 0x09, .response, .echo, false, none, .bytes 64, true⟩,
   ⟨3, 0x0C, .response, .echo, false, none, .rspData, true⟩,
   ⟨3, 0x10, .response, .echo, false, none, .rspData, false⟩,
   ⟨4, 0x00, .pbr, .fixed 1, false, none, .bytes 0, true⟩,
   ⟨4, 0x08, .pbr, .fixed 1, false, none, .bytes 0, true⟩,
   ⟨5, 0x00, .response, .fixed 1, false, none, .bytes 0, true⟩,
   ⟨5, 0x08, .response, .fixed 1, false, none, .bytes 0, true⟩,
   ⟨6, 0x00, .pbr, .fixed 4, true, some 7, .extentData, true⟩,
   ⟨6, 0x01, .pbr, .msg, true, some 1, .extentMsg, true⟩,
   ⟨6, 0x1E, .pbr, .fixed 4, true, none, .bytes 0, false⟩,
   ⟨7, 0x00, .direct, .fixed 0, false, none, .any, false⟩,
   ⟨7, 0x01, .direct, .fixed 0, false, none, .any, false⟩,
   ⟨7, 0x02, .direct, .fixed 0, false, none, .any, false⟩,
   ⟨7, 0x03, .direct, .fixed 0, false, none, .any, false⟩,
   ⟨7, 0x08, .pbrOrDirect, .fixed 5, false, none, .any, true⟩]

/-- The row of an MC and OPC pair; a pair not listed is undefined (R77). -/
def opRow (mc opc : Nat) : Option OpRow :=
  (opRowsReq ++ opRowsRest).find? (fun r => r.mc == mc && r.opc == opc)

/-- Whether the opcode carries an extent word (R73, R77). -/
def hasExtent (r : OpRow) : Bool := r.kinds.isSome

/-- The body size that the opcode table gives a packet, when it fixes one (R70, R77). -/
def bodySize (r : OpRow) (p : Packet) : Option Nat :=
  match r.body with
  | .bytes n => some n
  | .extentOnly => some 8
  | .extentData => some (8 + bcntOf p)
  | .rspData => some (rspBcnt p)
  | .extentMsg => some (if kindOf p = 1 then 8 + bcntOf p else 8)
  | .any => none

/-- Whether the packet is a request that holds a tag (R80). -/
def isRequest (p : Packet) : Bool := mcOf p == 0 || mcOf p == 1 || mcOf p == 4
/-- Whether the packet is a response (R68). -/
def isResponse (p : Packet) : Bool := mcOf p == 2 || mcOf p == 3 || mcOf p == 5
/-- MEM_SPEC_RD (R77). -/
def isSpecRd (p : Packet) : Bool := mcOf p == 0 && opcOf p == 4
/-- FLUSH (R77). -/
def isFlush (p : Packet) : Bool := mcOf p == 6 && opcOf p == 0x1E
/-- FLUSH_DONE (R77). -/
def isFlushDone (p : Packet) : Bool := mcOf p == 2 && opcOf p == 0x1E
/-- An envelope of Stuffsack (R346). -/
def isEnvelope (p : Packet) : Bool := opcOf p == 0x1F
/-- The packets that R88 guards: IO_NP_RD, IO_NP_WR, IO_CPL and IO_CPLD. -/
def isGuarded (p : Packet) : Bool := opcOf p == 0x0C && mcOf p ≤ 3
/-- Traffic pinned to the escape VCs by its header (R96): ORD 1, or an envelope. -/
def isPinned (p : Packet) : Bool := ordOf p == 1 || isEnvelope p

/-- The VC number of a message class (R54): bit 0 is 1 for the escape VC. -/
def vcOf (mc : Nat) (escape : Bool) : Nat := 2 * mc + b2n escape

/-! ## Responses that the block makes -/

/-- One part of an answer: message class, opcode, QUAL, BCNT, and the body size in bytes. -/
structure Part where
  /-- message class -/
  mc : Nat
  /-- opcode -/
  opc : Nat
  /-- QUAL -/
  qual : Nat
  /-- BCNT of the response view -/
  bcnt : Nat
  /-- data bytes -/
  size : Nat
  deriving DecidableEq, Repr

/-- How the block answers in place of a target: by a poisoned completion (R166) or as a violation (R211). -/
inductive AnswerKind where
  | poison | violation
  deriving DecidableEq, Repr

/-- The operand size in bytes of an atomic IO_NP_WR: a compare-and-swap carries two operands (R166).
DEDUCED (log 6). -/
def operandSize (p : Packet) : Nat := if kindOf p = 4 then bcntOf p / 2 else bcntOf p

/-- QUAL of a response whose CXL opcode stands in [3:0] (R62, R77): the rest is zero. -/
def qual4 (k : Nat) : Nat := Config.cxlOpcode k % 16
/-- QUAL of a D2H_RSP, whose CXL opcode stands in [4:0] (R62, R77). -/
def qual5 (k : Nat) : Nat := Config.cxlOpcode k % 32
/-- QUAL of an H2D_RSP (R62, R77): CXL opcode [3:0], cache state [7:4], RspPRE [9:8]. -/
def qualH2d (k : AnswerKind) : Nat :=
  match k with
  | .poison => qual4 3 + Config.cxlState 0 % 16 * 16 + Config.cxlState 2 % 4 * 256
  | .violation => qual4 4 + Config.cxlState 1 % 16 * 16 + Config.cxlState 2 % 4 * 256

/-- The parts that answer a request (R166 and R211); none for a packet that expects no response. -/
def answerParts (k : AnswerKind) (p : Packet) : List Part :=
  let pcie := match k with | .poison => 0b100 | .violation => 0
  match mcOf p, opcOf p with
  | 0, 0x00 => [⟨3, 0x00, qual4 0, 0, 64⟩]
  | 0, 0x01 => [⟨3, 0x00, qual4 0, 0, 64⟩]
  | 0, 0x02 => [⟨2, 0x00, qual4 1, 0, 0⟩]
  | 0, 0x03 => [⟨2, 0x00, qual4 1, 0, 0⟩]
  | 0, 0x05 => [⟨2, 0x00, qual4 1, 0, 0⟩]
  | 0, 0x06 => [⟨2, 0x00, qual4 2, 0, 0⟩]
  | 0, 0x08 =>
    ⟨2, 0x08, qualH2d k, 0, 0⟩
      :: (if Config.d2hExpectsData (field (oidOf p) 0 5) then
            [⟨3, 0x08, (match k with | .poison => 1 | .violation => 0), 0, 64⟩] else [])
  | 0, 0x0C => [⟨3, 0x0C, pcie, bcntOf p, bcntOf p⟩]
  | 0, 0x0D => [⟨3, 0x0C, pcie, bcntOf p, bcntOf p⟩]
  | 0, 0x10 => [⟨3, 0x10, 0, 0, bcntOf p⟩]
  | 0, 0x11 => [⟨3, 0x10, 0, 0, bcntOf p⟩]
  | 1, 0x00 => [⟨2, 0x00, qual4 1, 0, 0⟩]
  | 1, 0x01 => [⟨2, 0x00, qual4 1, 0, 0⟩]
  | 1, 0x0C =>
    if kindOf p ≤ 1 then [⟨2, 0x0C, pcie, 0, 0⟩] else [⟨3, 0x0C, pcie, operandSize p, operandSize p⟩]
  | 1, 0x0D => [⟨2, 0x0C, pcie, 0, 0⟩]
  | 1, 0x10 => [⟨2, 0x10, 0, 0, 0⟩]
  | 1, 0x11 => [⟨2, 0x10, 0, 0, 0⟩]
  | 4, 0x00 => [⟨5, 0x00, qual4 5, 0, 0⟩]
  | 4, 0x08 => [⟨5, 0x08, qual5 6, 0, 0⟩]
  | _, _ => []

/-- The header of a response packet: the fields of R60 and of the response view (R68). -/
def rspHeader (dt ds st ss mc opc sc tag qual prov status bcnt parts : Nat) : Nat :=
  dt + ds * 2 ^ 8 + st * 2 ^ 9 + ss * 2 ^ 17 + mc * 2 ^ 18 + sc * 2 ^ 21 + opc * 2 ^ 24 + tag * 2 ^ 38
    + (qual % 1024) * 2 ^ 49 + prov * 2 ^ 64 + status * 2 ^ 76 + bcnt * 2 ^ 83 + parts * 2 ^ 103

/-- LOWADDR of an answer to a request: the low seven bits of the first byte's address on an IO_CPLD that answers a
memory read, 0 otherwise (R68). PRESUMED for the meaning of the PCIe field (log 9). -/
def lowAddr (req : Packet) (a : Part) : Nat :=
  if a.mc = 3 ∧ a.opc = 0x0C ∧ mcOf req = 0 ∧ kindOf req = 0 then (addrOf req * 64 + boffOf req) % 128 else 0

/-- An answer part as a packet (R165, R211, R663): `src` is SRC_TILE and SRC_SLOT, `body` its data. -/
def mkAnswer (req : Packet) (src : Nat × Nat) (sc prov status parts : Nat) (psn : Bool) (a : Part) (body : Nat) :
    Packet :=
  mkPacket (rspHeader (srcTile req) (srcSlot req) src.1 src.2 a.mc a.opc sc (tagOf req) a.qual prov status a.bcnt
    parts + lowAddr req a * 2 ^ 96) body (lenFor a.size) (psn && decide (0 < a.size))

/-- The header of a request that a unit of the block sends (R60). -/
def reqHeader (dt ds st ss mc sc opc ord tag oid prov addr : Nat) : Nat :=
  dt + ds * 2 ^ 8 + st * 2 ^ 9 + ss * 2 ^ 17 + mc * 2 ^ 18 + sc * 2 ^ 21 + opc * 2 ^ 24 + ord * 2 ^ 29
    + tag * 2 ^ 38 + oid * 2 ^ 49 + prov * 2 ^ 64 + addr * 2 ^ 76

/-- A one-flit MC7 packet of the block on SC0 (R77, R170, R242). -/
def mkControl (dt ds st ss opc prov body : Nat) : Packet :=
  mkPacket (reqHeader dt ds st ss 7 0 opc 0 0 0 prov 0) body 1 false

/-- Opcodes of the internal MC7 packets (R77). -/
def opcLensInv : Nat := 0
@[inherit_doc opcLensInv] def opcDrainMark : Nat := 1
@[inherit_doc opcLensInv] def opcDrainDone : Nat := 2
@[inherit_doc opcLensInv] def opcPortEvent : Nat := 3
@[inherit_doc opcLensInv] def opcDatagram : Nat := 8

/-! ## Envelopes of Stuffsack (R346) -/

/-- Envelope kinds (R346). -/
inductive EnvKind where
  | spill | ret | ask | grant | pull | none | abandon
  deriving DecidableEq, Repr

/-- KIND encoding (R346). -/
def EnvKind.code : EnvKind → Nat
  | .spill => 0 | .ret => 1 | .ask => 2 | .grant => 3 | .pull => 4 | .none => 5 | .abandon => 6

/-- The kind of an envelope head flit. -/
def envKind (p : Packet) : Option EnvKind :=
  match hdr p 64 3 with
  | 0 => some .spill | 1 => some .ret | 2 => some .ask | 3 => some .grant
  | 4 => some .pull | 5 => some .none | 6 => some .abandon | _ => .none

/-- QTILE (R346). -/
def envTile (p : Packet) : Nat := hdr p 67 8
/-- QMC (R346). -/
def envMc (p : Packet) : Nat := hdr p 75 3
/-- FLITS (R346). -/
def envFlits (p : Packet) : Nat := hdr p 78 8
/-- SEQ (R346). -/
def envSeq (p : Packet) : Nat := hdr p 86 16
/-- PLAST (R346). -/
def envLast (p : Packet) : Bool := hdr p 102 1 == 1

/-- An envelope (R346, R347): the head flit, and for SPILL and RETURN the carried packet's flits after it, its
head travelling as a continuation flit and its HCHK in the envelope's. -/
def mkEnvelope (k : EnvKind) (dt ds st ss qtile qmc flits seq : Nat) (plast : Bool) (carried : Packet) : Packet :=
  let mc := if carried.isEmpty then 7 else mcOf carried
  let sc := if carried.isEmpty then 0 else scOf carried
  let len := 1 + carried.length
  let h := dt + ds * 2 ^ 8 + st * 2 ^ 9 + ss * 2 ^ 17 + mc * 2 ^ 18 + sc * 2 ^ 21 + 0x1F * 2 ^ 24 + 2 ^ 29
    + len * 2 ^ 32 + k.code * 2 ^ 64 + qtile * 2 ^ 67 + qmc * 2 ^ 75 + flits * 2 ^ 78 + seq * 2 ^ 86
    + b2n plast * 2 ^ 102
  let head : Flit := ⟨BitVec.ofNat 640 h, true, carried.isEmpty, false,
    if carried.isEmpty then 0 else (headOf carried).hchk⟩
  head :: carried.map (fun f => { f with first := false })

/-- The packet that a SPILL or RETURN carries, with its own HCHK put back (R347). -/
def unwrap (p : Packet) : Packet :=
  mapHead (fun f => { f with first := true, hchk := (headOf p).hchk }) (p.drop 1)

end Sys2Proof
end

