-- ==== Sys2Proof/Machine/TileState.lean ====
section
/-! DEFINITION. TileState: the state of a tile: its router (R93 to R122), its edge NI (R134 to R189, R207 to
R240), the schedulers (R296 to R335), the spill queues (R337 to R352) and its counters and hop queue (R593 to
R611). Times are Lantern times as TIME80 numbers, in units of 2^-16 ns. -/

namespace Sys2Proof.Machine

/-- A router input VC (R93): at most four flits, the output and VC granted to the packet in passage (R55), the
discard of a packet whose head was lost (R58) or whose output discards (R118, R120), the cycles its head has
waited (R610) and the allocations it has lost with credit (R111). -/
structure InVC where
  /-- flits, oldest first -/
  fifo : List Flit
  /-- output port and VC of the packet in passage -/
  route : Option (Nat × Nat)
  /-- the rest of the packet is discarded on arrival (R58) -/
  drop : Bool
  /-- the packet in passage is discarded at its output (R118, R120) -/
  sink : Bool
  /-- cycles since the head arrived -/
  wait : Nat
  /-- consecutive cycles of lost allocation with credit -/
  lost : Nat
  /-- aged (R111) -/
  aged : Bool
  /-- the head of the packet in passage was granted at level 1, where the rest contends too (R110) -/
  high : Bool
  /-- SC of the packet in passage (R110) -/
  sc : Nat
  deriving DecidableEq, Repr

/-- An empty input VC. -/
def InVC.reset : InVC := ⟨[], none, false, false, 0, 0, false, false, 0⟩

/-- A router output, or the sender side of a slot (R97 to R99, R104, R112 to R118). -/
structure OutPort where
  /-- AWAKE of the receiver, as the sender sees it -/
  awake : Bool
  /-- KNOCK is high since this time -/
  knock : Option Nat
  /-- DEAD (R118) -/
  dead : Bool
  /-- the initial credits are owed at the next rise of AWAKE (R97) -/
  owed : Bool
  /-- credits per VC; of a seam port, flits outstanding per VC (occ of R99) -/
  cred : List Nat
  /-- shared_free of a seam port (R99) -/
  pool : Nat
  /-- VCs held by a packet in passage (R55) -/
  held : List Bool
  /-- cur[s] of R112 for SC0 to SC5 -/
  cur : List Int
  /-- round-robin positions: levels 1 to 3, then one for each SC of level 4 (R110) -/
  rr : List Nat
  /-- a flit left on it in the previous cycle (R104) -/
  sent : Bool
  deriving DecidableEq, Repr

/-- An output after reset: AWAKE low, no credit, the initial credits owed (R97). -/
def OutPort.reset : OutPort :=
  ⟨false, none, false, true, List.replicate 16 0, 0, List.replicate 16 false, List.replicate 6 0,
    List.replicate 9 0, false⟩

/-- The ejection side of a slot: flits in the ejection buffer per VC, and packets whose last flit has arrived. -/
structure Eject where
  /-- ejection buffer: flits with their VC, in order of arrival -/
  buf : List (Nat × Flit)
  /-- flits of incomplete packets already stored, per VC -/
  asm : SMap (List Flit)
  /-- complete packets not yet taken, with their VC, oldest first -/
  arr : List (Nat × Packet)
  deriving DecidableEq, Repr

/-- An empty ejection side. -/
def Eject.reset : Eject := ⟨[], [], []⟩

/-- A packet in injection into a router input: its remaining flits, the staging class that each flit frees
(R151), and whether it is an envelope (R349). -/
structure Prog where
  /-- remaining flits -/
  pkt : Packet
  /-- staging class -/
  stg : Option Nat
  /-- an envelope -/
  env : Bool
  /-- SC of the packet -/
  sc : Nat
  deriving DecidableEq, Repr

/-- A packet in an SC queue (R297). -/
structure QPkt where
  /-- the packet in fabric form -/
  pkt : Packet
  /-- staging flits that it still occupies, by ingress class (R151) -/
  stg : Option Nat
  /-- time from which it has stood at the head of its FIFO -/
  since : Nat
  /-- counted in GATE_WAITS (R328) -/
  waited : Bool
  /-- an answer placed at the front of its FIFO (R212) -/
  ans : Bool
  /-- order of joining; a request released from the hold queue keeps the place that it had when it parked (R235, R300) -/
  seq : Nat
  /-- released by its FLUSH_DONE (R88) -/
  flushed : Bool
  /-- made by the NI itself: an answer, a FLUSH, a control packet -/
  own : Bool
  deriving DecidableEq, Repr

/-- A gate schedule (R322, R323): entries of duration in ns and OPEN, and the base. -/
structure GateSched where
  /-- entries -/
  list : List (Nat × Bool)
  /-- base, TIME80 -/
  base : Nat
  deriving DecidableEq, Repr

/-- Per-class state of a scheduler: token bucket (R310), gate (R321), wake mark (R307) and start tag (R306). -/
structure ClassState where
  /-- tokens in 1/1,024 byte -/
  tok : Int
  /-- remainder of the refill, in 1/64,000 of a token unit -/
  frac : Nat
  /-- time at which the bucket was last brought up to date -/
  last : Nat
  /-- the running schedule -/
  run : Option GateSched
  /-- the pending apply -/
  pend : Option GateSched
  /-- the window is open, as of the last boundary that took effect (R324) -/
  opened : Bool
  /-- a condition of R307 has held since the queue was last eligible -/
  dormant : Bool
  /-- start tag, 64 bits -/
  tag : Nat
  /-- MC last served (R302) -/
  rr : Nat
  deriving DecidableEq, Repr

/-- Class state after reset: bucket full at its default depth (R333). -/
def ClassState.reset : ClassState := ⟨16384 * 1024, 0, 0, none, none, false, true, 0, 7⟩

/-- A scheduler (R296). -/
structure Sched where
  /-- FIFOs, at key 8*sc + mc -/
  q : SMap (List QPkt)
  /-- class state for SC0 to SC5 -/
  cls : List ClassState
  /-- virtual time, 64 bits (R306) -/
  v : Nat
  /-- next order of joining -/
  seq : Nat
  /-- a packet was selected in the running QCLK cycle (R301) -/
  picked : Bool
  deriving DecidableEq, Repr

/-- A scheduler after reset (R333). -/
def Sched.reset : Sched := ⟨[], List.replicate 6 ClassState.reset, 0, 0, false⟩

/-- Stages of a transaction tag (R155 to R172). `used`: a MEM_SPEC_RD that has not been injected has used the grant
(R158, R159). -/
inductive TagSt where
  | free | granted | out | quar | used
  deriving DecidableEq, Repr

/-- An entry of a tag table (R155 to R172, R238 to R240). -/
structure Tag where
  /-- stage -/
  st : TagSt
  /-- head flit of the request in fabric form -/
  req : Flit
  /-- recorded target tile and slot; none while parked -/
  tgt : Option (Nat × Nat)
  /-- deadline (R162) -/
  deadline : Nat
  /-- PARTS of the response, once a part is accepted or an answer made -/
  parts : Option Nat
  /-- parts accepted, by MC and OPC -/
  got : List (Nat × Nat)
  /-- parts delivered -/
  deliv : Nat
  /-- marked by a drain (R240) -/
  mark : Bool
  /-- its answer was made by the NI itself under R211 or R216 -/
  own : Bool
  deriving DecidableEq, Repr

/-- A free tag. -/
def Tag.reset : Tag := ⟨.free, Flit.zero, none, 0, none, [], 0, false, false⟩

/-- The packet being received on the EAP (R139). -/
structure RxPkt where
  /-- beats so far, oldest first -/
  beats : List Flit
  /-- I_MC of the first beat -/
  mc : Nat
  /-- I_MC of each admitted beat on which it differs from the first beat's (R183) -/
  odd : List Nat
  /-- the packet is dropped: head-beat parity (R184) or overrun (R185) -/
  drop : Bool
  /-- staging flits taken of class `mc` -/
  flits : Nat
  deriving DecidableEq, Repr

/-- A lens line (R207): the FAM index, the entry, and the NI's membership bit. -/
structure LensLine where
  /-- FAM index -/
  idx : Nat
  /-- entry -/
  entry : Nat
  /-- membership bit -/
  member : Bool
  deriving DecidableEq, Repr

/-- A packet whose LAST beat has arrived, waiting for its checks, its fetch, or room in a queue. -/
structure Staged where
  /-- beats in the ingress view -/
  pkt : Packet
  /-- I_MC of the first beat -/
  mc : Nat
  /-- I_MC of each beat on which it differs from the first beat's -/
  odd : List Nat
  /-- lookup time (R202) -/
  look : Nat
  /-- order of arrival at the NI, and from the checks on the order of joining (R297, R300) -/
  seq : Nat
  /-- its flits are in the staging buffer (R151) -/
  inStg : Bool
  /-- what the FAM copy held at the lookup time, for a fetch under way (R208) -/
  res : List LensLine
  deriving DecidableEq, Repr

/-- An answer of the NI's own that waits for the floor (R212, R213). -/
structure ViolEnt where
  /-- answer packets -/
  parts : List Packet
  /-- earliest release -/
  due : Nat
  /-- tag of the request -/
  tag : Nat
  deriving DecidableEq, Repr

/-- A set of the lens: four ways and the three bits of the pseudo-LRU tree (R207). -/
structure LensSet where
  /-- ways -/
  ways : List (Option LensLine)
  /-- tree bits: root, then ways 0 and 1, then ways 2 and 3; each bit names the half used longer ago -/
  plru : List Bool
  deriving DecidableEq, Repr

/-- An empty set. -/
def LensSet.reset : LensSet := ⟨[none, none, none, none], [false, false, false]⟩

/-- A FLUSH hold (R88, R300). -/
structure FlushHold where
  /-- SC of the held packet -/
  sc : Nat
  /-- MC of the held packet -/
  mc : Nat
  /-- order of joining of the held packet -/
  seq : Nat
  /-- destination tile and slot of the FLUSH -/
  dest : Nat × Nat
  /-- tag of the FLUSH, once it is injected -/
  tag : Option Nat
  /-- the FLUSH has been injected -/
  sent : Bool
  deriving DecidableEq, Repr

/-- Stages of a spill queue (R342, R344, R348). -/
inductive SpillSt where
  | resident | spilling | blocked
  deriving DecidableEq, Repr

/-- A spill queue of an edge NI (R340 to R352). -/
structure SpillQ where
  /-- stage -/
  st : SpillSt
  /-- outbound packets, oldest first -/
  outb : List Packet
  /-- time of the outstanding ASK -/
  ask : Option Nat
  /-- unused grant in flits -/
  grant : Nat
  /-- time of the last GRANT of zero -/
  zeroAt : Nat
  /-- time of the outstanding PULL -/
  pull : Option Nat
  /-- flits of egress storage reserved for returns -/
  rsv : Nat
  /-- next SEQ to send -/
  seq : Nat
  /-- next SEQ expected -/
  exp : Nat
  /-- packets spilled and not returned -/
  spilled : Nat
  /-- time of the last ABANDON received -/
  abandoned : Option Nat
  deriving DecidableEq, Repr

/-- A resident spill queue. -/
def SpillQ.reset : SpillQ := ⟨.resident, [], none, 0, 0, none, 0, 0, 0, 0, none⟩

/-- I_LINK (R167). -/
inductive Link where
  | down | active | retrain
  deriving DecidableEq, Repr

/-- The drain marks of an NI (R240): sequence number of the mark, the tile, the tags marked, those freed by
expiry, and whether the report has been sent. -/
structure DrainMark where
  /-- tile drained -/
  tile : Nat
  /-- DSEQ -/
  seq : Nat
  /-- tags marked -/
  marked : Nat
  /-- marked tags freed by expiry -/
  expired : Nat
  deriving DecidableEq, Repr

/-- The edge NI. -/
structure Ni where
  /-- I_LINK -/
  link : Link
  /-- I_KNOCK -/
  knock : Bool
  /-- an epoch runs (R149) -/
  epoch : Bool
  /-- the port is gone (R169) -/
  gone : Bool
  /-- E_READY is held low by a fence, a reset or the boot window -/
  ready : Bool
  /-- ECLK of the port's group runs -/
  eclk : Bool
  /-- ingress credits that the port controller holds, per MC -/
  iCred : List Nat
  /-- shares of the staging buffer of the running epoch, per MC (R152) -/
  iShare : List Nat
  /-- egress credits, per MC, 10 bits (R154) -/
  eCred : List Nat
  /-- highest egress credits of the epoch, per MC (R153) -/
  eMax : List Nat
  /-- EDGE_CREDIT_LOW was judged in this epoch -/
  lowJudged : Bool
  /-- the packet being received -/
  rx : Option RxPkt
  /-- packets waiting for their checks -/
  staged : List Staged
  /-- requests whose fetch from the FAM copy is under way (R208) -/
  fetch : List Staged
  /-- violating requests that wait in staging for the violation queue (R213) -/
  waitV : List Staged
  /-- requests held in staging (R234) -/
  waitH : List Staged
  /-- the violation queue (R213) -/
  violQ : List ViolEnt
  /-- the hold queue (R234) -/
  holdQ : List Staged
  /-- the tag table -/
  tags : SMap Tag
  /-- how many tags of the opening sequence of R157 have been passed -/
  grantPos : Nat
  /-- tag on E_TGNT at the last grant -/
  tgnt : Option Nat
  /-- no tag is granted before this time (R187) -/
  noGrant : Option Nat
  /-- posted-pending bits (R87) -/
  posted : BitVec 256
  /-- the FLUSH holds, at most one for each SC queue (R88, R300) -/
  flush : List FlushHold
  /-- the lens -/
  lens : SMap LensSet
  /-- the lens is enabled (R231) -/
  lensOn : Bool
  /-- T of the lens comparator (R228) -/
  lensT : Option Nat
  /-- time of the last commit that took effect at this NI (R208) -/
  commitT : Nat
  /-- a LENS_INV was acknowledged since the commit was armed -/
  acked : Bool
  /-- the running drain mark -/
  drain : Option DrainMark
  /-- LENS_ACK fence latch (R173, R229) -/
  fenceAck : Bool
  /-- CDC_TIMEOUT fence of the EAP (R173, R180) -/
  fenceCdc : Bool
  /-- injection scheduler -/
  inj : Sched
  /-- egress scheduler -/
  egr : Sched
  /-- policer tokens in 1/65,536,000 byte, and the time they were brought up to date (R318) -/
  pol : Nat × Nat
  /-- packets in injection, per VC -/
  prog : SMap Prog
  /-- envelopes waiting to be injected (R349) -/
  env : List Packet
  /-- responses that have arrived and wait to be judged (R82) -/
  rspIn : List Packet
  /-- MC7 control packets and envelopes that have arrived -/
  ctlIn : List Packet
  /-- spill queues for MC0, MC1, MC2, MC3 and MC6 -/
  spill : List SpillQ
  /-- the packet last driven on the EAP egress signals (R134, R178) -/
  eOut : Packet
  /-- flits of a selected packet still to be written to the EAP FIFO (R301) -/
  eRest : Nat
  /-- E_ICRED in the last ECLK cycle in which it returned a credit (R134, R148) -/
  eICred : Nat
  /-- CYC at the last histogram sample (R330) -/
  histAt : Nat
  /-- trace LFSR (R607) -/
  lfsr : BitVec 32
  deriving DecidableEq, Repr

/-- An edge NI after reset (R134, R333). -/
def Ni.reset : Ni where
  link := .down
  knock := false
  epoch := false
  gone := true
  ready := true
  eclk := true
  iCred := List.replicate 8 0
  iShare := List.replicate 8 0
  eCred := List.replicate 8 0
  eMax := List.replicate 8 0
  lowJudged := false
  rx := none
  staged := []
  fetch := []
  waitV := []
  waitH := []
  violQ := []
  holdQ := []
  tags := []
  grantPos := 0
  tgnt := none
  noGrant := none
  posted := 0
  flush := []
  lens := []
  lensOn := false
  lensT := none
  commitT := 0
  acked := false
  drain := none
  fenceAck := false
  fenceCdc := false
  inj := Sched.reset
  egr := Sched.reset
  pol := (16384 * 65536000, 0)
  prog := []
  env := []
  rspIn := []
  ctlIn := []
  spill := List.replicate 5 SpillQ.reset
  eOut := []
  eRest := 0
  eICred := 0
  histAt := 0
  lfsr := 1

/-- Tile power states (R447, object TILE_STATE). -/
inductive TState where
  | t0 | t1 | t2 | t3 | reset | unpowered
  deriving DecidableEq, Repr

end Sys2Proof.Machine
end

