-- ==== Sys2Proof/Machine/FabState.lean ====
section
/-! DEFINITION. FabState: fault families (R569), stage and commit (R221 to R242), the tile and the die as wholes. -/

namespace Sys2Proof.Machine

/-- A fault family (R569, R570). -/
structure Fam where
  /-- FIRST: code in [7:0], VALID in [15] -/
  first : Nat
  /-- PEND -/
  pend : Nat
  /-- OVF -/
  ovf : Bool
  /-- EN -/
  en : Nat
  /-- INFO0 to INFO3 -/
  info : List Nat
  /-- conditions whose cause holds now (R574) -/
  cond : Nat
  /-- pending bits that FORCE set (R574) -/
  forced : Nat
  deriving DecidableEq, Repr

/-- A cleared family. -/
def Fam.reset : Fam := ⟨0, 0, false, 0, [0, 0, 0, 0], 0, 0⟩

/-- A stage record (R222). -/
structure StageRec where
  /-- TABLE: 0 FAM, 1 SHARE_GROUP, 2 PBR_ROUTE -/
  table : Nat
  /-- PART -/
  part : Nat
  /-- ELEMENT -/
  elem : Nat
  /-- VALUE -/
  value : Nat
  deriving DecidableEq, Repr

/-- FAM_COMMIT_STATE (R224). -/
inductive CommitSt where
  | idle | opened | armed
  deriving DecidableEq, Repr

/-- DRAIN_STATE (R239). -/
inductive DrainSt where
  | idle | running | done
  deriving DecidableEq, Repr

/-- The instance-wide binding state: stage, commit and drain. -/
structure Bind where
  /-- records, oldest first -/
  stage : List StageRec
  /-- FAM_COMMIT_STATE -/
  cst : CommitSt
  /-- T of the armed commit -/
  t : Nat
  /-- the judgement of R229 has been made -/
  judged : Bool
  /-- requester whose FAM_COMMIT operation is still in progress -/
  who : Option Nat
  /-- the commit was armed by a ticket: its counter (R548, R549) -/
  tkt : Option Nat
  /-- GRANULE is locked (R191) -/
  granLocked : Bool
  /-- DRAIN_STATE -/
  dst : DrainSt
  /-- tile drained -/
  dtile : Nat
  /-- DSEQ -/
  dseq : Nat
  /-- NIs that have reported: tiles 0 to 255, and 256 + d for the service port of die d -/
  rep : List Nat
  /-- expired marked tags of the drain -/
  exp : Nat
  /-- COMMIT_LAST -/
  last : Nat
  /-- COMMIT_SEQ -/
  seq : Nat
  deriving DecidableEq, Repr

/-- An empty stage (R232). -/
def Bind.reset : Bind := ⟨[], .idle, 0, false, none, none, false, .idle, 0, 0, [], 0, 0, 0⟩

/-- The FAM copy and FAM control of a die (R40, R225, R228). -/
structure FamCopy where
  /-- FAM entries -/
  fam : SMap Nat
  /-- sharing groups -/
  share : SMap Nat
  /-- Port Route Table elements -/
  pbr : SMap Nat
  /-- commit overlay (R225) -/
  ovl : List StageRec
  /-- a committed overlay that drains; lookups consult it first (R230) -/
  drain : List StageRec
  /-- T loaded (R228) -/
  t : Option Nat
  /-- NIs whose acknowledgement has arrived: tiles, and 256 + d for the service port -/
  acks : List Nat
  /-- configuration shadow, by object (R503) -/
  shadow : SMap Nat
  deriving DecidableEq, Repr

/-- A FAM copy after an instance reset (R232). -/
def FamCopy.reset : FamCopy := ⟨[], [], [], [], [], none, [], []⟩

/-- The power side of a tile (R450 to R458, R638 to R641). Entries and exits take the steps of their handshakes. -/
structure TilePow where
  /-- an entry to the state that the tile is in is under way (R453) -/
  entering : Bool
  /-- the state before that entry, which TILE_STATE still reads -/
  before : TState
  /-- an exit to T0 is under way -/
  waking : Bool
  /-- a wake request waits: an access, a write, or a wake of a seam direction -/
  wakeReq : Bool
  /-- PD_TL_REQ and PD_TL_ACK -/
  tlReq : Bool
  /-- PD_TL_REQ and PD_TL_ACK -/
  tlAck : Bool
  /-- PD_TS_REQ and PD_TS_ACK -/
  tsReq : Bool
  /-- PD_TS_REQ and PD_TS_ACK -/
  tsAck : Bool
  /-- PD_TS_RET and PD_TS_RACK -/
  retReq : Bool
  /-- PD_TS_RET and PD_TS_RACK -/
  retAck : Bool
  /-- PC_T3_REQ -/
  t3Req : Bool
  /-- PC_T3_GNT -/
  t3Gnt : Bool
  /-- run time since which TILE_TIME_IN has not been brought up to date -/
  since : Nat
  /-- QCLK cycles for which the conditions of T1 have held -/
  idle1 : Nat
  /-- run time at which a condition of T2 last failed -/
  idle2 : Nat
  /-- run time at which a condition of T3 last failed -/
  idle3 : Nat
  /-- run time since which the tile has been in T2 or T3 -/
  deepAt : Nat
  deriving DecidableEq, Repr

/-- The power side of a running tile. -/
def TilePow.reset : TilePow :=
  ⟨false, .t0, false, false, true, true, true, true, false, false, false, false, 0, 0, 0, 0, 0⟩

/-- A crossing between clock domains (R466, R467, R469 to R475). Its handshake is in flight while the request toggle and the
acknowledge toggle differ. The reset of one side: 0 none, 1 PEER_RESET raised, 2 seen, 3 acknowledged. -/
structure CdcSt where
  /-- PENDING (R466): an event waits for the handshake in flight -/
  pending : Bool
  /-- DIRTY (R467): the source value has changed while a request is in flight -/
  dirty : Bool
  /-- request toggle -/
  req : Bool
  /-- acknowledge toggle -/
  ack : Bool
  /-- current value of the source -/
  src : Nat
  /-- holding register H (R467) -/
  h : Nat
  /-- the value that the receiver has loaded -/
  rx : Nat
  /-- CDC_TIMEOUT as it stood when the last handshake began (R472) -/
  limit : Nat
  /-- fenced -/
  fenced : Bool
  /-- the release after a clear runs -/
  releasing : Bool
  /-- stage of a one-sided reset -/
  peer : Nat
  /-- that reset has ended -/
  ended : Bool
  deriving DecidableEq, Repr

/-- A crossing at rest. -/
def CdcSt.reset : CdcSt := ⟨false, false, false, false, 0, 0, 0, 0, false, false, 0, false⟩

/-- Whether a handshake is in flight. -/
def CdcSt.busy (c : CdcSt) : Bool := c.req != c.ack

/-- A handshake begins: the current source value goes to H, and the request toggles (R466, R467); `limit` is CDC_TIMEOUT as
it stands (R472). -/
def CdcSt.start (c : CdcSt) (limit : Nat) : CdcSt :=
  { c with pending := false, dirty := false, h := c.src, req := !c.req, limit := limit }

/-- The receiver takes a request: it loads H whole and acknowledges (R466, R467). -/
def CdcSt.taken (c : CdcSt) : CdcSt := { c with ack := c.req, rx := c.h }

/-- The acknowledgement of the handshake in flight returns: what has waited for it starts the next (R466, R467). -/
def CdcSt.acked (c : CdcSt) (limit : Nat) : CdcSt :=
  let c := c.taken
  if c.pending || c.dirty then c.start limit else c

/-- A source event (R466): PENDING is set, and a crossing without a handshake in flight carries it to its receiver; events
that arrive while one is in flight merge. -/
def CdcSt.event (c : CdcSt) (limit : Nat) : CdcSt :=
  if c.busy then { c with pending := true } else (c.start limit).taken

/-- The source value becomes `v` (R467): a crossing with a request in flight is DIRTY, any other carries it. -/
def CdcSt.value (c : CdcSt) (limit v : Nat) : CdcSt :=
  if c.busy then { c with src := v, dirty := true } else ({ c with src := v }.start limit).taken

/-- A tile: router, edge NI, slot-1 side, counters and hop queue. -/
structure Tile where
  /-- router inputs, at key 16*port + vc -/
  rin : SMap InVC
  /-- router outputs 0 to 7, and the senders 8 (edge NI) and 9 (slot-1 unit) -/
  rout : SMap OutPort
  /-- phits on the way to each router input, oldest first; each slot is a VC and a flit -/
  wire : SMap (List (List (Nat × Flit)))
  /-- credit returns on the way to each sender, oldest first -/
  cret : SMap (List Nat)
  /-- edge NI -/
  ni : Ni
  /-- ejection side of slot 0 -/
  ej0 : Eject
  /-- ejection side of slot 1 -/
  ej1 : Eject
  /-- packets in injection from the slot-1 unit, remaining flits per VC -/
  uprog : SMap Prog
  /-- packets of the slot-1 unit waiting for injection outside a scheduler, oldest first -/
  uout : List Packet
  /-- counter events of the running QCLK cycle, at key 8*code + q (R598) -/
  ev : SMap Nat
  /-- hop records waiting for the trace tree, oldest first (R609) -/
  hop : List Nat
  /-- CYC (R593) -/
  cyc : Nat
  /-- CNT_VALUE 0 to 7 -/
  cnt : List Nat
  /-- SHADOW_CYC and SHADOW_CNT 0 to 7 (R600) -/
  shadow : List Nat
  /-- armed snapshot time (R599) -/
  snap : Option Nat
  /-- single-bit HCHK errors corrected by the egress NI (R69) -/
  hchkCe : Nat
  /-- power state (R447) -/
  st : TState
  /-- power side -/
  pw : TilePow
  deriving DecidableEq, Repr

/-- A tile after reset. -/
def Tile.reset : Tile :=
  ⟨[], [], [], [], Ni.reset, Eject.reset, Eject.reset, [], [], [], [], 0, List.replicate 8 0, List.replicate 9 0,
    none, 0, .t0, TilePow.reset⟩

/-- A die as a whole: its resets and supplies. -/
structure Die where
  /-- a die or instance reset holds the die -/
  rst : Bool
  /-- VDD_AO is present (R644) -/
  ao : Bool
  /-- PD_QP_REQ of its four quadrants -/
  qpReq : List Bool
  /-- PD_QP_ACK -/
  qpAck : List Bool
  /-- PD_FAM_REQ -/
  famReq : Bool
  /-- PD_FAM_ACK -/
  famAck : Bool
  /-- PD_UQ_REQ -/
  uqReq : Bool
  /-- PD_UQ_ACK -/
  uqAck : Bool
  /-- PC_UQ_REQ -/
  pcUqReq : Bool
  /-- PC_UQ_GNT -/
  pcUqGnt : Bool
  deriving DecidableEq, Repr

/-- Die `d` after a cold reset: every quadrant PLL Parked (R646), the FAM domain on, UNIQUE on D0 only. -/
def Die.reset (d : Nat) : Die :=
  ⟨false, true, List.replicate 4 false, List.replicate 4 false, true, true, d == 0, d == 0, false, false⟩

/-- The trace quarter of a die (R609, R611): records by element within the quarter, next SEQ. -/
structure Quarter where
  /-- record bits, by element 0 to 12,287 -/
  recs : SMap Nat
  /-- records held -/
  count : Nat
  /-- element that the next record takes -/
  nextE : Nat
  /-- next SEQ, 32 bits -/
  seq : Nat
  deriving DecidableEq, Repr

/-- An empty quarter. -/
def Quarter.reset : Quarter := ⟨[], 0, 0, 0⟩

end Sys2Proof.Machine
end

