-- ==== Sys2Proof/Machine/MgmtState.lean ====
section
/-! DEFINITION. MgmtState: the management side: Guyline frames and stations (R477 to R486), the registers and mailboxes of
the MAP (R487 to R502), the crossbar (R511 to R515), the Warden (R508 to R510, R545 to R557), one-time storage (R558 to
R565), the verify engine (R566), resets under way (R584 to R586) and the Counter Collector (R603 to R605). -/

namespace Sys2Proof.Machine

/-- A frame on the ring (R481). -/
structure GFrame where
  /-- KIND: 0 READ, 1 WRITE, 2 BCAST, 3 RESP -/
  kind : Nat
  /-- SEQ -/
  seq : Nat
  /-- STYPE -/
  sc : Scope
  /-- SNUM -/
  num : Nat
  /-- INDEX -/
  idx : Nat
  /-- SUB -/
  sub : Nat
  /-- ELEM -/
  elem : Nat
  /-- LEN as the operation gives it: 0 for the object's size -/
  len : Nat
  /-- data -/
  data : Nat
  /-- STATUS -/
  status : Nat
  /-- DIR: counter-clockwise -/
  ccw : Bool
  /-- LOOP -/
  loop : Bool
  /-- GUARD -/
  guard : Bool
  /-- die stations that have applied a BCAST, each counted in COUNT -/
  count : List Nat
  /-- it has been sent in the other rotation (R486) -/
  turned : Bool
  /-- it has been sent once more (R485) -/
  resent : Bool
  /-- its operation has ended by MBX_TIMEOUT, so that its return is discarded (R502) -/
  late : Bool
  /-- run time at which it left the master -/
  sentAt : Nat
  /-- made for the debug master; no bit of the frame (R533) -/
  dbg : Bool
  deriving DecidableEq, Repr

/-- What a station keeps of the last frame it performed under a tag (R485). -/
structure GStored where
  /-- SEQ -/
  seq : Nat
  /-- STATUS -/
  status : Nat
  /-- read data -/
  data : Nat
  deriving DecidableEq, Repr

/-- The Guyline master and the stations. -/
structure Guy where
  /-- frames in flight, by tag -/
  ring : SMap GFrame
  /-- frames that wait for an earlier frame of their tag -/
  wait : SMap GFrame
  /-- next SEQ, by tag -/
  seq : SMap Nat
  /-- the request of each frame in flight, as the master sent it last, by tag -/
  sent : SMap GFrame
  /-- performed frames, at key 16*station + tag; stations 0 to 255 are tiles, 256 + d the dies -/
  stored : SMap GStored
  /-- closed by-passes of tile stations -/
  bypass : SMap Bool
  deriving DecidableEq, Repr

/-- No frame in flight, every by-pass open. -/
def Guy.reset : Guy := ⟨[], [], [], [], [], []⟩

/-- What a mailbox operation names: scope type and number, index, subindex and element. -/
structure MbxTarget where
  /-- scope type -/
  sc : Scope
  /-- scope number -/
  num : Nat
  /-- index -/
  idx : Nat
  /-- subindex; 0 for a table object -/
  sub : Nat
  /-- element of a table object; 0 otherwise -/
  elem : Nat
  deriving DecidableEq, Repr

/-- A mailbox operation in progress. -/
structure MbxOp where
  /-- a read -/
  read : Bool
  /-- the object -/
  tgt : MbxTarget
  /-- size of the object in bytes -/
  size : Nat
  /-- byte offset of the segment read -/
  off : Nat
  /-- LEN -/
  len : Nat
  /-- 0 not guarded, 1 guarded with the lock open, 2 guarded and refused -/
  guard : Nat
  /-- run time of GO (R502) -/
  goAt : Nat
  deriving DecidableEq, Repr

/-- A mailbox of the MAP, or a request slot of N4 (R495, R512). -/
structure Mbx where
  /-- MBX_CMD without GO -/
  cmd : Nat
  /-- MBX_OBJ -/
  obj : Nat
  /-- MBX_ELEM -/
  elem : Nat
  /-- MBX_DATA0 to MBX_DATA7 as one number -/
  data : Nat
  /-- MBX_STAT[VALID] -/
  valid : Bool
  /-- MBX_STAT[MORE] -/
  more : Bool
  /-- MBX_STAT[CODE] -/
  code : Nat
  /-- MBX_STAT[RLEN] -/
  rlen : Nat
  /-- operation in progress: MBX_STAT[BUSY] -/
  op : Option MbxOp
  /-- the object that the last READ copied into the buffer -/
  prev : Option MbxTarget
  /-- the copy -/
  buf : Nat
  /-- segments collected by WRITE_SEG: the object, the bytes and their number -/
  seg : Option (MbxTarget × Nat × Nat)
  deriving DecidableEq, Repr

/-- A mailbox after reset. -/
def Mbx.reset : Mbx := ⟨0, 0, 0, 0, false, false, 0, 0, none, none, 0, none⟩

/-- The registers of the MAP beside its mailboxes and its fault family (R490 to R493). -/
structure MapRegs where
  /-- MAP_LOCK_STAT[OPEN] -/
  lock : Bool
  /-- MAP_LOCK_STAT[LAST] -/
  last : Nat
  /-- MAP_LOCK_STAT[REFUSED] -/
  refused : Nat
  /-- MAP_CRC_CTL[RUN] -/
  run : Bool
  /-- MAP_CRC_CTL[COMPARE] -/
  compare : Bool
  /-- MAP_CRC_CTL[FIX] -/
  fix : Bool
  /-- MAP_CRC_CTL[DIE_SEL] -/
  dieSel : Nat
  /-- MAP_CRC_REF -/
  ref : Nat
  /-- MAP_CRC_STAT[REF_VALID] -/
  refValid : Bool
  /-- MAP_CRC_STAT[MISMATCH] -/
  mismatch : Nat
  /-- MAP_CRC_STAT[MATCH] -/
  matched : Nat
  /-- MAP_CRC_STAT[DONE] -/
  done : Nat
  /-- result of the last complete pass of each die -/
  cur : List Nat
  /-- run time of each die at which its pass began -/
  passAt : List Nat
  /-- fields of the last accepted MAP_RESET -/
  rst : Nat
  /-- offset of a 64-bit access's lower half, when it came just before (R628) -/
  half : Option Nat
  /-- MB_ACK: an access has completed since the last MB_SEL -/
  ack : Bool
  /-- MB_RDATA with that acknowledgement -/
  rdata : Nat
  /-- XN_STRAP_ERR (R615) -/
  strapErr : Bool
  /-- a slice was strapped 0 at the last release of RST_COLD_N, so that the UNIQUE units exist (R33, R615) -/
  present : Bool
  deriving DecidableEq, Repr

/-- The MAP after reset. -/
def MapRegs.reset : MapRegs where
  lock := false
  last := 0
  refused := 0
  run := true
  compare := false
  fix := true
  dieSel := 0
  ref := 0
  refValid := false
  mismatch := 0
  matched := 0
  done := 0
  cur := List.replicate 4 0
  passAt := List.replicate 4 0
  rst := 0
  half := none
  ack := false
  rdata := 0
  strapErr := false
  present := true

/-- A transfer of a crossbar master (R511). -/
structure XReq where
  /-- master: 0 MAP, 1 Warden, 2 debug port, 3 Guyline master -/
  master : Nat
  /-- a write -/
  write : Bool
  /-- byte address -/
  addr : Nat
  /-- bytes of each access: 1, 2 or 4 -/
  size : Nat
  /-- words: 1 for a single access, 2 to 16 for a burst -/
  words : Nat
  /-- write data, one number for each word -/
  data : List Nat
  /-- run time at which it was presented -/
  at_ : Nat
  deriving DecidableEq, Repr

/-- The answer to a transfer: ERROR, and read data. -/
structure XRsp where
  /-- ERROR -/
  err : Bool
  /-- data, one number for each word -/
  data : List Nat
  deriving DecidableEq, Repr

/-- The crossbar (R511 to R515). -/
structure Xbar where
  /-- transfers that wait for their grant, by master -/
  wait : SMap XReq
  /-- granted transfers whose target has not answered, by target -/
  busy : SMap XReq
  /-- last answer, by master -/
  rsp : SMap XRsp
  /-- master last granted, by target -/
  rr : SMap Nat
  deriving DecidableEq, Repr

/-- An idle crossbar. -/
def Xbar.reset : Xbar := ⟨[], [], [], []⟩

/-- One-time storage and its controller (R558 to R565). -/
structure Otp where
  /-- array words, 0 to 2,047 -/
  arr : SMap Nat
  /-- OTP_ADDR[WORD] -/
  addr : Nat
  /-- OTP_WDATA -/
  wdata : Nat
  /-- OTP_STAT[FAIL] -/
  fail : Bool
  /-- OTP_STAT[LOADED] -/
  loaded : Bool
  /-- slot in use since the load; none when no slot is valid -/
  slot : Option Nat
  deriving DecidableEq, Repr

/-- Operations of the verify engine (R566). -/
inductive VeOp where
  | finish | verify | draw
  deriving DecidableEq, Repr

/-- The verify engine (R566). -/
structure Ve where
  /-- operation under way: VE_STAT[BUSY] -/
  op : Option VeOp
  /-- VE_STAT[SIG_OK] -/
  sigOk : Bool
  /-- VE_STAT[ERR] -/
  err : Bool
  /-- VE_STAT[HEALTH_FAIL] -/
  health : Bool
  /-- VE_LEN -/
  len : Nat
  /-- message bytes fed since HASH_START -/
  msg : List Nat
  /-- VE_DIGEST, 48 bytes, the first in the highest bits -/
  digest : Nat
  /-- VE_KEY, 24 words, X then Y, the first in the highest bits -/
  key : Nat
  /-- VE_SIG, 24 words, r then s, likewise -/
  sig : Nat
  deriving DecidableEq, Repr

/-- An idle verify engine. -/
def Ve.reset : Ve := ⟨none, false, false, false, 0, [], 0, 0, 0⟩

/-- A record being programmed (R562): requester, slot and record. -/
structure OtpJob where
  /-- requester -/
  who : Nat
  /-- slot -/
  slot : Nat
  /-- record, 2,048 bytes -/
  record : Nat
  deriving DecidableEq, Repr

/-- The Warden, its SRAM and what it serves. -/
structure Warden where
  /-- Warden SRAM, 256 KiB -/
  sram : List Host.Cell
  /-- WARDEN_REMAP is locked -/
  remapLocked : Bool
  /-- a remap waits for the Warden's outstanding transfer (R510) -/
  remapDue : Bool
  /-- the Warden restarts -/
  restarting : Bool
  /-- the ticket in verification, 4,096 bytes -/
  ticket : Option Nat
  /-- end time of the debug ticket, run time -/
  debugEnd : Nat
  /-- patch approval: IMAGE_LEN and IMAGE_ID (R554) -/
  patch : Option (Nat × Nat)
  /-- requester of the seal burn under way -/
  burn : Option Nat
  /-- record under programming -/
  prog : Option OtpJob
  /-- operations that wait for a burn or a programming to end: requester, index and value -/
  wait : List (Nat × Nat × Nat)
  /-- a measured change has happened and the measurement is not complete (R557) -/
  measDue : Bool
  /-- run time of the last measured change -/
  measAt : Nat
  /-- CONFIG_MEASURE, 48 bytes, byte 0 in the lowest bits -/
  measure : Nat
  deriving DecidableEq, Repr

/-- The Warden after an instance reset. -/
def Warden.reset : Warden := ⟨[], false, false, false, none, 0, none, none, none, [], false, 0, 0⟩

/-- A reset under way (R584 to R586). -/
structure Rst where
  /-- scope type: tile, quad, die or inst -/
  sc : Scope
  /-- scope number -/
  num : Nat
  /-- cold -/
  cold : Bool
  /-- run time of D0 at which it started -/
  at_ : Nat
  /-- it came from MAP_RESET, so that IN_PROGRESS reads it -/
  viaMap : Bool
  deriving DecidableEq, Repr

/-- The Counter Collector (R603 to R606). -/
structure Coll where
  /-- Lantern time of the armed snapshot -/
  armed : Option Nat
  /-- the snapshot of a collection has been taken: its time -/
  reading : Option Nat
  /-- the 72 bytes of each tile, as far as they have been read -/
  got : SMap Nat
  /-- frames sent so far, three for each tile -/
  next : Nat
  deriving DecidableEq, Repr

/-- An idle collector. -/
def Coll.reset : Coll := ⟨none, none, [], 0⟩

end Sys2Proof.Machine
end

