-- ==== Sys2Proof/Machine/SeamState.lean ====
section
/-! DEFINITION. SeamState: the state of seam-sides and crossing-sides (R368 to R405): directions, frames,
replay, lanes, training, repair, sleep, and the messages of sideband lane 1 (R401, R415). -/

namespace Sys2Proof.Machine

/-- States of a direction (R390). -/
inductive DirSt where
  | off | training | run | half | sleep | deep | down
  deriving DecidableEq, Repr

/-- Encoding in SEAM_TX_STATE, SEAM_RX_STATE and STATE (R407, R401). -/
def DirSt.code : DirSt → Nat
  | .off => 0 | .training => 1 | .run => 2 | .half => 3 | .sleep => 4 | .deep => 5 | .down => 6

/-- The state of a code; 7 is never sent (R25). -/
def DirSt.ofCode : Nat → DirSt
  | 1 => .training | 2 => .run | 3 => .half | 4 => .sleep | 5 => .deep | 6 => .down | _ => .off

/-- Lane commands (R387). -/
inductive LaneCmd where
  | none | repairReq | repairReady | repairAt | retrain
  deriving DecidableEq, Repr

/-- A frame (R373, R374). -/
structure Frame where
  /-- slots A and B that are valid, each a VC and a flit -/
  slots : List (Nat × Flit)
  /-- credit returns, by VC -/
  creds : List Nat
  /-- FSEQ; none on a null frame -/
  fseq : Option Nat
  /-- ACKSEQ -/
  ack : Nat
  /-- NAK -/
  nak : Bool
  /-- AWAKE for the opposite direction -/
  awake : Bool
  /-- CMD -/
  cmd : LaneCmd
  /-- ARG -/
  arg : Nat
  /-- resends that the sender had begun when it sent the frame: it stands for the time of sending, by which a
  sender tells a repeated NAK from a new one (R377); no bit of the frame -/
  gen : Nat
  /-- the newest `gen` that the sender of the frame had received, likewise -/
  seen : Nat
  deriving DecidableEq, Repr

/-- A training under way at one half of a direction (R380). -/
structure Training where
  /-- full training -/
  full : Bool
  /-- the training was asked at half width (R393) -/
  half : Bool
  /-- phase 1 to 6 -/
  phase : Nat
  /-- lanes that this training excludes -/
  excl : Nat
  /-- lanes that the peer has reported excluded (R382) -/
  peer : Nat
  /-- the direction keeps FSEQ, replay buffer and credits (R384) -/
  keep : Bool
  /-- equaliser states that full adaptation has found, 16 bits for each lane -/
  eq : Nat
  deriving DecidableEq, Repr

/-- A repair under way (R388): the lane, the spare that replaces it, and how far it has come. -/
structure Repair where
  /-- physical lane to exclude -/
  lane : Nat
  /-- spare in training -/
  spare : Nat
  /-- the spare is trained and REPAIR_READY was sent or received -/
  ready : Bool
  deriving DecidableEq, Repr

/-- A crossing-side: the transmit half of one direction and the receive half of the other. -/
structure CrossSide where
  /-- SEAM_TX_STATE -/
  tx : DirSt
  /-- SEAM_RX_STATE -/
  rx : DirSt
  /-- the transmit direction is at half width -/
  txHalf : Bool
  /-- the receive direction is at half width -/
  rxHalf : Bool
  /-- excluded transmit lanes -/
  txExcl : Nat
  /-- excluded receive lanes -/
  rxExcl : Nat
  /-- training of the transmit half -/
  txTr : Option Training
  /-- training of the receive half -/
  rxTr : Option Training
  /-- slots waiting in the transmit FIFO for a place in the replay buffer, phit by phit -/
  fifo : List (List (Nat × Flit))
  /-- credit returns waiting for a frame -/
  creds : List Nat
  /-- lane commands waiting for a frame -/
  cmds : List (LaneCmd × Nat)
  /-- next FSEQ -/
  fseq : Nat
  /-- unacknowledged frames, oldest first -/
  replay : List Frame
  /-- ACKSEQ of the last NAK acted on -/
  nakAck : Option Nat
  /-- consecutive resends for that ACKSEQ -/
  resends : Nat
  /-- an acknowledgement is owed to the peer (R397) -/
  ackOwed : Bool
  /-- frames in flight towards this side -/
  air : List Frame
  /-- next FSEQ expected -/
  exp : Nat
  /-- a NAK is being sent -/
  nak : Bool
  /-- AWAKE as received for the transmit direction -/
  awakeIn : Bool
  /-- AWAKE as driven for the receive direction -/
  awakeOut : Bool
  /-- time of the last flit received, or of the last wake -/
  lastFlit : Nat
  /-- SLEEP was sent and is unanswered -/
  sleepReq : Bool
  /-- time at which the receive direction entered SLEEP -/
  sleptAt : Nat
  /-- the transmit side has set its lanes ON for a KNOCK (R399) -/
  txOn : Bool
  /-- the transmit direction has trained since a reset of either side (R131) -/
  txUp : Bool
  /-- the receive direction has trained since a reset of either side (R131) -/
  rxUp : Bool
  /-- the FFE taps of the transmit lanes have been set by a training (R371) -/
  txEq : Bool
  /-- repair of the receive direction, led by this side -/
  rxRep : Option Repair
  /-- repair of the transmit direction -/
  txRep : Option Repair
  /-- repair requests held until the running repair ends (R388): lanes of the transmit direction -/
  held : List Nat
  /-- repairs asked for on this receive side while one runs -/
  want : List Nat
  /-- the peer has reported reset and not yet acknowledged it (R404) -/
  peerRst : Bool
  /-- this side sent RST_ENTER and is in reset -/
  inRst : Bool
  /-- peer's STATE: state of the direction that the peer receives -/
  peerRx : DirSt
  /-- peer's STATE: spares left -/
  peerSpares : Nat
  /-- peer's STATE: that direction is at half width -/
  peerHalf : Bool
  /-- RXLOS inputs, by lane -/
  los : Nat
  /-- RXLOL inputs, by lane -/
  lol : Nat
  /-- saved equaliser states exist for the receive lanes (R383) -/
  eqSaved : Bool
  /-- saved equaliser state per receive lane -/
  eq : SMap Nat
  /-- corrected symbols of the last 1 ms, per lane, with the times at which they came (R386) -/
  corr : SMap (List (Nat × Nat))
  /-- the crossing FIFO is fenced by CDC_TIMEOUT -/
  cdc : Bool
  /-- VCs of the receive direction on which a packet is open, with its LAST flit still to come (R122) -/
  mid : Nat
  /-- VCs on which the transmit adapter discards the packet that it is taking (R58, R375) -/
  txDrop : Nat
  /-- KNOCK of the receive direction, as the sideband carried it: high until AWAKE rises (R114, R399) -/
  knockIn : Bool
  /-- flits of the landing buffer whose credits are no longer owed (R404) -/
  stale : Nat
  /-- resends begun -/
  gen : Nat
  /-- newest `gen` received -/
  seen : Nat
  /-- lane commands received and not yet acted on, oldest first -/
  cmdIn : List (LaneCmd × Nat)
  /-- time of the last margin scan (R385) -/
  scanAt : Nat
  /-- last STATE sent for the receive direction: state, spares, half width; and its time (R402) -/
  stSent : DirSt × Nat × Bool
  /-- time of the last STATE sent -/
  stAt : Nat
  deriving DecidableEq, Repr

/-- A crossing-side after reset: both halves OFF, every lane input at its off value (R372). -/
def CrossSide.reset : CrossSide where
  tx := .off
  rx := .off
  txHalf := false
  rxHalf := false
  txExcl := 0
  rxExcl := 0
  txTr := none
  rxTr := none
  fifo := []
  creds := []
  cmds := []
  fseq := 0
  replay := []
  nakAck := none
  resends := 0
  ackOwed := false
  air := []
  exp := 0
  nak := false
  awakeIn := false
  awakeOut := false
  lastFlit := 0
  sleepReq := false
  sleptAt := 0
  txOn := false
  txUp := false
  rxUp := false
  txEq := false
  rxRep := none
  txRep := none
  held := []
  want := []
  peerRst := false
  inRst := false
  peerRx := .off
  peerSpares := 2
  peerHalf := false
  los := 2 ^ 30 - 1
  lol := 2 ^ 30 - 1
  eqSaved := false
  eq := []
  corr := []
  cdc := false
  mid := 0
  txDrop := 0
  knockIn := false
  stale := 0
  gen := 0
  seen := 0
  cmdIn := []
  scanAt := 0
  stSent := (.off, 2, false)
  stAt := 0

/-- Messages of sideband lane 1 (R401, R415). -/
inductive SbMsg where
  | knock (c : Nat)
  | awake (c : Nat) (level : Bool)
  | sleep (c : Nat)
  | slept (c : Nat)
  | state (c : Nat) (st : DirSt) (spares : Nat) (half : Bool)
  | rst (c : Nat) (all : Bool) (kind : Nat)          -- 0 RST_ENTER, 1 RST_SEEN, 2 RST_ACK
  | train (c phase excl : Nat)
  | timeReq (seq : Nat)
  | timeRsp (seq t2 dt st hops : Nat)
  | timeStep (a : Nat) (amount : Int)
  | timeOffset (offset : Int) (seq : Nat)
  deriving DecidableEq, Repr

/-- What a seam-side holds beside its eight crossing-sides. -/
structure SeamSide where
  /-- TXPLL_LOCK -/
  pll : Bool
  /-- receive sideband lane 0 is locked -/
  lock0 : Bool
  /-- receive sideband lane 1 is locked -/
  lock1 : Bool
  /-- bit offset of the comma on receive lane 0 (R637) -/
  align0 : Nat
  /-- bit offset of the comma on receive lane 1 (R637) -/
  align1 : Nat
  /-- running disparity of transmit lane 0, true for +1 (R636) -/
  rd0 : Bool
  /-- running disparity of transmit lane 1, true for +1 (R636) -/
  rd1 : Bool
  /-- messages on the way to this side on sideband lane 1, oldest first -/
  sb : List SbMsg
  deriving DecidableEq, Repr

/-- A seam-side at the end of a cold reset: the transmit PLL is not locked yet. The sidebands run through the reset (R401), and
their receive lanes have locked in its 130 µs: SEAM_SB_STATE, which R407 gives the default 0, reads 3 by then (DEDUCED,
log 82). -/
def SeamSide.reset : SeamSide := ⟨false, true, true, 0, 0, false, false, []⟩

end Sys2Proof.Machine
end

