-- ==== Sys2Proof/Machine/SkState.lean ====
section
/-! DEFINITION. SkState: the state of a spill port (R353 to R367). -/

namespace Sys2Proof.Machine

/-- SK_STATE (R366). -/
inductive SkSt where
  | off | run | failed
  deriving DecidableEq, Repr

/-- What the beats of a command are: packet flits, a descriptor beat, a chunk header, or beats of an abandoned queue. -/
inductive SkWhy where
  | packet | desc | header | drop
  deriving DecidableEq, Repr

/-- A command that waits for the out stream, or that is unanswered (R358). -/
structure SkCmd where
  /-- a write -/
  write : Bool
  /-- beat index of its first beat -/
  addr : Nat
  /-- beats -/
  n : Nat
  /-- write data, one number per beat -/
  data : List Nat
  /-- QID (R359) -/
  qid : Nat
  /-- purpose -/
  why : SkWhy
  /-- run time at which it was presented -/
  sentAt : Nat
  deriving DecidableEq, Repr

/-- A chunk of a queue: its index and the packets written to it. -/
structure SkChunk where
  /-- chunk index -/
  idx : Nat
  /-- packets -/
  count : Nat
  deriving DecidableEq, Repr

/-- The read that a queue waits for: none, a descriptor beat, a packet with its descriptor and the beats so far (each
with its poison), or a chunk header. -/
inductive SkRead where
  | idle | desc | packet (d : Nat) (beats : List (Nat × Bool)) | header
  deriving DecidableEq, Repr

/-- State of a queue in a spill port (R356). -/
structure SkQueue where
  /-- chunks in spill order; the last is being written -/
  chunks : List SkChunk
  /-- next beat to write in the last chunk -/
  wpos : Nat
  /-- descriptors in assembly, oldest first -/
  desc : List Nat
  /-- a chunk reserved for what has been granted -/
  resv : Option Nat
  /-- unused grant in flits -/
  grant : Nat
  /-- packets of the first chunk that have been read -/
  rcnt : Nat
  /-- next beat to read in the first chunk -/
  rpos : Nat
  /-- flits left of the pull being answered -/
  pull : Option Nat
  /-- packets prefetched and not yet sent as RETURN, each with its SEQ, oldest first (R356) -/
  ready : List (Packet × Nat)
  /-- run time at which the last pull was answered to its end (R356) -/
  ansAt : Option Nat
  /-- the read under way -/
  read : SkRead
  /-- the descriptor beat last read: its beat index and content -/
  cache : Option (Nat × Nat)
  deriving DecidableEq, Repr

/-- A queue without spill state. -/
def SkQueue.reset : SkQueue := ⟨[], 1, [], none, 0, 0, 1, none, [], none, .idle, none⟩

/-- A spill port. -/
structure Sk where
  /-- SK_STATE -/
  st : SkSt
  /-- SKn_MEMREADY -/
  memReady : Bool
  /-- out credits -/
  cred : Nat
  /-- commands that wait for the out stream, oldest first -/
  cmdQ : List SkCmd
  /-- unanswered commands, oldest first -/
  outs : List SkCmd
  /-- queues, by QID -/
  qs : SMap SkQueue
  /-- chunks in use -/
  used : SMap Nat
  /-- the free bitmap is being cleared (R363) -/
  recover : Bool
  /-- the words of the command presented last on the out stream, one in each SKCLK cycle: head, then beats -/
  outW : List Nat
  /-- CDC_TIMEOUT fence -/
  fence : Bool
  deriving DecidableEq, Repr

/-- A spill port after a reset that includes its tile (R364). -/
def Sk.reset : Sk := ⟨.off, false, 0, [], [], [], [], false, [], false⟩

end Sys2Proof.Machine
end

