-- ==== Sys2Proof/Machine/SpState.lean ====
section
/-! DEFINITION. SpState: the state of a service-port NI (R256 to R292) and of a Commons bank (R283 to R288). -/

namespace Sys2Proof.Machine

/-- A response message of the up stream (R263). -/
structure SpMsg where
  /-- RID -/
  rid : Nat
  /-- KIND: 0 read data, 1 acknowledgement -/
  kind : Nat
  /-- RESULT: 0 OK, 1 POISON, 2 XFAIL, 3 ERROR -/
  result : Nat
  /-- data words, 144 bits each -/
  words : List Nat
  /-- a refusal of a message whose RID names a request not yet answered (R261) -/
  dup : Bool
  deriving DecidableEq, Repr

/-- A word of the down stream as it was presented (R256). -/
structure SpWord where
  /-- SPd_DN_HEAD -/
  head : Bool
  /-- SPd_DN_W -/
  w : Nat
  /-- SPd_DN_PAR agrees with the word (R257) -/
  ok : Bool
  deriving DecidableEq, Repr

/-- Stages of an access of a service port, with its tag: waiting, parked (R234), released at a commit and not sent yet
(R235), answered as a violation after the floor (R212), sent. -/
inductive AccSt where
  | waiting | parked (tag : Nat) | released (tag : Nat) | viol (tag : Nat) | sent (tag : Nat)
  deriving DecidableEq, Repr

/-- An access that a service-port NI has taken and that is not complete (R270). -/
structure SpAcc where
  /-- RID; none for the Warden (R268) -/
  rid : Option Nat
  /-- OP: 0 LD, 1 ST, 2 XLD, 3 XST -/
  op : Nat
  /-- ADDR (R260) -/
  addr : Nat
  /-- BYTES -/
  bytes : Nat
  /-- STREAM -/
  stream : Nat
  /-- write data, little-endian from the first byte -/
  data : Nat
  /-- place in program order -/
  seq : Nat
  /-- stage -/
  st : AccSt
  /-- home to which it was sent -/
  home : Option (Nat × Nat)
  /-- a DEVICE access, decided when it is sent (R269) -/
  dev : Bool
  /-- place in the order of joining that it had when it parked (R235) -/
  ord : Option Nat
  deriving DecidableEq, Repr

/-- An entry of the posted-write buffer (R275): WAITING while it has no tag. -/
structure PwbEnt where
  /-- STREAM of its ordering identifier -/
  stream : Nat
  /-- address of its first byte, in the form of R260 -/
  addr : Nat
  /-- bytes -/
  len : Nat
  /-- data, little-endian from the first byte -/
  data : Nat
  /-- place in program order of its first store -/
  seq : Nat
  /-- eligible to be sent (R277) -/
  elig : Bool
  /-- parked (R234) -/
  parked : Bool
  /-- released at a commit and not sent yet (R235) -/
  freed : Bool
  /-- place in the order of joining that it had when it parked (R235) -/
  ord : Option Nat
  /-- tag, once SENT -/
  tag : Option Nat
  /-- home to which it was sent -/
  home : Option (Nat × Nat)
  deriving DecidableEq, Repr

/-- A barrier that is not acknowledged (R281): its RID, OP 4, 5 or 6, STREAM and place in program order. -/
structure SpBar where
  /-- RID -/
  rid : Nat
  /-- OP -/
  op : Nat
  /-- STREAM -/
  stream : Nat
  /-- place in program order -/
  seq : Nat
  deriving DecidableEq, Repr

/-- Stages of the exception-drain handshake (R289). -/
inductive ExcSt where
  | idle | draining | acked
  deriving DecidableEq, Repr

/-- A service-port NI. -/
structure Sp where
  /-- SPd_RST_N as driven -/
  rstN : Bool
  /-- SPd_READY -/
  ready : Bool
  /-- no request is sent before this time (R291) -/
  noReq : Option Nat
  /-- down buffer, oldest first -/
  dn : List SpWord
  /-- words up to the next head word belong to a refused message -/
  skip : Bool
  /-- down credits that the CPU side holds -/
  dnCred : Nat
  /-- up credits that the NI holds -/
  upCred : Nat
  /-- response messages that wait for the up stream, oldest first -/
  up : List SpMsg
  /-- words last presented on the up stream -/
  upOut : List Nat
  /-- SPd_EXC_REQ as sampled -/
  excReq : Bool
  /-- exception drain -/
  exc : ExcSt
  /-- entries that the exception drain waits for, by place in program order -/
  excWait : List Nat
  /-- the tile waits to power down (R292) -/
  pdReq : Bool
  /-- CDC_TIMEOUT fence -/
  fence : Bool
  /-- accesses, in program order -/
  acc : List SpAcc
  /-- posted-write buffer, in buffer order -/
  pwb : List PwbEnt
  /-- barriers not acknowledged, in program order -/
  bar : List SpBar
  /-- RIDs of requests that have not been answered, one for each request (R261) -/
  rids : List Nat
  /-- refusals with a duplicate RID, which wait for the earlier response (R261) -/
  dup : List SpMsg
  /-- next place in program order -/
  seq : Nat
  /-- tags -/
  tags : SMap Tag
  /-- accesses completed by an accepted response packet, with their response messages, by tag -/
  msgs : SMap (SpAcc × SpMsg)
  /-- granules to which an XLD went as AG_RD, by STREAM: the stream and FAM index (R266) -/
  xedge : List (Nat × Nat)
  /-- violation queue (R213): tag and earliest release -/
  violQ : List (Nat × Nat)
  /-- violating requests that wait for the violation queue -/
  violW : List (Nat × Nat)
  /-- hold queue (R234): tags, oldest first -/
  holdQ : List Nat
  /-- parked requests that wait for the hold queue -/
  holdW : List Nat
  /-- injection scheduler -/
  inj : Sched
  /-- egress scheduler -/
  egr : Sched
  /-- T of the lookup logic (R228) -/
  lensT : Option Nat
  /-- running drain mark -/
  drain : Option DrainMark
  /-- the answer to the Warden's access, once there: RESULT and data -/
  warden : Option (Nat × Nat)
  /-- CYC of the tile at the last histogram sample (R330) -/
  histAt : Nat
  deriving DecidableEq, Repr

/-- A service-port NI that leaves an instance reset (R256, R259, R333). -/
def Sp.reset : Sp where
  rstN := true
  ready := true
  noReq := none
  dn := []
  skip := false
  dnCred := 32
  upCred := 0
  up := []
  upOut := []
  excReq := false
  exc := .idle
  excWait := []
  pdReq := false
  fence := false
  acc := []
  pwb := []
  bar := []
  rids := []
  dup := []
  seq := 0
  tags := []
  msgs := []
  xedge := []
  violQ := []
  violW := []
  holdQ := []
  holdW := []
  inj := Sched.reset
  egr := Sched.reset
  lensT := none
  drain := none
  warden := none
  histAt := 0

/-- A reservation (R285): ordering identifier as SRC_TILE, SRC_SLOT and OID, and granule number. -/
structure Resv where
  /-- SRC_TILE -/
  tile : Nat
  /-- SRC_SLOT -/
  slot : Nat
  /-- OID -/
  oid : Nat
  /-- first byte of the reservation granule -/
  gran : Nat
  deriving DecidableEq, Repr

/-- A Commons bank: SRAM bytes and reservations, oldest first. Its answer queue (R664) is the injection list of the
tile's slot-1 unit. -/
structure Cmn where
  /-- bytes, 0 to 0x7_FFFF; an unlisted byte reads zero -/
  mem : List Host.Cell
  /-- reservations, oldest first -/
  resv : List Resv
  deriving DecidableEq, Repr

/-- A Commons bank after reset. -/
def Cmn.reset : Cmn := ⟨[], []⟩

end Sys2Proof.Machine
end

