-- ==== Sys2Proof/Machine/State.lean ====
section
/-! DEFINITION. State: everything that the spec gives the block, as plain data, with the queue of waiting commands; the
reasons for which a step stops; and the state after reset. -/

namespace Sys2Proof.Machine

/-- An answer to an object access (R496, R526): requester tag of R481, code and data. -/
structure Ans where
  /-- requester: 0 to 3 MBX, 4 to 7 crossbar slots, 8 to 11 collector, 12 none -/
  who : Nat
  /-- code -/
  code : Nat
  /-- data bytes as one little-endian number -/
  data : Nat
  deriving DecidableEq, Repr

/-- The fabric: everything but the queue of commands. A sparse map lists only entries that differ from the unit's reset
value. -/
structure Fab where
  /-- tiles 0 to 255: router, edge NI, counters, power state (R15, R40) -/
  tiles : SMap Tile
  /-- objects that hold a value of their own, by `objKey`; an unlisted object has its default (R517 to R534) -/
  objs : SMap Nat
  /-- fault families, by `famKey`, `famLantern` and `famMap` (R569 to R577) -/
  flt : SMap Fam
  /-- stage, commit and drain (R221 to R242) -/
  bind : Bind
  /-- FAM copies of the dies with tables, overlay and configuration shadow (R40, R225, R503) -/
  copy : SMap FamCopy
  /-- Lanterns of the dies (R408 to R442) -/
  lan : SMap Lantern
  /-- trace quarters of the dies (R609 to R611) -/
  quarter : SMap Quarter
  /-- crossing-sides, at key 8*seam-side + crossing (R368 to R400) -/
  cross : SMap CrossSide
  /-- seam-sides (R401 to R405) -/
  side : SMap SeamSide
  /-- service-port NIs (R256 to R292) -/
  sp : SMap Sp
  /-- Commons banks (R283 to R288) -/
  cmn : SMap Cmn
  /-- spill ports (R353 to R367) -/
  sk : SMap Sk
  /-- answers to object accesses on their way to their requesters (R496) -/
  answers : List Ans
  /-- INSTANCE_NONCE (R542) -/
  nonce : Nat
  /-- dies: resets and power domains (R584, R638 to R646) -/
  dies : SMap Die
  /-- seam repair defaults that the OTP load gave, at key 8*seam-side + crossing (R382, R560) -/
  repair : SMap Nat
  /-- crossings between clock domains (R469 to R475) -/
  cdc : SMap CdcSt
  /-- the boot window is open: FABRIC_MODE has not been written since the reset (R646, R647) -/
  boot : Bool
  /-- run time at which the boot window opened -/
  bootAt : Nat
  /-- dies that a FABRIC_MODE write has not reached and that take it when the ring does (R660) -/
  modeDue : List Nat
  /-- DEFAULT_MODE that the OTP load gave (R560) -/
  defaultMode : Nat
  /-- breaks of the Guyline ring: bits 0 to 3 clockwise, 4 to 7 counter-clockwise (R486) -/
  guyBreaks : Nat
  /-- RST_COLD_N is low (R585) -/
  coldLow : Bool
  /-- RST_WARM_N is low (R585) -/
  warmLow : Bool
  /-- the model's own: how many free values have been taken (log 3) -/
  fresh : Nat
  /-- Guyline master and stations (R477 to R486) -/
  guy : Guy
  /-- mailboxes 0 to 3, and 4 to 7 the request slots of N4 (R495, R512) -/
  mbx : SMap Mbx
  /-- registers of the MAP (R487 to R494) -/
  map : MapRegs
  /-- management crossbar (R511 to R515) -/
  xb : Xbar
  /-- one-time storage and its controller (R558 to R565) -/
  otp : Otp
  /-- verify engine (R566) -/
  ve : Ve
  /-- Warden and its SRAM (R508 to R510, R545 to R557) -/
  wd : Warden
  /-- resets under way, in order of their starts (R584 to R586) -/
  rsts : List Rst
  /-- Counter Collector (R603 to R606) -/
  coll : Coll
  deriving DecidableEq, Repr

/-- The block and the commands that wait for it, first in, first out. -/
structure State where
  /-- commands that wait -/
  pending : List Instr
  /-- the fabric -/
  fab : Fab
  deriving DecidableEq, Repr

/-- Why a step stops the block. -/
inductive Fault where
  /-- Raised by VDD_AO_LOSS alone: VDD_AO goes off on a powered die outside RST_COLD_N low while another die keeps it, whose
  result R645 does not define. Safe: no claim about a next state covers it. -/
  | vddAoRemoved
  deriving DecidableEq, Repr

/-- Why a step refuses a command. -/
inductive Refusal where
  /-- No meaning raises it. It would name a command of the table that has no meaning in the model. Safe. -/
  | notModelled (mnemonic : String)
  deriving DecidableEq, Repr

/-- Changes the fabric. -/
def State.onFab (s : State) (g : Fab → Fab) : State := { s with fab := g s.fab }

/-! ## Reset: the moment at which a cold instance reset has ended (R586 to R589, R646; log 20) -/

/-- The record that Clollaid programs before shipment (R558), word by word: magic, GEN 1 and FORMAT 1, DEFAULT_MODE
BALANCED, DONE and the CRC of R559. Serial number, repair defaults and trims are zero (log 21). -/
def shippedRecord : SMap Nat :=
  [(0, 0x42505231), (1, 0x0101), (16, 1), (510, 0xA5C35A3C), (511, 1797438191)]

/-- The ABANDON that an edge NI or a spill port leaving reset sends (R364). -/
def resetAbandon (fromTile fromSlot toTile toSlot queueTile : Nat) : Packet :=
  mkEnvelope .abandon toTile toSlot fromTile fromSlot queueTile 7 0 0 false []

/-- A tile at the end of a cold instance reset: its trace generator is seeded, its ABANDON packets wait (R364, R607). -/
def resetTile (t : Nat) : Tile :=
  let ports := [2 * dieOf t, 2 * dieOf t + 1]
  { Tile.reset with
    ni := { Ni.reset with
      lfsr := Config.lfsrSeed t 0
      env := ports.map (fun n => resetAbandon t 0 (skTile n) 1 t) }
    uout := if ports.any (fun n => skTile n == t) then
        (tilesOfDie (dieOf t)).map (fun v => resetAbandon t 1 v 0 v)
      else [] }

/-- A service-port NI at the end of a cold instance reset: the LENS_INV of its die's edge NIs wait (R231). -/
def resetSp (d : Nat) : Sp :=
  { Sp.reset with
    inj := { Sched.reset with
      seq := 64
      q := [(7, (List.range 64).map (fun k =>
        ⟨mkControl (64 * d + k) 0 (spTile d) 1 opcLensInv (objDefault .sp d O.SP_PROV 0) (2 ^ 80), none, 0, false, false, k, false, true⟩))] } }

/-- A crossing-side at the end of a cold reset: both halves begin full training (R380, R394). -/
def resetCross : CrossSide :=
  { CrossSide.reset with
    tx := .training, rx := .training
    txTr := some ⟨true, false, 1, 0, 0, false, 0⟩, rxTr := some ⟨true, false, 1, 0, 0, false, 0⟩ }

/-- The fabric at that moment. -/
def Fab.reset : Fab where
  tiles := (List.range 256).map (fun t => (t, resetTile t))
  objs := []
  flt := []
  bind := Bind.reset
  copy := []
  lan := [(0, { Lantern.reset with hops := 0 }), (1, { Lantern.reset with st := .acquire }),
    (2, { Lantern.reset with st := .acquire }), (3, { Lantern.reset with st := .acquire })]
  quarter := []
  cross := (List.range 64).map (fun k => (k, resetCross))
  side := []
  sp := (List.range 4).map (fun d => (d, resetSp d))
  cmn := []
  sk := []
  answers := []
  nonce := 0
  dies := []
  repair := []
  cdc := []
  boot := true
  bootAt := 0
  modeDue := []
  defaultMode := 1
  guyBreaks := 0
  coldLow := false
  warmLow := false
  fresh := 0
  guy := Guy.reset
  mbx := []
  map := MapRegs.reset
  xb := Xbar.reset
  otp := { arr := shippedRecord, addr := 0, wdata := 0, fail := false, loaded := true, slot := some 0 }
  ve := { Ve.reset with op := some .draw }
  wd := { Warden.reset with measDue := true }
  rsts := []
  coll := Coll.reset

/-- The block right after reset; no command waits. -/
def State.reset : State := ⟨[], Fab.reset⟩

end Sys2Proof.Machine
end

