-- ==== Sys2Proof/Machine/Ops.lean ====
section
/-! DEFINITION. Ops: the named operations over units, objects, times and fault families that every meaning
uses. -/

namespace Sys2Proof.Machine

/-! ## Units -/

/-- Key of a crossing between clock domains. -/
def cdcKey : Cdc → Nat
  | .eapIn t => t | .eapOut t => 256 + t | .station t => 512 + t | .cell t => 768 + t
  | .sp d => 1024 + d | .sk n => 1032 + n | .seamTx ss c => 1040 + 8 * ss + c | .seamRx ss c => 1104 + 8 * ss + c
  | .lantern d => 1168 + d | .mapXbar => 1172 | .xbarGuy => 1173 | .debug => 1174 | .otp => 1175
/-- State of a crossing. -/
def Fab.cdcOf (f : Fab) (x : Cdc) : CdcSt := f.cdc.get (fun _ => CdcSt.reset) (cdcKey x)
/-- Changes a crossing. -/
def Fab.modCdc (f : Fab) (x : Cdc) (g : CdcSt → CdcSt) : Fab :=
  { f with cdc := f.cdc.set (fun _ => CdcSt.reset) (cdcKey x) (g (f.cdcOf x)) }
/-- Whether a crossing is fenced. -/
def Fab.cdcFenced (f : Fab) (x : Cdc) : Bool := (f.cdcOf x).fenced
/-- Whether an access over a crossing ends with TIMEOUT (R470): the crossing is fenced, or a handshake of it is in flight
that its receiving side does not acknowledge (log 33). -/
def Fab.cdcShut (f : Fab) (x : Cdc) : Bool := (f.cdcOf x).fenced || (f.cdcOf x).busy

/-- Whether a cold instance reset is under way (R433, R585, R588). -/
def Fab.coldRuns (f : Fab) : Bool := f.rsts.any (fun r => r.sc == .inst && r.cold)

/-- Tile `t`. -/
def Fab.tile (f : Fab) (t : Nat) : Tile := f.tiles.get (fun _ => Tile.reset) t
/-- Replaces tile `t`. -/
def Fab.setTile (f : Fab) (t : Nat) (x : Tile) : Fab := { f with tiles := f.tiles.set (fun _ => Tile.reset) t x }
/-- Changes tile `t`. -/
def Fab.modTile (f : Fab) (t : Nat) (g : Tile → Tile) : Fab := f.setTile t (g (f.tile t))
/-- Edge NI of tile `t`. -/
def Fab.ni (f : Fab) (t : Nat) : Ni := (f.tile t).ni
/-- Changes the edge NI of tile `t`. -/
def Fab.modNi (f : Fab) (t : Nat) (g : Ni → Ni) : Fab := f.modTile t (fun x => { x with ni := g x.ni })
/-- The FAM copy of die `d`. -/
def Fab.copyOf (f : Fab) (d : Nat) : FamCopy := f.copy.get (fun _ => FamCopy.reset) d
/-- Changes the FAM copy of die `d`. -/
def Fab.modCopy (f : Fab) (d : Nat) (g : FamCopy → FamCopy) : Fab :=
  { f with copy := f.copy.set (fun _ => FamCopy.reset) d (g (f.copyOf d)) }
/-- The Lantern of die `d`. -/
def Fab.lantern (f : Fab) (d : Nat) : Lantern := f.lan.get (fun _ => Lantern.reset) d
/-- Changes the Lantern of die `d`. -/
def Fab.modLan (f : Fab) (d : Nat) (g : Lantern → Lantern) : Fab :=
  { f with lan := f.lan.set (fun _ => Lantern.reset) d (g (f.lantern d)) }
/-- Changes the binding state. -/
def Fab.modBind (f : Fab) (g : Bind → Bind) : Fab := { f with bind := g f.bind }

/-- Die `d`. -/
def Fab.die (f : Fab) (d : Nat) : Die := f.dies.get Die.reset d
/-- Changes die `d`. -/
def Fab.modDie (f : Fab) (d : Nat) (g : Die → Die) : Fab :=
  { f with dies := f.dies.set Die.reset d (g (f.die d)) }
/-- Whether a die is powered and in no die or instance reset. -/
def Fab.dieLive (f : Fab) (d : Nat) : Bool := !(f.die d).rst && (f.die d).ao
/-- Service-port NI `d`. -/
def Fab.spOf (f : Fab) (d : Nat) : Sp := f.sp.get (fun _ => Sp.reset) d
/-- Changes service-port NI `d`. -/
def Fab.modSp (f : Fab) (d : Nat) (g : Sp → Sp) : Fab := { f with sp := f.sp.set (fun _ => Sp.reset) d (g (f.spOf d)) }
/-- Commons bank `n`. -/
def Fab.cmnOf (f : Fab) (n : Nat) : Cmn := f.cmn.get (fun _ => Cmn.reset) n
/-- Changes Commons bank `n`. -/
def Fab.modCmn (f : Fab) (n : Nat) (g : Cmn → Cmn) : Fab :=
  { f with cmn := f.cmn.set (fun _ => Cmn.reset) n (g (f.cmnOf n)) }
/-- Spill port `n`. -/
def Fab.skOf (f : Fab) (n : Nat) : Sk := f.sk.get (fun _ => Sk.reset) n
/-- Changes spill port `n`. -/
def Fab.modSk (f : Fab) (n : Nat) (g : Sk → Sk) : Fab := { f with sk := f.sk.set (fun _ => Sk.reset) n (g (f.skOf n)) }
/-- An answer to an object access goes to its requester. -/
def Fab.answer (f : Fab) (who code : Nat) (data : Nat := 0) : Fab :=
  if who < 12 then { f with answers := f.answers ++ [⟨who, code, data⟩] } else f

/-! ## Times -/

/-- Die time, TIME80. -/
def Fab.dieTime (f : Fab) (d : Nat) : Nat := (f.lantern d).time
/-- Lantern time of a tile (R413), TIME80. -/
def Fab.time (f : Fab) (t : Nat) : Nat := (f.lantern (dieOf t)).tileTime t
/-- Run time of a tile (R429). -/
def Fab.run (f : Fab) (t : Nat) : Int := (f.time t : Int) - (f.lantern (dieOf t)).stepSum
/-- Whether run time has reached a deadline recorded in run time (R429). -/
def Fab.passed (f : Fab) (t : Nat) (deadline : Int) : Bool := decide (deadline ≤ f.run t)

/-! ## Objects -/

/-- The value of an object. -/
def Fab.o (f : Fab) (sc : Scope) (num idx : Nat) (sub : Nat := 0) : Nat :=
  f.objs.get keyDefault (objKey sc num idx sub)
/-- Stores an object's value. -/
def Fab.setO (f : Fab) (sc : Scope) (num idx sub v : Nat) : Fab :=
  { f with objs := f.objs.set keyDefault (objKey sc num idx sub) v }
/-- Adds to an RC counter, which stops at the largest value of its type (R524). -/
def Fab.bump (f : Fab) (sc : Scope) (num idx sub : Nat) (n : Nat := 1) : Fab :=
  let top := match objRow sc idx sub with | some r => r.ty.top | none => 0
  f.setO sc num idx sub (min top (f.o sc num idx sub + n))
/-- Adds to an RC counter of a tile. -/
def Fab.bumpT (f : Fab) (t idx : Nat) (n : Nat := 1) : Fab := f.bump .tile t idx 0 n
/-- Raises an RC peak object to at least `v` (R524). -/
def Fab.peak (f : Fab) (sc : Scope) (num idx v : Nat) : Fab := f.setO sc num idx 0 (max v (f.o sc num idx))
/-- A tile object. -/
def Fab.oT (f : Fab) (t idx : Nat) (sub : Nat := 0) : Nat := f.o .tile t idx sub
/-- An instance object. -/
def Fab.oI (f : Fab) (idx : Nat) (sub : Nat := 0) : Nat := f.o .inst 0 idx sub

/-- CDC_TIMEOUT as it stands (R470, R472). -/
def Fab.cdcLimit (f : Fab) : Nat := f.oI O.CDC_TIMEOUT
/-- A source event of a crossing (R466); a fenced or held crossing carries nothing (R470, R473). -/
def Fab.cdcEvent (f : Fab) (x : Cdc) : Fab :=
  f.modCdc x (fun c => if c.fenced || c.peer != 0 then c else c.event f.cdcLimit)
/-- A crossing carries a value, with the event that it means as a field of it (R467, R468). -/
def Fab.cdcCarry (f : Fab) (x : Cdc) (v : Nat) : Fab :=
  f.modCdc x (fun c => if c.fenced || c.peer != 0 then c else c.value f.cdcLimit v)

/-- An INSTANCE object held in stations, as the stations of die `d` hold it (R483, R531): the copy of D0 is the one that
a read returns. -/
def Fab.oD (f : Fab) (d idx : Nat) (sub : Nat := 0) : Nat := f.o .inst d idx sub

/-- Counts an event of a tile in the running QCLK cycle (R598): `n` of event `code` with qualifier `q`. -/
def Fab.event (f : Fab) (t code q : Nat) (n : Nat := 1) : Fab :=
  f.modTile t (fun x => { x with ev := x.ev.set (fun _ => 0) (8 * code + q) (x.ev.get (fun _ => 0) (8 * code + q) + n) })

/-- Scope code of a key of the object store. -/
def keyScope (k : Nat) : Nat := k >>> 32
/-- Unit number of a key. -/
def keyNum (k : Nat) : Nat := field k 24 8
/-- Object index of a key. -/
def keyIdx (k : Nat) : Nat := field k 8 16
/-- Objects whose keys satisfy `p` return to their defaults. -/
def Fab.dropObjs (f : Fab) (p : Nat → Bool) : Fab := { f with objs := f.objs.filter (fun kv => !p kv.1) }

/-- A wake request waits at a tile that sleeps, or whose quadrant has no clock (R450, R456, R461, R649). -/
def Fab.askWake (f : Fab) (t : Nat) : Fab :=
  if (f.tile t).st == .t1 || (f.tile t).st == .t2 || (f.tile t).st == .t3
      || ((f.tile t).st == .t0 && f.o .quad (quadOf t) O.QPLL_STATE != 0) then
    f.modTile t (fun x => { x with pw := { x.pw with wakeReq := true } })
  else f

/-! ## Byte memories -/

/-- What a byte that nothing has written reads as: zero. DEDUCED (log 10). -/
def emptyByte (_ : Nat) : BitVec 8 := 0
/-- `n` bytes of a memory from an address, little-endian (R23). -/
def memRead (m : List Host.Cell) (a : Nat) : Nat → Nat
  | 0 => 0
  | n + 1 => (SMap.get emptyByte m a).toNat + 256 * memRead m (a + 1) n
/-- Writes `n` bytes from an address, little-endian; bit `k` of `be` lets byte `k` be written. -/
def memWrite (m : List Host.Cell) (a v be : Nat) : Nat → List Host.Cell
  | 0 => m
  | n + 1 =>
    memWrite (if be % 2 = 1 then SMap.set emptyByte m a (BitVec.ofNat 8 v) else m) (a + 1) (v / 256) (be / 2) n

/-! ## Fault families (R569 to R577) -/

/-- Key of a fault family: of a scope type and number. -/
def famKey (sc : Scope) (num : Nat) : Nat := sc.code * 256 + num
/-- Key of the Lantern family of a die (R535). -/
def famLantern (d : Nat) : Nat := 8 * 256 + d
/-- Key of the MAP family (R582). -/
def famMap : Nat := 9 * 256

/-- A fault family. -/
def Fab.fam (f : Fab) (k : Nat) : Fam := f.flt.get (fun _ => Fam.reset) k
/-- Replaces a fault family. -/
def Fab.setFam (f : Fab) (k : Nat) (x : Fam) : Fab := { f with flt := f.flt.set (fun _ => Fam.reset) k x }
/-- Changes a fault family. -/
def Fab.modFam (f : Fab) (k : Nat) (g : Fam → Fam) : Fab := f.setFam k (g (f.fam k))

/-- Raising source `k` with its capture (R570): PEND sets; a free latch captures, a held one sets OVF. -/
def Fam.raise (x : Fam) (k : Nat) (info : List Nat) : Fam :=
  if bit x.first 15 then { x with pend := setBit x.pend k, ovf := true }
  else { x with pend := setBit x.pend k, first := k + 2 ^ 15, info := info }

/-- Whether the family's line is high (R576). -/
def Fam.line (x : Fam) : Bool := decide (x.pend &&& x.en ≠ 0)

/-- Freeing the latch (R575): PEND and OVF stay, INFO keeps its capture (R572). -/
def Fam.freeLatch (x : Fam) : Fam := { x with first := 0 }

/-- Clearing pending bits by writing ones (R574): an event, or a bit set by FORCE, clears at once; a condition
clears only while its cause does not hold. -/
def Fam.clearPend (x : Fam) (ones : Nat) : Fam :=
  let blocked := clearBits x.cond x.forced
  let m := clearBits ones (ones &&& blocked)
  { x with pend := clearBits x.pend (x.pend &&& m), forced := clearBits x.forced (x.forced &&& m) }

/-- Forcing source `k` (R573). -/
def Fam.force (x : Fam) (k : Nat) (info3 : Nat) : Fam :=
  let y := x.raise k [0, 0, 0, info3]
  { y with forced := if bit x.pend k then y.forced else setBit y.forced k }

/-- Nanoseconds of a family's capture time (R572): bits [79:16] of the tile time for families held in a tile,
of the die time otherwise. -/
def Fab.famNs (f : Fab) (key : Nat) : Nat :=
  let n := key % 256
  match key / 256 with
  | 3 => f.time n / 65536
  | 4 => f.dieTime (sideDie n) / 65536
  | 5 => f.time (skTile n) / 65536
  | 6 => f.time (spTile n) / 65536
  | 7 => f.time (cmnTile n) / 65536
  | 1 => f.dieTime n / 65536
  | 8 => f.dieTime n / 65536
  | _ => f.dieTime 0 / 65536

/-- Whether the unit of a family is in reset, when it raises no source (R577). -/
def Fab.famInReset (f : Fab) (key : Nat) : Bool :=
  let n := key % 256
  let inR (t : Nat) : Bool := (f.tile t).st == .reset || (f.tile t).st == .unpowered
  match key / 256 with
  | 3 => inR n
  | 5 => inR (skTile n)
  | 6 => inR (spTile n)
  | 7 => inR (cmnTile n)
  | 1 => (f.die n).rst
  | 4 => (f.die (sideDie n)).rst
  | 0 => f.rsts.any (fun r => r.sc == .inst) || f.map.strapErr
  | 9 => f.rsts.any (fun r => r.sc == .inst) || f.map.strapErr
  | _ => false

/-- Raises an event source (R570, R572, R577). -/
def Fab.raise (f : Fab) (key code i0 i1 i2 : Nat) : Fab :=
  if f.famInReset key then f else f.modFam key (fun x => x.raise code [i0, i1, i2, f.famNs key])
/-- Raises a condition source whose cause begins now (R574); a cause that already holds raises nothing anew. -/
def Fab.raiseC (f : Fab) (key code i0 i1 i2 : Nat) : Fab :=
  if bit (f.fam key).cond code then f
  else (f.raise key code i0 i1 i2).modFam key (fun x => { x with
    cond := setBit x.cond code, forced := clearBits x.forced (mask code) })
/-- Raises a condition source for one more cause, whether or not another cause already holds it (R118, R574). -/
def Fab.raiseMore (f : Fab) (key code i0 i1 i2 : Nat) : Fab :=
  (f.raise key code i0 i1 i2).modFam key (fun x => { x with
    cond := setBit x.cond code, forced := clearBits x.forced (mask code) })
/-- The cause of a condition source ends (R574). -/
def Fab.endC (f : Fab) (key code : Nat) : Fab :=
  f.modFam key (fun x => { x with cond := clearBits x.cond (x.cond &&& mask code) })
/-- Raises an event source of a tile's family. -/
def Fab.raiseT (f : Fab) (t code i0 i1 i2 : Nat) : Fab := f.raise (famKey .tile t) code i0 i1 i2

/-! ## Folding over units -/

/-- Applies an operation for each element of a list, in order. -/
def Fab.forEach {α : Type} (f : Fab) (l : List α) (g : Fab → α → Fab) : Fab := l.foldl g f

/-! ## Parity (R138) -/

/-- Parity bit `k` of a 640-bit word: it makes the ones of its 64 bits and itself even. -/
def parityBit (v k : Nat) : Nat := popcount (field v (64 * k) 64) 64 % 2
/-- The ten parity bits of a 640-bit word (R138). -/
def parity640 (v : Nat) : Nat := (List.range 10).foldl (fun acc k => acc + parityBit v k * 2 ^ k) 0
/-- Parity groups of a word that a received parity fails, as a bit set. -/
def parityFails (v par : Nat) : Nat := (parity640 v) ^^^ (par % 1024)

end Sys2Proof.Machine
end

