-- ==== Sys2Proof/Machine/MgmtOps.lean ====
section
/-! DEFINITION. MgmtOps: which dies the Guyline ring reaches (R479, R486), the configuration shadow (R503), and what a
change of the configuration does to the scrubbers, the reference and the measurement (R506, R507, R557). -/

namespace Sys2Proof.Machine

/-! ## The ring (R479, R480, R486) -/

/-- Seams that the ring crosses, in order, in a rotation: S01, S13, S23, S02 clockwise. -/
def ringSeams (ccw : Bool) : List Nat := if ccw then [2, 1, 3, 0] else [0, 3, 1, 2]
/-- Dies beyond those seams, in order. -/
def ringDies (ccw : Bool) : List Nat := if ccw then [2, 3, 1] else [1, 3, 2]
/-- Whether a seam hop is a break in a rotation (R486): bits 0 to 3 clockwise, 4 to 7 counter-clockwise. -/
def Fab.broken (f : Fab) (ccw : Bool) (seam : Nat) : Bool := bit f.guyBreaks (seam + 4 * b2n ccw)
/-- How many seam hops a frame passes in a rotation before a break; 4 for a full lap. -/
def Fab.ringHops (f : Fab) (ccw : Bool) : Nat := ((ringSeams ccw).takeWhile (fun s => !f.broken ccw s)).length
/-- Whether a frame passes a die in a rotation. -/
def Fab.ringPasses (f : Fab) (ccw : Bool) (d : Nat) : Bool := d == 0 || ((ringDies ccw).take (f.ringHops ccw)).contains d
/-- Whether a frame sent in a rotation comes back: it makes the lap, or it is turned at the break and finds the way back
in the other rotation. -/
def Fab.ringReturns (f : Fab) (ccw : Bool) : Bool :=
  f.ringHops ccw == 4 || ((ringSeams ccw).take (f.ringHops ccw)).all (fun s => !f.broken (!ccw) s)
/-- Whether an access reaches a die in one rotation or the other (R486). -/
def Fab.ringReach (f : Fab) (d : Nat) : Bool :=
  (f.ringPasses false d && f.ringReturns false) || (f.ringPasses true d && f.ringReturns true)
/-- Whether the die station of a die can be reached and the die is up. -/
def Fab.stationUp (f : Fab) (d : Nat) : Bool := f.ringReach d && f.dieLive d
/-- Whether a broadcast applies at a die (R483, R486): its frame goes clockwise until the die before a break turns it back,
and a broadcast is not sent in the other rotation. -/
def Fab.bcastUp (f : Fab) (d : Nat) : Bool :=
  f.dieLive d && (if f.ringHops false = 0 then f.ringPasses true d else f.ringPasses false d)
/-- GUY_STATE (R486): a break at each seam, in either direction. -/
def Fab.guyState (f : Fab) : Nat := field f.guyBreaks 0 4 ||| field f.guyBreaks 4 4

/-! ## The configuration (R503, R506, R507, R557) -/

/-- Changes the MAP registers. -/
def Fab.modMap (f : Fab) (g : MapRegs → MapRegs) : Fab := { f with map := g f.map }
/-- Changes the Warden. -/
def Fab.modWd (f : Fab) (g : Warden → Warden) : Fab := { f with wd := g f.wd }
/-- REF_VALID changes: MATCH and DONE clear (R507). -/
def MapRegs.setValid (m : MapRegs) (b : Bool) : MapRegs :=
  if m.refValid = b then m else { m with refValid := b, matched := 0, done := 0 }
/-- Run time of D0. -/
def Fab.run0 (f : Fab) : Nat := (f.lantern 0).run.toNat
/-- A measured change (R557): CONFIG_MEASURE reads zero until the next measurement is complete. -/
def Fab.measured (f : Fab) : Fab := f.modWd (fun w => { w with measDue := true, measAt := f.run0, measure := 0 })
/-- The passes of every die start anew (R506). -/
def Fab.newPasses (f : Fab) : Fab :=
  f.modMap (fun m => { m with passAt := (List.range 4).map (fun d => (f.lantern d).run.toNat) })
/-- QCLK of quadrant `q` runs again: with quadrant 0 of a die its scrubber begins a pass (R506). -/
def Fab.startPass (f : Fab) (q : Nat) : Fab :=
  f.modMap (fun m => { m with
    passAt := if q % 4 = 0 then modAt m.passAt (q / 4) (fun _ => (f.lantern (q / 4)).run.toNat) else m.passAt })
/-- A commit takes effect or the shadow is written (R506, R507, R557). -/
def Fab.configChange (f : Fab) : Fab := (f.newPasses.modMap (fun m => m.setValid false)).measured
/-- The shadow of a die takes an object's value (R503). -/
def Fab.shadowDie (f : Fab) (d : Nat) (sc : Scope) (num idx sub v : Nat) : Fab :=
  f.modCopy d (fun c => { c with shadow := c.shadow.set keyDefault (objKey sc num idx sub) v })
/-- The shadow of every die that can be reached takes an object's value, in the operation that writes the object. -/
def Fab.shadowAll (f : Fab) (sc : Scope) (num idx sub v : Nat) : Fab :=
  ((List.range 4).foldl (fun f d => if f.stationUp d then f.shadowDie d sc num idx sub v else f) f).configChange

end Sys2Proof.Machine
end

