-- ==== Sys2Proof/Machine/Sideband.lean ====
section
/-! DEFINITION. Sideband: the characters of the sideband lanes (R401, R415, R480, R636, R637): the bytes of a message, the
8b/10b code, and the comma alignment of a receive lane. -/

namespace Sys2Proof.Machine

/-! ## Messages as characters (R401, R415) -/

/-- A character before coding: a K character or a data byte. -/
structure SbChar where
  /-- a K character -/
  k : Bool
  /-- its byte: 32*y + x of Kx.y or Dx.y -/
  byte : Nat
  deriving DecidableEq, Repr

/-- The K character Kx.y. -/
def kChar (x y : Nat) : SbChar := ⟨true, 32 * y + x⟩
/-- The comma K28.5 that an idle lane sends. -/
def comma : SbChar := kChar 28 5

/-- `n` data bytes of a number, its low byte first. R401 numbers the bits and gives no order of the bytes: PRESUMED
(log 83). -/
def dataChars (v n : Nat) : List SbChar := (List.range n).map (fun k => ⟨false, field v (8 * k) 8⟩)

/-- The first character of a message and its data, as the tables of R401 and R415 lay them out: the data bits as a number
and its bytes. -/
def SbMsg.layout : SbMsg → SbChar × Nat × Nat
  | .knock c => (kChar 28 1, c % 8, 1)
  | .awake c level => (kChar 28 2, c % 8 + 8 * b2n level, 1)
  | .sleep c => (kChar 28 3, c % 8, 1)
  | .slept c => (kChar 28 4, c % 8, 1)
  | .state c st spares half => (kChar 28 6, c % 8 + 8 * st.code + 64 * min 3 spares + 256 * b2n half, 2)
  | .rst c all kind => (kChar 23 7, c % 8 + 8 * b2n all + 16 * (kind % 4), 1)
  | .train c phase excl => (kChar 27 7, c % 8 + 8 * (phase % 8) + 64 * (excl % 2 ^ 30), 5)
  | .timeReq seq => (kChar 28 0, seq % 256, 1)
  | .timeRsp seq t2 dt st hops =>
    (kChar 29 7, seq % 256 + 2 ^ 8 * (t2 % 2 ^ 80) + 2 ^ 88 * (dt % 2 ^ 32) + 2 ^ 120 * (st % 4) + 2 ^ 122 * (hops % 4), 16)
  | .timeStep a amount => (kChar 30 7, 4 * (a % 2 ^ 80) + 2 ^ 82 * ofSigned amount 81, 22)
  | .timeOffset offset seq => (kChar 30 7, 1 + 4 * ofSigned offset 64 + 2 ^ 66 * (seq % 2 ^ 16), 22)

/-- The characters of a message. Each takes 10 ns. -/
def SbMsg.chars (m : SbMsg) : List SbChar := m.layout.1 :: dataChars m.layout.2.1 m.layout.2.2

/-- A message that lasts longer than KNOCK and AWAKE, so that they are inserted between its characters (R402). -/
def SbMsg.long (m : SbMsg) : Bool := decide (2 < m.chars.length)

/-- KNOCK and AWAKE, which are inserted at the next character boundary (R402). -/
def SbMsg.urgent : SbMsg → Bool
  | .knock _ => true
  | .awake _ _ => true
  | _ => false

/-- A message joins those on the way. KNOCK and AWAKE go ahead of the longer message that is being sent, which then resumes
and so arrives whole behind them; whole messages before it keep their place (R402). -/
def sbJoin (m : SbMsg) : List SbMsg → List SbMsg
  | [] => [m]
  | [x] => if m.urgent && x.long then [m, x] else [x, m]
  | x :: y :: l => x :: sbJoin m (y :: l)

/-! ## The 8b/10b code (R401, R636) -/

/-- The 6-bit codes of Dx at running disparity -1, written abcdei (PRESUMED: the common 8b/10b code, log 83). -/
def code6 : List Nat :=
  [0b100111, 0b011101, 0b101101, 0b110001, 0b110101, 0b101001, 0b011001, 0b111000,
   0b111001, 0b100101, 0b010101, 0b110100, 0b001101, 0b101100, 0b011100, 0b010111,
   0b011011, 0b100011, 0b010011, 0b110010, 0b001011, 0b101010, 0b011010, 0b111010,
   0b110011, 0b100110, 0b010110, 0b110110, 0b001110, 0b101110, 0b011110, 0b101011]
/-- The 4-bit codes of .y at running disparity -1, written fghj. -/
def code4 : List Nat := [0b1011, 0b1001, 0b0101, 0b1100, 0b1101, 0b1010, 0b0110, 0b1110]
/-- The 4-bit codes of K28.y behind its 6-bit code at running disparity -1. -/
def code4K28 : List Nat := [0b0100, 0b1001, 0b0101, 0b0011, 0b0010, 0b1010, 0b0110, 0b1000]

/-- `n` bits in the opposite order. -/
def revBits (v n : Nat) : Nat := (List.range n).foldl (fun a k => a + b2n (v.testBit k) * 2 ^ (n - 1 - k)) 0

/-- A part of a code at the running disparity `rd` (true for +1): complemented at +1 where it is unbalanced or has two
forms. Answers it with the running disparity after it. -/
def codePart (n v : Nat) (twoForms rd : Bool) : Nat × Bool :=
  let odd := popcount v n * 2 != n
  (if rd && (odd || twoForms) then 2 ^ n - 1 - v else v, rd != odd)

/-- The 10-bit code of a character at running disparity `rd`, bit 0 sent first, and the running disparity after it. -/
def encode10 (rd : Bool) (c : SbChar) : Nat × Bool :=
  let x := c.byte % 32
  let y := c.byte / 32 % 8
  if c.k && x == 28 then
    let v := 64 * revBits (code4K28.getD y 0) 4 + revBits 0b001111 6
    (if rd then 1023 - v else v, rd != (popcount v 10 != 5))
  else
    let a := codePart 6 (code6.getD x 0) (x == 7) rd
    let seven := y == 7 && (c.k || (!a.2 && [17, 18, 20].contains x) || (a.2 && [11, 13, 14].contains x))
    let b := codePart 4 (if seven then 0b0111 else code4.getD y 0) (y == 3) a.2
    (64 * revBits b.1 4 + revBits a.1 6, b.2)

/-- The characters SBs_TXC_j of a list at a running disparity, and the running disparity after them. -/
def encodeChars : Bool → List SbChar → List Nat × Bool
  | rd, [] => ([], rd)
  | rd, c :: l =>
    let a := encode10 rd c
    let b := encodeChars a.2 l
    (a.1 :: b.1, b.2)

/-- SBs_TXC_j in a reset of the lane (R636): K28.5. -/
def sbResetChar : Nat := (encode10 false comma).1

/-! ## Comma alignment (R636, R637) -/

/-- The bits of received 10-bit words as one number, the first received lowest. -/
def rxStream : List Nat → Nat
  | [] => 0
  | w :: l => w % 1024 + 1024 * rxStream l

/-- Whether received words hold the comma at an alignment of `off` bits. -/
def commaAt (ws : List Nat) (off : Nat) : Bool :=
  (List.range ws.length).any (fun k =>
    decide (10 * k + off + 10 ≤ 10 * ws.length)
      && [(encode10 false comma).1, (encode10 true comma).1].contains (field (rxStream ws) (10 * k + off) 10))

/-- The alignment at which received words hold the comma, if any: the lowest. -/
def commaAlign (ws : List Nat) : Option Nat := (List.range 10).find? (commaAt ws)

end Sys2Proof.Machine
end

