-- ==== Sys2Proof/Machine/SeamOps.lean ====
section
/-! DEFINITION. SeamOps: the shared operations over crossing-sides: the crossing state that routing sees (R392),
the transmit adapter (R370, R373 to R376), credits, AWAKE and the sideband (R399 to R402). -/

namespace Sys2Proof.Machine

/-- Key of a crossing-side. -/
def xKey (ss c : Nat) : Nat := 8 * ss + c
/-- Crossing-side `c` of seam-side `ss`. -/
def Fab.xs (f : Fab) (ss c : Nat) : CrossSide := f.cross.get (fun _ => CrossSide.reset) (xKey ss c)
/-- Changes a crossing-side. -/
def Fab.modX (f : Fab) (ss c : Nat) (g : CrossSide → CrossSide) : Fab :=
  { f with cross := f.cross.set (fun _ => CrossSide.reset) (xKey ss c) (g (f.xs ss c)) }
/-- Seam-side `ss`. -/
def Fab.sideOf (f : Fab) (ss : Nat) : SeamSide := f.side.get (fun _ => SeamSide.reset) ss
/-- Changes a seam-side. -/
def Fab.modSide (f : Fab) (ss : Nat) (g : SeamSide → SeamSide) : Fab :=
  { f with side := f.side.set (fun _ => SeamSide.reset) ss (g (f.sideOf ss)) }

/-- Whether a state carries frames. -/
def DirSt.runs (d : DirSt) : Bool := d == .run || d == .half
/-- Whether a state carries no traffic (R390, R392). -/
def DirSt.dead (d : DirSt) : Bool := d == .down || d == .off

/-- CROSSING_ROUTE_STATE of a crossing as a side sees it (R131, R392): 0 NORMAL, 1 DEGRADED, 2 DOWN, which every crossing
reads until both of its directions have trained. -/
def CrossSide.route (x : CrossSide) : Nat :=
  if x.tx.dead || x.rx.dead || x.peerRx.dead || !x.txUp || !x.rxUp then 2
  else if x.txHalf || x.rxHalf || x.peerHalf then 1 else 0
/-- The crossing state at a seam-side (R119, R392). -/
def Fab.routeState (f : Fab) (ss c : Nat) : Nat := (f.xs ss c).route

/-- The coded characters of a message step the running disparity of the lane that sends it (R636): lane 1, or lane 0 while
the far side's lane 1 is unlocked (R403). -/
def Fab.sbCode (f : Fab) (ss : Nat) (m : SbMsg) : Fab :=
  let on1 := (f.sideOf (farSide ss)).lock1
  f.modSide ss (fun x =>
    if on1 then { x with rd1 := (encodeChars x.rd1 m.chars).2 } else { x with rd0 := (encodeChars x.rd0 m.chars).2 })

/-- Sends a message on sideband lane 1 to the far side of a seam-side (R401); it is lost while both sideband
lanes are unlocked there (R403). -/
def Fab.sbSend (f : Fab) (ss : Nat) (m : SbMsg) : Fab :=
  let f := f.sbCode ss m
  let far := f.sideOf (farSide ss)
  if far.lock0 || far.lock1 then f.modSide (farSide ss) (fun x => { x with sb := sbJoin m x.sb }) else f

/-- ACKSEQ: the FSEQ before the next expected (R374). -/
def CrossSide.ack (x : CrossSide) : Nat := (x.exp + 63) % 64

/-- The next non-null frame of a transmit adapter and the side after it (R374, R376): at most two slots, two
credit returns and one command; `none` when nothing waits or 48 frames are unacknowledged. -/
def CrossSide.nextFrame (x : CrossSide) : Option (Frame × CrossSide) :=
  if x.fifo.isEmpty && x.creds.isEmpty && x.cmds.isEmpty then none
  else if x.replay.length ≥ 48 then none
  else
    let cmd := x.cmds.headD (.none, 0)
    let fr : Frame := ⟨x.fifo.headD [], x.creds.take 2, some x.fseq, x.ack, x.nak, x.awakeOut, cmd.1, cmd.2,
      x.gen, x.seen⟩
    some (fr, { x with fifo := x.fifo.drop 1, creds := x.creds.drop 2, cmds := x.cmds.drop 1,
                       fseq := (x.fseq + 1) % 64, replay := x.replay ++ [fr], ackOwed := false })

/-- A null frame: it carries ACKSEQ, NAK and AWAKE only (R374). -/
def CrossSide.nullFrame (x : CrossSide) : Frame := ⟨[], [], none, x.ack, x.nak, x.awakeOut, .none, 0, x.gen, x.seen⟩

/-- Puts a frame in flight to the far side. -/
def Fab.launch (f : Fab) (ss c : Nat) (fr : Frame) : Fab :=
  f.modX (farSide ss) c (fun x => { x with air := x.air ++ [fr] })

/-- Sends up to `n` waiting frames of a running direction (R373, R376). -/
def Fab.emit (f : Fab) (ss c : Nat) : Nat → Fab
  | 0 => f
  | n + 1 =>
    if (f.xs ss c).tx.runs then
      match (f.xs ss c).nextFrame with
      | some (fr, x') => ((f.modX ss c (fun _ => x')).launch ss c fr).emit ss c n
      | none => f
    else f

/-- Sends a null frame when the direction runs (R376). -/
def Fab.emitNull (f : Fab) (ss c : Nat) : Fab :=
  if (f.xs ss c).tx.runs then
    (f.launch ss c (f.xs ss c).nullFrame).modX ss c (fun x => { x with ackOwed := false })
  else f

/-- Frames that one call sends: a full replay buffer and more. -/
def emitAll : Nat := 64

/-- The router's seam port hands a phit to its transmit adapter (R370). -/
def Fab.seamSend (f : Fab) (ss c : Nat) (ph : List (Nat × Flit)) : Fab :=
  (f.modX ss c (fun x => { x with fifo := x.fifo ++ [ph] })).emit ss c emitAll
/-- A landing-buffer entry of a VC is freed: its credit return waits for a frame (R97, R374), and the direction has
been in use until now (R396). -/
def Fab.seamCredit (f : Fab) (ss c vc : Nat) : Fab :=
  (f.modX ss c (fun x => { x with creds := x.creds ++ [vc], lastFlit := f.dieTime (sideDie ss) })).emit ss c emitAll
/-- A lane command waits for a frame (R387). -/
def Fab.seamCmd (f : Fab) (ss c : Nat) (cmd : LaneCmd) (arg : Nat) : Fab :=
  (f.modX ss c (fun x => { x with cmds := x.cmds ++ [(cmd, arg)] })).emit ss c emitAll

/-- The receive side drives AWAKE of its direction: in-band when the opposite direction runs, as an AWAKE
message otherwise (R399). -/
def Fab.driveAwake (f : Fab) (ss c : Nat) (level : Bool) : Fab :=
  let f := f.modX ss c (fun x => { x with awakeOut := level, knockIn := x.knockIn && !level })
  if (f.xs ss c).tx.runs then f.emitNull ss c else f.sbSend ss (.awake c level)

/-- The output of the router behind a crossing-side. -/
def Fab.seamOut (f : Fab) (ss c : Nat) : OutPort :=
  (f.tile (sideTile ss c).1).rout.get (fun _ => OutPort.reset) (sideTile ss c).2
/-- Changes the output of the router behind a crossing-side. -/
def Fab.modSeamOut (f : Fab) (ss c : Nat) (g : OutPort → OutPort) : Fab :=
  f.modTile (sideTile ss c).1 (fun x =>
    { x with rout := x.rout.set (fun _ => OutPort.reset) (sideTile ss c).2 (g (f.seamOut ss c)) })

/-- AWAKE as received for the transmit direction takes a level (R399); a fall acts on the router at once, a rise
reaches it as AWAKE_RISE. -/
def Fab.takeAwake (f : Fab) (ss c : Nat) (level : Bool) : Fab :=
  let f := f.modX ss c (fun x => { x with awakeIn := level })
  if level then f else f.modSeamOut ss c (fun o => { o with awake := false })

end Sys2Proof.Machine
end

