-- ==== Sys2Proof/Machine/Router.lean ====
section
/-! DEFINITION. Router: route selection (R100 to R107), switch allocation (R109 to R112), the knock rule (R113 to
R118), ejection and injection at the slots (R97, R149, R301), tile counters (R593 to R598) and hop records
(R608 to R610). -/

namespace Sys2Proof.Machine

/-! ## Access to router parts -/

/-- An output (or the sender of a slot) of tile `t`. -/
def Fab.out (f : Fab) (t p : Nat) : OutPort := (f.tile t).rout.get (fun _ => OutPort.reset) p
/-- Changes an output. -/
def Fab.modOut (f : Fab) (t p : Nat) (g : OutPort → OutPort) : Fab :=
  f.modTile t (fun x => { x with rout := x.rout.set (fun _ => OutPort.reset) p (g (f.out t p)) })
/-- An input VC of tile `t`. -/
def Fab.invc (f : Fab) (t p vc : Nat) : InVC := (f.tile t).rin.get (fun _ => InVC.reset) (16 * p + vc)
/-- Changes an input VC. -/
def Fab.modIn (f : Fab) (t p vc : Nat) (g : InVC → InVC) : Fab :=
  f.modTile t (fun x => { x with rin := x.rin.set (fun _ => InVC.reset) (16 * p + vc) (g (f.invc t p vc)) })
/-- Phits on the way to an input. -/
def Fab.wireOf (f : Fab) (t p : Nat) : List (List (Nat × Flit)) := (f.tile t).wire.get (fun _ => []) p
/-- Replaces the phits on the way to an input. -/
def Fab.setWire (f : Fab) (t p : Nat) (w : List (List (Nat × Flit))) : Fab :=
  f.modTile t (fun x => { x with wire := x.wire.set (fun _ => []) p w })
/-- Puts a phit on the way to an input; an empty phit is not sent. -/
def Fab.sendPhit (f : Fab) (t p : Nat) (ph : List (Nat × Flit)) : Fab :=
  if ph.isEmpty then f else f.setWire t p (f.wireOf t p ++ [ph])

/-- The sender that holds the credits of an input: a neighbour's output, the NI or the slot-1 unit of the tile
(R97). For a seam port there is none: its credits belong to the landing buffer. -/
def creditTo (t p : Nat) : Option (Nat × Nat) :=
  if p = pSlot0 then some (t, sndNi) else if p = pSlot1 then some (t, sndUnit) else neighbour t p

/-- A credit return for a VC starts on its way to a sender (R57). -/
def Fab.creditStart (f : Fab) (t snd vc : Nat) : Fab :=
  f.modTile t (fun x => { x with cret := x.cret.set (fun _ => []) snd (x.cret.get (fun _ => []) snd ++ [vc]) })
/-- A flit has left an input VC: its buffer's credit return starts. -/
def Fab.freeIn (f : Fab) (t p vc : Nat) : Fab :=
  match creditTo t p with
  | some (u, snd) => f.creditStart u snd vc
  | none => f

/-! ## Credits of an output (R97, R99) -/

/-- Whether an output is a seam port. -/
def isSeam (t p : Nat) : Bool := (seamPort t p).isSome
/-- Credits for one VC: whether the output can send a flit of it (R99). -/
def OutPort.has (o : OutPort) (seam : Bool) (vc : Nat) : Bool :=
  if o.owed then false
  else if seam then decide (o.cred.getD vc 0 = 0) || decide (0 < o.pool) else decide (0 < o.cred.getD vc 0)
/-- Sending a flit of a VC (R99). -/
def OutPort.spend (o : OutPort) (seam : Bool) (vc : Nat) : OutPort :=
  if seam then
    { o with pool := if o.cred.getD vc 0 > 0 then o.pool - 1 else o.pool, cred := modAt o.cred vc (· + 1) }
  else { o with cred := modAt o.cred vc (· - 1) }
/-- A credit return of a VC (R57, R99). -/
def OutPort.give (o : OutPort) (seam : Bool) (vc : Nat) : OutPort :=
  if o.owed then o
  else if seam then
    { o with pool := if o.cred.getD vc 0 > 1 then o.pool + 1 else o.pool, cred := modAt o.cred vc (· - 1) }
  else { o with cred := modAt o.cred vc (fun c => min 4 (c + 1)) }
/-- The initial credits (R97). -/
def OutPort.load (o : OutPort) (seam : Bool) : OutPort :=
  { o with owed := false, cred := List.replicate 16 (if seam then 0 else 4), pool := if seam then 80 else 0 }
/-- Whether every credit counter stands at its initial value (R104, R116). -/
def OutPort.full (o : OutPort) (seam : Bool) : Bool :=
  o.owed || o.cred.all (fun c => c == (if seam then 0 else 4))
/-- Free credits of an output: all VCs, and the shared pool of a seam port (R105). -/
def OutPort.free (o : OutPort) (seam : Bool) : Nat :=
  if o.owed then 0
  else if seam then o.pool + (o.cred.filter (· == 0)).length else o.cred.foldl (· + ·) 0
/-- Idle (R104). -/
def OutPort.idle (o : OutPort) (seam : Bool) : Bool := !o.owed && o.full seam && o.awake && !o.sent

/-! ## Route selection -/

/-- Whether a packet at an input VC may only take the escape route (R95, R96). -/
def Fab.pinnedAt (f : Fab) (t vc : Nat) (h : Flit) : Bool :=
  vc % 2 == 1 || isPinned [h] || f.oD (dieOf t) O.ROUTE_MODE == 1

/-- Whether a seam port is removed from candidate sets: its crossing is not NORMAL, or is marked in
CROSSING_AVOID of the router's own side (R103). -/
def Fab.avoided (f : Fab) (t p : Nat) : Bool :=
  match seamPort t p with
  | some (ss, c) => f.routeState ss c != 0 || bit (f.o .seam ss O.CROSSING_AVOID) c
  | none => false

/-- `candidates` of R103. -/
def Fab.candidates (f : Fab) (t dt ds mc : Nat) : List Nat :=
  (productiveAll t dt ds).filter (fun p =>
    connected t p && !(f.out t p).dead && !f.avoided t p && !(f.out t p).held.getD (vcOf mc false) false
      && (f.out t p).has (isSeam t p) (vcOf mc false))

/-- `score` of R105. -/
def Fab.score (f : Fab) (t dt p : Nat) : Int :=
  let o := f.out t p
  (min (o.free (isSeam t p)) 64 : Nat)
    + (if p = pXE ∨ p = pYE then (f.oD (dieOf t) O.EXPRESS_BIAS : Int) else 0)
    - (if o.awake then 0 else (f.oD (dieOf t) O.SLEEP_PENALTY : Int))
    - (match crossingAhead t dt p with
       | some (ss, c) => if f.routeState ss c = 0 then 0 else (f.oD (dieOf t) O.DEGRADE_PENALTY : Int)
       | none => 0)

/-- Rank of an output in a tie: the escape output, then X before Y, then express before mesh (R105). -/
def tieRank (e p : Nat) : Nat :=
  (if p = e then 8 else 0) + (if p = pE ∨ p = pW ∨ p = pXE then 4 else 0) + (if p = pXE ∨ p = pYE then 2 else 0)

/-- The best of the candidates by score and tie rank. -/
def Fab.best (f : Fab) (t dt e : Nat) : List Nat → Option Nat
  | [] => none
  | p :: ps =>
    match f.best t dt e ps with
    | none => some p
    | some q =>
      if f.score t dt q < f.score t dt p ∨ (f.score t dt q = f.score t dt p ∧ tieRank e q < tieRank e p)
      then some p else some q

/-- `select` of R105: output and VC that a waiting head requests. -/
def Fab.select (f : Fab) (t vc : Nat) (h : Flit) : Nat × Nat :=
  let dt := destTile [h]
  let mc := mcOf [h]
  let e := routeEscape t dt (destSlot [h])
  if f.pinnedAt t vc h then (e, vcOf mc true)
  else
    let c := f.candidates t dt (destSlot [h]) mc
    if c.contains e && (f.out t e).idle (isSeam t e) then (e, vcOf mc false)
    else match f.best t dt e c with
      | none => (e, vcOf mc true)
      | some p => (p, vcOf mc false)

/-! ## Hop records (R607 to R611) -/

/-- A hop record's bits without SEQ and DIE (R610). -/
def hopBits (time t kind inp outp : Nat) (esc : Bool) (wait credits header : Nat) : Nat :=
  time + t * 2 ^ 80 + kind * 2 ^ 88 + inp * 2 ^ 90 + outp * 2 ^ 93 + b2n esc * 2 ^ 96
    + (min wait 65535) * 2 ^ 104 + (min credits 255) * 2 ^ 120 + header * 2 ^ 128

/-- Produces a hop record for a tagged packet (R608, R609): a record that finds the queue of four full is lost. -/
def Fab.hopRecord (f : Fab) (t kind inp outp : Nat) (esc : Bool) (wait credits : Nat) (p : Packet) : Fab :=
  if sampleOf p then
    let f := f.event t 0x61 0
    if (f.tile t).hop.length < 4 then
      f.modTile t (fun x =>
        { x with hop := x.hop ++ [hopBits (f.time t) t kind inp outp esc wait credits (header p)] })
    else (f.event t 0x62 0).bump .inst 0 O.TRACE_LOST 0
  else f

/-! ## Requests and grants -/

/-- A request of an input VC for an output in this cycle. -/
structure Req where
  /-- input port -/
  inp : Nat
  /-- input VC -/
  vc : Nat
  /-- output port -/
  outp : Nat
  /-- output VC -/
  ovc : Nat
  deriving DecidableEq, Repr

/-- The seam-side behind an output whose crossing is DOWN (R120). -/
def Fab.downSeam (f : Fab) (t p : Nat) : Option Nat :=
  match seamPort t p with
  | some (ss, c) => if f.routeState ss c = 2 then some ss else none
  | none => none

/-- Whether the packets routed to an output are discarded there: a DEAD output (R118) or the seam port of a DOWN
crossing (R120). -/
def Fab.discards (f : Fab) (t p : Nat) : Bool := (f.out t p).dead || (f.downSeam t p).isSome

/-- The request of one input VC: a waiting head selects; a continuation follows its packet (R55, R105). -/
def Fab.request (f : Fab) (t p vc : Nat) : Option Req :=
  let v := f.invc t p vc
  match v.fifo with
  | [] => none
  | h :: _ =>
    match v.route with
    | some (o, ov) => some ⟨p, vc, o, ov⟩
    | none =>
      if h.first then
        let r := f.select t vc h
        some ⟨p, vc, r.1, r.2⟩
      else none

/-- Every input VC of a router that holds a flit. -/
def Fab.busyIn (f : Fab) (t : Nat) : List (Nat × Nat) :=
  (f.tile t).rin.filterMap (fun kv => if kv.2.fifo.isEmpty then none else some (kv.1 / 16, kv.1 % 16))

/-- The requests of a cycle. -/
def Fab.requests (f : Fab) (t : Nat) : List Req := (f.busyIn t).filterMap (fun pv => f.request t pv.1 pv.2)

/-- Whether a request could be granted now: its flit waits, the output takes flits (R113), the VC is its own or
free (R55), and a credit is there (R97); a discarding output takes every flit (R118, R120). -/
def Fab.grantable (f : Fab) (t : Nat) (r : Req) : Bool :=
  let v := f.invc t r.inp r.vc
  let o := f.out t r.outp
  !v.fifo.isEmpty && (v.route.isSome || (v.fifo.headD Flit.zero).first)
    && (v.route.isNone || v.route == some (r.outp, r.ovc))
    && (v.sink || f.discards t r.outp
        || (o.awake && o.has (isSeam t r.outp) r.ovc && (v.route.isSome || !o.held.getD r.ovc false)))

/-- Allocation level of a request (R110): a continuation flit stands at the level at which its head was granted. -/
def Fab.level (f : Fab) (t : Nat) (r : Req) : Nat :=
  let mc := r.vc / 2
  if (f.invc t r.inp r.vc).aged || (f.invc t r.inp r.vc).high then 1 else if mc = 7 then 2 else if mc = 4 ∨ mc = 5 then 3 else 4

/-- SC of a request's packet (R110). -/
def Fab.reqSc (f : Fab) (t : Nat) (r : Req) : Nat :=
  let v := f.invc t r.inp r.vc
  match v.route, v.fifo with
  | none, h :: _ => scOf [h]
  | _, _ => v.sc

/-- The request that follows position `pos` in round robin over input and VC. -/
def nextRound (pos : Nat) (rs : List Req) : Option Req :=
  let dist (r : Req) : Nat := (16 * r.inp + r.vc + 128 - pos - 1) % 128
  rs.foldl (fun (best : Option Req) r =>
    match best with
    | none => some r
    | some b => if dist r < dist b then some r else some b) none

/-- The eligible SC with the largest count; ties go to the lower SC (R112). -/
def pickSc (cur : List Int) : List Nat → Option Nat
  | [] => none
  | s :: ss =>
    match pickSc cur ss with
    | none => some s
    | some u => if cur.getD u 0 ≤ cur.getD s 0 then some s else some u

/-- Smooth weighted round robin (R112): counts after a pick, and the SC picked. `w` gives SA_WEIGHT. -/
def smoothPick (w : Nat → Nat) (cur : List Int) (elig : List Nat) : Option (Nat × List Int) :=
  let cur1 := elig.foldl (fun c s => modAt c s (· + (w s : Int))) cur
  match pickSc cur1 elig with
  | none => none
  | some s => some (s, modAt cur1 s (· - (elig.foldl (fun a e => a + w e) 0 : Nat)))

/-- The winner at one output for one slot, with the output's arbitration state after it (R110, R112). -/
def Fab.winner (f : Fab) (t p : Nat) (rs : List Req) : Option (Req × OutPort) :=
  let o := f.out t p
  let atLevel (l : Nat) : List Req := rs.filter (fun r => f.level t r == l)
  let rr (i : Nat) (l : List Req) : Option (Req × OutPort) :=
    match nextRound (o.rr.getD i 0) l with
    | some r => some (r, { o with rr := modAt o.rr i (fun _ => 16 * r.inp + r.vc) })
    | none => none
  if !(atLevel 1).isEmpty then rr 0 (atLevel 1)
  else if !(atLevel 2).isEmpty then rr 1 (atLevel 2)
  else if !(atLevel 3).isEmpty then rr 2 (atLevel 3)
  else
    let l4 := atLevel 4
    let elig := [0, 1, 2, 3, 4, 5, 6, 7].filter (fun s => l4.any (fun r => f.reqSc t r == s))
    match smoothPick (fun s => f.oD (dieOf t) O.SA_WEIGHT s) o.cur elig with
    | some (s, cur) =>
      match nextRound (o.rr.getD (3 + s) 0) (l4.filter (fun r => f.reqSc t r == s)) with
      | some r => some (r, { o with cur := cur, rr := modAt o.rr (3 + s) (fun _ => 16 * r.inp + r.vc) })
      | none => none
    | none => none

/-- A head flit as it leaves a router: HOPS counts it, up to 31 (R61). -/
def hopped (h : Flit) : Flit := h.put 59 5 (min 31 (h.fld 59 5 + 1))

/-- Counts a packet whose discard begins at an output: for the DEAD output (R118), and for the DOWN crossing behind it
(R120). A drop is recorded with the header, so only where the head is there (R608). -/
def Fab.countDiscard (f : Fab) (t inp p : Nat) (h : Flit) : Fab :=
  let f := if h.first then f.hopRecord t 3 inp 0 false 0 0 [h] else f
  let f := match f.downSeam t p with
    | some ss => f.bump .seam ss O.SEAM_DISCARD 0
    | none => f
  if (f.out t p).dead then f.bumpT t O.KNOCK_DISCARD else f

/-- An output loses the packets in passage on it (R118, R120, R121): the rest of each is discarded from its input
VC, and the VCs that they held are free. `cnt` counts each discarded packet. -/
def Fab.cutOutput (f : Fab) (t p : Nat) (cnt : Fab → Fab) : Fab :=
  let hit := (f.tile t).rin.filter (fun kv =>
    !kv.2.sink && (match kv.2.route with | some (q, _) => q == p | none => false))
  let f := hit.foldl (fun f kv => cnt (f.modIn t (kv.1 / 16) (kv.1 % 16) (fun v => { v with sink := true }))) f
  f.modOut t p (fun o => { o with held := List.replicate 16 false })

/-- The transmit adapter of a crossing takes one slot from the router's seam port and checks LCHK as any receiver does
(R375, R58). A flit that it discards takes no place in the landing buffer, so its credit goes back to the output
(DESIGN CHOICE, log 67). -/
def Fab.adapterSlot (f : Fab) (t p ss c slot : Nat) (vf : Nat × Flit) (e : Lchk) : Fab × List (Nat × Flit) :=
  let vc := vf.1
  let bad := match e with | .uncorrectable _ => true | _ => false
  let f := match e with
    | .corrected => (f.bumpT t O.LINK_CE).event t 0x0A 0
    | .uncorrectable syn =>
      if vf.2.first then f.raiseT t 0 (p + vc * 2 ^ 3 + slot * 2 ^ 7) (syn % 2 ^ 11) 0 else f
    | .clean => f
  let dropped := if vf.2.first then bad else bit (f.xs ss c).txDrop vc
  if dropped then
    ((f.modX ss c (fun x => { x with
      txDrop := if vf.2.last then clearBits x.txDrop (mask vc) else setBit x.txDrop vc })).creditStart t p vc, [])
  else
    (f.modX ss c (fun x => { x with txDrop := clearBits x.txDrop (mask vc) }),
      [(vc, if bad then { vf.2 with psn := true } else vf.2)])

/-- A phit goes through the check of the transmit adapter, slot A first; `link` gives what LCHK shows on each slot. -/
def Fab.adapterPhit (f : Fab) (t p ss c : Nat) (link : Nat → Lchk) : Nat → List (Nat × Flit) →
    Fab × List (Nat × Flit)
  | _, [] => (f, [])
  | slot, vf :: rest =>
    let a := f.adapterSlot t p ss c slot vf (link slot)
    let b := a.1.adapterPhit t p ss c link (slot + 1) rest
    (b.1, a.2 ++ b.2)

/-- Where a granted flit goes: to the wire of the neighbour's input, the transmit adapter of the crossing, or the
ejection buffer of the slot. Flits of one output in one cycle form one phit, so they are collected first. -/
def Fab.deliver (f : Fab) (t p : Nat) (link : Nat → Lchk) (ph : List (Nat × Flit)) : Fab :=
  if ph.isEmpty then f
  else if p = pSlot0 then
    f.modTile t (fun x => { x with ej0 := { x.ej0 with buf := x.ej0.buf ++ ph } })
  else if p = pSlot1 then
    f.modTile t (fun x => { x with ej1 := { x.ej1 with buf := x.ej1.buf ++ ph } })
  else match seamPort t p with
    | some (ss, c) =>
      let r := f.adapterPhit t p ss c link 0 ph
      if r.2.isEmpty then r.1 else r.1.seamSend ss c r.2
    | none =>
      match neighbour t p with
      | some (u, q) => f.sendPhit u q ph
      | none => f

/-- The grant of one flit (R109 to R112, R61): the flit leaves its input VC, its buffer's credit return starts, and
the output's credit is spent. Answers the flit that travels, unless its output discards it. -/
def Fab.grant (f : Fab) (t : Nat) (r : Req) : Fab × Option (Nat × Flit) :=
  let v := f.invc t r.inp r.vc
  match v.fifo with
  | [] => (f, none)
  | x :: rest =>
    let sink := v.sink || f.discards t r.outp
    let head := v.route.isNone
    let lvl := f.level t r
    let fl := if head then hopped x else x
    let sc := if head then scOf [x] else v.sc
    let v' : InVC := { v with
      fifo := rest, route := if x.last then none else some (r.outp, r.ovc), sink := if x.last then false else sink,
      wait := 0, lost := 0, aged := false, high := !x.last && decide (lvl = 1), sc := sc }
    let f := f.modIn t r.inp r.vc (fun _ => v')
    let f := f.freeIn t r.inp r.vc
    if sink then
      (if v.sink then f else f.countDiscard t r.inp r.outp x, none)
    else
      let credits := (f.out t r.outp).free (isSeam t r.outp)
      let f := f.modOut t r.outp (fun o =>
        { o.spend (isSeam t r.outp) r.ovc with held := modAt o.held r.ovc (fun _ => !x.last), sent := true })
      let f := f.event t 0x03 r.outp
      let f := if head then f.event t 0x04 r.outp else f
      let f := if lvl = 1 then (f.bumpT t O.AGE_GRANTS).event t 0x09 0 else f
      let f := if head && r.vc % 2 == 0 && r.ovc % 2 == 1 then
          (f.bumpT t O.ESCAPE_ENTRIES).event t 0x08 0 else f
      let f := if head then f.hopRecord t 1 r.inp r.outp (r.ovc % 2 == 1) v.wait credits [fl] else f
      (f, some (r.ovc, fl))

/-- State of an allocation cycle: flits supplied by each input so far, the phit of each output, and the input VCs
whose packet has ended. -/
structure Alloc where
  /-- flits supplied, by input port -/
  used : List Nat
  /-- phit, by output port -/
  phits : List (List (Nat × Flit))
  /-- input VCs, at 16*port + vc, whose packet left to its LAST flit in this cycle: a head behind it requests an output
  from the next cycle on. DEDUCED (log 16) -/
  ended : List Nat
  deriving DecidableEq, Repr

/-- One slot of one output (R109): a winner among the grantable requests whose input has supplied fewer than two
flits. -/
def Fab.allocSlot (rs : List Req) (t p : Nat) (fa : Fab × Alloc) : Fab × Alloc :=
  let f := fa.1
  let a := fa.2
  let ready := rs.filter (fun r =>
    r.outp == p && decide (a.used.getD r.inp 0 < 2) && !a.ended.contains (16 * r.inp + r.vc) && f.grantable t r)
  match f.winner t p ready with
  | none => (f, a)
  | some (r, o) =>
    let f := f.modOut t p (fun _ => o)
    let last := ((f.invc t r.inp r.vc).fifo.headD Flit.zero).last
    let g := f.grant t r
    (g.1, { used := modAt a.used r.inp (· + 1),
            ended := if last then (16 * r.inp + r.vc) :: a.ended else a.ended,
            phits := match g.2 with
              | some vf => modAt a.phits p (· ++ [vf])
              | none => a.phits })

/-- Raises KNOCK on the outputs that a flit waits for while AWAKE is low (R114). -/
def Fab.knock (f : Fab) (t : Nat) (rs : List Req) : Fab :=
  (List.range 8).foldl (fun f p =>
    let o := f.out t p
    if rs.any (fun r => r.outp == p) && !o.awake && !f.discards t p && o.knock.isNone then
      (f.modOut t p (fun o => { o with knock := some (f.time t) })).event t 0x51 p
    else f) f

/-- Whether a request's output has a free credit for its VC (R111). -/
def Fab.creditFor (f : Fab) (t : Nat) (r : Req) : Bool := (f.out t r.outp).has (isSeam t r.outp) r.ovc

/-- Waiting heads count their wait and their lost allocations (R111, R610); `credit` says which requests had a free
credit as the cycle's allocation began. -/
def Fab.ageHeads (f : Fab) (t : Nat) (credit : Req → Bool) (rs : List Req) : Fab :=
  rs.foldl (fun f r =>
    let v := f.invc t r.inp r.vc
    if v.route.isNone && !v.fifo.isEmpty then
      let credit := credit r
      f.modIn t r.inp r.vc (fun v => { v with wait := v.wait + 1, lost := if credit then v.lost + 1 else 0 })
    else f) f

/-- Cycle events of the outputs: a flit without a credit, a flit while AWAKE is low (R598). -/
def Fab.outputEvents (f : Fab) (t : Nat) (rs : List Req) : Fab :=
  (List.range 8).foldl (fun f p =>
    let mine := rs.filter (fun r => r.outp == p)
    let f := if mine.any (fun r => !(f.out t p).has (isSeam t p) r.ovc) then f.event t 0x05 p else f
    if !mine.isEmpty && !(f.out t p).awake then f.event t 0x06 p else f) f

/-! ## Slots: injection and ejection -/

/-- The next flits of packets in injection at a sender, up to `n`, while the sender holds credits: the lowest VC
first, and where packets and envelopes both have a flit ready, one slot each (R301, R349). Answers the remaining
packets, the sender, and each flit with its VC and its packet's entry. -/
def pumpFlits : Nat → SMap Prog → OutPort → SMap Prog × OutPort × List (Nat × Flit × Prog)
  | 0, m, o => (m, o, [])
  | n + 1, m, o =>
    match m.find? (fun kv => o.has false kv.1) with
    | none => (m, o, [])
    | some (vc, pr) =>
      match pr.pkt with
      | [] => (m, o, [])
      | x :: rest =>
        let m' := if rest.isEmpty then SMap.erase m vc else SMap.insert m vc { pr with pkt := rest }
        let o' := { o.spend false vc with held := modAt o.held vc (fun _ => !x.last) }
        let same := m'.filter (fun kv => kv.2.env == pr.env)
        let others := m'.filter (fun kv => kv.2.env != pr.env)
        if others.any (fun kv => o'.has false kv.1) then
          let r := pumpFlits n others o'
          (same.foldl (fun acc kv => SMap.insert acc kv.1 kv.2) r.1, r.2.1, (vc, x, pr) :: r.2.2)
        else
          let r := pumpFlits n m' o'
          (r.1, r.2.1, (vc, x, pr) :: r.2.2)

/-- Starts waiting packets whose VC is free, in order within each VC: envelopes of an NI (R349), or the packets of
a slot-1 unit. `det` is ROUTE_MODE DETERMINISTIC (R96). -/
def startWaiting (det env : Bool) (m : SMap Prog) : List Packet → SMap Prog × List Packet
  | [] => (m, [])
  | p :: ps =>
    let vc := vcOf (mcOf p) (isPinned p || det)
    if m.any (fun kv => kv.1 == vc) then
      let r := startWaiting det env m ps
      (r.1, p :: r.2)
    else startWaiting det env (SMap.insert m vc ⟨p, none, env, scOf p⟩) ps

/-- The slot-0 injection of a cycle: up to two flits enter the wire of the router's slot-0 input; each frees its
staging flit and so returns an ingress credit (R149 to R151). A head entering is recorded (R608). -/
def Fab.pumpNi (f : Fab) (t : Nat) : Fab :=
  let st := startWaiting (f.oD (dieOf t) O.ROUTE_MODE == 1) true (f.ni t).prog (f.ni t).env
  let r := pumpFlits 2 st.1 (f.out t sndNi)
  let f := f.modNi t (fun n => { n with
    prog := r.1, env := st.2,
    iCred := if n.epoch then
        r.2.2.foldl (fun c x => match x.2.2.stg with | some mc => modAt c mc (· + 1) | none => c) n.iCred
      else n.iCred,
    eICred := if n.epoch && r.2.2.any (fun x => x.2.2.stg.isSome) then
        r.2.2.foldl (fun m x => match x.2.2.stg with | some mc => setBit m mc | none => m) 0
      else n.eICred })
  let f := f.modOut t sndNi (fun _ => r.2.1)
  let f := r.2.2.foldl (fun f x =>
    if x.2.2.env then f
    else
      let f := f.event t 0x21 x.2.2.sc
      if x.2.1.first then
        (f.event t 0x20 (mcOf [x.2.1])).hopRecord t 0 6 0 (x.1 % 2 == 1) 0 0 [x.2.1]
      else f) f
  f.sendPhit t pSlot0 (r.2.2.map (fun x => (x.1, x.2.1)))

/-- The slot-1 injection of a cycle (R283, R349). -/
def Fab.pumpUnit (f : Fab) (t : Nat) : Fab :=
  let det := f.oD (dieOf t) O.ROUTE_MODE == 1
  let x := f.tile t
  -- a Commons bank's answers leave in the order in which they were made (R664)
  let st := if isCmnTile t then
      (if x.uprog.isEmpty then
        (let r := startWaiting det false [] (x.uout.take 1)
         (r.1, x.uout.drop 1))
       else (x.uprog, x.uout))
    else startWaiting det false x.uprog x.uout
  let r := pumpFlits 2 st.1 (f.out t sndUnit)
  let f := f.modTile t (fun x => { x with uprog := r.1, uout := st.2 })
  let f := f.modOut t sndUnit (fun _ => r.2.1)
  f.sendPhit t pSlot1 (r.2.2.map (fun x => (x.1, x.2.1)))

/-! ## Egress storage (R338) -/

/-- Flits of a list of packets of one class. -/
def flitsOf (mc : Nat) (l : List Packet) : Nat := l.foldl (fun a p => if mcOf p = mc then a + p.length else a) 0

/-- Packets indexed by a scheduler. -/
def Sched.packets (s : Sched) : List Packet := s.q.flatMap (fun kv => kv.2.map (·.pkt))

/-- Packets of an egress scheduler that occupy storage (R337): an answer that the NI placed at the front of its FIFO
occupies a descriptor only, since its zero data is made as it is delivered. -/
def Sched.stored (s : Sched) : List Packet := s.q.flatMap (fun kv => (kv.2.filter (fun e => !e.ans)).map (·.pkt))

/-- A RETURN envelope (R346). -/
def isReturn (p : Packet) : Bool := isEnvelope p && envKind p == some .ret
/-- RETURN envelopes in the egress storage of an NI, whole or in part. -/
def returnsIn (x : Tile) : List Packet := (x.ej0.asm.map (·.2) ++ x.ej0.arr.map (·.2) ++ x.ni.ctlIn).filter isReturn
/-- Flits of the RETURN of a spill queue that have entered egress storage. -/
def returnFlits (x : Tile) (mc : Nat) : Nat :=
  (returnsIn x).foldl (fun a p => if envMc p = mc then a + p.length else a) 0

/-- Flits of a class in the egress storage of an NI: packets arriving, waiting to be judged, resident and
outbound (R338, R339). -/
def egressUsed (x : Tile) (mc : Nat) : Nat :=
  (x.ej0.asm.foldl (fun a kv => if kv.1 / 2 = mc then a + kv.2.length else a) 0)
    + flitsOf mc (x.ej0.arr.map (·.2)) + flitsOf mc (x.ni.ctlIn.filter isReturn) + flitsOf mc x.ni.rspIn
    + flitsOf mc x.ni.egr.stored + flitsOf mc (x.ni.spill.flatMap (·.outb))

/-- Flits of egress storage reserved for a class (R338). -/
def egressReserve (mc : Nat) : Nat := if mc = 1 ∨ mc = 3 ∨ mc = 6 ∨ mc = 7 then 52 else 8

/-- Message class of a spill queue, by its number 0 to 4. -/
def spillMc (i : Nat) : Nat := if i = 4 then 6 else i
/-- Flits that a spill queue has reserved for its RETURN and that have not arrived (R348). -/
def reservedFlits (x : Tile) (i : Nat) : Nat := (x.ni.spill.getD i SpillQ.reset).rsv - returnFlits x (spillMc i)

/-- Flits of the shared pool in use, with the flits reserved for returns (R338, R348). -/
def sharedUsed (x : Tile) : Nat :=
  (List.range 8).foldl (fun a mc => a + (egressUsed x mc - egressReserve mc)) 0
    + (List.range 5).foldl (fun a i => a + reservedFlits x i) 0

/-- Whether egress storage has room for one more flit of a class (R338). -/
def egressRoom (x : Tile) (mc : Nat) : Bool :=
  decide (egressUsed x mc < egressReserve mc) || decide (sharedUsed x < 464)

/-- Whether egress storage has room for the next flit of a VC: a flit of a RETURN takes the place that its PULL reserved
(R348). -/
def egressTakes (x : Tile) (vc : Nat) (h : Flit) : Bool :=
  let p := if h.first then [h] else x.ej0.asm.get (fun _ => []) vc
  egressRoom x (vc / 2) || (isReturn p && (List.range 5).any (fun i => spillMc i == envMc p && decide (0 < reservedFlits x i)))

/-- Moves one flit to storage; a LAST flit completes its packet. -/
def Eject.store (e : Eject) (vc : Nat) (x : Flit) : Eject :=
  let acc := e.asm.get (fun _ => []) vc ++ [x]
  { e with
    asm := e.asm.set (fun _ => []) vc (if x.last then [] else acc)
    arr := if x.last then e.arr ++ [(vc, acc)] else e.arr }

/-- The ejection side of a slot of a tile. -/
def Fab.eject (f : Fab) (t slot : Nat) : Eject := if slot = 0 then (f.tile t).ej0 else (f.tile t).ej1
/-- Changes the ejection side of a slot. -/
def Fab.modEject (f : Fab) (t slot : Nat) (g : Eject → Eject) : Fab :=
  f.modTile t (fun x => if slot = 0 then { x with ej0 := g x.ej0 } else { x with ej1 := g x.ej1 })

/-- Flits of an ejection buffer enter storage in order of arrival while `room` has it for their VC, each returning its
credit; the flits of a VC keep their order. -/
def Fab.drainList (f : Fab) (t slot : Nat) (room : Tile → Nat → Flit → Bool) : List Nat → List (Nat × Flit) → Fab
  | _, [] => f
  | held, (vc, x) :: rest =>
    if held.contains vc || !room (f.tile t) vc x then
      (f.modEject t slot (fun e => { e with buf := e.buf ++ [(vc, x)] })).drainList t slot room (vc :: held) rest
    else
      ((f.modEject t slot (fun e => e.store vc x)).creditStart t (6 + slot) vc).drainList t slot room held rest

/-- Ejection of a cycle at a slot. -/
def Fab.drain (f : Fab) (t slot : Nat) (room : Tile → Nat → Flit → Bool) : Fab :=
  let l := (f.eject t slot).buf
  if l.isEmpty then f else (f.modEject t slot (fun e => { e with buf := [] })).drainList t slot room [] l

/-- Ejection of a cycle at slot 0: flits of every VC enter egress storage while it has room (R338). -/
def Fab.drainNi (f : Fab) (t : Nat) : Fab := f.drain t 0 egressTakes

/-- Whether the slot-1 unit has room for a flit of a class. A Commons bank takes MC2 to MC7 whenever they arrive (R664) and
holds 32 requests at its input (log 31); the other units hold what R127 lets be sent to them. -/
def unitRoom (t : Nat) (x : Tile) (vc : Nat) : Bool :=
  match unit1 t with
  | .cmn _ => decide (2 ≤ vc / 2) || decide (x.ej1.arr.length < 32)
  | _ => true

/-- Ejection of a cycle at slot 1. -/
def Fab.drainUnit (f : Fab) (t : Nat) : Fab := f.drain t 1 (fun x vc _ => unitRoom t x vc)

/-- The filler flit that closes a packet (R122). -/
def fillerFlit : Flit := { Flit.zero with last := true, psn := true }

/-- VCs of an input on which a packet is open, its LAST flit still to come. -/
def Fab.openVCs (f : Fab) (u q : Nat) : List Nat :=
  (List.range 16).filter (fun vc =>
    let v := f.invc u q vc
    let fl := v.fifo ++ ((f.wireOf u q).flatten.filter (fun x => x.1 == vc)).map (·.2)
    match fl.getLast? with
    | some x => !x.last
    | none => v.route.isSome || v.drop)

/-! ## Counters (R593 to R598) -/

/-- The increment of counter `k` in a cycle: the carry of the counter before it while a chain holds, its own event
otherwise (R595, R596). -/
def cntAdd (ev : SMap Nat) (event : Nat) (chained : Bool) (carry : Nat) : Nat :=
  if chained then carry else ev.get (fun _ => 0) (8 * (event % 256) + field event 8 3)

/-- One QCLK cycle of the eight counters, from counter `k` (R595, R596): wraps produce carries, lost carries set
CNT_OVF. -/
def Fab.countCycle (f : Fab) (t k carry : Nat) : Nat → Fab
  | 0 => f
  | n + 1 =>
    let en (j : Nat) : Bool := bit (f.oT t O.CNT_ENABLE) j
    let chained (j : Nat) : Bool := decide (0 < j) && f.oT t O.CNT_CHAIN (j - 1) == 1
    let add := cntAdd (f.tile t).ev (f.oT t O.CNT_EVENT k) (chained k) carry
    let sum := (f.tile t).cnt.getD k 0 + (if en k then add else 0)
    let c := if en k then sum / 2 ^ 48 else 0
    let f := f.modTile t (fun x => { x with cnt := modAt x.cnt k (fun _ => sum % 2 ^ 48) })
    let f := if 0 < c ∧ ¬(k < 7 ∧ f.oT t O.CNT_CHAIN k = 1 ∧ en (k + 1)) then
        f.setO .tile t O.CNT_OVF 0 (setBit (f.oT t O.CNT_OVF) k) else f
    f.countCycle t (k + 1) c n

/-- Whether the clock of a tile's quadrant runs (R593); QPLL_STATE RUNNING. -/
def Fab.qclkRuns (f : Fab) (t : Nat) : Bool := f.o .quad (quadOf t) O.QPLL_STATE == 0

/-! ## Idleness of a tile (R116, R182, R292, R365, R451) -/

/-- The conditions of R292 and R334 for the port's tile to go below T1: the buffer is empty, every access is complete and
the queues of its schedulers are empty. -/
def Sp.quiet (n : Sp) : Bool :=
  n.pwb.isEmpty && n.acc.isEmpty && n.up.isEmpty && n.msgs.isEmpty && n.inj.q.isEmpty && n.egr.q.isEmpty

/-- Whether KNOCK is high on input `p` of a tile (R116): from another tile of the die, or across a seam (R118, R399). -/
def Fab.knocked (f : Fab) (t p : Nat) : Bool :=
  match seamPort t p, neighbour t p with
  | some (ss, c), _ => (f.xs ss c).knockIn
  | none, some (u, q) => (f.out u q).knock.isSome
  | none, none => false

/-- Router, wires and ejection of a tile are empty, every output credit is home and no KNOCK is high (R116). -/
def Fab.routerIdle (f : Fab) (t : Nat) : Bool :=
  let x := f.tile t
  (f.busyIn t).isEmpty && x.wire.isEmpty && x.cret.isEmpty
    && (List.range 10).all (fun p => (f.out t p).full (decide (p < 8) && isSeam t p))
    && !(List.range 8).any (fun p => f.knocked t p)
    && x.ej0 == Eject.reset && x.ej1 == Eject.reset && x.uprog.isEmpty && x.uout.isEmpty

/-- The EAP conditions of R182 for a state of depth 1, 2 or 3, with R452 and R365. -/
def Ni.idle (n : Ni) (depth : Nat) : Bool :=
  n.rx.isNone && !n.knock && n.staged.isEmpty && n.fetch.isEmpty && n.waitV.isEmpty && n.waitH.isEmpty
    && n.violQ.isEmpty && n.inj.q.isEmpty && n.egr.q.isEmpty && n.prog.isEmpty && n.env.isEmpty && n.rspIn.isEmpty
    && n.ctlIn.isEmpty && n.flush.isEmpty
    && (decide (depth < 2) || (!n.tags.any (fun kv => kv.2.st == .out) && n.spill.all (fun q => q.st == .resident)
        && !(n.epoch && n.link != .down)))
    && (decide (depth < 3) || !n.tags.any (fun kv => kv.2.st == .quar))

/-- The conditions of the slot-1 unit (R292, R365, R452). -/
def Fab.unitIdle (f : Fab) (t depth : Nat) : Bool :=
  match unit1 t with
  | .none => true
  | .sp d => (f.spOf d).quiet && decide (depth < 3)
  | .cmn _ => decide (depth < 3)
  | .sk n => decide (depth < 2) || (decide (depth < 3)
      && (f.skOf n).qs.all (fun kv => kv.2.chunks.isEmpty && kv.2.resv.isNone && kv.2.grant == 0))

/-- The conditions of R451 that come from the tile itself. -/
def Fab.tileIdle (f : Fab) (t depth : Nat) : Bool :=
  f.routerIdle t && (f.ni t).idle depth && f.unitIdle t depth

/-- The conditions of R451 other than the idle timers. -/
def Fab.sleepOk (f : Fab) (t depth : Nat) : Bool :=
  f.tileIdle t depth && f.oT t O.TILE_HOLD == 0 && decide (depth ≤ f.oT t O.TILE_DEEPEST + 1)

/-- The idle timers of R451 count from now where a condition fails now: at the end of a QCLK cycle, and just before a write
changes a condition. `n` is the QCLK cycles to count. -/
def Fab.idleSettle (f : Fab) (t n : Nat) : Fab :=
  let now := (f.run t).toNat
  let a := f.sleepOk t 1
  let b := a && f.sleepOk t 2
  let c := b && f.sleepOk t 3
  f.modTile t (fun x => { x with pw := { x.pw with
    idle1 := if a then x.pw.idle1 + n else 0, idle2 := if b then x.pw.idle2 else now,
    idle3 := if c then x.pw.idle3 else now } })
/-- Whether a request to take a tile below T1 stands (R292): of the power controller (R641), or of Groundsheet, which may
take the tile to T2 by its timer while nothing asks for it awake (R451, R452). -/
def Fab.pdStands (f : Fab) (t : Nat) : Bool :=
  let x := f.tile t
  x.pw.t3Req || (f.oT t O.TILE_HOLD == 0 && decide (1 ≤ f.oT t O.TILE_DEEPEST) && f.oT t O.TILE_NAP_IDLE != 0
    && !x.pw.wakeReq && !x.ni.knock && !(x.ni.epoch && x.ni.link != .down)
    && !(List.range 8).any (fun p => f.knocked t p))
/-- A request that no longer stands releases the service port of the tile (R259, R292). -/
def Fab.pdSettle (f : Fab) (t : Nat) : Fab :=
  if isSpTile t && (f.spOf (dieOf t)).pdReq && !f.pdStands t then f.modSp (dieOf t) (fun n => { n with pdReq := false })
  else f
/-- The idle timers of R451 at the end of a QCLK cycle. -/
def Fab.idleMarks (f : Fab) (t : Nat) : Fab := f.idleSettle t 1

/-- Classes with a packet at the head of an egress FIFO that lacks EAP credits (R598, event 0x2B). -/
def Ni.starved (n : Ni) (mc : Nat) : Bool :=
  n.egr.q.any (fun kv => kv.1 % 8 == mc && (match kv.2 with
    | e :: _ => decide (n.eCred.getD mc 0 < lenOf e.pkt)
    | [] => false))

/-- The end of a QCLK cycle of a tile: CYC and the counters take the cycle's events (R593, R595). -/
def Fab.endCycle (f : Fab) (t : Nat) : Fab :=
  let f := if (f.tile t).st == .t0 then f.event t 0x01 0 else f
  let outst := ((f.ni t).tags.filter (fun kv => kv.2.st == .out)).length
  let f := f.event t 0x27 0 outst
  let f := (List.range 8).foldl (fun f mc => if (f.ni t).starved mc then f.event t 0x2B mc else f) f
  let f := f.countCycle t 0 0 8
  let f := (f.idleMarks t).pdSettle t
  f.modTile t (fun x => { x with cyc := (x.cyc + 1) % 2 ^ 64, ev := [] })

/-! ## The cycle -/

/-- Allocation of a cycle: slot A of every output, then slot B (R55, R109). -/
def Fab.allocate (f : Fab) (t : Nat) (rs : List Req) : Fab × Alloc :=
  let ports := List.range 8
  let a0 : Alloc := ⟨List.replicate 8 0, List.replicate 8 [], []⟩
  ports.foldl (fun fa p => Fab.allocSlot rs t p fa) (ports.foldl (fun fa p => Fab.allocSlot rs t p fa) (f, a0))

/-- One QCLK cycle of a tile that is in T0: injection and ejection at the slots, route selection, allocation, the
knock rule, ageing and the counters. `links` gives, at 2*port + slot, what LCHK shows at a transmit adapter (R375). -/
def Fab.routerCycle (f : Fab) (t : Nat) (links : List (Nat × Lchk)) : Fab :=
  let f := (((f.pumpNi t).pumpUnit t).drainNi t).drainUnit t
  let rs := f.requests t
  let f := f.knock t rs
  let f := f.outputEvents t rs
  let f := (List.range 8).foldl (fun f p => f.modOut t p (fun o => { o with sent := false })) f
  let fa := f.allocate t rs
  let link (p slot : Nat) : Lchk := (links.lookup (2 * p + slot)).getD .clean
  let credit := f.creditFor t
  let f := (List.range 8).foldl (fun f p => f.deliver t p (link p) (fa.2.phits.getD p [])) fa.1
  let f := f.ageHeads t credit (rs.filter (fun r => !fa.2.ended.contains (16 * r.inp + r.vc)))
  f.endCycle t

/-! ## Arrival, credits and AWAKE -/

/-- What LCHK finds on an arriving slot (R58): the outcome of the code, which the spec does not lay out, and the
syndrome that an uncorrectable error captures. -/
abbrev LinkErr := Lchk

/-- One slot of an arriving phit (R58): a single-bit error is corrected and counted; an uncorrectable one in a head
flit discards the packet up to LAST and raises LINK_UE, and one in a continuation flit sets PSN on it. The poisoned flit
keeps the data that was sent: R58 does not say what its data becomes (DESIGN CHOICE, log 66). -/
def Fab.takeSlot (f : Fab) (t p slot : Nat) (vf : Nat × Flit) (e : LinkErr) : Fab :=
  let vc := vf.1
  let v := f.invc t p vc
  let f := (f.event t 0x02 p).event t 0x07 (vc / 2)
  let f := match e with
    | .corrected => (f.bumpT t O.LINK_CE).event t 0x0A 0
    | .uncorrectable syn =>
      if vf.2.first then f.raiseT t 0 (p + vc * 2 ^ 3 + slot * 2 ^ 7) (syn % 2 ^ 11) 0 else f
    | .clean => f
  let bad := match e with | .uncorrectable _ => true | _ => false
  let dropped := (v.drop && !vf.2.first) || (bad && vf.2.first)
  if dropped then
    (f.modIn t p vc (fun v => { v with drop := !vf.2.last })).freeIn t p vc
  else
    f.modIn t p vc (fun v => { v with
      drop := false, fifo := v.fifo ++ [if bad then { vf.2 with psn := true } else vf.2] })

/-- The slots of an arriving phit enter their input VCs, slot A first (R58). -/
def Fab.takePhit (f : Fab) (t p : Nat) (ph : List (Nat × Flit)) (ea eb : LinkErr) : Fab :=
  match ph with
  | [] => f
  | [a] => f.takeSlot t p 0 a ea
  | a :: b :: _ => (f.takeSlot t p 0 a ea).takeSlot t p 1 b eb

/-- Flits of a landing buffer that may leave it together (R99): up to `n` in order of arrival, each on a VC with room,
where a VC without room holds back its own flits alone. `room` gives the places free in each input VC. Answers the flits
that leave, each with its place in the buffer, and those that stay. -/
def landingPick : Nat → (Nat → Nat) → List Nat → Nat → List (Nat × Flit) → List (Nat × Nat × Flit) × List (Nat × Flit)
  | _, _, _, _, [] => ([], [])
  | 0, _, _, _, l => ([], l)
  | n + 1, room, shut, i, (vc, x) :: rest =>
    if shut.contains vc || room vc == 0 then
      let r := landingPick (n + 1) room (vc :: shut) (i + 1) rest
      (r.1, (vc, x) :: r.2)
    else
      let r := landingPick n (fun v => if v = vc then room v - 1 else room v) shut (i + 1) rest
      ((i, vc, x) :: r.1, r.2)

/-- Flits in the landing buffer behind a seam input, per VC: `occ` of R99 as the receiver keeps it. -/
def Fab.landingOcc (f : Fab) (t p vc : Nat) : Nat := ((f.wireOf t p).flatten.filter (fun vf => vf.1 == vc)).length
/-- Free entries of the shared pool as the receiver keeps it (R99): each VC has an entry of its own beside the pool. -/
def Fab.landingFree (f : Fab) (t p : Nat) : Nat :=
  80 - (List.range 16).foldl (fun a vc => a + (f.landingOcc t p vc - 1)) 0

/-- Flits leave the landing buffer behind a seam input: their credit returns start (R97), but for the flits that a reset
of the peer left there without a credit (R404). -/
def Fab.leaveLanding (f : Fab) (t p ss c : Nat) (ea eb : LinkErr) : Fab :=
  let r := landingPick 2 (fun vc => 4 - (f.invc t p vc).fifo.length) [] 0 (f.wireOf t p).flatten
  let old := (f.xs ss c).stale
  let f := f.setWire t p (r.2.map (fun vf => [vf]))
  let f := f.takePhit t p (r.1.map (·.2)) ea eb
  let f := f.modX ss c (fun x => { x with stale := x.stale - (r.1.filter (fun y => decide (y.1 < old))).length })
  r.1.foldl (fun f y => if y.1 < old then f else f.seamCredit ss c y.2.1) f

/-- Whether a phit finds room in its input VCs. -/
def Fab.phitFits (f : Fab) (t p : Nat) (ph : List (Nat × Flit)) : Bool :=
  ph.all (fun vf => decide ((f.invc t p vf.1).fifo.length + (ph.filter (fun y => y.1 == vf.1)).length ≤ 4))

/-- ROUTER_FLIT_RECEIVE (R58): the next phit on the way to input `p` of tile `t` arrives; the flits enter their
input VCs. At a seam port up to two flits leave the landing buffer for input VCs that have room (R97, R99). -/
def execRouterFlitReceive (t p : Nat) (ea eb : Lchk) (s : State) : Host.Outcome State Fault Refusal :=
  .next (s.onFab (fun f =>
    match f.wireOf t p with
    | [] => f
    | ph :: rest =>
      if (f.tile t).st != .t0 then f
      else match seamPort t p with
        | some (ss, c) => f.leaveLanding t p ss c ea eb
        | none => if f.phitFits t p ph then (f.setWire t p rest).takePhit t p ph ea eb else f))

/-- CREDIT_RETURN (R57): the oldest credit return on its way to sender `snd` of tile `t` arrives. It is usable
from the next cycle on, since allocation is another command. -/
def execCreditReturn (t snd : Nat) (s : State) : Host.Outcome State Fault Refusal :=
  .next (s.onFab (fun f =>
    match (f.tile t).cret.get (fun _ => []) snd with
    | [] => f
    | vc :: rest =>
      (f.modTile t (fun x => { x with cret := x.cret.set (fun _ => []) snd rest })).modOut t snd
        (fun o => o.give (decide (snd < 8) && isSeam t snd) vc)))

/-- HEAD_AGED (R111): a head that has lost allocation for AGE_LIMIT cycles with credit becomes aged. -/
def execHeadAged (t p vc : Nat) (s : State) : Host.Outcome State Fault Refusal :=
  .next (s.onFab (fun f =>
    let v := f.invc t p vc
    if v.route.isNone && !v.fifo.isEmpty && decide (f.oD (dieOf t) O.AGE_LIMIT ≤ v.lost) then
      f.modIn t p vc (fun v => { v with aged := true })
    else f))

/-- Whether the receiver behind an output drives AWAKE high (R97, R117): the tile across the link, the tile itself
for its slots, or the far crossing-side. -/
def Fab.receiverAwake (f : Fab) (t p : Nat) : Bool :=
  if p = pSlot0 ∨ p = sndNi then (f.tile t).st == .t0
  else if p = pSlot1 ∨ p = sndUnit then (f.tile t).st == .t0 && decide (unit1 t ≠ .none)
  else match seamPort t p with
    | some (ss, c) => (f.xs ss c).awakeIn
    | none => match neighbour t p with
      | some (u, _) => (f.tile u).st == .t0 && f.qclkRuns u
      | none => false

/-- AWAKE of an output rises at its sender (R97, R114, R118): KNOCK falls, the initial credits load if they are
owed, and a DEAD output becomes live. A tile in T2 or T3 loads them at its waking (R116). -/
def Fab.awakeRise (f : Fab) (t p : Nat) : Fab :=
  let o := f.out t p
  let asleep := (f.tile t).st == .t2 || (f.tile t).st == .t3
  let seam := decide (p < 8) && isSeam t p
  let f := f.modOut t p (fun o =>
    let o := { o with awake := true, knock := none }
    if (o.owed || o.dead) && !asleep then { o.load seam with dead := false }
    else { o with dead := false, owed := o.owed || o.dead })
  if o.dead && !(List.range 8).any (fun q => (f.out t q).dead) then f.endC (famKey .tile t) 5 else f

/-- AWAKE_RISE (R97). -/
def execAwakeRise (t p : Nat) (s : State) : Host.Outcome State Fault Refusal :=
  .next (s.onFab (fun f =>
    if !(f.out t p).awake && f.receiverAwake t p && f.qclkRuns t then f.awakeRise t p else f))

/-- OUTPUT_DEAD (R118): KNOCK_LIMIT after its KNOCK, an output whose AWAKE has not risen becomes DEAD, and each one
raises KNOCK_TIMEOUT. KNOCK_LIMIT is measured in the tile's Lantern time: R429 does not list it among the intervals of run
time (DESIGN CHOICE, log 68). -/
def execOutputDead (t p : Nat) (s : State) : Host.Outcome State Fault Refusal :=
  .next (s.onFab (fun f =>
    let o := f.out t p
    match o.knock with
    | some k =>
      if p < 8 ∧ ¬o.dead ∧ ¬o.awake ∧ k + us (f.oD (dieOf t) O.KNOCK_LIMIT) ≤ f.time t then
        ((f.modOut t p (fun o => { o with dead := true })).cutOutput t p (fun f => f.bumpT t O.KNOCK_DISCARD)).raiseMore
          (famKey .tile t) 5 p (k / 65536) 0
      else f
    | none => f))

end Sys2Proof.Machine
end

