-- ==== Sys2Proof/Machine/Sched.lean ====
section
/-! DEFINITION. Sched: the schedulers of edge NIs and service-port NIs (R296 to R335): queues, charged length,
token buckets, time gates, the fair queue, selection and histograms. -/

namespace Sys2Proof.Machine

/-- The holder of a pair of schedulers (R296). -/
inductive Who where
  | ni (t : Nat) | sp (d : Nat)
  deriving DecidableEq, Repr

/-- Scope type of a holder's objects. -/
def Who.scope : Who → Scope
  | .ni _ => .tile | .sp _ => .sp
/-- Scope number of a holder. -/
def Who.num : Who → Nat
  | .ni t => t | .sp d => d
/-- Tile of a holder. -/
def Who.tile : Who → Nat
  | .ni t => t | .sp d => spTile d

/-- A scheduler: direction 0 injection, 1 egress (R303). -/
def Fab.sched (f : Fab) (w : Who) (dir : Nat) : Sched :=
  match w with
  | .ni t => if dir = 0 then (f.ni t).inj else (f.ni t).egr
  | .sp d => if dir = 0 then (f.spOf d).inj else (f.spOf d).egr
/-- Changes a scheduler. -/
def Fab.modSched (f : Fab) (w : Who) (dir : Nat) (g : Sched → Sched) : Fab :=
  match w with
  | .ni t => f.modNi t (fun n => if dir = 0 then { n with inj := g n.inj } else { n with egr := g n.egr })
  | .sp d => f.modSp d (fun n => if dir = 0 then { n with inj := g n.inj } else { n with egr := g n.egr })
/-- An object of a holder. -/
def Fab.oW (f : Fab) (w : Who) (idx sub : Nat) : Nat := f.o w.scope w.num idx sub
/-- Subindex of a per-class object (R303). -/
def ssub (dir s : Nat) : Nat := 16 * dir + s

/-- Class state of a scheduler. -/
def Sched.cl (x : Sched) (s : Nat) : ClassState := x.cls.getD s ClassState.reset
/-- Changes the class state of a scheduler. -/
def Sched.modCl (x : Sched) (s : Nat) (g : ClassState → ClassState) : Sched := { x with cls := modAt x.cls s g }
/-- Changes the class state of a scheduler of the fabric. -/
def Fab.modCl (f : Fab) (w : Who) (dir s : Nat) (g : ClassState → ClassState) : Fab :=
  f.modSched w dir (fun x => x.modCl s g)
/-- A FIFO of a scheduler. -/
def Sched.fifo (x : Sched) (s mc : Nat) : List QPkt := x.q.get (fun _ => []) (8 * s + mc)
/-- Replaces a FIFO. -/
def Sched.setFifo (x : Sched) (s mc : Nat) (l : List QPkt) : Sched := { x with q := x.q.set (fun _ => []) (8 * s + mc) l }
/-- Whether an SC queue is empty. -/
def Sched.emptyCl (x : Sched) (s : Nat) : Bool := (List.range 8).all (fun mc => (x.fifo s mc).isEmpty)

/-- Charged length (R303). -/
def Fab.charged (f : Fab) (w : Who) (dir s : Nat) (p : Packet) : Nat :=
  80 * lenOf p + f.oW w O.SC_OVERHEAD (ssub dir s)

/-! ## Joining -/

/-- Places an entry behind the answers at the front and behind every entry that arrived before it (R235, R297). -/
def insertBySeq (e : QPkt) : List QPkt → List QPkt
  | [] => [e]
  | x :: xs => if !x.ans && decide (e.seq < x.seq) then e :: x :: xs else x :: insertBySeq e xs

/-- Places an answer at the front, behind earlier answers (R212, R216). -/
def insertAnswer (e : QPkt) : List QPkt → List QPkt
  | [] => [e]
  | x :: xs => if x.ans then x :: insertAnswer e xs else e :: x :: xs

/-- The head of a FIFO has stood there since `now` when it was not the head before. -/
def markHead (now : Nat) (old : List QPkt) : List QPkt → List QPkt
  | [] => []
  | x :: xs => if old.head? == some x then x :: xs else { x with since := now } :: xs

/-- A packet joins the FIFO of its MC in the SC queue of its SC (R297), with the order of arrival `seq`; a queue that was
empty will wake (R307). -/
def Fab.join (f : Fab) (w : Who) (dir : Nat) (p : Packet) (stg : Option Nat) (seq : Nat) (ans own : Bool) :
    Fab :=
  let now := f.time w.tile
  let e : QPkt := ⟨p, stg, now, false, ans, seq, false, own⟩
  f.modSched w dir (fun x =>
    let old := x.fifo (scOf p) (mcOf p)
    let x := if x.emptyCl (scOf p) then x.modCl (scOf p) (fun c => { c with dormant := true }) else x
    x.setFifo (scOf p) (mcOf p) (markHead now old (if ans then insertAnswer e old else insertBySeq e old)))

/-- The next order of arrival of a scheduler. -/
def Fab.takeSeq (f : Fab) (w : Who) (dir : Nat) : Fab × Nat :=
  let n := (f.sched w dir).seq
  (f.modSched w dir (fun x => { x with seq := n + 1 }), n)

/-- A packet that the NI did not take from its port joins at the end of its FIFO. -/
def Fab.joinLast (f : Fab) (w : Who) (dir : Nat) (p : Packet) : Fab :=
  let r := f.takeSeq w dir
  r.1.join w dir p none r.2 false true

/-! ## Shapers (R310 to R317) -/

/-- Brings a bucket up to date (R311): tokens in 1/1,024 byte, rate in MB/s, burst in bytes, times in 2^-16 ns. A
backward step of time is no elapsed time (R335). -/
def ClassState.refill (c : ClassState) (en : Bool) (rate burst now : Nat) : ClassState :=
  if en then
    let sum := c.frac + rate * (now - c.last)
    let t := c.tok + (sum / 64000 : Nat)
    let top : Int := (1024 * burst : Nat)
    if top ≤ t then { c with tok := top, frac := 0, last := now }
    else { c with tok := t, frac := sum % 64000, last := now }
  else { c with last := now }

/-- Whether a class has a shaper that is enabled (R310). -/
def Fab.shaperOn (f : Fab) (w : Who) (dir s : Nat) : Bool :=
  decide (0 < s) && f.oW w O.SHAPER_EN (ssub dir s) == 1

/-- Brings the bucket of a class up to date. -/
def Fab.refill (f : Fab) (w : Who) (dir s : Nat) : Fab :=
  f.modCl w dir s (fun c => c.refill (f.shaperOn w dir s) (f.oW w O.SHAPER_RATE (ssub dir s))
    (f.oW w O.SHAPER_BURST (ssub dir s)) (f.time w.tile))

/-! ## Time gates (R321 to R329) -/

/-- A window as a gate sees it at a moment (R325). -/
inductive Win where
  | closed | always | span (start fin : Nat)
  deriving DecidableEq, Repr

/-- Length of a cycle in 2^-16 ns (R323). -/
def cycleOf (l : List (Nat × Bool)) : Nat := ns (l.foldl (fun a e => a + e.1) 0)

/-- The maximal open runs of a list of entries laid end to end from position `p`; `cur` is the start of the open run
that reaches `p`. -/
def runsOf : Nat → Option Nat → List (Nat × Bool) → List (Nat × Nat)
  | p, some s, [] => [(s, p)]
  | _, none, [] => []
  | p, cur, (d, o) :: l =>
    match o, cur with
    | true, none => runsOf (p + ns d) (some p) l
    | true, some s => runsOf (p + ns d) (some s) l
    | false, some s => (s, p) :: runsOf (p + ns d) none l
    | false, none => runsOf (p + ns d) none l

/-- The window of a schedule at time `t` (R324, R325). Before the base it is closed, also when a backward step of time
(R335) puts `t` there while the schedule runs: R324 does not say what the gate does then (DESIGN CHOICE, log 74). -/
def GateSched.window (g : GateSched) (t : Nat) : Win :=
  let c := cycleOf g.list
  if t < g.base ∨ c = 0 then .closed
  else if g.list.all (·.2) then .always
  else
    let at3 := (t - g.base) % c + c
    match (runsOf 0 none (g.list ++ g.list ++ g.list)).find? (fun r => decide (r.1 ≤ at3 ∧ at3 < r.2)) with
    | some r => .span (max g.base (t + r.1 - at3)) (t + r.2 - at3)
    | none => .closed

/-- What a gate answers for a head. -/
inductive GateAns where
  | permit (oversize : Bool) | closed | noFit
  deriving DecidableEq, Repr

/-- The gate's rule for a head of charged length `len` that has been the head since `since` (R326, R327). -/
def gateRule (w : Win) (t len rate since : Nat) : GateAns :=
  match w with
  | .closed => .closed
  | .always => .permit false
  | .span s e =>
    if len * 65536000 ≤ (e - s) * rate then
      (if len * 65536000 ≤ (e - t) * rate then .permit false else .noFit)
    else if since ≤ s then .permit true else .noFit

/-- The window of a class at a time. -/
def ClassState.window (c : ClassState) (t : Nat) : Win :=
  match c.run with
  | some g => g.window t
  | none => .closed

/-- A pending schedule replaces the running one at its base (R324). -/
def ClassState.start (c : ClassState) (t : Nat) : ClassState :=
  match c.pend with
  | some g => if g.base ≤ t then { c with run := some g, pend := none } else c
  | none => c

/-- A boundary takes effect (R324). -/
def ClassState.boundary (c : ClassState) (t : Nat) : ClassState :=
  let c := c.start t
  { c with opened := c.window t != .closed }

/-- What the gate of a class answers for a head (R321). -/
def Fab.gate (f : Fab) (w : Who) (dir s : Nat) (h : QPkt) : GateAns :=
  if s = 0 ∨ f.oW w O.GATE_EN (ssub dir s) = 0 then .permit false
  else
    let t := f.time w.tile
    gateRule (((f.sched w dir).cl s).window t) t (f.charged w dir s h.pkt) (f.oW w O.GATE_RATE (ssub dir s)) h.since

/-- Counts the heads of a class that the gate refuses inside a window because they do not fit, each once (R328). -/
def Fab.countWaits (f : Fab) (w : Who) (dir s : Nat) : Fab :=
  (List.range 8).foldl (fun f mc =>
    match (f.sched w dir).fifo s mc with
    | [] => f
    | h :: rest =>
      if !h.waited && f.gate w dir s h == .noFit then
        ((f.modSched w dir (fun x => x.setFifo s mc ({ h with waited := true } :: rest))).bump w.scope w.num
          O.GATE_WAITS (ssub dir s)).event w.tile 0x2F s
      else f) f

/-- Marks a class as dormant while a condition of R307 holds: empty, every head refused by its gate, or debt. -/
def Fab.markDormant (f : Fab) (w : Who) (dir s : Nat) : Fab :=
  let x := f.sched w dir
  let heads := (List.range 8).filterMap (fun mc => (x.fifo s mc).head?)
  let refused := heads.all (fun h => match f.gate w dir s h with | .permit _ => false | _ => true)
  let debt := f.shaperOn w dir s && decide ((x.cl s).tok < 0)
  if heads.isEmpty || refused || debt then f.modCl w dir s (fun c => { c with dormant := true }) else f

/-- Brings a scheduler up to date at the start of a cycle: boundaries, buckets, waits and wake marks. -/
def Fab.refresh (f : Fab) (w : Who) (dir : Nat) : Fab :=
  (List.range 6).foldl (fun f s =>
    let f := f.modCl w dir s (fun c => c.boundary (f.time w.tile))
    let f := f.refill w dir s
    let f := f.countWaits w dir s
    f.markDormant w dir s) f

/-! ## Selection (R301 to R307) -/

/-- The MCs whose FIFO head is eligible in an SC queue (R299); `ok` decides room and fence. -/
def Fab.eligible (f : Fab) (w : Who) (dir s : Nat) (ok : Nat → QPkt → Bool) : List Nat :=
  if f.shaperOn w dir s && decide (((f.sched w dir).cl s).tok < 0) then []
  else (List.range 8).filter (fun mc =>
    match (f.sched w dir).fifo s mc with
    | [] => false
    | h :: _ => (match f.gate w dir s h with | .permit _ => true | _ => false) && ok mc h)

/-- Round robin over MC after the one last served (R302). -/
def nextMc (rr : Nat) (l : List Nat) : Option Nat :=
  ((List.range 8).map (fun i => (rr + 1 + i) % 8)).find? (fun mc => l.contains mc)

/-- The weighted queue with the smallest start tag among eligible ones; ties go to the lower SC (R306). -/
def smallestTag (x : Sched) : List Nat → Option Nat
  | [] => none
  | s :: ss =>
    match smallestTag x ss with
    | none => some s
    | some u => if (x.cl s).tag ≤ (x.cl u).tag then some s else some u

/-- Reciprocal weight (R306). -/
def Fab.recip (f : Fab) (w : Who) (dir s : Nat) : Nat := 65536 / f.oW w O.SCHED_WEIGHT (ssub dir s)

/-- Waking queues take v as their start tag (R307). -/
def Fab.wakeQueues (f : Fab) (w : Who) (dir : Nat) (elig : List Nat) : Fab :=
  let v := (f.sched w dir).v
  elig.foldl (fun f s => f.modCl w dir s (fun c =>
    if c.dormant then { c with dormant := false, tag := if 2 ≤ s then v else c.tag } else c)) f

/-- The SC queues that are eligible (R299). -/
def Fab.eligibleSc (f : Fab) (w : Who) (dir : Nat) (ok : Nat → Nat → QPkt → Bool) : List Nat :=
  (List.range 6).filter (fun s => !(f.eligible w dir s (ok s)).isEmpty)

/-- What a scheduler does at the start of a QCLK cycle, before its selection: it is brought up to date, and queues that
have become eligible wake (R307). -/
def Fab.settleSched (f : Fab) (w : Who) (dir : Nat) (ok : Nat → Nat → QPkt → Bool) : Fab :=
  let f := f.refresh w dir
  f.wakeQueues w dir (f.eligibleSc w dir ok)

/-- The selection of one packet (R301, R305, R306): its class, MC and entry, and the scheduler after it; at most one in a
QCLK cycle. A start tag that passes 64 bits wraps, and tags are compared as numbers: R306 does not say what happens there
(DESIGN CHOICE, log 73). -/
def Fab.selectPkt (f : Fab) (w : Who) (dir : Nat) (ok : Nat → Nat → QPkt → Bool) : Fab × Option QPkt :=
  let f1 := f.settleSched w dir ok
  let el (s : Nat) : List Nat := f1.eligible w dir s (ok s)
  let classes := f1.eligibleSc w dir ok
  let x := f1.sched w dir
  let pick := if x.picked then none else if classes.contains 0 then some 0 else if classes.contains 1 then some 1
    else smallestTag x (classes.filter (fun s => decide (2 ≤ s)))
  match pick with
  | none => (f1, none)
  | some s =>
    match nextMc (x.cl s).rr (el s) with
    | none => (f1, none)
    | some mc =>
      match x.fifo s mc with
      | [] => (f1, none)
      | h :: rest =>
        let len := f1.charged w dir s h.pkt
        let late := f1.gate w dir s h == .permit true
        let on := f1.shaperOn w dir s
        let now := f1.time w.tile
        let tag0 := (x.cl s).tag
        let f2 := f1.modSched w dir (fun x =>
          let x := x.setFifo s mc (markHead now [] rest)
          let x := x.modCl s (fun c => { c with
            rr := mc
            tok := if on then c.tok - (1024 * len : Nat) else c.tok
            tag := if 2 ≤ s then (c.tag + len * f1.recip w dir s) % 2 ^ 64 else c.tag })
          let x := if 2 ≤ s then { x with v := tag0, picked := true } else { x with picked := true }
          if x.emptyCl s then x.modCl s (fun c => { c with dormant := true }) else x)
        let f3 := (f2.bump w.scope w.num O.SCHED_PKTS (ssub dir s)).bump w.scope w.num O.SCHED_BYTES (ssub dir s) len
        let f4 := if late then f3.bump w.scope w.num O.GATE_OVERSIZE (ssub dir s) else f3
        (f4, some h)

/-! ## Guard band (R326) and histograms (R330, R331) -/

/-- GATE_GUARD in ns, rounded up (R326). -/
def Fab.guardBand (f : Fab) (w : Who) (ss : Nat) : Nat :=
  let bytes := 80 * f.oW w O.GATE_MAXLEN ss + f.oW w O.SC_OVERHEAD ss
  let rate := f.oW w O.GATE_RATE ss
  (bytes * 1000 + rate - 1) / rate

/-- GATE_STATE (R336). Bit 2 counts a schedule that is only pending as present: R336 does not say (DESIGN CHOICE,
log 75). -/
def Fab.gateState (f : Fab) (w : Who) (dir s : Nat) : Nat :=
  let c := (f.sched w dir).cl s
  b2n (c.window (f.time w.tile) != .closed) + 2 * b2n c.pend.isSome + 4 * b2n (c.run.isSome || c.pend.isSome)

/-- Floor of the base-2 logarithm, for a number below 2^n. -/
def log2 (x : Nat) : Nat → Nat
  | 0 => 0
  | n + 1 => if 2 ^ (n + 1) ≤ x then n + 1 else log2 x n

/-- The bucket of a sample (R331). -/
def bucketOf (x : Nat) : Nat := if x = 0 then 0 else min 15 (1 + log2 x 15)

/-- Adds one to a bucket of a histogram held as 16 fields of 16 bits; a bucket stops at 4,095 (R331). -/
def histAdd (h b : Nat) : Nat := setField h (16 * b) 16 (min 4095 (field h (16 * b) 16 + 1))

/-- Depth of an SC queue in flits (R298). -/
def Sched.depth (x : Sched) (s : Nat) : Nat :=
  (List.range 8).foldl (fun a mc => (x.fifo s mc).foldl (fun a e => a + lenOf e.pkt) a) 0

/-- The longest time for which a head of an SC queue has stood at the head, in 2^-16 ns. -/
def Sched.headDelay (x : Sched) (s now : Nat) : Nat :=
  (List.range 8).foldl (fun a mc => match (x.fifo s mc).head? with
    | some h => max a (now - h.since) | none => a) 0

/-- A histogram sample of one scheduler (R330). -/
def Fab.histSample (f : Fab) (w : Who) (dir : Nat) : Fab :=
  let unit := f.oW w O.HIST_DELAY_UNIT 0
  (List.range 6).foldl (fun f s =>
    let x := f.sched w dir
    let depth := x.depth s
    let delay := x.headDelay s (f.time w.tile) / ns unit
    let k := ssub dir s
    (f.setO w.scope w.num O.HIST_DEPTH k (histAdd (f.oW w O.HIST_DEPTH k) (bucketOf depth))).setO w.scope w.num
      O.HIST_DELAY k (histAdd (f.oW w O.HIST_DELAY k) (bucketOf delay))) f

end Sys2Proof.Machine
end

