-- ==== Sys2Proof/Machine/Fam.lean ====
section
/-! DEFINITION. Fam: the Fabric Address Map: entries and groups as a die's copy holds them (R194 to R199, R230),
the check (R203, R204), the Port Route Table (R200, R205), violation records (R215) and the lens (R207 to R209). -/

namespace Sys2Proof.Machine

/-! ## Tables -/

/-- TABLE numbers of stage records (R222). -/
def tblFam : Nat := 0
@[inherit_doc tblFam] def tblShare : Nat := 1
@[inherit_doc tblFam] def tblPbr : Nat := 2

/-- The latest record for an element in a list of records, if any: a later record prevails (R223). -/
def lastRec (l : List StageRec) (table part elem : Nat) : Option Nat :=
  (l.reverse.find? (fun r => r.table == table && r.part == part && r.elem == elem)).map (·.value)

/-- A FAM entry as lookups on a die see it: the draining overlay first, then the bank (R230). -/
def FamCopy.entry (c : FamCopy) (i : Nat) : Nat := (lastRec c.drain tblFam 0 i).getD (c.fam.get (fun _ => 0) i)
/-- Quarter `q` of a sharing group. -/
def FamCopy.quarter (c : FamCopy) (n q : Nat) : Nat :=
  (lastRec c.drain tblShare q n).getD (field (c.share.get (fun _ => 0) n) (64 * q) 64)
/-- A Port Route Table element. -/
def FamCopy.route (c : FamCopy) (n : Nat) : Nat := (lastRec c.drain tblPbr 0 n).getD (c.pbr.get (fun _ => 0) n)
/-- A sharing group (R198). -/
def FamCopy.group (c : FamCopy) (n : Nat) : Nat :=
  (List.range 4).foldl (fun a q => a + c.quarter n q * 2 ^ (64 * q)) 0

/-- Takes one record into the tables of a copy. -/
def FamCopy.apply (c : FamCopy) (r : StageRec) : FamCopy :=
  if r.table = tblFam then { c with fam := c.fam.set (fun _ => 0) r.elem r.value }
  else if r.table = tblShare then
    let v := setField (c.share.get (fun _ => 0) r.elem) (64 * r.part) 64 r.value
    { c with share := c.share.set (fun _ => 0) r.elem v }
  else { c with pbr := c.pbr.set (fun _ => 0) r.elem r.value }

/-! ## Fields of an entry (R194) -/

/-- VALID. -/
def eValid (e : Nat) : Bool := bit e 0
/-- TARGET_TILE. -/
def eTile (e : Nat) : Nat := field e 1 8
/-- TARGET_SLOT. -/
def eSlot (e : Nat) : Nat := field e 9 1
/-- SHARE_GROUP. -/
def eGroup (e : Nat) : Nat := field e 10 12
/-- RIGHTS: bit 0 read, bit 1 write, bit 2 atomic. -/
def eRights (e : Nat) : Nat := field e 22 3
/-- COH: 0 NC, 1 HC, 2 DC. -/
def eCoh (e : Nat) : Nat := field e 25 2
/-- DEFAULT_SC. -/
def eSc (e : Nat) : Nat := field e 27 3
/-- LOCK. -/
def eLock (e : Nat) : Bool := bit e 30
/-- TYPE: 0 NORMAL, 1 DEVICE, 2 HELD, 3 ABSENT. -/
def eType (e : Nat) : Nat := field e 31 2
/-- DPA_INDEX. -/
def eDpa (e : Nat) : Nat := field e 34 26

/-- Bits of a granule (R190). -/
def Fab.gBits (f : Fab) : Nat := [28, 30, 32].getD (f.oI O.GRANULE) 30

/-! ## Rights (R204) -/

/-- What a request needs of an entry: KIND for the violation record (0 read, 1 write, 2 atomic, 3 I/O), rights as
in RIGHTS, whether DEVICE granules are allowed, and the COH values allowed. -/
structure Need where
  /-- KIND -/
  kind : Nat
  /-- rights -/
  rights : Nat
  /-- DEVICE is allowed -/
  dev : Bool
  /-- COH values allowed -/
  coh : List Nat
  deriving DecidableEq, Repr

/-- The row of R204 for a FAM-routed request; I/O for every other. -/
def needOf (mc opc : Nat) : Need :=
  let any := [0, 1, 2]
  match mc, opc with
  | 0, 0x00 => ⟨0, 1, false, any⟩
  | 0, 0x01 => ⟨0, 1, false, any⟩
  | 0, 0x04 => ⟨0, 1, false, any⟩
  | 0, 0x02 => ⟨0, 1, false, [1, 2]⟩
  | 0, 0x03 => ⟨0, 1, false, [1, 2]⟩
  | 0, 0x05 => ⟨0, 1, false, [1, 2]⟩
  | 0, 0x06 => ⟨0, 1, false, [2]⟩
  | 1, 0x00 => ⟨1, 2, false, any⟩
  | 1, 0x01 => ⟨1, 2, false, any⟩
  | 0, 0x0D => ⟨3, 1, true, any⟩
  | 1, 0x0D => ⟨3, 2, true, any⟩
  | 0, 0x10 => ⟨0, 1, true, any⟩
  | 1, 0x10 => ⟨1, 2, true, any⟩
  | 0, 0x11 => ⟨2, 5, false, any⟩
  | 1, 0x11 => ⟨2, 6, false, any⟩
  | _, _ => ⟨3, 0, true, any⟩

/-- `rights_ok` of R204 with the rights that the requester may use: RIGHTS of the entry, narrowed for a service
port by SP_BIND (R201). HELD and ABSENT entries are not examined for TYPE and COH. -/
def rightsOk (n : Need) (e have_ : Nat) : Bool :=
  (n.rights &&& (eRights e &&& have_)) == n.rights
    && (decide (2 ≤ eType e) || ((n.dev || eType e == 0) && n.coh.contains (eCoh e)))

/-- What `check` answers (R203). -/
inductive Chk where
  | violation (cause region : Nat) (straddle : Bool)
  | park | poison
  | route (entry idx : Nat)
  deriving DecidableEq, Repr

/-- CAUSE codes (R215). -/
def causeNoEntry : Nat := 0
@[inherit_doc causeNoEntry] def causeRights : Nat := 1
@[inherit_doc causeNoEntry] def causeGroup : Nat := 2
@[inherit_doc causeNoEntry] def causeWindow : Nat := 3
@[inherit_doc causeNoEntry] def causeStraddle : Nat := 4
@[inherit_doc causeNoEntry] def causeLocked : Nat := 5

/-- The checks of one granule of the loop of R203; `none` when it passes. `above` says that a byte of the access
lies above offset 0x7_FFFF of the granule. -/
def checkOne (n : Need) (have_ : Nat) (l : LensLine) (first straddle above : Bool) : Option Chk :=
  if 2 ^ 20 ≤ l.idx then some (.violation causeWindow l.idx straddle)
  else if !eValid l.entry then some (.violation causeNoEntry l.idx straddle)
  else if eSlot l.entry = 1 ∧ above then some (.violation causeWindow l.idx straddle)
  else if !l.member then some (.violation causeGroup l.idx straddle)
  else if !rightsOk n l.entry have_ then some (.violation causeRights l.idx straddle)
  else if !first then some (.violation causeStraddle l.idx straddle)
  else none

/-- The granules that an access touches: first and last FAM index (R192, R203). -/
def granules (g a z : Nat) : List Nat :=
  if a / 2 ^ g = z / 2 ^ g then [a / 2 ^ g] else [a / 2 ^ g, z / 2 ^ g]

/-- Whether a byte of the access lies above offset 0x7_FFFF of granule `i` (R197, R203). -/
def aboveBank (g a z i : Nat) : Bool :=
  (a / 2 ^ g == i && decide (0x7FFFF < a % 2 ^ g)) || (z / 2 ^ g == i && decide (0x7FFFF < z % 2 ^ g))

/-- `check` of R203 over what the lookups found. -/
def checkAll (n : Need) (have_ g a z : Nat) (ls : List LensLine) : Chk :=
  let i0 := a / 2 ^ g
  let straddle := decide (i0 ≠ z / 2 ^ g)
  match ls.findSome? (fun l => checkOne n have_ l (l.idx == i0) straddle (aboveBank g a z l.idx)) with
  | some c => c
  | none =>
    match ls with
    | [] => .poison
    | l :: _ => if eType l.entry = 2 then .park else if eType l.entry = 3 then .poison else .route l.entry l.idx

/-- Line address in the target's space (R193). -/
def targetLine (g e line : Nat) : Nat := (eDpa e * 2 ^ g + (line * 64) % 2 ^ g) / 64

/-- A copy as a lookup of lookup time `look` sees it (R202, R230): from the loaded T on, the commit overlay prevails. -/
def FamCopy.at_ (c : FamCopy) (look : Nat) : FamCopy :=
  match c.t with
  | some tm => if tm ≤ look then { c with drain := c.drain ++ c.ovl } else c
  | none => c

/-- What the FAM copy of die `d` answers for a granule at a lookup time; `mem` decides the group check from the group
(R198, R201). -/
def Fab.famLook (f : Fab) (d look : Nat) (mem : Nat → Bool) (i : Nat) : LensLine :=
  let c := (f.copyOf d).at_ look
  let e := if i < 2 ^ 20 then c.entry i else 0
  ⟨i, e, mem (c.group (eGroup e))⟩

/-- The uncorrectable error that lookups meet (R210, R583), as INFO0 of FAM_UE: `bad` lists the table and the element of
each word of the copy that has one. -/
def famBad (bad : List (Nat × Nat)) (ls : List LensLine) : Option Nat :=
  ls.findSome? (fun l =>
    if bad.contains (tblFam, l.idx) then some (l.idx * 8)
    else if bad.contains (tblShare, eGroup l.entry) then some (tblShare + eGroup l.entry * 8) else none)
/-- FAM_UE of a die (R210). -/
def Fab.famUe (f : Fab) (d info : Nat) : Fab := f.raise (famKey .die d) 0 info 0 0

/-! ## The lens (R207 to R209) -/

/-- Set of a FAM index (R207). -/
def lensSetOf (i : Nat) : Nat := i % 512
/-- The line of an index, with its way. -/
def LensSet.find (s : LensSet) (i : Nat) : Option (Nat × LensLine) :=
  ((List.range 4).filterMap (fun w => match s.ways.getD w none with
    | some l => if l.idx = i then some (w, l) else none
    | none => none)).head?
/-- The way to replace: an empty one, else the one that the tree points at. -/
def LensSet.victim (s : LensSet) : Nat :=
  match (List.range 4).find? (fun w => (s.ways.getD w none).isNone) with
  | some w => w
  | none =>
    if s.plru.getD 0 false then (if s.plru.getD 2 false then 3 else 2) else (if s.plru.getD 1 false then 1 else 0)
/-- The tree after a use of a way: it points away from it. -/
def LensSet.touch (s : LensSet) (w : Nat) : LensSet :=
  { s with plru := [decide (w < 2), if w < 2 then decide (w = 0) else s.plru.getD 1 false,
      if w < 2 then s.plru.getD 2 false else decide (w = 2)] }
/-- Looks an index up in the lens. -/
def Ni.lensFind (n : Ni) (i : Nat) : Option (Nat × LensLine) := (n.lens.get (fun _ => LensSet.reset) (lensSetOf i)).find i
/-- Marks a way as used. -/
def Ni.lensTouch (n : Ni) (i w : Nat) : Ni :=
  let s := (n.lens.get (fun _ => LensSet.reset) (lensSetOf i)).touch w
  { n with lens := n.lens.set (fun _ => LensSet.reset) (lensSetOf i) s }
/-- Installs a line. -/
def Ni.lensInstall (n : Ni) (l : LensLine) : Ni :=
  let s := n.lens.get (fun _ => LensSet.reset) (lensSetOf l.idx)
  let w := match s.find l.idx with | some (w, _) => w | none => s.victim
  let s' := ({ s with ways := modAt s.ways w (fun _ => some l) } : LensSet).touch w
  { n with lens := n.lens.set (fun _ => LensSet.reset) (lensSetOf l.idx) s' }
/-- Invalidates the line of an index (R210). -/
def Ni.lensDrop (n : Ni) (i : Nat) : Ni :=
  let s := n.lens.get (fun _ => LensSet.reset) (lensSetOf i)
  match s.find i with
  | some (w, _) =>
    let s' : LensSet := { s with ways := modAt s.ways w (fun _ => none) }
    { n with lens := n.lens.set (fun _ => LensSet.reset) (lensSetOf i) s' }
  | none => n
/-- Clears every valid bit (R209). -/
def Ni.lensClear (n : Ni) : Ni := { n with lens := [] }
/-- At the loaded T every valid bit clears (R209), also where the commit was abandoned and the NI missed the withdrawal
(R229). -/
def Ni.lensSettle (n : Ni) (now : Nat) : Ni :=
  match n.lensT with
  | some tm => if tm ≤ now then { n.lensClear with commitT := max n.commitT tm, lensT := none } else n
  | none => n

/-! ## Violation records (R215) -/

/-- Records a violation in the record of a scope, counts it, and raises VIOLATION with code `src`. -/
def Fab.violation (f : Fab) (sc : Scope) (num src addr kind master region : Nat) : Fab :=
  let flags := f.o sc num O.VIOL_FLAGS 5
  let f := if bit flags 0 then f.setO sc num O.VIOL_FLAGS 5 (setBit flags 1)
    else
      ((((f.setO sc num O.VIOL_ADDR 1 addr).setO sc num O.VIOL_KIND 2 kind).setO sc num O.VIOL_MASTER 3
        master).setO sc num O.VIOL_REGION 4 region).setO sc num O.VIOL_FLAGS 5 1
  (f.bump sc num O.VIOL_COUNT 0).raise (famKey sc num) src addr (kind + master * 2 ^ 6) region

/-- VIOL_KIND (R215). -/
def violKind (kind : Nat) (straddle : Bool) (cause : Nat) : Nat := kind + 4 * b2n straddle + 8 * cause
/-- VIOL_MASTER (R215). -/
def violMaster (mtype number prov : Nat) : Nat := mtype + 4 * number + 1024 * prov

end Sys2Proof.Machine
end

