-- ==== Sys2Proof/Machine/NiOps.lean ====
section
/-! DEFINITION. NiOps: the shared operations of an edge NI: fence and epoch (R149, R173), tags (R155 to R172),
staging credits (R151), answers (R165, R211, R212, R216), a DOWN port's answers (R123) and a port that becomes
gone (R169). -/

namespace Sys2Proof.Machine

/-! ## Fence, epoch, staging -/

/-- Whether a tile is in reset or unpowered. -/
def Fab.tileOut (f : Fab) (t : Nat) : Bool := (f.tile t).st == .reset || (f.tile t).st == .unpowered
/-- E_FENCE (R173). -/
def Fab.eFence (f : Fab) (t : Nat) : Bool :=
  f.oT t O.EDGE_FENCE == 1 || (f.ni t).fenceCdc || (f.ni t).fenceAck || f.tileOut t
/-- E_AWAKE (R181, R182). -/
def Fab.eAwake (f : Fab) (t : Nat) : Bool := (f.tile t).st == .t0 && f.qclkRuns t
/-- The port controller lowers I_KNOCK once E_AWAKE is high (R181). -/
def Fab.settleKnock (f : Fab) (t : Nat) : Fab := if f.eAwake t then f.modNi t (fun n => { n with knock := false }) else f
/-- E_READY (R149, R173, R182). -/
def Fab.eReady (f : Fab) (t : Nat) : Bool :=
  !f.eFence t && (f.ni t).ready && ((f.tile t).st == .t0 || (f.tile t).st == .t1)
/-- EDGE_FENCE_CAUSE (R173). -/
def Fab.fenceCause (f : Fab) (t : Nat) : Nat :=
  b2n (f.oT t O.EDGE_FENCE == 1) + 2 * b2n (f.ni t).fenceCdc + 4 * b2n (f.ni t).fenceAck

/-- Staging flits of a class are freed, and their ingress credits return (R150, R151). -/
def Fab.stgFree (f : Fab) (t mc n : Nat) : Fab :=
  f.modNi t (fun x => if x.epoch && n != 0 then { x with iCred := modAt x.iCred mc (· + n), eICred := mask mc } else x)

/-- The staging flits of a dropped packet are freed: `n` of its class, and one of each class in `odd` (R151). -/
def Fab.stgDrop (f : Fab) (t mc n : Nat) (odd : List Nat) : Fab :=
  odd.foldl (fun f c => f.stgFree t c 1) (f.stgFree t mc n)
/-- The same for a packet whose LAST beat has arrived. -/
def Fab.dropStaged (f : Fab) (t : Nat) (s : Staged) : Fab := f.stgDrop t s.mc (s.pkt.length - s.odd.length) s.odd

/-- A packet takes its place in the order of joining as its checks are made (R297, R300). -/
def Fab.stamp (f : Fab) (t : Nat) (s : Staged) : Fab × Staged :=
  let n := (f.ni t).inj.seq
  (f.modNi t (fun x => { x with inj := { x.inj with seq := n + 1 } }), { s with seq := n })

/-! ## Tags -/

/-- A tag of an edge NI. -/
def Fab.tag (f : Fab) (t k : Nat) : Tag := (f.ni t).tags.get (fun _ => Tag.reset) k
/-- Replaces a tag. -/
def Fab.setTag (f : Fab) (t k : Nat) (x : Tag) : Fab :=
  f.modNi t (fun n => { n with tags := n.tags.set (fun _ => Tag.reset) k x })
/-- Frees a tag (R160). -/
def Fab.freeTag (f : Fab) (t k : Nat) : Fab := f.setTag t k Tag.reset
/-- Quarantines a tag (R172). -/
def Fab.quarTag (f : Fab) (t k : Nat) : Fab :=
  f.setTag t k { f.tag t k with st := .quar, mark := false, parts := none, got := [], deliv := 0, own := false }
/-- Tags in a stage. -/
def Ni.tagsIn (n : Ni) (st : TagSt) : List Nat := (n.tags.filter (fun kv => kv.2.st == st)).map (·.1)
/-- EDGE_TAGS_OUT. -/
def Ni.tagsOut (n : Ni) : Nat := (n.tagsIn .out).length
/-- EDGE_TAGS_QUAR: the range leaves the flush pool out (R155, R189). -/
def Ni.tagsQuar (n : Ni) : Nat := ((n.tagsIn .quar).filter (fun k => decide (k < 2032))).length
/-- Whether an outstanding tag still awaits a response part (R82, R83). -/
def Tag.awaits (x : Tag) : Bool :=
  x.st == .out && (match x.parts with | none => true | some n => decide (x.got.length < n))
/-- The run time of a tile as a number. -/
def Fab.runN (f : Fab) (t : Nat) : Nat := (f.run t).toNat
/-- A deadline in run time as Lantern nanoseconds, for INFO captures. -/
def Fab.deadlineNs (f : Fab) (t dl : Nat) : Nat :=
  (((dl : Int) + (f.lantern (dieOf t)).stepSum).toNat) / 65536

/-- A grant that a MEM_SPEC_RD uses (R158): its tag is freed at its injection (R159). -/
def Fab.useTag (f : Fab) (t k : Nat) : Fab := f.setTag t k { Tag.reset with st := .used }

/-- A tag becomes outstanding (R159, R162). -/
def Fab.outTag (f : Fab) (t k : Nat) (req : Flit) (tgt : Option (Nat × Nat)) : Fab :=
  let dl := f.runN t + us (f.oT t O.EDGE_REQ_TIMEOUT)
  let f := f.setTag t k ⟨.out, req, tgt, dl, none, [], 0, false, false⟩
  (f.event t 0x26 0).peak .tile t O.EDGE_TAG_PEAK (f.ni t).tagsOut

/-- A granted tag that a refused packet names returns to the free tags (R161). -/
def Fab.returnNamed (f : Fab) (t : Nat) (h : Flit) : Fab :=
  let mc := mcOf [h]
  if (mc = 0 ∨ mc = 1 ∨ mc = 4) ∧ (f.tag t (tagOf [h])).st = .granted then f.freeTag t (tagOf [h]) else f

/-! ## Sending packets of the NI's own -/

/-- A packet that the edge NI makes itself joins its injection scheduler. -/
def Fab.niSend (f : Fab) (t : Nat) (p : Packet) : Fab := f.joinLast (.ni t) 0 p

/-- A response packet joins the egress queues as received responses do. -/
def Fab.niDeliver (f : Fab) (t : Nat) (p : Packet) : Fab := f.joinLast (.ni t) 1 p

/-- The parts of an answer as packets; all data zero, poisoned when `psn`. -/
def answerPackets (parts : List Part) (req : Packet) (src : Nat × Nat) (sc prov status n : Nat) (psn : Bool) :
    List Packet := parts.map (fun a => mkAnswer req src sc prov status n psn a 0)

/-- SC of a request for which no FAM entry gives a DEFAULT_SC (R79): the fixed class of its opcode, or SC2, and SC3 when
bulk, for memory traffic. DESIGN CHOICE (log 8). -/
def answerSc (p : Packet) : Nat :=
  match opRow (mcOf p) (opcOf p) with
  | some r => match r.sc with
    | .fixed n => n
    | _ => if hdr p 29 1 = 1 then 3 else 2
  | none => 2

/-- Places the parts of an answer at the front of their egress FIFOs (R212, R216). -/
def Fab.answerFront (f : Fab) (t : Nat) (ps : List Packet) : Fab :=
  ps.foldl (fun f p => let r := f.takeSeq (.ni t) 1; r.1.join (.ni t) 1 p none r.2 true true) f

/-- The tag of a request is answered by the NI itself with these parts. -/
def Fab.ownAnswer (f : Fab) (t k : Nat) (ps : List Packet) : Fab :=
  f.setTag t k { f.tag t k with parts := some ps.length, got := ps.map (fun p => (mcOf p, opcOf p)), own := true }

/-! ## Stray responses (R82) -/

/-- A stray response is counted and raises STRAY_RSP; `kind` is INFO2. -/
def Fab.stray (f : Fab) (t : Nat) (p : Packet) (kind : Nat) : Fab :=
  (f.bumpT t O.EDGE_STRAY_CNT).raiseT t 2 (header p % 2 ^ 64) (header p / 2 ^ 64) kind

/-! ## A port in DOWN (R123) -/

/-- What the edge NI of a DOWN port does with a packet that arrives for it (R123). -/
def Fab.downAnswer (f : Fab) (t : Nat) (p : Packet) : Fab :=
  let prov := f.oT t O.EDGE_PROV
  if isFlush p then
    f.niSend t (mkPacket (rspHeader (srcTile p) (srcSlot p) t 0 2 0x1E (scOf p) (tagOf p) 0 prov 0 0 1) 0 1 false)
  else if isResponse p then f.stray t p 0
  else
    match mcOf p with
    | 0 =>
      let parts := answerParts .poison p
      (answerPackets parts p (t, 0) (scOf p) prov 1 parts.length true).foldl (fun f q => f.niSend t q) f
    | 1 =>
      let parts := answerParts .poison p
      (answerPackets parts p (t, 0) (scOf p) prov 1 parts.length true).foldl (fun f q => f.niSend t q) f
    | 4 =>
      let parts := answerParts .violation p
      (answerPackets parts p (t, 0) (scOf p) prov 0 parts.length false).foldl (fun f q => f.niSend t q) f
    | _ => f.bumpT t O.EDGE_DOWN_DISCARD

/-! ## Spill queues (R337 to R352, R362) -/

/-- Spill queue number of a message class: 0 to 4 for MC0, MC1, MC2, MC3 and MC6 (R578). -/
def spillIdx (mc : Nat) : Option Nat := if mc ≤ 3 then some mc else if mc = 6 then some 4 else none
/-- A spill queue. -/
def Fab.spq (f : Fab) (t i : Nat) : SpillQ := (f.ni t).spill.getD i SpillQ.reset
/-- Changes a spill queue. -/
def Fab.modSpq (f : Fab) (t i : Nat) (g : SpillQ → SpillQ) : Fab :=
  f.modNi t (fun n => { n with spill := modAt n.spill i g })

/-- The flits of resident packets in egress storage (R337, R339). -/
def Ni.residentFlits (n : Ni) : Nat := n.egr.stored.foldl (fun a p => a + p.length) 0
/-- The stall condition (R340). -/
def Fab.stall (f : Fab) (t : Nat) : Bool :=
  (f.ni t).link == .retrain || decide (f.oT t O.SPILL_HIGH ≤ (f.ni t).residentFlits)

/-- A packet in egress storage becomes resident or outbound, or is dropped as SC5 during a stall (R339, R343,
R345). -/
def Fab.egressJoin (f : Fab) (t : Nat) (p : Packet) : Fab :=
  if scOf p = 5 ∧ f.stall t then (f.bumpT t O.SC5_STALL_DROP).hopRecord t 3 6 0 false 0 0 p
  else
    match spillIdx (mcOf p) with
    | some i =>
      if 2 ≤ scOf p ∧ scOf p ≤ 4 ∧ (f.spq t i).st ≠ .resident then f.modSpq t i (fun q => { q with outb := q.outb ++ [p] })
      else f.niDeliver t p
    | none => f.niDeliver t p

/-! ## Completion of tags -/

/-- The parts that a tag has not accepted, of those that R166 lists for its request. -/
def Tag.missing (x : Tag) : List Part :=
  (answerParts .poison [x.req]).filter (fun a => !x.got.contains (a.mc, a.opc))

/-- SRC_TILE and SRC_SLOT of a synthesised response (R165, R236). -/
def Tag.source (x : Tag) (t : Nat) : Nat × Nat := x.tgt.getD (t, 0)

/-- Synthesises the parts that a tag still awaits and delivers them as received responses (R164, R165). Answers the
number of parts. -/
def Fab.synthesise (f : Fab) (t k : Nat) : Fab × Nat :=
  let x := f.tag t k
  let parts := x.missing
  let n := x.parts.getD parts.length
  let ps := answerPackets parts [x.req] (x.source t) (scOf [x.req]) 0 1 n true
  let f := ps.foldl (fun f p => f.egressJoin t p) f
  let x' : Tag := { x with parts := some (x.got.length + parts.length),
                           got := x.got ++ parts.map (fun a => (a.mc, a.opc)) }
  let f := f.bumpT t O.EDGE_SYNTH parts.length
  (if x.got.length + parts.length ≤ x.deliv then f.freeTag t k else f.setTag t k x', parts.length)

/-- Removes from the egress queues the waiting parts of a tag; answers how many there were. -/
def Fab.dropEgressParts (f : Fab) (t k : Nat) : Fab × Nat :=
  let mine (e : QPkt) : Bool := isResponse e.pkt && tagOf e.pkt == k
  let n := (f.ni t).egr.q.foldl (fun a kv => a + (kv.2.filter mine).length) 0
  let now := f.time t
  (f.modSched (.ni t) 1 (fun x =>
    let kept := x.q.map (fun kv => (kv.1, markHead now kv.2 (kv.2.filter (fun e => !mine e))))
    { x with q := kept.filter (fun kv => !kv.2.isEmpty) }), n)

/-- Takes a request out of the queues in which it may wait without having been sent: hold queue, staging, violation
queue. Its staging flits are freed. -/
def Fab.unqueue (f : Fab) (t k : Nat) : Fab :=
  let isReq (s : Staged) : Bool := isRequest s.pkt && tagOf s.pkt == k
  let n := f.ni t
  let stg := (n.waitV ++ n.waitH).filter isReq
  let f := f.modNi t (fun n => { n with
    holdQ := n.holdQ.filter (fun s => !isReq s), waitH := n.waitH.filter (fun s => !isReq s),
    waitV := n.waitV.filter (fun s => !isReq s), violQ := n.violQ.filter (fun v => v.tag != k) })
  (stg.filter (·.inStg)).foldl (fun f s => f.stgFree t s.mc s.pkt.length) f

/-- A FLUSH hold ends and the held packet may go (R88, R90, R171). -/
def Fab.endFlush (f : Fab) (t : Nat) (h : FlushHold) : Fab :=
  let f := f.modNi t (fun n => { n with flush := n.flush.filter (fun x => x.seq != h.seq) })
  f.modSched (.ni t) 0 (fun x =>
    x.setFifo h.sc h.mc ((x.fifo h.sc h.mc).map (fun e => if e.seq = h.seq then { e with flushed := true } else e)))
/-- The hold whose FLUSH carries a tag. -/
def Ni.holdOf (n : Ni) (k : Nat) : Option FlushHold := n.flush.find? (fun h => h.tag == some k)
/-- The hold whose FLUSH carried a tag ends. -/
def Fab.endFlushTag (f : Fab) (t k : Nat) : Fab :=
  match (f.ni t).holdOf k with
  | some h => f.endFlush t h
  | none => f

/-! ## Envelopes of an edge NI (R346 to R349) -/

/-- The spill port that a tile uses, if any (R353). -/
def Fab.skFor (f : Fab) (t : Nat) : Option Nat :=
  let right := if 4 ≤ xOf t then 1 else 0
  match f.oT t O.SPILL_PORT with
  | 0 => some (2 * dieOf t + right)
  | 1 => some (2 * dieOf t + (1 - right))
  | _ => none

/-- An edge NI sends an envelope to its spill port (R346, R349). -/
def Fab.toSk (f : Fab) (t : Nat) (k : EnvKind) (i flits seq : Nat) (carried : Packet) : Fab :=
  match f.skFor t with
  | some n => f.modNi t (fun x => { x with
      env := x.env ++ [mkEnvelope k (skTile n) 1 t 0 t (spillMc i) flits seq false carried] })
  | none => f

/-- An edge NI abandons a spill queue (R362): `byNi` on its own detection, when it also tells the spill port. -/
def Fab.abandonNi (f : Fab) (t i : Nat) (byNi : Bool) : Fab :=
  let q := f.spq t i
  let f := if q.spilled = 0 then f
    else (f.bumpT t O.SPILL_LOST q.spilled).raiseT t 16 (i + 8 * b2n byNi) q.spilled 0
  let busy := q.st != .resident || q.ask.isSome || q.grant != 0
  let f := f.modSpq t i (fun q => { SpillQ.reset with
    abandoned := if byNi || !busy then q.abandoned else some (f.runN t) })
  let f := q.outb.foldl (fun f p => f.niDeliver t p) f
  if byNi && (q.st != .resident || q.ask.isSome || q.grant != 0) then f.toSk t .abandon i 0 0 [] else f

/-! ## A port becomes gone (R169) -/

/-- PORT_EVENT with PORT_GONE (R170). -/
def portGone (t cause dt prov : Nat) : Packet := mkControl dt 0 t 0 opcPortEvent prov (1 + t * 2 ^ 8 + cause * 2 ^ 16)

/-- Every ingress packet of an NI that has not been injected (R169 step 2). -/
def Ni.uninjected (n : Ni) : Nat :=
  (match n.rx with | some r => b2n (!r.drop) | none => 0) + n.staged.length + n.fetch.length + n.waitV.length + n.waitH.length + n.holdQ.length
    + n.inj.q.foldl (fun a kv => a + (kv.2.filter (fun e => !e.own)).length) 0

/-- Step 3 of R169 for one tag: its missing parts are counted and it is quarantined. A tag whose own answer under R211 or
R216 waits has no missing part, so EDGE_SYNTH counts none for it (DESIGN CHOICE, log 70). -/
def Fab.goneTag (f : Fab) (t k : Nat) : Fab :=
  let x := f.tag t k
  let n := if 2032 ≤ k then 0 else x.missing.length
  ((f.bumpT t O.EDGE_SYNTH n).dropEgressParts t k).1.quarTag t k

/-- The port of tile `t` becomes gone (R169): `cause` 0 link DOWN, 1 fence. -/
def Fab.portBecomesGone (f : Fab) (t cause : Nat) : Fab :=
  if (f.ni t).gone || f.tileOut t then f
  else
    let zero := List.replicate 8 0
    -- step 1
    let f := f.modNi t (fun n => { n with
      gone := true, epoch := false, iCred := zero, iShare := zero, eCred := zero, eMax := zero, tgnt := none })
    let f := ((f.ni t).tagsIn .granted ++ (f.ni t).tagsIn .used).foldl (fun f k => f.freeTag t k) f
    -- step 2
    let f := f.bumpT t O.EDGE_DOWN_DISCARD (f.ni t).uninjected
    let f := f.modNi t (fun n =>
      let kept := n.inj.q.map (fun kv => (kv.1, markHead (f.time t) kv.2 (kv.2.filter (fun e => e.own && !isFlush e.pkt))))
      { n with
        rx := none, staged := [], fetch := [], waitV := [], waitH := [], holdQ := [], flush := [], eRest := 0,
        inj := { n.inj with q := kept.filter (fun kv => !kv.2.isEmpty) } })
    -- the spill queues are abandoned (R364)
    let f := (List.range 5).foldl (fun f i => f.abandonNi t i true) f
    -- step 3, and the first part of step 4
    let tags := (f.ni t).tagsIn .out
    let before := (f.ni t).egr.q.foldl (fun a kv => a + kv.2.length) 0
    let f := tags.foldl (fun f k => f.goneTag t k) f
    let after := (f.ni t).egr.q.foldl (fun a kv => a + kv.2.length) 0
    let f := f.bumpT t O.EDGE_DOWN_DISCARD (before - after)
    -- the rest of step 4
    let rest := (f.ni t).egr.packets
    let f := f.modNi t (fun n => { n with violQ := [], egr := { n.egr with q := [] } })
    let f := rest.foldl (fun f p => f.downAnswer t p) f
    -- step 5
    let others := (List.range 256).filter (fun u => u != t)
    let f := others.foldl (fun f u => f.niSend t (portGone t cause u (f.oT t O.EDGE_PROV))) f
    -- step 6
    f.raiseT t 12 (cause + 2 * tags.length) 0 0

/-- The other NIs complete their tags towards the gone port (R171). -/
def Fab.portGoneAt (f : Fab) (t d : Nat) : Fab :=
  let tags := (f.ni t).tagsIn .out
  let f := tags.foldl (fun f k =>
    let x := f.tag t k
    if x.tgt = some (d, 0) ∧ k < 2032 ∧ x.awaits then
      let r := f.synthesise t k
      -- the parts are delivered; the tag is quarantined at once
      r.1.setTag t k { x with st := .quar, mark := false }
    else f) f
  ((f.ni t).flush.filter (fun h => h.dest.1 == d && h.sent)).foldl (fun f h =>
    (match h.tag with | some k => f.quarTag t k | none => f).endFlush t h) f

end Sys2Proof.Machine
end

