-- ==== Sys2Proof/Machine/Ingress.lean ====
section
/-! DEFINITION. Ingress: from the EAP beat to the injection queues (R139 to R145, R176, R183 to R185), with the
address-map check, violations, absent granules, parking and the SC5 policer (R203 to R216, R234, R318, R319). -/

namespace Sys2Proof.Machine

/-! ## Beats -/

/-- Drops the packet being received: its staging flits are freed and a granted tag that its head names returns
(R161, R184, R185). -/
def Fab.dropRx (f : Fab) (t : Nat) (r : RxPkt) (last : Bool) : Fab :=
  let f := f.stgDrop t r.mc r.flits r.odd
  let f := if r.drop then f else match r.beats with | h :: _ => f.returnNamed t h | [] => f
  f.modNi t (fun n => { n with
    rx := if last then none else some { r with beats := r.beats.take 1, drop := true, flits := 0, odd := [] } })

/-- A packet dropped for its form (R91, R183): the lowest condition met is captured. -/
def Fab.malformed (f : Fab) (t : Nat) (h : Flit) (beats code : Nat) : Fab :=
  ((f.bumpT t O.EDGE_MALFORMED_CNT).raiseT t 6 (h.fld 0 64) (h.fld 64 64) (code + beats * 16)).returnNamed t h

/-- The packet in reception when a beat arrives: a FIRST beat opens one, and closes one that had no LAST beat as
malformed (R91, condition 1). A beat that follows no FIRST beat opens a packet that is dropped as malformed. -/
def Fab.openRx (f : Fab) (t mc : Nat) (first : Bool) (h : Flit) : Fab × RxPkt :=
  match (f.ni t).rx, first with
  | some r, false => (f, r)
  | some r, true =>
    let f := f.stgDrop t r.mc r.flits r.odd
    let f := if r.drop then f else f.malformed t (headOf r.beats) r.beats.length 1
    (f, ⟨[], mc, [], false, 0⟩)
  | none, true => (f, ⟨[], mc, [], false, 0⟩)
  | none, false => (f.malformed t h 1 1, ⟨[h], mc, [], true, 0⟩)

/-- The parity check of a beat (R184): each failing beat counts, and a failing head beat raises EDGE_PARITY. -/
def Fab.beatParity (f : Fab) (t : Nat) (first : Bool) (data fails : Nat) : Fab :=
  let f := if fails = 0 then f else f.bumpT t O.EDGE_PARITY_CNT
  if first && fails != 0 then f.raiseT t 7 fails (data % 2 ^ 64) 0 else f

/-- One ingress beat that the NI admits or drops, with the packet in reception `r` (R184, R185): each beat without a credit
or with E_AWAKE low raises EDGE_OVERRUN, and its packet is dropped and counted once. -/
def Fab.takeBeat (f : Fab) (t : Nat) (r : RxPkt) (data : BitVec 640) (mc : Nat) (first last psn : Bool) (par : Nat) : Fab :=
  let credit := decide (0 < (f.ni t).iCred.getD mc 0)
  let awake := f.eAwake t
  let fails := parityFails data.toNat par
  let f := f.beatParity t first data.toNat fails
  if !credit || !awake then
    let f := if r.drop then f else f.bumpT t O.EDGE_OVERRUN_CNT
    let f := f.raiseT t 8 (mc % 8 + 8 * b2n (!credit) + 16 * b2n (!awake)) 0 0
    f.dropRx t { r with beats := if r.beats.isEmpty then [⟨data, true, false, false, 0⟩] else r.beats } last
  else
    let fl : Flit := ⟨data, first, last, psn || (fails != 0 && !first), 0⟩
    let f := f.modNi t (fun n => { n with iCred := modAt n.iCred mc (· - 1) })
    let r := if r.mc = mc then { r with beats := r.beats ++ [fl], flits := r.flits + 1 }
      else { r with beats := r.beats ++ [fl], odd := r.odd ++ [mc] }
    if first && fails != 0 then f.dropRx t r last
    else if r.drop then f.dropRx t r last
    else if last then
      let s := f.takeSeq (.ni t) 0
      s.1.modNi t (fun n => { n with rx := none, staged := n.staged ++ [⟨r.beats, r.mc, r.odd, 0, s.2, true, []⟩] })
    else f.modNi t (fun n => { n with rx := some r })

/-- EAP_INGRESS_BEAT (R139): a beat on the EAP of tile `t`. While E_FENCE is high it is ignored, and a FIRST beat
counts its packet (R173); outside an epoch no beat exists (R149). -/
def execEapIngressBeat (t : Nat) (data : BitVec 640) (mc : Nat) (first last psn : Bool) (par : Nat) (s : State) :
    Host.Outcome State Fault Refusal :=
  .next (s.onFab (fun f =>
    if f.eFence t then (if first && !f.tileOut t then f.bumpT t O.EDGE_DOWN_DISCARD else f)
    else if !(f.ni t).epoch then f
    else
      let o := f.openRx t (mc % 8) first ⟨data, true, last, psn, 0⟩
      o.1.takeBeat t o.2 data (mc % 8) first last psn par))

/-! ## Form checks (R91, R183) -/

/-- Bits of the ingress view that must be zero (R142), by message class and opcode. -/
def reservedSet (p : Packet) (r : OpRow) : Bool :=
  let mc := mcOf p
  let b (lo n : Nat) : Bool := hdr p lo n != 0
  let uio := decide (mc ≤ 1) && opcOf p == 0x0D
  let fam := r.route == .fam || (uio && hdr p 17 1 == 0)
  let rsp := r.route == .response
  let bulkOk := (decide (mc ≤ 1) && decide (opcOf p ≤ 5)) || (mc == 0 && opcOf p == 8)
  (fam && b 0 12) || (rsp && b 9 3) || b 12 5 || (!uio && b 17 1)
    || (!(mc == 2 || mc == 3) && b 21 3) || (!bulkOk && b 29 1) || (!(mc == 6 && opcOf p == 1) && b 30 1)
    || b 31 1 || (!(isRequest p) && !(isResponse p) && b 38 11) || b 59 17 || b 122 6
    || (rsp && b 105 17) || (hasExtent r && field (extent p) 36 28 != 0)

/-- The lowest condition of R91 and R183 that a packet meets, by the numbers of R578. -/
def Fab.badForm (f : Fab) (t : Nat) (s : Staged) : Option Nat :=
  let p := s.pkt
  let len := lenOf p
  let row := opRow (mcOf p) (opcOf p)
  let edge := match row with | some r => r.edge | none => false
  let granted := (f.tag t (tagOf p)).st == .granted
  let cond (k : Nat) : Bool :=
    match k, row with
    | 0, _ => len == 0 || decide (52 < len)
    | 1, _ => p.length != len
    | 2, some r => match bodySize r p with | some n => edge && len != lenFor n | none => false
    | 3, _ => !edge
    | 4, some r => match r.kinds with
      | some m => edge && (bcntOf p == 0 || decide (4096 < bcntOf p) || decide (m < kindOf p))
      | none => false
    | 5, _ => isResponse p && partsOf p == 0
    | 6, some r => edge && reservedSet p r
    | 7, _ => !s.odd.isEmpty
    | 8, _ => mcOf p != s.mc
    | 9, _ => (mcOf p == 0 || mcOf p == 1) && (!granted || decide (2000 ≤ tagOf p))
    | 10, _ => mcOf p == 4 && (!granted || decide (2032 ≤ tagOf p))
    | 11, _ => isResponse p && hdr p 8 1 == 1 && !isSpTile (hdr p 0 8)
    | _, _ => false
  (List.range 12).find? cond

/-! ## Policing and joining -/

/-- The policer of an NI for a charged length (R318): conforms or exceeds, and its count after. Tokens are in
1/65,536,000 byte. -/
def Fab.police (f : Fab) (t len : Nat) : Fab × Bool :=
  let now := f.time t
  let pol := (f.ni t).pol
  let tok := min (f.oT t O.POLICE_CBS * 65536000) (pol.1 + f.oT t O.POLICE_CIR * (now - pol.2))
  let ok := decide (len * 65536000 ≤ tok)
  (f.modNi t (fun n => { n with pol := (if ok then tok - len * 65536000 else tok, now) }), ok)

/-- Decides SAMPLE for a packet that is injected (R607): the LFSR advances once. -/
def Fab.sample (f : Fab) (t : Nat) : Fab × Bool :=
  let k := f.oT t O.TRACE_K
  let v := Config.lfsrNext (f.ni t).lfsr
  let f := f.modNi t (fun n => { n with lfsr := v })
  if 4 ≤ k ∧ Config.sampled v k then (f.event t 0x60 0, true) else (f, false)

/-- The head flit in fabric form (R143). PROV stands in the staged head already (R144). -/
def fabricHead (h : Flit) (t dt ds sc ord : Nat) (sample : Bool) (addr : Option Nat) : Flit :=
  let h := ((((h.put 0 8 dt).put 8 1 ds).put 9 8 t).put 17 1 0).put 21 3 sc
  let h := (((h.put 29 1 ord).put 30 1 (b2n (sc == 5))).put 31 1 (b2n sample)).put 59 5 0
  match addr with | some a => h.put 76 46 a | none => h

/-- A packet that passed its checks joins the injection queue (R143, R297), after the policer for SC5 (R318,
R319). `stg` is the staging class of its flits, none when they are in the hold queue. -/
def Fab.injectReady (f : Fab) (t : Nat) (s : Staged) (stg : Option Nat) (dt ds sc : Nat) (addr : Option Nat) : Fab :=
  let p := s.pkt
  let ord := match opRow (mcOf p) (opcOf p) with | some r => b2n r.ord | none => 0
  let len := f.charged (.ni t) 0 sc p
  let pol := if sc = 5 then f.police t len else (f, true)
  let f := pol.1
  let f := if sc ≠ 5 then f else if pol.2 then f.bumpT t O.POLICE_PASS else (f.bumpT t O.POLICE_DROP).event t 0x2E 0
  if !pol.2 then (match stg with | some mc => f.stgFree t mc p.length | none => f)
  else
    let sm := f.sample t
    let q := rehchk (mapHead (fun h => fabricHead h t dt ds sc ord sm.2 addr) p)
    let f := sm.1
    let f := if isRequest p ∧ ¬isSpecRd p then
        f.setTag t (tagOf p) { f.tag t (tagOf p) with req := headOf q, tgt := some (dt, ds) }
      else f
    f.join (.ni t) 0 q stg s.seq false false

/-! ## Violations, absent granules, parking -/

/-- A request as its own NI holds it and answers it: SRC_TILE, SRC_SLOT and its SC written (R79, R663). -/
def asRequest (t sc : Nat) (p : Packet) : Packet := mapHead (fun h => ((h.put 9 8 t).put 17 1 0).put 21 3 sc) p

/-- A request uses its grant as its head passes the converter (R158, R159): its tag becomes outstanding with no recorded
target, and a MEM_SPEC_RD keeps the grant from another request until it is injected. -/
def Fab.claimTag (f : Fab) (t : Nat) (p : Packet) : Fab :=
  if isSpecRd p then f.useTag t (tagOf p)
  else if isRequest p then f.outTag t (tagOf p) (headOf (asRequest t (answerSc p) p)) none
  else f

/-- The tag of a request that is not sent holds the request with its SC. -/
def Fab.holdReq (f : Fab) (t : Nat) (p : Packet) : Fab :=
  if isRequest p ∧ ¬isSpecRd p then f.setTag t (tagOf p) { f.tag t (tagOf p) with req := headOf p } else f

/-- The flits of a request leave staging, if that is where they are. -/
def Fab.leave (f : Fab) (t : Nat) (s : Staged) (stg : Option Nat) : Fab :=
  match stg with | some mc => f.stgFree t mc s.pkt.length | none => f

/-- A violating request of service class `sc` (R211 to R215): recorded, and answered after the floor; one that expects no
response is discarded, and one that finds the violation queue full waits where its flits are (R213). -/
def Fab.violate (f : Fab) (t : Nat) (s : Staged) (stg : Option Nat) (sc kind cause region addr : Nat) (straddle : Bool) :
    Fab :=
  let p := asRequest t sc s.pkt
  let parts := answerParts .violation p
  let f := f.holdReq t p
  let f := (f.event t 0x28 0).violation .tile t 14 addr (violKind kind straddle cause)
    (violMaster 0 t (provOf s.pkt)) region
  if parts.isEmpty then
    let f := if isSpecRd p then f.freeTag t (tagOf p) else f
    f.leave t s stg
  else
    let ps := answerPackets parts p (t, 0) sc 0 0 parts.length false
    let f := f.ownAnswer t (tagOf p) ps
    if (f.ni t).violQ.length < 32 then
      (f.leave t s stg).modNi t (fun n =>
        { n with violQ := n.violQ ++ [⟨ps, s.look + ns (f.oD (dieOf t) O.VIOLATION_FLOOR), tagOf p⟩] })
    else f.modNi t (fun n => { n with waitV := n.waitV ++ [{ s with pkt := p, inStg := stg.isSome }] })

/-- A request of service class `sc` answered at once by the parts of R166 (R216). -/
def Fab.poisonAnswer (f : Fab) (t : Nat) (s : Staged) (stg : Option Nat) (sc : Nat) : Fab :=
  let p := asRequest t sc s.pkt
  let parts := answerParts .poison p
  let f := f.holdReq t p
  let f := f.leave t s stg
  if parts.isEmpty then (if isSpecRd p then f.freeTag t (tagOf p) else f)
  else
    let ps := answerPackets parts p (t, 0) sc 0 1 parts.length true
    (f.ownAnswer t (tagOf p) ps).answerFront t ps

/-- Whether the hold queue has room for a request (R234). -/
def Ni.holdRoom (n : Ni) (s : Staged) : Bool :=
  decide (n.holdQ.length < 64) && decide (n.holdQ.foldl (fun a x => a + x.pkt.length) 0 + s.pkt.length ≤ 256)

/-- A request enters the hold queue: its flits leave staging (R151, R234). -/
def Fab.enterHold (f : Fab) (t : Nat) (s : Staged) (stg : Option Nat) : Fab :=
  let f := (f.leave t s stg).modNi t (fun n => { n with holdQ := n.holdQ ++ [{ s with inStg := false }] })
  f.peak .tile t O.HOLD_PEAK (f.ni t).holdQ.length

/-- A request parks (R234), with the SC of its HELD entry. -/
def Fab.park (f : Fab) (t : Nat) (s : Staged) (stg : Option Nat) (sc : Nat) : Fab :=
  let f := (f.holdReq t (asRequest t sc s.pkt)).event t 0x29 0
  if (f.ni t).waitH.isEmpty && (f.ni t).holdRoom s then f.enterHold t s stg
  else f.modNi t (fun n => { n with waitH := n.waitH ++ [s] })

/-! ## Routing -/

/-- First and last fabric byte address of an access (R203). -/
def accessSpan (p : Packet) (ext : Bool) : Nat × Nat :=
  if ext then (addrOf p * 64 + boffOf p, addrOf p * 64 + boffOf p + bcntOf p - 1)
  else (addrOf p * 64, addrOf p * 64 + 63)

/-- Whether a packet carries an extent word. -/
def pktExtent (p : Packet) : Bool := match opRow (mcOf p) (opcOf p) with | some r => hasExtent r | none => false

/-- SC of a FAM-routed packet (R79). -/
def famSc (p : Packet) (e : Nat) : Nat :=
  match opRow (mcOf p) (opcOf p) with
  | some ⟨_, _, _, .fixed n, _, _, _, _⟩ => n
  | _ => if hdr p 29 1 = 1 ∧ eSc e = 2 then 3 else eSc e

/-- SC of a FAM-routed request from what its lookups found: the DEFAULT_SC of a valid entry (R79, R165), else as
`answerSc` says. -/
def entrySc (p : Packet) (ls : List LensLine) : Nat :=
  match ls.head? with
  | some l => if eValid l.entry then famSc p l.entry else answerSc p
  | none => answerSc p

/-- What `check` decides about a FAM-routed request, from what its lookups found (R203). -/
def Fab.famDecide (f : Fab) (t : Nat) (s : Staged) (stg : Option Nat) (ls : List LensLine) : Fab :=
  let p := s.pkt
  let az := accessSpan p (pktExtent p)
  let g := f.gBits
  let need := needOf (mcOf p) (opcOf p)
  let sc := entrySc p ls
  match checkAll need 7 g az.1 az.2 ls with
  | .violation cause region straddle => f.violate t s stg sc need.kind cause region (az.1 % 2 ^ 52) straddle
  | .park => f.park t s stg sc
  | .poison => (f.bumpT t O.ABSENT_CNT).poisonAnswer t s stg sc
  | .route e _ => f.injectReady t s stg (eTile e) (eSlot e) (famSc p e) (some (targetLine g e (addrOf p)))

/-- SC of a PBR-routed packet (R79). -/
def pbrSc (p : Packet) : Nat :=
  match opRow (mcOf p) (opcOf p) with
  | some ⟨_, _, _, .fixed n, _, _, _, _⟩ => n
  | some ⟨_, _, _, .msg, _, _, _, _⟩ => if hdr p 30 1 = 1 then 5 else 4
  | _ => if hdr p 29 1 = 1 then 3 else 2

/-- The Port Route Table check (R200, R205); `ue` says that the element has an uncorrectable error (R583). -/
def Fab.pbrDecide (f : Fab) (t : Nat) (s : Staged) (ue : Bool) : Fab :=
  let p := s.pkt
  let dpid := hdr p 0 12
  let e := ((f.copyOf (dieOf t)).at_ s.look).route dpid
  if ue then
    (f.famUe (dieOf t) (tblPbr + dpid * 8)).poisonAnswer t s (some s.mc) (pbrSc p)
  else if !bit e 8 then f.violate t s (some s.mc) (pbrSc p) 3 causeNoEntry (dpid + tblPbr * 2 ^ 24) 0 false
  else if !bit (f.oT t O.BIND_PBR_REACH) (field e 10 4) then
    f.violate t s (some s.mc) (pbrSc p) 3 causeGroup (dpid + tblPbr * 2 ^ 24) 0 false
  else f.injectReady t s (some s.mc) (field e 0 8) 0 (pbrSc p) none

/-- SC of a response (R79), and whether it was replaced. -/
def echoSc (p : Packet) : Nat × Bool :=
  let e := hdr p 21 3
  if mcOf p = 5 then (1, false)
  else if e = 1 ∧ mcOf p = 2 ∧ opcOf p = 0 ∧ field (oidOf p) 0 4 = Config.cxlOpcode 2 % 16 then (1, false)
  else if 2 ≤ e ∧ e ≤ 4 then (e, false) else (2, true)

/-- A response joins towards the tile and slot that it names (R142, R206). -/
def Fab.responseReady (f : Fab) (t : Nat) (s : Staged) : Fab :=
  let sc := echoSc s.pkt
  let f := if sc.2 then f.bumpT t O.EDGE_SC_FIXED else f
  f.injectReady t s (some s.mc) (hdr s.pkt 0 8) (hdr s.pkt 8 1) sc.1 none

/-- The membership test of an edge port (R198). -/
def memberOf (t g : Nat) : Bool := bit g t

/-- The lookup of a FAM-routed request (R202, R207, R208): a hit on every granule decides at once, a miss fetches
what the die's copy holds at the lookup time. The lens clears at the loaded T (R209). `ue` says that the lens line has an uncorrectable error (R210). -/
def Fab.famLookup (f : Fab) (t : Nat) (s : Staged) (ue : Bool) : Fab :=
  let s := { s with look := f.time t }
  let f := f.modNi t (fun n => n.lensSettle s.look)
  let az := accessSpan s.pkt (pktExtent s.pkt)
  let idxs := granules f.gBits az.1 az.2
  let n := f.ni t
  let hits := idxs.filterMap (fun i => n.lensFind i)
  if !n.lensOn || ue || decide (hits.length < idxs.length) then
    let ls := idxs.map (fun i => f.famLook (dieOf t) s.look (memberOf t) i)
    let f := (f.bumpT t O.LENS_MISS).event t 0x25 0
    f.modNi t (fun n =>
      let n := if ue then idxs.foldl (fun n i => n.lensDrop i) n else n
      { n with fetch := n.fetch ++ [{ s with res := ls }] })
  else
    let f := (f.bumpT t O.LENS_HIT).event t 0x24 0
    let f := f.modNi t (fun n => hits.foldl (fun n h => n.lensTouch h.2.idx h.1) n)
    f.famDecide t s (some s.mc) (hits.map (·.2))

/-- The packet whose checks are made next: the oldest staged packet that no fetch of its class precedes (R247). -/
def Ni.nextStaged (n : Ni) : Option Staged := n.staged.find? (fun s => !n.fetch.any (fun x => x.mc == s.mc))

/-- A packet whose staging flits carry an error: poisoned data, or a discarded packet (R583). -/
def Fab.stagingError (f : Fab) (t : Nat) (s : Staged) (e : Ecc) : Fab × Option Staged :=
  match e with
  | .clean => (f, some s)
  | .dataUe i a => (f.raiseT t 17 (1 + (a % 2 ^ 20) * 8) 0 0,
      some { s with pkt := modAt s.pkt i (fun x => { x with psn := true }) })
  | .headerUe a => (((f.raiseT t 17 (1 + (a % 2 ^ 20) * 8) 0 0).returnNamed t (headOf s.pkt)).dropStaged t s, none)

/-- INGRESS_PACKET_CHECK (R141): the next staged packet is checked, looked up, rewritten and queued. `e` is what the
staging buffer's code finds on it, `ue` an uncorrectable error of the table it looks up in. -/
def execIngressPacketCheck (t : Nat) (e : Ecc) (ue : Bool) (s : State) : Host.Outcome State Fault Refusal :=
  .next (s.onFab (fun f =>
    match (f.ni t).nextStaged with
    | none => f
    | some x =>
      if (f.tile t).st != .t0 then f
      else
        let f := f.modNi t (fun n => { n with staged := dropFirst (fun y => y.seq == x.seq) n.staged })
        match f.stagingError t x e with
        | (f, none) => f
        | (f, some x) =>
          match f.badForm t x with
          | some code => (f.malformed t (headOf x.pkt) x.pkt.length code).dropStaged t x
          | none =>
            let sx := f.stamp t { x with
              pkt := mapHead (fun h => h.put 64 12 (f.oT t O.EDGE_PROV)) x.pkt, look := f.time t }
            let x := sx.2
            let f := sx.1.claimTag t x.pkt
            match opRow (mcOf x.pkt) (opcOf x.pkt) with
            | none => f
            | some r =>
              match r.route with
              | .response => f.responseReady t x
              | .fam => f.famLookup t x ue
              | .famOrPbr => if hdr x.pkt 17 1 = 1 then f.pbrDecide t x ue else f.famLookup t x ue
              | _ => f.pbrDecide t x ue))

/-- FAM_FETCH_RETURN (R208): the oldest fetch returns. What it found is installed in the lens only when no commit has
taken effect since the lookup; `bad` lists the words of the copy, by table and element, that have an uncorrectable error
(R210, R583). -/
def execFamFetchReturn (t : Nat) (bad : List (Nat × Nat)) (s : State) : Host.Outcome State Fault Refusal :=
  .next (s.onFab (fun f =>
    match (f.ni t).fetch with
    | [] => f
    | x :: rest =>
      let f := f.modNi t (fun n => { n.lensSettle (f.time t) with fetch := rest })
      let sx := f.stamp t x
      let f := sx.1
      let x := sx.2
      match famBad bad x.res with
      | some info => ((f.famUe (dieOf t) info).bumpT t O.ABSENT_CNT).poisonAnswer t x (some x.mc) (answerSc x.pkt)
      | none =>
        let keep := (f.ni t).lensOn && decide ((f.ni t).commitT ≤ x.look)
        let f := if keep then
            f.modNi t (fun n => (x.res.filter (fun l => decide (l.idx < 2 ^ 20))).foldl (fun n l => n.lensInstall l) n)
          else f
        f.famDecide t x (some x.mc) x.res))

end Sys2Proof.Machine
end

