-- ==== Sys2Proof/Machine/Egress.lean ====
section
/-! DEFINITION. Egress: injection selection with the FLUSH rules (R87 to R90, R296 to R301), packets arriving at an
edge NI (R69, R122, R123, R297), delivery on the EAP (R140, R178, R160) and received responses (R82 to R86). -/

namespace Sys2Proof.Machine

/-! ## FLUSH (R87, R88, R300) -/

/-- Whether a packet at the head of a FIFO must wait for a FLUSH: posted traffic has gone to its tile since
the last fence, or still waits ahead of it (R88, R248). -/
def Ni.needsFlush (n : Ni) (e : QPkt) : Bool :=
  isGuarded e.pkt && !e.flushed
    && (n.posted.getLsbD (destTile e.pkt)
        || (n.inj.fifo 4 6).any (fun x => !isFlush x.pkt && decide (x.seq < e.seq) && destTile x.pkt == destTile e.pkt))

/-- The earliest head of an SC queue that must wait for a FLUSH, with its MC. A completion whose echoed SC is not SC4
waits in its own queue (R79, R88). -/
def Ni.guardHead (n : Ni) (s : Nat) : Option (Nat × QPkt) :=
  (List.range 4).foldl (fun best mc =>
    match (n.inj.fifo s mc).head? with
    | some e => if n.needsFlush e then
        (match best with
         | some (_, b) => if e.seq < b.seq then some (mc, e) else best
         | none => some (mc, e))
      else best
    | none => best) none
/-- The FLUSH hold of an SC queue. -/
def Ni.holdAt (n : Ni) (s : Nat) : Option FlushHold := n.flush.find? (fun h => h.sc == s)

/-- A FLUSH towards a tile (R77, R90). Its tag is written when it is injected. -/
def flushPacket (t d prov tag : Nat) : Packet := mkPacket (reqHeader d 0 t 0 6 4 0x1E 1 tag 0 prov 0) 0 1 false

/-- Begins a FLUSH hold of an SC queue when a head of it needs one: the FLUSH joins the MC6 FIFO of SC4 behind the MC6
packets that joined before the held packet (R300). -/
def Fab.beginHold (f : Fab) (t s : Nat) : Fab :=
  match (f.ni t).holdAt s, (f.ni t).guardHead s with
  | none, some (mc, e) =>
    let d := destTile e.pkt
    let f := f.modNi t (fun n => { n with flush := n.flush ++ [⟨s, mc, e.seq, (d, 0), none, false⟩] })
    f.join (.ni t) 0 (flushPacket t d (f.oT t O.EDGE_PROV) 0) none e.seq false true
  | _, _ => f
/-- Begins the FLUSH holds that heads of the SC queues need (R88). -/
def Fab.beginFlush (f : Fab) (t : Nat) : Fab := [2, 3, 4].foldl (fun f s => f.beginHold t s) f

/-- The lowest free tag of the flush pool (R155). -/
def Fab.freeFlushTag (f : Fab) (t : Nat) : Option Nat :=
  ((List.range 16).map (· + 2032)).find? (fun k => (f.tag t k).st == .free)

/-- What a FLUSH hold lets SC4 offer (R300): the MC6 packets that joined before the held packet, and the FLUSH. -/
def Fab.holdOffers (f : Fab) (t mc : Nat) (e : QPkt) (h : FlushHold) : Bool :=
  mc == 6 && (decide (e.seq < h.seq)
    || (isFlush e.pkt && e.seq == h.seq && !h.sent && (f.freeFlushTag t).isSome))

/-- The fence condition of an injection head (R299, R300): SC4 offers what every hold lets it offer; another SC queue that
holds a packet waits behind it (R88), and a packet that R88 guards also waits for a FLUSH of another queue that is on its
way to the same tile (R248). -/
def Fab.fenceOk (f : Fab) (t s mc : Nat) (e : QPkt) : Bool :=
  let n := f.ni t
  if s = 4 then n.flush.all (f.holdOffers t mc e)
  else (n.holdAt s).isNone && !(isGuarded e.pkt && !e.flushed && n.flush.any (fun h => h.dest.1 == destTile e.pkt))

/-- Whether a packet's VC at a slot input is free and has a credit (R299): `m` holds the packets in injection. -/
def roomAt (det : Bool) (m : SMap Prog) (o : OutPort) (p : Packet) : Bool :=
  let vc := vcOf (mcOf p) (isPinned p || det)
  !m.any (fun kv => kv.1 == vc) && o.has false vc

/-- Flits that packets already selected can supply in this cycle, at most two of each (R301). -/
def supply (m : SMap Prog) (o : OutPort) : Nat :=
  m.foldl (fun a kv => a + min (kv.2.pkt.length) (min 2 (o.cred.getD kv.1 0))) 0

/-- What an injected packet of an edge NI does to its tags and posted-pending bits (R87, R90, R159). -/
def Fab.injected (f : Fab) (t : Nat) (e : QPkt) : Fab × Packet :=
  let p := e.pkt
  let d := destTile p
  if isFlush p then
    match f.freeFlushTag t with
    | none => (f, p)
    | some k =>
      let q := rehchk (mapHead (fun h => h.put 38 11 k) p)
      let f := f.outTag t k (headOf q) (some (d, 0))
      let f := (f.bumpT t O.EDGE_FLUSHES).event t 0x2A 0
      (f.modNi t (fun n => { n with
        posted := n.posted &&& ~~~(1#256 <<< d)
        flush := n.flush.map (fun h => if h.seq = e.seq then { h with tag := some k, sent := true } else h) }), q)
  else if mcOf p = 6 ∧ scOf p = 4 then
    (f.modNi t (fun n => { n with posted := n.posted ||| (1#256 <<< d) }), p)
  else if isSpecRd p then (f.freeTag t (tagOf p), p)
  else (f, p)

/-- SRAM_UE of the burst-queue descriptors of a tile (R583). -/
def Fab.descUe (f : Fab) (t a : Nat) : Fab := f.raiseT t 17 (5 + (a % 2 ^ 20) * 8) 0 0

/-- A packet of an injection scheduler whose descriptor is lost (R583): its staging flits are freed, the grant that a
MEM_SPEC_RD used is free again, and a FLUSH that is lost is made again. -/
def Fab.loseInjection (f : Fab) (t : Nat) (e : QPkt) (a : Nat) : Fab :=
  let f := f.descUe t a
  let f := match e.stg with | some mc => f.stgFree t mc e.pkt.length | none => f
  if isSpecRd e.pkt then f.freeTag t (tagOf e.pkt)
  else if isFlush e.pkt then f.modNi t (fun n => { n with flush := n.flush.filter (fun h => h.seq != e.seq) }) else f

/-- The conditions of R299 of an injection head of an edge NI: its VC at the router input, and the fence. -/
def Fab.injectOk (f : Fab) (t s mc : Nat) (e : QPkt) : Bool :=
  roomAt (f.oD (dieOf t) O.ROUTE_MODE == 1) (f.ni t).prog (f.out t sndNi) e.pkt && f.fenceOk t s mc e
/-- The conditions of R299 of an injection head of a service-port NI. -/
def Fab.injectOkSp (f : Fab) (d : Nat) (e : QPkt) : Bool :=
  roomAt (f.oD d O.ROUTE_MODE == 1) (f.tile (spTile d)).uprog (f.out (spTile d) sndUnit) e.pkt

/-- The injection scheduler of an edge NI makes a selection (R301). -/
def Fab.injectNi (f : Fab) (t : Nat) (ue : Option Nat) : Fab :=
  let f := f.beginFlush t
  let det := f.oD (dieOf t) O.ROUTE_MODE == 1
  let m := (f.ni t).prog
  let o := f.out t sndNi
  if (f.tile t).st != .t0 || decide (2 ≤ supply m o) then f
  else
    match f.selectPkt (.ni t) 0 (f.injectOk t) with
    | (f, none) => f
    | (f, some e) =>
      (match ue with
      | some a => f.loseInjection t e a
      | none =>
        let r := f.injected t e
        let vc := vcOf (mcOf r.2) (isPinned r.2 || det)
        r.1.modNi t (fun n => { n with prog := SMap.insert n.prog vc ⟨r.2, e.stg, false, scOf r.2⟩ }))

/-- The injection scheduler of a service-port NI makes a selection (R301). -/
def Fab.injectSp (f : Fab) (d : Nat) (ue : Option Nat) : Fab :=
  let t := spTile d
  let det := f.oD d O.ROUTE_MODE == 1
  let m := (f.tile t).uprog
  let o := f.out t sndUnit
  if (f.tile t).st != .t0 || decide (2 ≤ supply m o) then f
  else
    match f.selectPkt (.sp d) 0 (fun _ _ e => f.injectOkSp d e) with
    | (f, none) => f
    | (f, some e) =>
      (match ue with
      | some a => f.descUe t a
      | none =>
        let vc := vcOf (mcOf e.pkt) (isPinned e.pkt || det)
        f.modTile t (fun x => { x with uprog := SMap.insert x.uprog vc ⟨e.pkt, none, false, scOf e.pkt⟩ }))

/-- INJECTION_SELECT (R301), in the edge NI of tile `n`, or in service-port NI `n` when `sp`. `ue` is the address of an
uncorrectable error in the descriptor of the packet selected (R583). -/
def execInjectionSelect (sp : Bool) (n : Nat) (ue : Option Nat) (s : State) : Host.Outcome State Fault Refusal :=
  .next (s.onFab (fun f => if sp then f.injectSp n ue else f.injectNi n ue))

/-! ## Arrival at an edge NI -/

/-- AG_RD and AG_WR are delivered at an edge port as UIO_RD and UIO_WR (R265). -/
def toUio (p : Packet) : Packet :=
  if (mcOf p = 0 ∨ mcOf p = 1) ∧ opcOf p = 0x10 then mapHead (fun h => h.put 24 5 0x0D) p else p

/-- HEADER_UE (R69): the packet is discarded. -/
def Fab.headerUe (f : Fab) (key t : Nat) (p : Packet) (syn : Nat) : Fab :=
  (f.raise key 1 (header p % 2 ^ 64) (header p / 2 ^ 64) (syn % 256)).hopRecord t 3 6 0 false 0 0 p

/-- What an edge NI does with a packet whose checks have passed: control packets and envelopes are taken at once,
responses are judged, and the rest joins egress or is answered for a gone port (R123, R127, R297). -/
def Fab.arrived (f : Fab) (t : Nat) (p : Packet) : Fab :=
  if isEnvelope p ∨ (mcOf p = 7 ∧ opcOf p ≠ opcDatagram) then f.modNi t (fun n => { n with ctlIn := n.ctlIn ++ [p] })
  else if isResponse p then f.modNi t (fun n => { n with rspIn := n.rspIn ++ [p] })
  else if (f.ni t).gone then f.downAnswer t p
  else f.egressJoin t (toUio p)

/-- EGRESS_PACKET_ARRIVE (R297): the oldest complete packet in the egress storage of tile `t` is checked (R69,
R122) and handled. `hck` is what HCHK finds, `e` what the storage's code finds (R583). -/
def execEgressPacketArrive (t : Nat) (hck : Lchk) (e : Ecc) (s : State) : Host.Outcome State Fault Refusal :=
  .next (s.onFab (fun f =>
    match (f.tile t).ej0.arr with
    | [] => f
    | (_, p) :: rest =>
      let f := f.modTile t (fun x => { x with ej0 := { x.ej0 with arr := rest } })
      if p.length ≠ lenOf p then
        ((f.bumpT t O.TRUNCATED).raiseT t 4 (header p % 2 ^ 64) (lenOf p + p.length * 64) 0).hopRecord t 3 6 0 false 0 0 p
      else if isEnvelope p then f.arrived t p
      else
        match hck, e with
        | .uncorrectable syn, _ => f.headerUe (famKey .tile t) t p syn
        | _, .headerUe a => f.raiseT t 17 (2 + (a % 2 ^ 20) * 8) 0 0
        | h, e =>
          let f := match h with
            | .corrected => f.modTile t (fun x => { x with hchkCe := x.hchkCe + 1 })
            | _ => f
          match e with
          | .dataUe i a => (f.raiseT t 17 (2 + (a % 2 ^ 20) * 8) 0 0).arrived t (modAt p i (fun x => { x with psn := true }))
          | _ => f.arrived t p))

/-! ## Delivery on the EAP -/

/-- A response part has been delivered on the EAP: the tag is freed after its last one (R160). -/
def Fab.partDelivered (f : Fab) (t : Nat) (p : Packet) : Fab :=
  let k := tagOf p
  let x := f.tag t k
  if x.st != .out then f
  else
    match x.parts with
    | some n => if n ≤ x.deliv + 1 then f.freeTag t k else f.setTag t k { x with deliv := x.deliv + 1 }
    | none => f

/-- A packet is handed over on the EAP (R140, R178): its credits are spent. -/
def Fab.eapDeliver (f : Fab) (t : Nat) (p : Packet) : Fab :=
  let mc := mcOf p
  let f := f.modNi t (fun n => { n with eCred := modAt n.eCred mc (· - p.length), eOut := p, eRest := p.length })
  let f := ((f.event t 0x22 mc).event t 0x23 (scOf p) p.length).hopRecord t 2 6 6 false 0 0 p
  if isResponse p then f.partDelivered t p else f

/-- FLUSH_DONE (R89). -/
def Fab.flushDone (f : Fab) (t : Nat) (p : Packet) : Fab :=
  f.niSend t (mkPacket (rspHeader (srcTile p) (srcSlot p) t 0 2 0x1E (scOf p) (tagOf p) 0 (f.oT t O.EDGE_PROV) 0 0 1) 0 1
    false)

/-- A packet of an egress scheduler whose descriptor is lost (R583): the tag of a response awaits it again, and ends by
its deadline. -/
def Fab.loseEgress (f : Fab) (t : Nat) (p : Packet) (a : Nat) : Fab :=
  let f := f.descUe t a
  let x := f.tag t (tagOf p)
  if isResponse p ∧ x.st = .out then
    f.setTag t (tagOf p) { x with got := x.got.filter (· != (mcOf p, opcOf p)), own := false }
  else f

/-- The conditions of R299 of an egress head of an edge NI: EAP credits for the packet, none for a FLUSH (R89). -/
def Fab.egressOk (f : Fab) (t mc : Nat) (e : QPkt) : Bool :=
  let n := f.ni t
  isFlush e.pkt || (n.epoch && n.link != .down && decide (e.pkt.length ≤ n.eCred.getD mc 0))

/-- The egress scheduler of an edge NI makes a selection (R299, R301): a FLUSH is consumed (R89), any other packet is
delivered against its credits. One packet at a time is written to the EAP FIFO, which takes one flit in a QCLK cycle: R301
does not say at what rate (DESIGN CHOICE, log 72). -/
def Fab.egressNi (f : Fab) (t : Nat) (ue : Option Nat) : Fab :=
  if (f.tile t).st != .t0 || (f.ni t).eRest != 0 then f
  else
    match f.selectPkt (.ni t) 1 (fun _ mc e => f.egressOk t mc e) with
    | (f, none) => f
    | (f, some e) =>
      (match ue with
      | some a => f.loseEgress t e.pkt a
      | none => if isFlush e.pkt then f.flushDone t e.pkt else f.eapDeliver t e.pkt)

/-- Up words of a response message (R263). -/
def SpMsg.size (m : SpMsg) : Nat := 1 + m.words.length

/-- The condition of R299 of an egress head of a service-port NI: up-word credits for every word of its response
message (R259, R263). -/
def Fab.egressOkSp (f : Fab) (d : Nat) (e : QPkt) : Bool :=
  match (f.spOf d).msgs.find? (fun kv => kv.1 == tagOf e.pkt) with
  | some (_, m) => decide (m.2.size ≤ (f.spOf d).upCred)
  | none => true

/-- The egress scheduler of a service-port NI makes a selection when no message stands before the up stream (R299, R301):
the packet's response message goes to it and its tag is freed. A message whose descriptor is lost leaves its access
waiting for the deadline (R583). -/
def Fab.egressSp (f : Fab) (d : Nat) (ue : Option Nat) : Fab :=
  let n := f.spOf d
  if (f.tile (spTile d)).st != .t0 || !n.up.isEmpty then f
  else
    match f.selectPkt (.sp d) 1 (fun _ _ e => f.egressOkSp d e) with
    | (f, none) => f
    | (f, some e) =>
      match n.msgs.find? (fun kv => kv.1 == tagOf e.pkt), ue with
      | some (k, m), none =>
        f.modSp d (fun n => { n with
          up := n.up ++ [m.2], msgs := SMap.erase n.msgs k, tags := n.tags.set (fun _ => Tag.reset) k Tag.reset })
      | some (k, m), some a =>
        let x := n.tags.get (fun _ => Tag.reset) k
        (f.descUe (spTile d) a).modSp d (fun n => { n with
          acc := n.acc ++ [m.1], msgs := SMap.erase n.msgs k
          tags := n.tags.set (fun _ => Tag.reset) k { x with parts := none, got := [] } })
      | none, _ => f

/-- EGRESS_SELECT (R301), in the edge NI of tile `n`, or in service-port NI `n` when `sp`. `ue` is the address of an
uncorrectable error in the descriptor of the packet selected (R583). -/
def execEgressSelect (sp : Bool) (n : Nat) (ue : Option Nat) (s : State) : Host.Outcome State Fault Refusal :=
  .next (s.onFab (fun f => if sp then f.egressSp n ue else f.egressNi n ue))

/-! ## Responses (R82 to R86) -/

/-- RESPONSE_ARRIVE (R82): the oldest response that waits at the NI is accepted against its tag, or is stray. -/
def execResponseArrive (t : Nat) (s : State) : Host.Outcome State Fault Refusal :=
  .next (s.onFab (fun f =>
    match (f.ni t).rspIn with
    | [] => f
    | p :: rest =>
      let f := f.modNi t (fun n => { n with rspIn := rest })
      let k := tagOf p
      let x := f.tag t k
      if x.st = .quar then (f.freeTag t k).stray t p 2
      else if !x.awaits then f.stray t p 0
      else if x.tgt ≠ some (srcTile p, srcSlot p) then f.stray t p 1
      else if isFlushDone p then
        (f.freeTag t k).endFlushTag t k
      else
        (f.setTag t k { x with parts := some (partsOf p), got := x.got ++ [(mcOf p, opcOf p)] }).egressJoin t p))

end Sys2Proof.Machine
end

