-- ==== Sys2Proof/Machine/SpOps.lean ====
section
/-! DEFINITION. SpOps: the shared operations of a service-port NI: messages (R257 to R263), regions and homes (R265,
R269), the posted-write buffer (R275 to R279), the order in which accesses are sent (R271 to R274, R280, R281), the
check (R201, R203) and completion (R267, R270). -/

namespace Sys2Proof.Machine

/-! ## Words and messages -/

/-- Whether the nine parity bits of a word agree with it (R257). -/
def spParityOk (w par : Nat) : Bool :=
  (List.range 9).all (fun k => (popcount (field w (16 * k) 16) 16 + b2n (bit par k)) % 2 == 0)

/-- Blocks of 16 bytes that an access touches (R262). -/
def blocksOf (addr bytes : Nat) : Nat := (addr % 16 + bytes + 15) / 16

/-- The byte mask of block `k` of an access: the lanes that it addresses (R262, R263). -/
def laneMask (addr bytes k : Nat) : Nat := field ((2 ^ bytes - 1) * 2 ^ (addr % 16)) (16 * k) 16

/-- A head word of the down stream (R262). -/
structure SpHead where
  /-- OP -/
  op : Nat
  /-- ADDR -/
  addr : Nat
  /-- BYTES -/
  bytes : Nat
  /-- STREAM -/
  stream : Nat
  /-- RID -/
  rid : Nat
  /-- reserved bits -/
  rsv : Nat
  deriving DecidableEq, Repr

/-- The head word's fields (R262). -/
def SpHead.ofWord (w : Nat) : SpHead :=
  ⟨field w 0 4, field w 4 53, field w 57 7, field w 64 10, field w 74 8, field w 82 62⟩

/-- Data words that a request needs (R262). -/
def SpHead.need (h : SpHead) : Nat := if h.op = 1 ∨ h.op = 3 then blocksOf h.addr h.bytes else 0

/-- A message at the front of the down buffer: its head word, the data words that follow it, and whether it is whole:
every data word it needs is there, or the next head word is. -/
def spFront (dn : List SpWord) : Option (SpWord × List SpWord × List SpWord × Bool) :=
  match dn with
  | [] => none
  | h :: rest =>
    let data := rest.takeWhile (fun w => !w.head)
    let more := rest.dropWhile (fun w => !w.head)
    some (h, data, more, !h.ok || decide ((SpHead.ofWord h.w).need ≤ data.length) || !more.isEmpty)

/-- Bytes of the data words of a request, as one number from the first addressed byte. -/
def spWriteData (addr bytes : Nat) (data : List SpWord) : Nat :=
  let all := data.foldr (fun w acc => w.w % 2 ^ 128 + 2 ^ 128 * acc) 0
  (all / 2 ^ (8 * (addr % 16))) % 2 ^ (8 * bytes)

/-- The lowest reason for which a message is refused (R261, R580); `rids` are the requests not yet answered. -/
def spRefusal (rids : List Nat) (head : SpWord) (data : List SpWord) : Option Nat :=
  let h := SpHead.ofWord head.w
  let access := decide (h.op ≤ 3)
  let excl := h.op == 2 || h.op == 3
  let cond (k : Nat) : Bool :=
    match k with
    | 0 => decide (7 ≤ h.op) || h.rsv != 0
    | 1 => access && (h.bytes == 0 || decide (64 < h.bytes))
    | 2 => access && !excl && decide (64 < h.addr % 64 + h.bytes)
    | 3 => excl && (!([1, 2, 4, 8].contains h.bytes) || h.addr % (max 1 h.bytes) != 0)
    | 4 => access && bit h.addr 52 && field h.addr 22 30 != 0
    | 5 => h.stream == 1023
    | 6 => rids.contains h.rid
    | 7 => head.ok && (data.length != h.need
        || (List.range data.length).any (fun k => field ((data.getD k ⟨false, 0, true⟩).w) 128 16 != laneMask h.addr h.bytes k))
    | 8 => !head.ok || data.any (fun w => !w.ok)
    | _ => false
  (List.range 9).find? cond

/-- The words of a response message (R263): head word, then the data words. -/
def SpMsg.toWords (m : SpMsg) : List Nat :=
  (m.rid + m.kind * 2 ^ 8 + m.result * 2 ^ 9 + m.words.length * 2 ^ 11) :: m.words

/-- The data words of a read (R263): `data` from the first addressed byte. -/
def spReadWords (addr bytes data : Nat) : List Nat :=
  let all := (data % 2 ^ (8 * bytes)) * 2 ^ (8 * (addr % 16))
  (List.range (blocksOf addr bytes)).map (fun k => field all (128 * k) 128 + laneMask addr bytes k * 2 ^ 128)

/-- KIND of the response to an operation (R263). -/
def spKind (op : Nat) : Nat := if op = 0 ∨ op = 2 then 0 else 1

/-- The response message of a completed access (R263, R267). -/
def SpAcc.msg (a : SpAcc) (result data : Nat) : SpMsg :=
  ⟨a.rid.getD 0, spKind a.op, result, if spKind a.op = 0 then spReadWords a.addr a.bytes data else [], false⟩

/-- A service-port NI hands a response message to the up stream. -/
def Fab.spAnswer (f : Fab) (d : Nat) (m : SpMsg) : Fab := f.modSp d (fun n => { n with up := n.up ++ [m] })

/-- An access that is answered leaves the NI: the Warden's answer waits for its crossbar access, any other goes up. -/
def Fab.spFinish (f : Fab) (d : Nat) (a : SpAcc) (result data : Nat) : Fab :=
  let f := f.modSp d (fun n => { n with acc := n.acc.filter (fun x => x.seq != a.seq) })
  match a.rid with
  | none => f.modSp d (fun n => { n with warden := some (result, data) })
  | some _ => f.spAnswer d (a.msg result data)

/-! ## Tags -/

/-- A tag of a service-port NI. -/
def Fab.spTag (f : Fab) (d k : Nat) : Tag := (f.spOf d).tags.get (fun _ => Tag.reset) k
/-- Replaces a tag. -/
def Fab.setSpTag (f : Fab) (d k : Nat) (x : Tag) : Fab :=
  f.modSp d (fun n => { n with tags := n.tags.set (fun _ => Tag.reset) k x })
/-- The lowest free tag of the 256. -/
def Fab.spFreeTag (f : Fab) (d : Nat) : Option Nat :=
  (List.range 256).find? (fun k => (f.spTag d k).st == .free)
/-- A tag becomes outstanding (R159, R162 with SP_REQ_TIMEOUT, R270); one that is outstanding keeps its deadline. -/
def Fab.spOut (f : Fab) (d k : Nat) (req : Flit) (tgt : Option (Nat × Nat)) : Fab :=
  let x := f.spTag d k
  if x.st = .out then f.setSpTag d k { x with req := req, tgt := tgt }
  else f.setSpTag d k ⟨.out, req, tgt, f.runN (spTile d) + us (f.o .sp d O.SP_REQ_TIMEOUT 0), none, [], 0, false, false⟩

/-! ## Regions and homes -/

/-- Whether an address is in local space (R260). -/
def spLocal (addr : Nat) : Bool := bit addr 52
/-- FAM index of a fabric-memory address. -/
def Fab.spIndex (f : Fab) (addr : Nat) : Nat := addr % 2 ^ 52 / 2 ^ f.gBits
/-- What the FAM copy of the port's die holds for an address now (R201, R202, R207). -/
def Fab.spLook (f : Fab) (d addr : Nat) : LensLine :=
  f.famLook d (f.time (spTile d)) (fun _ => bit (f.o .sp d O.SP_BIND 0) 0) (f.spIndex addr)
/-- The uncorrectable error that a lookup of an address meets (R210), as INFO0 of FAM_UE: `bad` lists the words of the
copy that have one. -/
def Fab.spUe (f : Fab) (d addr : Nat) (bad : List (Nat × Nat)) : Option Nat :=
  if bit addr 52 then none else famBad bad [f.spLook d addr]
/-- Whether an address's granule is HELD now, so that the access parks. -/
def Fab.spHeld (f : Fab) (d addr : Nat) : Bool :=
  !spLocal addr && (let e := (f.spLook d addr).entry; eValid e && eType e == 2)
/-- Whether an access falls in a DEVICE region (R195, R269); the Warden's always do (R268). -/
def Fab.spDevice (f : Fab) (d stream addr : Nat) : Bool :=
  stream == 1023 || (!spLocal addr && (let e := (f.spLook d addr).entry; eValid e && eType e == 1))
/-- The home of an address (R251). -/
def Fab.spHome (f : Fab) (d addr : Nat) : Nat × Nat :=
  if spLocal addr then (cmnTile (field addr 19 3), 1)
  else let e := (f.spLook d addr).entry; (eTile e, eSlot e)
/-- Line address in the space of the home (R66, R193, R260). -/
def Fab.spLine (f : Fab) (d addr : Nat) : Nat :=
  if spLocal addr then field addr 6 13 else targetLine f.gBits (f.spLook d addr).entry (addr / 64)

/-- Whether two byte ranges overlap. -/
def overlap (a n b m : Nat) : Bool := decide (a < b + m) && decide (b < a + n)

/-- Whether an operation is a store. -/
def opStore (op : Nat) : Bool := op == 1 || op == 3
/-- Whether an operation is exclusive. -/
def opExcl (op : Nat) : Bool := op == 2 || op == 3

/-- Home of an access: the one it was sent to, else where it would go now. -/
def Fab.accHome (f : Fab) (d : Nat) (a : SpAcc) : Nat × Nat := a.home.getD (f.spHome d a.addr)
/-- Whether an access is a DEVICE access: as decided when it was sent, else as it stands now. -/
def Fab.accDevice (f : Fab) (d : Nat) (a : SpAcc) : Bool :=
  match a.st with
  | .sent _ => a.dev
  | .viol _ => a.dev
  | _ => f.spDevice d a.stream a.addr
/-- Whether an access has left the NI: it is on its way, or answered and waiting. -/
def AccSt.gone : AccSt → Bool
  | .sent _ => true | .viol _ => true | _ => false
/-- Whether an access is parked. -/
def AccSt.parks : AccSt → Bool
  | .parked _ => true | _ => false
/-- Whether an access waits for its ordering conditions. -/
def AccSt.waits : AccSt → Bool
  | .waiting => true | .released _ => true | _ => false
/-- Tag of an access. -/
def AccSt.tag? : AccSt → Option Nat
  | .waiting => none | .parked k => some k | .released k => some k | .viol k => some k | .sent k => some k

/-! ## Arriving packets -/

/-- The checks of a packet that has arrived at a service-port NI (R69, R122): one whose flit count differs from its LEN or
whose header is uncorrectable is discarded, and a corrected header is counted. Answers whether the packet stands. -/
def Fab.spArrives (f : Fab) (d : Nat) (p : Packet) (hck : Lchk) : Fab × Bool :=
  let t := spTile d
  let f' := if p.length ≠ lenOf p then
      (f.bumpT t O.TRUNCATED).raiseT t 4 (header p % 2 ^ 64) (lenOf p + p.length * 64) 0
    else match hck with
      | .uncorrectable syn => f.raise (famKey .sp d) 4 (header p % 2 ^ 64) (header p / 2 ^ 64) (syn % 256)
      | .corrected => f.modTile t (fun x => { x with hchkCe := x.hchkCe + 1 })
      | .clean => f
  let lost := decide (p.length ≠ lenOf p) || (match hck with | .uncorrectable _ => true | _ => false)
  (if lost then f'.hopRecord t 3 7 0 false 0 0 p else f', !lost)

/-! ## The posted-write buffer (R275 to R278) -/

/-- Bytes of a store laid over the bytes of an entry: both ranges touch, and the later bytes prevail (R276). -/
def PwbEnt.merge (e : PwbEnt) (addr bytes data : Nat) : PwbEnt :=
  let lo := min e.addr addr
  let hi := max (e.addr + e.len) (addr + bytes)
  let base := e.data * 2 ^ (8 * (e.addr - lo))
  { e with addr := lo, len := hi - lo, data := setField base (8 * (addr - lo)) (8 * bytes) data }

/-- Whether a store may merge into an entry (R276). -/
def PwbEnt.takes (e : PwbEnt) (addr bytes : Nat) : Bool :=
  e.tag.isNone && e.addr / 64 == addr / 64 && decide (e.addr ≤ addr + bytes) && decide (addr ≤ e.addr + e.len)

/-- The youngest entry of a stream. -/
def youngest (stream : Nat) (l : List PwbEnt) : Option PwbEnt := l.reverse.find? (fun e => e.stream == stream)

/-- Whether a store merges (R276): SP_MERGE_HOLD is not zero, the youngest entry of its identifier takes it, no earlier
load of the identifier that overlaps it is incomplete (R273), and it passes no earlier store of the identifier that R272
orders with it: one that has not gone, for overlapping bytes or for the same home. -/
def Fab.mergesInto (f : Fab) (d stream addr bytes seq : Nat) : Option PwbEnt :=
  if f.o .sp d O.SP_MERGE_HOLD 0 = 0 then none
  else match youngest stream (f.spOf d).pwb with
    | none => none
    | some e =>
      let held (a : SpAcc) : Bool :=
        a.stream == stream && decide (a.seq < seq)
          && (if opStore a.op then
                !a.st.gone && (overlap a.addr a.bytes addr bytes || f.accHome d a == f.spHome d addr)
              else overlap a.addr a.bytes addr bytes)
      if e.takes addr bytes && !(f.spOf d).acc.any held then some e else none

/-- A NORMAL store enters the buffer, or merges (R275 to R277). -/
def Fab.buffer (f : Fab) (d stream addr bytes data seq : Nat) : Fab :=
  let f := f.event (spTile d) 0x44 0
  match f.mergesInto d stream addr bytes seq with
  | some e => f.modSp d (fun n => { n with
      pwb := n.pwb.map (fun x => if x.seq = e.seq then x.merge addr bytes data else x) })
  | none => f.modSp d (fun n => { n with
      pwb := n.pwb ++ [⟨stream, addr, bytes, data, seq, decide (f.o .sp d O.SP_MERGE_HOLD 0 = 0) || n.exc == .draining
        || n.pdReq, false, false, none, none, none⟩] })

/-- Makes entries eligible to be sent (R277). -/
def Fab.makeEligible (f : Fab) (d : Nat) (which : PwbEnt → Bool) : Fab :=
  f.modSp d (fun n => { n with pwb := n.pwb.map (fun e => if which e then { e with elig := true } else e) })

/-- The byte at an address as the youngest of a list of entries (oldest first) holds it. -/
def forwardByte (l : List PwbEnt) (addr : Nat) : Option Nat :=
  match l.reverse.find? (fun e => decide (e.addr ≤ addr) && decide (addr < e.addr + e.len)) with
  | some e => some (field e.data (8 * (addr - e.addr)) 8)
  | none => none

/-- The bytes that a load takes from the buffer, when entries cover each of them (R278). -/
def forwardData (l : List PwbEnt) (addr : Nat) : Nat → Option Nat
  | 0 => some 0
  | n + 1 =>
    match forwardByte l addr, forwardData l (addr + 1) n with
    | some b, some r => some (b + 256 * r)
    | _, _ => none

/-! ## What holds an access (R271 to R274, R278, R281) -/

/-- Accesses of the same identifier that precede a place in program order. -/
def Sp.before (n : Sp) (stream seq : Nat) : List SpAcc :=
  n.acc.filter (fun x => x.stream == stream && decide (x.seq < seq))
/-- Entries of the same identifier that precede a place in program order. -/
def Sp.entriesBefore (n : Sp) (stream seq : Nat) : List PwbEnt :=
  n.pwb.filter (fun e => e.stream == stream && decide (e.seq < seq))

/-- Whether a barrier (R281), or a parked request (R237), of the identifier holds a later access. -/
def Fab.spBlocked (f : Fab) (d stream seq : Nat) (store : Bool) : Bool :=
  let n := f.spOf d
  n.bar.any (fun b => b.stream == stream && decide (b.seq < seq) && (b.op != 5 || store))
    || (n.before stream seq).any (fun a => a.st.parks || (a.st.waits && f.spHeld d a.addr))
    || (n.entriesBefore stream seq).any (fun e => e.parked || (e.tag.isNone && f.spHeld d e.addr))

/-- Whether an access, or an entry, to `home` must wait for what precedes it in its identifier: overlapping accesses
must have completed, but for a load before a NORMAL load, earlier accesses of its own direction to the same home must have
been sent, and towards an edge target every earlier access to that target must have completed (R271 to R273). -/
def Fab.spOrderHeld (f : Fab) (d stream seq addr bytes : Nat) (store dev : Bool) (home : Nat × Nat) : Bool :=
  let n := f.spOf d
  (n.before stream seq).any (fun a =>
      (overlap a.addr a.bytes addr bytes && (dev || store || opStore a.op))
        || (f.accHome d a == home && (home.2 == 0 || (opStore a.op == store && !a.st.gone))))
    || (n.entriesBefore stream seq).any (fun e =>
      (store && (e.tag.isNone || e.freed) && (e.addr / 64 == addr / 64 || f.spHome d e.addr == home))
        || (home.2 == 0 && (e.home.getD (f.spHome d e.addr)) == home))

/-- The entries on which an access waits: all of its identifier for a DEVICE or exclusive access (R271, R280), for a
load those that overlap it (R278) and those to the same edge target (R272). -/
def Fab.waitsOn (f : Fab) (d : Nat) (a : SpAcc) : List PwbEnt :=
  let l := (f.spOf d).entriesBefore a.stream a.seq
  if opExcl a.op || f.spDevice d a.stream a.addr then l
  else if opStore a.op then []
  else l.filter (fun e => overlap e.addr e.len a.addr a.bytes
    || ((f.spHome d a.addr).2 == 0 && e.home.getD (f.spHome d e.addr) == f.spHome d a.addr))

/-! ## The check and the packet (R201, R203, R264 to R266) -/

/-- An AG packet (R264). -/
def Fab.agPacket (f : Fab) (d op stream addr bytes data tag : Nat) (home : Nat × Nat) : Packet :=
  let store := opStore op
  let opc := if opExcl op ∧ home.2 = 1 then 0x11 else 0x10
  let h := reqHeader home.1 home.2 (spTile d) 1 (if store then 1 else 0) 4 opc 1 tag stream (f.o .sp d O.SP_PROV 0)
    (f.spLine d addr)
  let size := 8 + (if store then bytes else 0)
  mkPacket h (addr % 64 + bytes * 2 ^ 6 + (if store then data * 2 ^ 64 else 0)) (lenFor size) false

/-- What the check decides for an access of a service port (R203); local space needs none (R260). An XLD or XST needs the
atomic row of R204 also where R266 sends it to an edge target as another operation: the spec does not say which row checks
it there (DESIGN CHOICE, log 77). -/
def Fab.spCheck (f : Fab) (d op addr bytes : Nat) : Chk :=
  if spLocal addr then .route 0 0
  else
    let a := addr % 2 ^ 52
    let need := needOf (if opStore op then 1 else 0) (if opExcl op then 0x11 else 0x10)
    checkAll need (field (f.o .sp d O.SP_BIND 0) 1 3) f.gBits a (a + bytes - 1) [f.spLook d addr]

/-- A violation of a service port is recorded in its own record, with PROV 0 (R215), and its answer waits for the floor
(R212, R213). -/
def Fab.spViolate (f : Fab) (d k op addr cause region : Nat) (straddle : Bool) : Fab :=
  let need := needOf (if opStore op then 1 else 0) (if opExcl op then 0x11 else 0x10)
  let f := f.violation .sp d 5 (addr % 2 ^ 52) (violKind need.kind straddle cause)
    (violMaster 1 d 0) region
  let due := f.time (spTile d) + ns (f.oD d O.VIOLATION_FLOOR)
  f.modSp d (fun n =>
    if n.violQ.length < 32 then { n with violQ := n.violQ ++ [(k, due)] } else { n with violW := n.violW ++ [(k, due)] })

/-- Flits of the request of a tag. -/
def Fab.spReqLen (f : Fab) (d k : Nat) : Nat := lenOf [(f.spTag d k).req]

/-- Whether the hold queue has room for one more request (R234). -/
def Fab.spHoldRoom (f : Fab) (d k : Nat) : Bool :=
  let n := f.spOf d
  decide (n.holdQ.length < 64)
    && decide (n.holdQ.foldl (fun a j => a + f.spReqLen d j) 0 + f.spReqLen d k ≤ 256)

/-- A request parks (R234). -/
def Fab.spPark (f : Fab) (d k : Nat) : Fab :=
  if (f.spOf d).holdW.isEmpty && f.spHoldRoom d k then
    let f := f.modSp d (fun n => { n with holdQ := n.holdQ ++ [k] })
    f.peak .sp d O.HOLD_PEAK (f.spOf d).holdQ.length
  else f.modSp d (fun n => { n with holdW := n.holdW ++ [k] })

/-- A tag leaves the queues in which a request may wait. -/
def Fab.spUnqueue (f : Fab) (d k : Nat) : Fab :=
  f.modSp d (fun n => { n with
    violQ := n.violQ.filter (fun v => v.1 != k), violW := n.violW.filter (fun v => v.1 != k),
    holdQ := n.holdQ.filter (· != k), holdW := n.holdW.filter (· != k) })

/-- A buffered store ends with a fault (R279): `kind` 0 POISON, 1 expiry. -/
def Fab.storeFault (f : Fab) (d : Nat) (e : PwbEnt) (kind : Nat) : Fab :=
  (f.bump .sp d O.SP_STORE_FAULTS 0).raise (famKey .sp d) 1 e.addr (e.stream + kind * 2 ^ 10) 0

/-- Sets the stage of an access. -/
def Fab.setAcc (f : Fab) (d : Nat) (a : SpAcc) : Fab :=
  f.modSp d (fun n => { n with acc := n.acc.map (fun x => if x.seq = a.seq then a else x) })
/-- Replaces an entry. -/
def Fab.setEnt (f : Fab) (d : Nat) (e : PwbEnt) : Fab :=
  f.modSp d (fun n => { n with pwb := n.pwb.map (fun x => if x.seq = e.seq then e else x) })
/-- Removes an entry, which is DONE. -/
def Fab.dropEnt (f : Fab) (d : Nat) (e : PwbEnt) : Fab :=
  f.modSp d (fun n => { n with pwb := n.pwb.filter (fun x => x.seq != e.seq) })

/-- A request joins the injection scheduler: at the end, or in the place that it had when it parked (R235, R297). -/
def Fab.spJoin (f : Fab) (d : Nat) (p : Packet) (ord : Option Nat) : Fab :=
  match ord with
  | some q => f.join (.sp d) 0 p none q false true
  | none => f.joinLast (.sp d) 0 p

/-- The place in the order of joining of a request that parks: the one that it has, or the next (R235). -/
def Fab.spPlace (f : Fab) (d : Nat) (ord : Option Nat) : Fab × Option Nat :=
  match ord with
  | some q => (f, some q)
  | none => let r := f.takeSeq (.sp d) 0
            (r.1, some r.2)

/-- An access is answered as for an ABSENT granule (R216). -/
def Fab.spAbsent (f : Fab) (d : Nat) (a : SpAcc) : Fab := (f.bump .sp d O.ABSENT_CNT 0).spFinish d a 1 0

/-- The check decides an access under tag `k` (R203, R211, R216, R234, R266): it is sent, parked or answered. -/
def Fab.decideAcc (f : Fab) (d k : Nat) (a : SpAcc) : Fab :=
  let home := f.spHome d a.addr
  let p := f.agPacket d a.op a.stream a.addr a.bytes a.data k home
  let dev := f.spDevice d a.stream a.addr
  match f.spCheck d a.op a.addr a.bytes with
  | .violation cause region straddle =>
    ((f.spOut d k (headOf p) none).setAcc d { a with st := .viol k, dev := dev }).spViolate d k a.op a.addr cause region
      straddle
  | .park =>
    let r := f.spPlace d a.ord
    ((r.1.spOut d k (headOf p) none).setAcc d { a with st := .parked k, ord := r.2 }).spPark d k
  | .poison => (f.setSpTag d k Tag.reset).spAbsent d a
  | .route _ _ =>
    let gran := (a.stream, f.spIndex a.addr)
    if a.op = 3 ∧ ¬spLocal a.addr ∧ (home.2 = 0 ∨ (f.spOf d).xedge.contains gran) then
      ((((f.modSp d (fun n => { n with xedge := n.xedge.filter (· != gran) })).bump .sp d O.SP_XST_EDGE 0).setSpTag d k
        Tag.reset)).spFinish d a 2 0
    else
      let f := if a.op = 2 ∧ home.2 = 0 then
          f.modSp d (fun n => { n with xedge := gran :: n.xedge.filter (· != gran) }) else f
      ((f.spOut d k (headOf p) (some home)).setAcc d { a with st := .sent k, home := some home, dev := dev }).spJoin d p
        a.ord

/-- A buffered store is answered as for an ABSENT granule (R216, R279). -/
def Fab.entAbsent (f : Fab) (d : Nat) (e : PwbEnt) : Fab :=
  ((f.bump .sp d O.ABSENT_CNT 0).dropEnt d e).storeFault d e 0

/-- The check decides a buffered store under tag `k`. -/
def Fab.decideEnt (f : Fab) (d k : Nat) (e : PwbEnt) : Fab :=
  let home := f.spHome d e.addr
  let p := f.agPacket d 1 e.stream e.addr e.len e.data k home
  let e' : PwbEnt := { e with tag := some k, parked := false, freed := false }
  match f.spCheck d 1 e.addr e.len with
  | .violation cause region straddle =>
    ((f.spOut d k (headOf p) none).setEnt d e').spViolate d k 1 e.addr cause region straddle
  | .park =>
    let r := f.spPlace d e.ord
    ((r.1.spOut d k (headOf p) none).setEnt d { e' with parked := true, ord := r.2 }).spPark d k
  | .poison => (f.setSpTag d k Tag.reset).entAbsent d e
  | .route _ _ =>
    ((f.spOut d k (headOf p) (some home)).setEnt d { e' with home := some home }).spJoin d p e.ord

/-- Whether the NI may send requests now (R291): its tile runs, it is out of reset and not fenced. -/
def Fab.spSends (f : Fab) (d : Nat) : Bool :=
  let n := f.spOf d
  (f.tile (spTile d)).st == .t0 && n.rstN && n.noReq.isNone && !n.fence

/-- Acknowledges a NORMAL store that entered the buffer. -/
def Fab.ackStore (f : Fab) (d : Nat) (a : SpAcc) : Fab :=
  (f.buffer d a.stream a.addr a.bytes a.data a.seq).spFinish d a 0 0

/-- Whether a waiting NORMAL store may enter the buffer: no barrier, no parked request and no earlier store of its
identifier that waits is ahead of it, and an entry takes it. -/
def Fab.mayBuffer (f : Fab) (d : Nat) (a : SpAcc) : Bool :=
  !f.spBlocked d a.stream a.seq true
    && !((f.spOf d).before a.stream a.seq).any (fun x => x.op == 1 && x.st.waits && !f.spDevice d x.stream x.addr)
    && (decide ((f.spOf d).pwb.length < 32) || (f.mergesInto d a.stream a.addr a.bytes a.seq).isSome)

/-- The bytes that a NORMAL load takes from the buffer (R278): only when no earlier store of its identifier that overlaps
it waits outside the buffer (R272, R273). -/
def Fab.forwards (f : Fab) (d : Nat) (a : SpAcc) : Option Nat :=
  let n := f.spOf d
  if a.op ≠ 0 ∨ (f.spDevice d a.stream a.addr || f.spHeld d a.addr) = true
      ∨ (n.before a.stream a.seq).any (fun x => opStore x.op && overlap x.addr x.bytes a.addr a.bytes) = true then none
  else forwardData (n.entriesBefore a.stream a.seq) a.addr a.bytes

/-- The tag under which an access or an entry goes: the one that it holds since it parked, or a free one. -/
def Fab.spTagFor (f : Fab) (d : Nat) (has : Option Nat) : Option Nat :=
  match has with
  | some k => some k
  | none => f.spFreeTag d

/-- An access that waits is answered by forwarding, enters the buffer or is sent, when its ordering conditions hold;
`none` while they do not (R271 to R274, R278). One whose lookup meets an uncorrectable error is answered as for ABSENT
(R210). -/
def Fab.tryAcc (f : Fab) (d : Nat) (bad : List (Nat × Nat)) (a : SpAcc) : Option Fab :=
  let n := f.spOf d
  let dev := f.spDevice d a.stream a.addr
  match f.spUe d a.addr bad with
  | some info =>
    if f.spBlocked d a.stream a.seq (opStore a.op) then none
    else some ((match a.st.tag? with
      | some k => (f.famUe d info).setSpTag d k Tag.reset
      | none => f.famUe d info).spAbsent d a)
  | none =>
    if a.op = 1 ∧ (dev || f.spHeld d a.addr) = false then (if f.mayBuffer d a then some (f.ackStore d a) else none)
    else if f.spBlocked d a.stream a.seq (opStore a.op) then none
    else
      let cover := !(f.waitsOn d a).isEmpty
      match f.forwards d a, cover with
      | some v, true =>
        let f := match a.st.tag? with | some k => f.setSpTag d k Tag.reset | none => f
        some (((f.bump .sp d O.SP_FWD_CNT 0).event (spTile d) 0x45 0).spFinish d a 0 v)
      | _, _ =>
        if cover || f.spOrderHeld d a.stream a.seq a.addr a.bytes (opStore a.op) dev (f.spHome d a.addr)
            || (dev && (n.before a.stream a.seq).any (fun x => f.accDevice d x)) || !f.spSends d then none
        else
          match f.spTagFor d a.st.tag? with
          | some k => some (f.decideAcc d k a)
          | none => none

/-- An eligible entry is sent when its ordering conditions hold: entries of an identifier go in buffer order, and none
passes a parked request of its identifier (R237). -/
def Fab.tryEnt (f : Fab) (d : Nat) (bad : List (Nat × Nat)) (e : PwbEnt) : Option Fab :=
  let n := f.spOf d
  if !e.elig || (e.tag.isSome && !e.freed) || !f.spSends d || f.spBlocked d e.stream e.seq true
      || (n.entriesBefore e.stream e.seq).any (fun x => x.tag.isNone || x.parked || x.freed)
      || f.spOrderHeld d e.stream e.seq e.addr e.len true false (f.spHome d e.addr) then none
  else
    match f.spUe d e.addr bad, f.spTagFor d e.tag with
    | some info, some k => some (((f.famUe d info).setSpTag d k Tag.reset).entAbsent d e)
    | none, some k => some (f.decideEnt d k e)
    | _, none => none

/-- Entries on which waiting accesses wait become eligible (R277, R280). -/
def Fab.wakeEntries (f : Fab) (d : Nat) : Fab :=
  let l := ((f.spOf d).acc.filter (fun a => a.st.waits)).flatMap (fun a => f.waitsOn d a)
  f.makeEligible d (fun e => l.any (fun x => x.stream == e.stream && decide (e.seq ≤ x.seq)))

/-- The oldest access or eligible entry whose conditions hold goes (R271). -/
def Fab.spAdvance (f : Fab) (d : Nat) (bad : List (Nat × Nat)) : Fab :=
  let f := f.wakeEntries d
  let n := f.spOf d
  let accs := (n.acc.filter (fun a => a.st.waits)).map (fun a => (a.seq, f.tryAcc d bad a))
  let ents := n.pwb.map (fun e => (e.seq, f.tryEnt d bad e))
  let best := (accs ++ ents).foldl (fun (b : Option (Nat × Fab)) x =>
    match x.2, b with
    | some g, some (q, _) => if x.1 < q then some (x.1, g) else b
    | some g, none => some (x.1, g)
    | none, _ => b) none
  match best with
  | some (_, g) => g
  | none => f

/-! ## Completion (R267, R270, R279) -/

/-- RESULT of an accepted response (R267). -/
def spResult (p : Packet) : Nat :=
  let pcie := opcOf p == 0x0C && field (oidOf p) 0 3 != 0
  if statusOf p = 1 ∨ poisoned p = true ∨ pcie = true then 1
  else if statusOf p = 4 then 2 else if statusOf p = 0 then 0 else 3

/-- The access of a tag. -/
def Sp.accOf (n : Sp) (k : Nat) : Option SpAcc := n.acc.find? (fun a => a.st.tag? == some k)
/-- The entry of a tag. -/
def Sp.entOf (n : Sp) (k : Nat) : Option PwbEnt := n.pwb.find? (fun e => e.tag == some k)

/-- What a tag was used for completes with a result, without a packet: an answer of the NI's own (R211, R216), or an
expiry. The tag is freed. -/
def Fab.spComplete (f : Fab) (d k result : Nat) (expiry : Bool) : Fab :=
  let f := (f.spUnqueue d k).setSpTag d k Tag.reset
  match (f.spOf d).accOf k, (f.spOf d).entOf k with
  | some a, _ => f.spFinish d a result 0
  | none, some e =>
    let f := f.dropEnt d e
    if result = 1 then f.storeFault d e (b2n expiry) else f
  | none, none => f

/-- A tag of a service-port NI expires (R270, R279, R294). -/
def Fab.spExpire (f : Fab) (d k : Nat) : Fab :=
  let x := f.spTag d k
  let tgt := x.tgt.getD (spTile d, 1)
  let f := if x.mark then f.modSp d (fun n => { n with drain := n.drain.map (fun m => { m with expired := m.expired + 1 }) })
    else f
  let f := if ((f.spOf d).entOf k).isSome then f
    else f.raise (famKey .sp d) 2
      (k + tgt.1 * 2 ^ 11 + tgt.2 * 2 ^ 19 + opcOf [x.req] * 2 ^ 20 + mcOf [x.req] * 2 ^ 25)
      (f.deadlineNs (spTile d) x.deadline) 0
  f.spComplete d k 1 true

/-- A parked access is looked up again at a commit (R235): it parks again or is answered at once, and one that routes is
released to wait for its ordering conditions (R271). A parked NORMAL store is released into the buffer (R269, R275), and
waits there for an entry when it is full. -/
def Fab.relookAcc (f : Fab) (d : Nat) (bad : List (Nat × Nat)) (k : Nat) (a : SpAcc) : Fab :=
  match f.spUe d a.addr bad with
  | some info => ((f.famUe d info).setSpTag d k Tag.reset).spAbsent d a
  | none =>
    match f.spCheck d a.op a.addr a.bytes with
    | .route _ _ =>
      let normal := a.op == 1 && !f.spDevice d a.stream a.addr
      let f := if normal then f.setSpTag d k Tag.reset else f
      let a' : SpAcc := { a with st := if normal then .waiting else .released k }
      let f := (f.setAcc d a').wakeEntries d
      (f.tryAcc d bad a').getD f
    | _ => f.decideAcc d k a

/-- A parked buffered store is looked up again at a commit (R235). -/
def Fab.relookEnt (f : Fab) (d : Nat) (bad : List (Nat × Nat)) (k : Nat) (e : PwbEnt) : Fab :=
  match f.spUe d e.addr bad with
  | some info => ((f.famUe d info).setSpTag d k Tag.reset).entAbsent d e
  | none =>
    match f.spCheck d 1 e.addr e.len with
    | .route _ _ =>
      let e' : PwbEnt := { e with parked := false, freed := true }
      let f := f.setEnt d e'
      (f.tryEnt d bad e').getD f
    | _ => f.decideEnt d k e

/-- Parked requests of a service-port NI are looked up again at a commit (R235), those in the hold queue first. -/
def Fab.spRelook (f : Fab) (d : Nat) (bad : List (Nat × Nat)) : Fab :=
  let tags := (f.spOf d).holdQ ++ (f.spOf d).holdW
  let f := f.modSp d (fun n => { n with holdQ := [], holdW := [] })
  tags.foldl (fun f k =>
    match (f.spOf d).accOf k, (f.spOf d).entOf k with
    | some a, _ => f.relookAcc d bad k a
    | none, some e => f.relookEnt d bad k e
    | none, none => f) f

end Sys2Proof.Machine
end

