-- ==== Sys2Proof/Machine/EdgePort.lean ====
section
/-! DEFINITION. EdgePort: credits, epochs, tag grants, timeouts, link state, departed ports and the fence of an edge
port (R146 to R174, R186, R187). -/

namespace Sys2Proof.Machine

/-- One egress credit of a class returns (R148, R154). -/
def Fab.eapCredit (f : Fab) (t mc : Nat) : Fab :=
  let c := (f.ni t).eCred.getD mc 0
  if 1023 ≤ c then f.raiseT t 10 mc 0 0
  else f.modNi t (fun n => { n with
    eCred := modAt n.eCred mc (· + 1), eMax := modAt n.eMax mc (fun m => max m (c + 1)) })

/-- EAP_CREDIT_RETURN (R148): the bits of I_ECRED that are high in a cycle of an epoch. -/
def execEapCreditReturn (t mask : Nat) (s : State) : Host.Outcome State Fault Refusal :=
  .next (s.onFab (fun f =>
    if !(f.ni t).epoch then f
    else (List.range 8).foldl (fun f mc => if bit mask mc then f.eapCredit t mc else f) f))

/-- Staging flits of a class that packets in injection still occupy. -/
def Ni.stagingBusy (n : Ni) (mc : Nat) : Nat :=
  n.prog.foldl (fun a kv => if kv.2.stg = some mc then a + kv.2.pkt.length else a) 0

/-- EAP_EPOCH_BEGIN (R149 to R152): credits for the free staging flits return, and the port is no longer gone. -/
def execEapEpochBegin (t : Nat) (s : State) : Host.Outcome State Fault Refusal :=
  .next (s.onFab (fun f =>
    let n := f.ni t
    if n.epoch || !f.eReady t || n.link == .down then f
    else
      let share := (List.range 8).map (fun mc => f.oT t O.EDGE_ICRED (mc + 1))
      let cred := (List.range 8).map (fun mc => share.getD mc 0 - n.stagingBusy mc)
      let pins := (List.range 8).foldl (fun m mc => if 0 < cred.getD mc 0 then setBit m mc else m) 0
      f.modNi t (fun n => { n with
        epoch := true, gone := false, iShare := share, iCred := cred, eCred := List.replicate 8 0,
        eMax := List.replicate 8 0, lowJudged := false, grantPos := 0, tgnt := none, eICred := pins })))

/-- The tag at a position of the opening sequence: the snoop pool, then the general pool (R157). -/
def openingTag (pos : Nat) : Nat := if pos < 32 then 2000 + pos else pos - 32

/-- The next position of the opening sequence, from `pos`, whose tag is free; `fuel` positions are looked at. -/
def Ni.nextOpening (n : Ni) : Nat → Nat → Option Nat
  | 0, _ => none
  | fuel + 1, pos =>
    if 2032 ≤ pos then none
    else if (n.tags.get (fun _ => Tag.reset) (openingTag pos)).st == .free then some pos
    else n.nextOpening fuel (pos + 1)

/-- TAG_GRANT (R156, R157): the next tag of the opening sequence, and after it the free tag `k`. Where no tag is granted,
E_TGNT_V is low (R134). -/
def execTagGrant (t k : Nat) (s : State) : Host.Outcome State Fault Refusal :=
  .next (s.onFab (fun f =>
    let n := f.ni t
    if !n.epoch || n.noGrant.isSome || (f.tile t).st != .t0 then f.modNi t (fun n => { n with tgnt := none })
    else
      match n.nextOpening 2032 n.grantPos with
      | some pos =>
        (f.setTag t (openingTag pos) { Tag.reset with st := .granted }).modNi t (fun n =>
          { n with grantPos := pos + 1, tgnt := some (openingTag pos) })
      | none =>
        let f := f.modNi t (fun n => { n with grantPos := 2032 })
        if k < 2032 ∧ (f.tag t k).st = .free then
          (f.setTag t k { Tag.reset with st := .granted }).modNi t (fun n => { n with tgnt := some k })
        else f.modNi t (fun n => { n with tgnt := none })))

/-- TAG_GRANT_RESUME (R187). -/
def execTagGrantResume (t : Nat) (s : State) : Host.Outcome State Fault Refusal :=
  .next (s.onFab (fun f =>
    match (f.ni t).noGrant with
    | some due => if due ≤ f.runN t then f.modNi t (fun n => { n with noGrant := none }) else f
    | none => f))

/-- EDGE_CREDIT_LOW (R153): 4,096 ECLK cycles into an epoch. -/
def execEdgeCreditLow (t : Nat) (s : State) : Host.Outcome State Fault Refusal :=
  .next (s.onFab (fun f =>
    let n := f.ni t
    if !n.epoch || n.lowJudged then f
    else
      let f := f.modNi t (fun n => { n with lowJudged := true })
      let m (mc : Nat) : Nat := n.eMax.getD mc 0
      if [1, 3, 6, 7].any (fun mc => decide (m mc < 52)) then
        f.raiseT t 9 (m 1 + m 3 * 2 ^ 16 + m 6 * 2 ^ 32 + m 7 * 2 ^ 48) 0 0
      else f))

/-! ## Expiry (R162 to R166, R212, R236, R90) -/

/-- INFO0 of REQ_TIMEOUT (R578). -/
def timeoutInfo (k : Nat) (x : Tag) (t : Nat) : Nat :=
  let tgt := x.tgt.getD (t, 0)
  k + tgt.1 * 2 ^ 11 + tgt.2 * 2 ^ 19 + opcOf [x.req] * 2 ^ 20 + mcOf [x.req] * 2 ^ 25

/-- A tag expires (R164): a FLUSH ends under R90; any other request loses the answer that waits for it, is taken out
of the queue in which it waits, and its missing parts are synthesised. -/
def Fab.expire (f : Fab) (t k : Nat) : Fab :=
  let x := f.tag t k
  if 2032 ≤ k then
    ((f.freeTag t k).raiseT t 3 (destTile [x.req] + k * 2 ^ 8) (f.deadlineNs t x.deadline) 0).endFlushTag t k
  else
    let f := f.unqueue t k
    let f := if x.own then (f.dropEgressParts t k).1.setTag t k { x with got := [], parts := none, own := false } else f
    let f := if x.mark then f.modNi t (fun n => { n with drain := n.drain.map (fun d => { d with expired := d.expired + 1 }) })
      else f
    let f := (f.synthesise t k).1
    (f.bumpT t O.EDGE_TIMEOUTS).raiseT t 11 (timeoutInfo k x t) (f.deadlineNs t x.deadline) 0

/-- Whether a tag can expire: outstanding, and either it awaits a part or its answer is the NI's own and not yet
delivered (R164, R212). -/
def Tag.expirable (x : Tag) : Bool := x.st == .out && (x.awaits || x.own)

/-- The visit of a tag of an edge NI (R163, R164). A tile outside T0 makes no visit, so in T1 a tag waits for the wake
(DESIGN CHOICE, log 69). -/
def Fab.visitTag (f : Fab) (t k : Nat) (ue : Bool) : Fab :=
  let x := f.tag t k
  if (f.tile t).st != .t0 || !x.expirable then f
  else if ue then (f.raiseT t 17 (4 + (k % 2 ^ 20) * 8) 0 0).expire t k
  else if x.deadline ≤ f.runN t then f.expire t k else f

/-- The visit of a tag of a service-port NI (R163, R270). -/
def Fab.visitSpTag (f : Fab) (d k : Nat) (ue : Bool) : Fab :=
  let x := f.spTag d k
  if (f.tile (spTile d)).st != .t0 || !x.awaits then f
  else if ue then (f.raiseT (spTile d) 17 (4 + (k % 2 ^ 20) * 8) 0 0).spExpire d k
  else if x.deadline ≤ f.runN (spTile d) then f.spExpire d k else f

/-- TAG_EXPIRY (R163, R164, R270): the visit of tag `k` of edge NI `n`, or of service-port NI `n` when `sp`, finds it past
its deadline; `ue` says that its entry has an uncorrectable error, so that it expires at once (R583). -/
def execTagExpiry (sp : Bool) (n k : Nat) (ue : Bool) (s : State) : Host.Outcome State Fault Refusal :=
  .next (s.onFab (fun f => if sp then f.visitSpTag n k ue else f.visitTag n k ue))

/-- QUARANTINE_RELEASE (R172). -/
def execQuarantineRelease (t k : Nat) (s : State) : Host.Outcome State Fault Refusal :=
  .next (s.onFab (fun f =>
    let x := f.tag t k
    if x.st == .quar && (f.tile t).st == .t0 && decide (x.deadline ≤ f.runN t) then f.freeTag t k else f))

/-! ## Violation and hold queues (R212, R213, R234) -/

/-- The oldest violating request that waits in the staging of an edge NI enters the violation queue (R213). -/
def Fab.violEnterNi (f : Fab) (t : Nat) : Fab :=
  match (f.ni t).waitV with
  | [] => f
  | x :: rest =>
    if 32 ≤ (f.ni t).violQ.length then f
    else
      let p := x.pkt
      let parts := answerParts .violation p
      let ps := answerPackets parts p (t, 0) (scOf p) 0 0 parts.length false
      (f.leave t x (if x.inStg then some x.mc else none)).modNi t (fun n =>
        { n with waitV := rest, violQ := n.violQ ++ [⟨ps, x.look + ns (f.oD (dieOf t) O.VIOLATION_FLOOR), tagOf p⟩] })

/-- The same in a service-port NI. -/
def Fab.violEnterSp (f : Fab) (d : Nat) : Fab :=
  match (f.spOf d).violW with
  | [] => f
  | x :: rest =>
    if 32 ≤ (f.spOf d).violQ.length then f
    else f.modSp d (fun n => { n with violW := rest, violQ := n.violQ ++ [x] })

/-- VIOLATION_QUEUE_ENTER (R213), in edge NI `n`, or in service-port NI `n` when `sp`. -/
def execViolationQueueEnter (sp : Bool) (n : Nat) (s : State) : Host.Outcome State Fault Refusal :=
  .next (s.onFab (fun f => if sp then f.violEnterSp n else f.violEnterNi n))

/-- The oldest answer of an edge NI whose floor has passed is placed at the front of its egress FIFO (R212). -/
def Fab.violReleaseNi (f : Fab) (t : Nat) : Fab :=
  match (f.ni t).violQ.find? (fun v => decide (v.due ≤ f.time t)) with
  | none => f
  | some v => (f.modNi t (fun n => { n with violQ := dropFirst (fun x => x == v) n.violQ })).answerFront t v.parts

/-- The oldest answer of a service-port NI whose floor has passed is handed to its master (R212). -/
def Fab.violReleaseSp (f : Fab) (d : Nat) : Fab :=
  match (f.spOf d).violQ.find? (fun v => decide (v.2 ≤ f.time (spTile d))) with
  | none => f
  | some v => f.spComplete d v.1 0 false

/-- VIOLATION_ANSWER_RELEASE (R212), in edge NI `n`, or in service-port NI `n` when `sp`. -/
def execViolationAnswerRelease (sp : Bool) (n : Nat) (s : State) : Host.Outcome State Fault Refusal :=
  .next (s.onFab (fun f => if sp then f.violReleaseSp n else f.violReleaseNi n))

/-- The oldest request held in the staging of an edge NI enters the hold queue when it fits (R234). -/
def Fab.holdEnterNi (f : Fab) (t : Nat) : Fab :=
  match (f.ni t).waitH with
  | [] => f
  | x :: rest =>
    if (f.ni t).holdRoom x then (f.modNi t (fun n => { n with waitH := rest })).enterHold t x (some x.mc) else f

/-- The same in a service-port NI. -/
def Fab.holdEnterSp (f : Fab) (d : Nat) : Fab :=
  match (f.spOf d).holdW with
  | [] => f
  | k :: rest =>
    if f.spHoldRoom d k then
      let f := f.modSp d (fun n => { n with holdW := rest, holdQ := n.holdQ ++ [k] })
      f.peak .sp d O.HOLD_PEAK (f.spOf d).holdQ.length
    else f

/-- HOLD_QUEUE_ENTER (R234), in edge NI `n`, or in service-port NI `n` when `sp`. -/
def execHoldQueueEnter (sp : Bool) (n : Nat) (s : State) : Host.Outcome State Fault Refusal :=
  .next (s.onFab (fun f => if sp then f.holdEnterSp n else f.holdEnterNi n))

/-! ## Link, departures, fence -/

/-- I_LINK as the NI decodes it (R167). -/
def Link.ofCode : Nat → Link
  | 1 => .active | 2 => .retrain | _ => .down
/-- EDGE_LINK encoding (R522). -/
def Link.code : Link → Nat
  | .down => 0 | .active => 1 | .retrain => 2

/-- I_LINK_CHANGE (R168): the port controller drives I_LINK. EDGE_LINK_CHANGES counts a change of the state that the NI
decodes, so 0b00 to 0b11 is none, and counts none while the tile is in reset or unpowered (DESIGN CHOICE, log 71). -/
def execILinkChange (t code : Nat) (s : State) : Host.Outcome State Fault Refusal :=
  .next (s.onFab (fun f =>
    let l := Link.ofCode (code % 4)
    if (f.ni t).link = l then f
    else
      let f := f.modNi t (fun n => { n with link := l })
      if f.tileOut t then f
      else
        let f := f.bumpT t O.EDGE_LINK_CHANGES
        if l = .down then f.portBecomesGone t 0 else f))

/-- The first control packet of an opcode that waits at an NI. -/
def Ni.firstCtl (n : Ni) (opc : Nat) : Option Packet := n.ctlIn.find? (fun p => mcOf p == 7 && opcOf p == opc)
/-- Takes it. -/
def Fab.takeCtl (f : Fab) (t opc : Nat) : Fab :=
  f.modNi t (fun n => { n with ctlIn := dropFirst (fun p => mcOf p == 7 && opcOf p == opc) n.ctlIn })

/-- PORT_GONE_RECEIVE (R171). -/
def execPortGoneReceive (t : Nat) (s : State) : Host.Outcome State Fault Refusal :=
  .next (s.onFab (fun f =>
    match (f.ni t).firstCtl opcPortEvent with
    | none => f
    | some p =>
      let f := f.takeCtl t opcPortEvent
      if hdr p 128 8 = 1 then f.portGoneAt t (hdr p 136 8) else f))

/-- Codes of MBX_STAT[CODE] (R495). -/
def cOk : Nat := 0
@[inherit_doc cOk] def cNoObject : Nat := 1
@[inherit_doc cOk] def cDenied : Nat := 2
@[inherit_doc cOk] def cTooLong : Nat := 3
@[inherit_doc cOk] def cClipped : Nat := 4
@[inherit_doc cOk] def cTimeout : Nat := 5
@[inherit_doc cOk] def cAbsent : Nat := 6

/-- A write of EDGE_FENCE acts on the tile's fence latch at once (R173, R174). -/
def Fab.wEdgeFence (f : Fab) (t v : Nat) : Fab × Nat :=
  let f := f.setO .tile t O.EDGE_FENCE 0 (if v = 0 then 0 else 1)
  (if v = 0 then f else f.portBecomesGone t 1, cOk)

/-- An answer to the requester of an object write. -/
def Fab.done (r : Fab × Nat) (who : Nat) : Fab := r.1.answer who r.2

/-- EDGE_FENCE_WRITE (R174). -/
def execEdgeFenceWrite (who t v : Nat) (s : State) : Host.Outcome State Fault Refusal :=
  .next (s.onFab (fun f => Fab.done (f.wEdgeFence t v) who))

end Sys2Proof.Machine
end

