-- ==== Sys2Proof/Machine/Binding.lean ====
section
/-! DEFINITION. Binding: GRANULE, staging, locks, commits and drains (R190, R191, R196, R217 to R242). -/

namespace Sys2Proof.Machine

/-- Whether the instance is Sealed (R539): SEAL_STATE reads SEALED. -/
def Fab.sealed (f : Fab) : Bool := f.oI O.SEAL_STATE == 1

/-! ## GRANULE -/

/-- A write of GRANULE (R191); its value stands in the shadow (R503). -/
def Fab.wGranule (f : Fab) (v : Nat) : Fab × Nat :=
  if f.bind.granLocked || decide (3 ≤ v) then (f, cDenied)
  else (((f.setO .inst 0 O.GRANULE 0 v).modBind (fun b => { b with granLocked := true })).shadowAll .inst 0 O.GRANULE 0 v,
    cOk)

/-- GRANULE_WRITE (R191). -/
def execGranuleWrite (who v : Nat) (s : State) : Host.Outcome State Fault Refusal :=
  .next (s.onFab (fun f => Fab.done (f.wGranule v) who))

/-! ## Locks (R217 to R219) -/

/-- A FAM entry or PBR element as the stage leaves it: the last staged value, else the committed one (R219). -/
def Fab.staged (f : Fab) (table elem : Nat) : Nat :=
  (lastRec f.bind.stage table 0 elem).getD
    (if table = tblFam then (f.copyOf 0).entry elem else (f.copyOf 0).route elem)

/-- Whether a sharing group is locked: a locking FAM entry, committed or staged, names it (R218, R219). -/
def Fab.groupLocked (f : Fab) (n : Nat) : Bool :=
  let locks (e : Nat) : Bool := eLock e && eGroup e == n
  (f.copyOf 0).fam.any (fun kv => locks kv.2)
    || (f.copyOf 0).drain.any (fun r => r.table == tblFam && locks r.value)
    || f.bind.stage.any (fun r => r.table == tblFam && locks r.value)

/-- Whether a table element is locked. -/
def Fab.locked (f : Fab) (table elem : Nat) : Bool :=
  if table = tblFam then eLock (f.staged tblFam elem)
  else if table = tblShare then f.groupLocked elem
  else bit (f.staged tblPbr elem) 9

/-! ## Staging (R196, R221 to R226) -/

/-- Whether a value breaks the rules for a FAM entry (R196). -/
def Fab.badEntry (f : Fab) (v : Nat) : Bool :=
  bit v 33 || field v 60 4 != 0
    || (eValid v
        && (eCoh v == 3 || !(decide (2 ≤ eSc v) && decide (eSc v ≤ 4))
            || (eSlot v == 0 && decide (2 ^ (52 - f.gBits) ≤ eDpa v))
            || (eSlot v == 1 && (!isCmnTile (eTile v) || eDpa v != 0 || eCoh v != 0))
            || (eType v == 1 && eCoh v != 0)))

/-- The records of a table write (R221, R222). -/
def recordsOf (table elem v : Nat) : List StageRec :=
  if table = tblShare then (List.range 4).map (fun q => ⟨tblShare, q, elem, field v (64 * q) 64⟩)
  else if table = tblFam then [⟨tblFam, 0, elem, v % 2 ^ 64⟩]
  else [⟨tblPbr, 0, elem, v % 2 ^ 14⟩]

/-- Appends records to the stage and to the overlay of every die (R221, R225). -/
def Fab.stageRecords (f : Fab) (rs : List StageRec) : Fab :=
  let f := f.modBind (fun b => { b with stage := b.stage ++ rs, cst := .opened })
  (List.range 4).foldl (fun f d => f.modCopy d (fun c => { c with ovl := c.ovl ++ rs })) f

/-- A write of a table element (R196, R217 to R223); `dbg` is the debug master, whose write of a locked element is
recorded (R220); `byTicket` passes the seal (R226). -/
def Fab.wTable (f : Fab) (dbg byTicket : Bool) (table elem v : Nat) : Fab × Nat :=
  let rs := recordsOf table elem v
  if !(List.range 4).all (fun d => f.bcastUp d) then (f, cAbsent)
  else if dbg && f.locked table elem then
    (f.violation .die 0 3 0 (violKind 1 false causeLocked) (violMaster 2 0 0) (elem + table * 2 ^ 24), cDenied)
  else if f.sealed && !byTicket then (f, cDenied)
  else if f.bind.cst = .armed ∨ 4096 < f.bind.stage.length + rs.length ∨ f.locked table elem = true
      ∨ (table = tblFam ∧ f.badEntry v = true) then (f, cDenied)
  else (f.stageRecords rs, cOk)

/-- TABLE_ELEMENT_WRITE (R221): table 0 FAM, 1 SHARE_GROUP, 2 PBR_ROUTE; `dbg` marks the debug master. -/
def execTableElementWrite (who : Nat) (dbg : Bool) (table elem v : Nat) (s : State) : Host.Outcome State Fault Refusal :=
  .next (s.onFab (fun f =>
    if table < 3 ∧ elem < (if table = 0 then 1048576 else 4096) then Fab.done (f.wTable dbg false table elem v) who
    else f.answer who cNoObject))

/-! ## Arming a commit (R227, R228) -/

/-- LENS_INV (R242). -/
def lensInv (d t tm seq prov : Nat) : Packet := mkControl t 0 (spTile d) 1 opcLensInv prov (tm + seq * 2 ^ 80)

/-- The service-port NI of a die sends LENS_INV to one edge NI of its die. -/
def Fab.sendLensInv (f : Fab) (t tm : Nat) : Fab :=
  let d := dieOf t
  f.joinLast (.sp d) 0 (lensInv d t tm ((f.bind.seq + 1) % 256) (f.o .sp d O.SP_PROV 0))

/-- The FAM control of a die sends an edge NI that leaves reset or wakes a LENS_INV (R231). -/
def Fab.lensGreet (f : Fab) (t : Nat) : Fab := f.sendLensInv t (if f.bind.cst = .armed then f.bind.t else 0)

/-- Sends LENS_INV naming `tm` to every edge NI of a die and to its own lookup logic. -/
def Fab.lensAll (f : Fab) (d tm : Nat) : Fab :=
  let f := (tilesOfDie d).foldl (fun f t => f.sendLensInv t tm) f
  f.modSp d (fun n => { n with lensT := if tm = 0 then none else some tm })

/-- Loads T at the dies that the broadcast reaches, and sends their LENS_INVs (R228). -/
def Fab.armDies (f : Fab) (tm : Nat) : Fab :=
  (List.range 4).foldl (fun f d =>
    if f.bcastUp d then (f.modCopy d (fun c => { c with t := some tm, acks := [256 + d] })).lensAll d tm
    else f.modCopy d (fun c => { c with t := none, acks := [] })) f

/-- Whether a FAM_COMMIT of `tm` is refused (R227). -/
def Fab.commitRefused (f : Fab) (tm : Nat) : Bool :=
  let now := f.dieTime 0
  f.bind.stage.isEmpty || f.bind.cst == .armed || f.bind.dst == .running
    || decide (tm < now + us 20) || decide (now + ms 10000 < tm)

/-- A ticket is rejected (R547, R549, R550): TICKET_RESULT takes the reason. -/
def Fab.ticketRejected (f : Fab) (reason kind counter : Nat) : Fab :=
  ((f.setO .inst 0 O.TICKET_RESULT 0 reason).setO .inst 0 O.TICKET_STATE 0 3).raise (famKey .inst 0) 8
    (reason + kind * 256) counter 0

/-- Ends a FAM_COMMIT operation that is still in progress; the arming by a ticket completes, or fails with ARM_FAILED
(R548, R549). -/
def Fab.endCommitOp (f : Fab) (code : Nat) : Fab :=
  let f := match f.bind.tkt with
    | none => f
    | some c =>
      if code ≠ cOk then f.ticketRejected 11 1 c
      else if f.oI O.TICKET_STATE = 1 ∧ f.wd.ticket = none then f.setO .inst 0 O.TICKET_STATE 0 2
      else f
  match f.bind.who with
  | some w => (f.answer w code).modBind (fun b => { b with who := none })
  | none => f

/-- Whether an edge NI owes no acknowledgement and no drain report: it is in reset, unpowered, or its tile is in T2
or T3 (R229, R241). -/
def Fab.excused (f : Fab) (t : Nat) : Bool := f.tileOut t || (f.tile t).st == .t2 || (f.tile t).st == .t3

/-- NIs of a die that have not acknowledged and owe it (R229). -/
def Fab.missing (f : Fab) (d : Nat) : List Nat :=
  (tilesOfDie d).filter (fun t => !(f.copyOf d).acks.contains t && !f.excused t)

/-- A commit operation in progress ends OK when every die has loaded T and no acknowledgement is missing (R228): judged as
an acknowledgement arrives, as an NI comes to owe none, and at the arming. -/
def Fab.ackJudge (f : Fab) : Fab :=
  if f.bind.cst == .armed && (List.range 4).all (fun d => (f.copyOf d).t == some f.bind.t && (f.missing d).isEmpty) then
    f.endCommitOp cOk
  else f

/-- Arms the commit at `tm` for a requester (R228). -/
def Fab.arm (f : Fab) (tm : Nat) (who : Option Nat) : Fab :=
  ((f.modBind (fun b => { b with cst := .armed, t := tm, judged := false, who := who })).armDies tm).ackJudge

/-- FAM_COMMIT_WRITE (R227, R228): an accepted operation is answered when its acknowledgements are in. -/
def execFamCommitWrite (who tm : Nat) (s : State) : Host.Outcome State Fault Refusal :=
  .next (s.onFab (fun f => if f.sealed || f.commitRefused tm then f.answer who cDenied else f.arm tm (some who)))

/-- DRAIN_DONE (R242). -/
def drainDone (t kind tile seq marked expired prov : Nat) : Packet :=
  mkControl (spTile (dieOf t)) 1 t 0 opcDrainDone prov
    (kind + tile * 2 + seq * 2 ^ 9 + marked * 2 ^ 17 + expired * 2 ^ 29)

/-- LENS_INV_RECEIVE (R228, R231): an edge NI loads T and acknowledges it; T of 0 withdraws a loaded T and asks no
acknowledgement. Its lens is enabled. -/
def execLensInvReceive (t : Nat) (s : State) : Host.Outcome State Fault Refusal :=
  .next (s.onFab (fun f =>
    match (f.ni t).firstCtl opcLensInv with
    | none => f
    | some p =>
      let tm := hdr p 128 80
      let f := (f.takeCtl t opcLensInv).modNi t (fun n => { n with
        lensOn := true, lensT := if tm = 0 then none else some tm, acked := decide (tm ≠ 0) })
      if tm = 0 then f else f.niSend t (drainDone t 1 0 (hdr p 208 8) 0 0 (f.oT t O.EDGE_PROV))))

/-- The first DRAIN_DONE of a kind that waits at the service-port NI of a die, and the rest. -/
def Fab.takeDone (f : Fab) (d kind : Nat) : Fab × Option Packet :=
  let is (v : Nat × Packet) : Bool := mcOf v.2 == 7 && opcOf v.2 == opcDrainDone && hdr v.2 128 1 == kind
  let x := f.tile (spTile d)
  (f.modTile (spTile d) (fun x => { x with ej1 := { x.ej1 with arr := dropFirst is x.ej1.arr } }),
    (x.ej1.arr.find? is).map (·.2))

/-- An acknowledgement of a LENS_INV is counted (R228). -/
def Fab.ackTaken (f : Fab) (d : Nat) (p : Packet) : Fab :=
  (if f.bind.cst = .armed ∧ hdr p 137 8 = (f.bind.seq + 1) % 256 then
    f.modCopy d (fun c => { c with acks := if c.acks.contains (srcTile p) then c.acks else srcTile p :: c.acks })
  else f).ackJudge

/-- LENS_ACK_RECEIVE (R69, R228): the FAM control of die `d` counts an acknowledgement; when every die has loaded T and
all are in, the operation ends OK. `hck` is what HCHK finds on the packet. -/
def execLensAckReceive : Nat × Lchk → State → Host.Outcome State Fault Refusal
  | (d, hck), s => .next (s.onFab (fun f =>
    match f.takeDone d 1 with
    | (f, none) => f
    | (f, some p) =>
      match f.spArrives d p hck with
      | (f, false) => f
      | (f, true) => f.ackTaken d p))

/-! ## Judgement and effect (R229, R230, R235) -/

/-- The commit is abandoned on every die (R229). -/
def Fab.abandonCommit (f : Fab) : Fab :=
  let tm := f.bind.t
  let f := (List.range 4).foldl (fun f d =>
    let failed := (f.copyOf d).t != some tm
    let f := f.raise (famKey .die d) 2 (b2n failed) (tm / 65536) 0
    let f := f.modCopy d (fun c => { c with t := none, acks := [] })
    if f.dieLive d then f.lensAll d 0 else f) f
  (f.endCommitOp cTimeout).modBind (fun b => { b with cst := .opened, judged := false, tkt := none })

/-- Fences the NIs of a die that have not acknowledged (R229). -/
def Fab.fenceMissing (f : Fab) (d : Nat) : Fab :=
  match f.missing d with
  | [] => f
  | t :: ts =>
    let f := (t :: ts).foldl (fun f u =>
      (f.modNi u (fun n => { n with fenceAck := true })).portBecomesGone u 1) f
    (f.raise (famKey .die d) 1 (t + (ts.length + 1) * 2 ^ 8) (f.bind.t / 65536) 0).bump .inst 0 O.LENS_ACK_FENCED 0
      (ts.length + 1)

/-- COMMIT_JUDGE (R229): at T minus 5 µs the commit is abandoned, or the NIs that have not acknowledged are fenced and
it proceeds. -/
def execCommitJudge (s : State) : Host.Outcome State Fault Refusal :=
  .next (s.onFab (fun f =>
    if f.bind.cst ≠ .armed ∨ f.bind.judged = true ∨ f.dieTime 0 + us 5 < f.bind.t then f
    else if (List.range 4).any (fun d => (f.copyOf d).t != some f.bind.t) then f.abandonCommit
    else
      let f := (List.range 4).foldl (fun f d => f.fenceMissing d) f
      (f.endCommitOp cOk).modBind (fun b => { b with judged := true })))

/-- Parked requests of an edge NI that were last looked up before T are looked up again at the commit (R235); `bad` lists
the words of the die's copy that have an uncorrectable error (R210). -/
def Fab.relook (f : Fab) (t tm : Nat) (bad : List (Nat × Nat)) : Fab :=
  let n := f.ni t
  let old (s : Staged) : Bool := decide (s.look < tm)
  let all := (n.holdQ.filter old).map (fun s => (s, (none : Option Nat))) ++ (n.waitH.filter old).map (fun s => (s, some s.mc))
  let f := f.modNi t (fun n => { n with
    holdQ := n.holdQ.filter (fun s => !old s), waitH := n.waitH.filter (fun s => !old s) })
  all.foldl (fun f sg =>
    let s := { sg.1 with look := tm }
    let az := accessSpan s.pkt (pktExtent s.pkt)
    let ls := (granules f.gBits az.1 az.2).map (fun i => f.famLook (dieOf t) tm (memberOf t) i)
    let f := (f.bumpT t O.LENS_MISS).event t 0x25 0
    match famBad bad ls with
    | some info => ((f.famUe (dieOf t) info).bumpT t O.ABSENT_CNT).poisonAnswer t s sg.2 (answerSc s.pkt)
    | none => f.famDecide t s sg.2 ls) f

/-- What the code of a hold queue finds on its oldest request as it is read (R583): poisoned data, or the request is
discarded and its tag returns. -/
def Fab.holdError (f : Fab) (t : Nat) (e : Ecc) : Fab :=
  match (f.ni t).holdQ, e with
  | s :: rest, .dataUe i a => (f.raiseT t 17 (3 + (a % 2 ^ 20) * 8) 0 0).modNi t (fun n => { n with
      holdQ := { s with pkt := modAt s.pkt i (fun x => { x with psn := true }) } :: rest })
  | s :: rest, .headerUe a => ((f.raiseT t 17 (3 + (a % 2 ^ 20) * 8) 0 0).modNi t (fun n => { n with
      holdQ := rest })).freeTag t (tagOf s.pkt)
  | _, _ => f

/-- The commit takes effect at the copy of a die whose time has reached T (R230): its overlay becomes visible, and drains.
The copy of a die that does not run follows the commit of the others. -/
def Fab.takeCopy (f : Fab) (d tm : Nat) : Fab :=
  if (f.copyOf d).t == some tm && (decide (tm ≤ f.dieTime d) || !f.dieLive d) then
    f.modCopy d (fun c =>
      let c := c.drain.foldl FamCopy.apply c
      { c with drain := c.ovl, ovl := [], t := none, acks := [] })
  else f

/-- Whether an edge NI serves lookups, so that a commit takes effect there. -/
def Fab.niRuns (f : Fab) (t : Nat) : Bool := (f.tile t).st == .t0 || (f.tile t).st == .t1
/-- Whether the commit at T has taken effect at an edge NI: its lens is cleared and its parked requests are looked up. -/
def Fab.niTook (f : Fab) (t tm : Nat) : Bool :=
  !f.niRuns t || (decide (tm ≤ (f.ni t).commitT)
    && ((f.ni t).holdQ ++ (f.ni t).waitH).all (fun s => decide (tm ≤ s.look)))

/-- The words with an uncorrectable error in the copy of one die, out of a list that names the die of each. -/
def badOf (bad : List (Nat × Nat × Nat)) (d : Nat) : List (Nat × Nat) :=
  (bad.filter (fun b => b.1 == d)).map (·.2)

/-- The commit takes effect at an edge NI whose time has reached T (R209, R230, R235). -/
def Fab.takeNi (f : Fab) (t tm : Nat) (bad : List (Nat × Nat)) : Fab :=
  if f.niTook t tm || decide (f.time t < tm) then f
  else (f.modNi t (fun n => if n.commitT < tm then { n.lensClear with commitT := tm, lensT := none } else n)).relook t tm
    bad

/-- The commit takes effect at a service-port NI whose time has reached T (R230, R235). -/
def Fab.takeSp (f : Fab) (d tm : Nat) (bad : List (Nat × Nat)) : Fab :=
  if (f.spOf d).lensT == some tm && decide (tm ≤ f.time (spTile d)) then
    (f.modSp d (fun n => { n with lensT := none })).spRelook d bad
  else f

/-- Whether the commit at T has taken effect at every copy and every NI. -/
def Fab.commitTook (f : Fab) (tm : Nat) : Bool :=
  (List.range 4).all (fun d => (f.copyOf d).t != some tm && ((f.spOf d).lensT != some tm || f.tileOut (spTile d)))
    && (List.range 256).all (fun t => f.niTook t tm)

/-- The end of a commit (R191, R230): it has taken effect at every copy and every NI. -/
def Fab.commitEnd (f : Fab) (tm : Nat) : Fab :=
  (f.modBind (fun b => { b with
    cst := .idle, stage := [], judged := false, tkt := none, last := tm, seq := (b.seq + 1) % 256,
    granLocked := true })).configChange

/-- COMMIT_TAKE_EFFECT (R191, R230, R430): the commit takes effect at each copy and each NI whose own Lantern time has
reached T, where the lens clears and parked requests are looked up again; it ends when it has taken effect at all. `e` is
what the code of tile `u`'s hold queue finds on its oldest request; `bad` lists the words of the copies, by die, table and
element, in which these lookups meet an uncorrectable error (R210). -/
def execCommitTakeEffect : Nat → Ecc × List (Nat × Nat × Nat) → State → Host.Outcome State Fault Refusal
  | u, (e, bad), s => .next (s.onFab (fun f =>
    let tm := f.bind.t
    if f.bind.cst ≠ .armed ∨ f.bind.judged = false then f
    else
      let f := (List.range 4).foldl (fun f d => f.takeCopy d tm) f
      let f := if f.niTook u tm || decide (f.time u < tm) then f else f.holdError u e
      let f := (List.range 256).foldl (fun f t => f.takeNi t tm (badOf bad (dieOf t))) f
      let f := (List.range 4).foldl (fun f d => f.takeSp d tm (badOf bad d)) f
      if f.commitTook tm then f.commitEnd tm else f))

/-- OVERLAY_DRAIN_DONE (R230): the committed overlay of die `d` has drained into its banks. -/
def execOverlayDrainDone (d : Nat) (s : State) : Host.Outcome State Fault Refusal :=
  .next (s.onFab (fun f => f.modCopy d (fun c => { c.drain.foldl FamCopy.apply c with drain := [] })))

/-- A write of STAGE_CLEAR (R226, R233). -/
def Fab.wStageClear (f : Fab) (v : Nat) : Fab × Nat :=
  if f.sealed || f.bind.cst == .armed then (f, cDenied)
  else if v = 0 then (f, cOk)
  else
    let f := f.modBind (fun b => { b with stage := [], cst := .idle })
    ((List.range 4).foldl (fun f d => f.modCopy d (fun c => { c with ovl := [] })) f, cOk)

/-- STAGE_CLEAR_WRITE (R233). -/
def execStageClearWrite (who v : Nat) (s : State) : Host.Outcome State Fault Refusal :=
  .next (s.onFab (fun f => Fab.done (f.wStageClear v) who))

/-! ## Drains (R238 to R241) -/

/-- The tags of a table that are outstanding towards a tile, in either slot (R238). -/
def tagsTowards (m : SMap Tag) (d : Nat) : List Nat :=
  (m.filter (fun kv => kv.2.st == .out && (kv.2.tgt.map (·.1) == some d))).map (·.1)

/-- Marks tags of a table. -/
def markTags (m : SMap Tag) (d : Nat) : SMap Tag :=
  m.map (fun kv => if kv.2.st == .out && (kv.2.tgt.map (·.1) == some d) then (kv.1, { kv.2 with mark := true }) else kv)

/-- How many marked tags of a table are still outstanding. -/
def markedOut (m : SMap Tag) : Nat := (m.filter (fun kv => kv.2.mark && kv.2.st == .out)).length

/-- The drain ends when all 260 NIs have reported (R241). -/
def Fab.drainJudge (f : Fab) : Fab :=
  if f.bind.dst ≠ .running then f
  else
    let late := (List.range 256).filter (fun t => f.excused t && !f.bind.rep.contains t)
    let lateSp := (List.range 4).filter (fun d => f.excused (spTile d) && !f.bind.rep.contains (256 + d))
    let rep := f.bind.rep ++ late ++ lateSp.map (· + 256)
    f.modBind (fun b => { b with rep := rep, dst := if 260 ≤ rep.length then .done else .running })

/-- An NI has reported (R241). -/
def Fab.drainReported (f : Fab) (ni expired : Nat) : Fab :=
  if f.bind.dst ≠ .running ∨ f.bind.rep.contains ni then f.drainJudge
  else (f.modBind (fun b => { b with rep := b.rep ++ [ni], exp := b.exp + expired })).drainJudge

/-- The service-port NI of a die sends DRAIN_MARK of the running drain to an edge NI of its die (R239). -/
def Fab.sendMark (f : Fab) (t : Nat) : Fab :=
  f.joinLast (.sp (dieOf t)) 0 (mkControl t 0 (spTile (dieOf t)) 1 opcDrainMark (f.o .sp (dieOf t) O.SP_PROV 0)
    (f.bind.dtile + f.bind.dseq * 2 ^ 8))

/-- What the FAM control of a die sends again after a reset that may have taken its packets (R232): the mark of a running
drain, to the NIs that have not reported, and the LENS_INV of an armed commit that is not judged, to those that have not
acknowledged. The spec does not say how a reset leaves them undisturbed (DESIGN CHOICE, log 79). -/
def Fab.famResend (f : Fab) (d : Nat) : Fab :=
  let f := if f.bind.dst = .running then
      ((tilesOfDie d).filter (fun t => !f.bind.rep.contains t)).foldl (fun f t => f.sendMark t) f
    else f
  if f.bind.cst = .armed ∧ f.bind.judged = false then (f.missing d).foldl (fun f t => f.sendLensInv t f.bind.t) f else f

/-- A write of DRAIN (R239). -/
def Fab.wDrain (f : Fab) (d : Nat) : Fab × Nat :=
  if f.bind.dst = .running ∨ f.bind.cst = .armed then (f, cDenied)
  else
    let f := f.modBind (fun b => { b with
      dst := .running, dtile := d, dseq := (b.dseq + 1) % 256, rep := [], exp := 0 })
    let f := f.drainJudge
    let f := (List.range 256).foldl (fun f t => f.sendMark t) f
    let f := (List.range 4).foldl (fun f e =>
      let n := (tagsTowards (f.spOf e).tags d).length
      let f := f.modSp e (fun x => { x with tags := markTags x.tags d, drain := some ⟨d, f.bind.dseq, n, 0⟩ })
      if n = 0 then (f.modSp e (fun x => { x with drain := none })).drainReported (256 + e) 0 else f) f
    (f, cOk)

/-- DRAIN_WRITE (R239). -/
def execDrainWrite (who d : Nat) (s : State) : Host.Outcome State Fault Refusal :=
  .next (s.onFab (fun f => Fab.done (f.wDrain (d % 256)) who))

/-- An edge NI sends its drain report (R240). -/
def Fab.sendReport (f : Fab) (t : Nat) (d : DrainMark) : Fab :=
  (f.modNi t (fun n => { n with drain := none })).niSend t
    (drainDone t 0 d.tile d.seq d.marked d.expired (f.oT t O.EDGE_PROV))

/-- A DRAIN_MARK reaches an edge NI (R240): the tags outstanding towards the tile are marked; a count of zero reports at
once. A mark that the NI has already is not taken twice. -/
def Fab.takeMark (f : Fab) (t d seq : Nat) : Fab :=
  if (f.ni t).drain.any (fun m => m.seq == seq) then f
  else
    let n := (tagsTowards (f.ni t).tags d).length
    let m : DrainMark := ⟨d, seq, n, 0⟩
    let f := f.modNi t (fun x => { x with tags := markTags x.tags d, drain := some m })
    if n = 0 then f.sendReport t m else f

/-- DRAIN_MARK_RECEIVE (R240). -/
def execDrainMarkReceive (t : Nat) (s : State) : Host.Outcome State Fault Refusal :=
  .next (s.onFab (fun f =>
    match (f.ni t).firstCtl opcDrainMark with
    | none => f
    | some p => (f.takeCtl t opcDrainMark).takeMark t (hdr p 128 8) (hdr p 136 8)))

/-- DRAIN_REPORT (R240): an edge NI, or the service-port NI of a die when `sp`, whose marked tags have all been freed or
quarantined reports. -/
def execDrainReport (sp : Bool) (n : Nat) (s : State) : Host.Outcome State Fault Refusal :=
  .next (s.onFab (fun f =>
    if sp then
      match (f.spOf n).drain with
      | some d =>
        if markedOut (f.spOf n).tags = 0 then
          (f.modSp n (fun x => { x with drain := none })).drainReported (256 + n) d.expired
        else f
      | none => f
    else
      match (f.ni n).drain with
      | some d => if markedOut (f.ni n).tags = 0 then f.sendReport n d else f
      | none => f))

/-- NIs of a tile have come to owe nothing: a drain and a commit operation may end (R228, R241). -/
def Fab.oweLess (f : Fab) : Fab := f.drainJudge.ackJudge

/-- DRAIN_DONE_RECEIVE (R69, R241): the FAM control of die `d` counts a report. `hck` is what HCHK finds on the packet. -/
def execDrainDoneReceive : Nat × Lchk → State → Host.Outcome State Fault Refusal
  | (d, hck), s => .next (s.onFab (fun f =>
    match f.takeDone d 0 with
    | (f, none) => f.drainJudge
    | (f, some p) =>
      match f.spArrives d p hck with
      | (f, false) => f
      | (f, true) => if hdr p 137 8 = f.bind.dseq then f.drainReported (srcTile p) (hdr p 157 12) else f))

/-- A write of VIOL_CLEAR (R215). -/
def Fab.wViolClear (f : Fab) (sc : Scope) (num v : Nat) : Fab × Nat :=
  if v = 0 then (f, cOk)
  else (((((f.setO sc num O.VIOL_ADDR 1 0).setO sc num O.VIOL_KIND 2 0).setO sc num O.VIOL_MASTER 3 0).setO sc num
    O.VIOL_REGION 4 0).setO sc num O.VIOL_FLAGS 5 0, cOk)

/-- VIOL_CLEAR_WRITE (R215), in TILE, SP or DIE scope. -/
def execViolClearWrite (who : Nat) (sc : Scope) (num v : Nat) (s : State) : Host.Outcome State Fault Refusal :=
  .next (s.onFab (fun f =>
    if (sc = .tile ∨ sc = .sp ∨ sc = .die) ∧ num < sc.count then Fab.done (f.wViolClear sc num v) who
    else f.answer who cNoObject))

end Sys2Proof.Machine
end

