-- ==== Sys2Proof/Machine/ServicePort.lean ====
section
/-! DEFINITION. ServicePort: the commands of a service port (R256 to R292). -/

namespace Sys2Proof.Machine

/-! ## Streams -/

/-- SPd_DN_HOLD (R256, R259): the NI takes no message from its down buffer. It is low while SPd_RST_N is low; in the other
resets that include the NI no cause of it stands. -/
def Sp.hold (n : Sp) : Bool := n.rstN && (n.exc != .idle || n.pdReq || n.fence)

/-- Whether a service-port NI is in reset (R290): SPd_RST_N is low, or its tile is in reset or unpowered. -/
def Fab.spInReset (f : Fab) (d : Nat) : Bool := !(f.spOf d).rstN || f.tileOut (spTile d)

/-- A parity word of nine bits (R257), as SPd_UP_PAR carries it. -/
def spParity (w : Nat) : Nat :=
  (List.range 9).foldl (fun a k => a + popcount (field w (16 * k) 16) 16 % 2 * 2 ^ k) 0

/-- SP_MALFORMED (R261, R580). -/
def Fab.spMalformed (f : Fab) (d op rid reason addr : Nat) : Fab :=
  f.raise (famKey .sp d) 0 (op + rid * 2 ^ 4 + reason * 2 ^ 12) addr 0

/-- SP_DOWN_WORD (R257, R259): a word that the CPU side presents against a credit is parity-checked into the down
buffer. A data word of a refused message is dropped; one that follows a message already taken breaks R262. -/
def execSpDownWord (d : Nat) (head : Bool) (w par : Nat) (s : State) : Host.Outcome State Fault Refusal :=
  .next (s.onFab (fun f =>
    let n := f.spOf d
    let w := w % 2 ^ 144
    if !n.ready || n.dnCred == 0 then f
    else if head then
      f.modSp d (fun n => { n with dn := n.dn ++ [⟨true, w, spParityOk w par⟩], skip := false, dnCred := n.dnCred - 1 })
    else if n.skip then f
    else if n.dn.isEmpty then (f.modSp d (fun n => { n with skip := true })).spMalformed d 0 0 7 0
    else f.modSp d (fun n => { n with dn := n.dn ++ [⟨false, w, spParityOk w par⟩], dnCred := n.dnCred - 1 })))

/-- SP_UP_CREDIT (R259). -/
def execSpUpCredit (d : Nat) (s : State) : Host.Outcome State Fault Refusal :=
  .next (s.onFab (fun f => if (f.spOf d).ready then f.modSp d (fun n => { n with upCred := n.upCred + 1 }) else f))

/-- SP_RESPONSE_SEND (R259, R263): the oldest response message is presented when credits cover every word. One request
of its RID is answered, and the refusals that waited for it follow (R261). -/
def execSpResponseSend (d : Nat) (s : State) : Host.Outcome State Fault Refusal :=
  .next (s.onFab (fun f =>
    match (f.spOf d).up with
    | [] => f
    | m :: rest =>
      if (f.spOf d).upCred < m.size then f
      else f.modSp d (fun n =>
        { n with
          upCred := n.upCred - m.size, upOut := m.toWords
          rids := n.rids.erase m.rid
          up := rest ++ n.dup.filter (fun x => x.rid == m.rid)
          dup := n.dup.filter (fun x => x.rid != m.rid) })))

/-! ## Taking messages -/

/-- Whether the head word alone refuses its message (R261). -/
def headRefused (rids : List Nat) (h : SpWord) : Bool :=
  match spRefusal rids h [] with | some k => decide (k < 7) || !h.ok | none => false

/-- A message is refused (R261). Its RID names a request until it is answered, and the answer waits for that of an earlier
request with the RID. -/
def Fab.spRefuse (f : Fab) (d : Nat) (h : SpHead) (reason : Nat) : Fab :=
  let again := (f.spOf d).rids.contains h.rid
  let m : SpMsg := ⟨h.rid, spKind h.op, 3, [], again⟩
  (f.modSp d (fun n =>
    let n := { n with rids := h.rid :: n.rids }
    if again then { n with dup := n.dup ++ [m] } else { n with up := n.up ++ [m] })).spMalformed d h.op h.rid reason
      h.addr

/-- Takes the message at the front of the down buffer when its operation is one of `is` and `may` lets it be taken now:
its words leave the buffer and return their credits; a message that R261 refuses is answered, and any other goes to
`go` with its write data and its place in program order. -/
def Fab.spTake (f : Fab) (d : Nat) (is : Nat → Bool) (may : SpHead → Nat → Bool) (go : Fab → SpHead → Nat → Nat → Fab) :
    Fab :=
  let n := f.spOf d
  match spFront n.dn with
  | none => f
  | some (hw, data, more, whole) =>
    let h := SpHead.ofWord hw.w
    let bad := spRefusal n.rids hw data
    let v := spWriteData h.addr h.bytes data
    if !n.ready || n.hold || !is h.op || !(whole || headRefused n.rids hw) then f
    else if bad.isNone && !may h v then f
    else
      let f := f.modSp d (fun n => { n with
        dn := more, dnCred := n.dnCred + 1 + data.length, skip := bad.isSome && more.isEmpty })
      match bad with
      | some reason => f.spRefuse d h reason
      | none => go (f.modSp d (fun n => { n with rids := h.rid :: n.rids, seq := n.seq + 1 })) h v n.seq

/-- A new access stands in program order. -/
def Fab.spStand (f : Fab) (d : Nat) (a : SpAcc) : Fab :=
  (f.modSp d (fun n => { n with acc := n.acc ++ [a] })).wakeEntries d

/-- A new access stands in program order, and goes at once when its conditions hold. `bad` lists the words of the FAM copy
in which its lookups meet an uncorrectable error (R210). -/
def Fab.spAccess (f : Fab) (d : Nat) (bad : List (Nat × Nat)) (rid : Option Nat) (op addr bytes stream data seq : Nat) :
    Fab :=
  let a : SpAcc := ⟨rid, op, addr, bytes, stream, data, seq, .waiting, none, false, none⟩
  let f := f.spStand d a
  (f.tryAcc d bad a).getD f

/-- SP_LD (R260 to R263, R271 to R274, R278). -/
def execSpLd : Nat × List (Nat × Nat) → State → Host.Outcome State Fault Refusal
  | (d, bad), s => .next (s.onFab (fun f => f.spTake d (· == 0) (fun _ _ => true)
    (fun f h v q => f.spAccess d bad (some h.rid) 0 h.addr h.bytes h.stream v q)))

/-- Whether a store may be taken: a NORMAL store that could enter the posted-write buffer but for its being full stays
in the down buffer (R275). -/
def Fab.storeMay (f : Fab) (d : Nat) (h : SpHead) (v : Nat) : Bool :=
  let a : SpAcc := ⟨some h.rid, 1, h.addr, h.bytes, h.stream, v, (f.spOf d).seq, .waiting, none, false, none⟩
  f.spDevice d h.stream h.addr || f.spHeld d h.addr || f.spBlocked d h.stream a.seq true || f.mayBuffer d a

/-- SP_ST (R275, R276). -/
def execSpSt : Nat × List (Nat × Nat) → State → Host.Outcome State Fault Refusal
  | (d, bad), s => .next (s.onFab (fun f => f.spTake d (· == 1) (fun h v => f.storeMay d h v)
    (fun f h v q => f.spAccess d bad (some h.rid) 1 h.addr h.bytes h.stream v q)))

/-- SP_XLD (R266, R286). -/
def execSpXld : Nat × List (Nat × Nat) → State → Host.Outcome State Fault Refusal
  | (d, bad), s => .next (s.onFab (fun f => f.spTake d (· == 2) (fun _ _ => true)
    (fun f h v q => f.spAccess d bad (some h.rid) 2 h.addr h.bytes h.stream v q)))

/-- SP_XST (R266, R280, R287). -/
def execSpXst : Nat × List (Nat × Nat) → State → Host.Outcome State Fault Refusal
  | (d, bad), s => .next (s.onFab (fun f => f.spTake d (· == 3) (fun _ _ => true)
    (fun f h v q => f.spAccess d bad (some h.rid) 3 h.addr h.bytes h.stream v q)))

/-- A barrier is taken (R281): SB and FB make the entries of their identifier eligible (R280). -/
def Fab.spBarrier (f : Fab) (d op : Nat) (h : SpHead) (seq : Nat) : Fab :=
  let f := f.modSp d (fun n => { n with bar := n.bar ++ [⟨h.rid, op, h.stream, seq⟩] })
  if op = 4 then f else f.makeEligible d (fun e => e.stream == h.stream)

/-- SP_LB (R281). -/
def execSpLb (d : Nat) (s : State) : Host.Outcome State Fault Refusal :=
  .next (s.onFab (fun f => f.spTake d (· == 4) (fun _ _ => true) (fun f h _ q => f.spBarrier d 4 h q)))

/-- SP_SB (R281). -/
def execSpSb (d : Nat) (s : State) : Host.Outcome State Fault Refusal :=
  .next (s.onFab (fun f => f.spTake d (· == 5) (fun _ _ => true) (fun f h _ q => f.spBarrier d 5 h q)))

/-- SP_FB (R281). -/
def execSpFb (d : Nat) (s : State) : Host.Outcome State Fault Refusal :=
  .next (s.onFab (fun f => f.spTake d (· == 6) (fun _ _ => true) (fun f h _ q => f.spBarrier d 6 h q)))

/-- SP_RESERVED_OP (R261): every such message is refused. -/
def execSpReservedOp (d : Nat) (s : State) : Host.Outcome State Fault Refusal :=
  .next (s.onFab (fun f => f.spTake d (fun op => decide (7 ≤ op)) (fun _ _ => true) (fun f _ _ _ => f)))

/-- SP_ACCESS_SEND (R271): the oldest access whose ordering conditions have come to hold goes. -/
def execSpAccessSend : Nat × List (Nat × Nat) → State → Host.Outcome State Fault Refusal
  | (d, bad), s => .next (s.onFab (fun f => f.spAdvance d bad))

/-- PWB_MERGE_HOLD_EXPIRY (R277): the oldest entry that waits out SP_MERGE_HOLD becomes eligible, and is sent when its
ordering conditions hold. -/
def execPwbMergeHoldExpiry : Nat × List (Nat × Nat) → State → Host.Outcome State Fault Refusal
  | (d, bad), s => .next (s.onFab (fun f =>
    match (f.spOf d).pwb.find? (fun e => !e.elig && e.tag.isNone) with
    | none => f
    | some e =>
      let f := f.setEnt d { e with elig := true }
      (f.tryEnt d bad { e with elig := true }).getD f))

/-! ## Responses and barriers -/

/-- The first response packet that waits at the NI. -/
def Fab.spTakeRsp (f : Fab) (d : Nat) : Fab × Option Packet :=
  let is (v : Nat × Packet) : Bool := mcOf v.2 != 7
  let x := f.tile (spTile d)
  (f.modTile (spTile d) (fun x => { x with ej1 := { x.ej1 with arr := dropFirst is x.ej1.arr } }),
    (x.ej1.arr.find? is).map (·.2))

/-- An accepted response completes its access or its buffered store (R267, R270, R279): a response message waits for
the egress scheduler, while a buffered store leaves the buffer. -/
def Fab.spAccept (f : Fab) (d k : Nat) (x : Tag) (p : Packet) : Fab :=
  let r := spResult p
  match (f.spOf d).accOf k, (f.spOf d).entOf k with
  | some a, _ =>
    let data := bodyNat p
    let f := f.modSp d (fun n => { n with acc := n.acc.filter (fun y => y.seq != a.seq) })
    (match a.rid with
    | none => (f.setSpTag d k Tag.reset).modSp d (fun n => { n with warden := some (r, data % 2 ^ (8 * a.bytes)) })
    | some _ =>
      let f := f.setSpTag d k { x with parts := some 1, got := [(mcOf p, opcOf p)] }
      let f := f.modSp d (fun n => { n with msgs := SMap.insert n.msgs k (a, a.msg r data) })
      f.joinLast (.sp d) 1 p)
  | none, some e =>
    let f := (f.setSpTag d k Tag.reset).dropEnt d e
    if r = 1 then f.storeFault d e 0 else f
  | none, none => f.setSpTag d k Tag.reset

/-- A stray response at a service-port NI (R82): discarded, counted in its tile, and raised in the port's family. -/
def Fab.spStray (f : Fab) (d : Nat) (p : Packet) (kind : Nat) : Fab :=
  (f.bumpT (spTile d) O.EDGE_STRAY_CNT).raise (famKey .sp d) 3 (header p % 2 ^ 64) (header p / 2 ^ 64) kind

/-- SP_RESPONSE_ARRIVE (R69, R82, R122, R270): the oldest response packet at the NI is checked and judged. `hck` is what
HCHK finds. -/
def execSpResponseArrive (d : Nat) (hck : Lchk) (s : State) : Host.Outcome State Fault Refusal :=
  .next (s.onFab (fun f =>
    if f.spInReset d then f
    else match f.spTakeRsp d with
    | (f, none) => f
    | (f, some p) =>
      match f.spArrives d p hck with
      | (f, false) => f
      | (f, true) =>
        let k := tagOf p
        let x := f.spTag d k
        if 256 ≤ k ∨ x.awaits = false then f.spStray d p 0
        else if x.tgt ≠ some (srcTile p, srcSlot p) then f.spStray d p 1
        else (f.spAccept d k x p).hopRecord (spTile d) 2 7 7 false 0 0 p))

/-- Whether a barrier's condition holds (R281). -/
def Sp.barrierHolds (n : Sp) (b : SpBar) : Bool :=
  let before := n.before b.stream b.seq
  (b.op == 5 || !before.any (fun a => !opStore a.op))
    && (b.op == 4 || (!before.any (fun a => opStore a.op) && !n.pwb.any (fun e => e.stream == b.stream)))

/-- SP_BARRIER_ACK (R281): the oldest barrier whose condition holds is acknowledged. -/
def execSpBarrierAck (d : Nat) (s : State) : Host.Outcome State Fault Refusal :=
  .next (s.onFab (fun f =>
    match (f.spOf d).bar.find? (fun b => (f.spOf d).barrierHolds b) with
    | none => f
    | some b =>
      ((f.modSp d (fun n => { n with bar := n.bar.filter (fun x => x.seq != b.seq) })).spAnswer d
        ⟨b.rid, 1, 0, [], false⟩).bump .sp d O.SP_BARRIER_CNT 0))

/-! ## Exception drain, reset, power-down (R289 to R292) -/

/-- SPd_EXC_REQ is sampled high (R289): the down stream is held, and every buffered entry becomes eligible. -/
def Fab.excStart (f : Fab) (d : Nat) : Fab :=
  (f.modSp d (fun n => { n with exc := .draining, excWait := n.pwb.map (·.seq) })).makeEligible d (fun _ => true)
/-- A NI that leaves reset samples SPd_EXC_REQ (R289). -/
def Fab.excSample (f : Fab) (d : Nat) : Fab := if (f.spOf d).excReq then f.excStart d else f

/-- SP_EXC_REQ_RISE (R289): a NI in reset does not sample it. -/
def execSpExcReqRise (d : Nat) (s : State) : Host.Outcome State Fault Refusal :=
  .next (s.onFab (fun f =>
    if (f.spOf d).excReq then f
    else
      let f := f.modSp d (fun n => { n with excReq := true })
      if f.spInReset d then f else f.excStart d))

/-- SP_EXC_ACK (R289): every store buffered at the request is complete. -/
def execSpExcAck (d : Nat) (s : State) : Host.Outcome State Fault Refusal :=
  .next (s.onFab (fun f =>
    let n := f.spOf d
    if n.exc == .draining && n.excReq && !n.pwb.any (fun e => n.excWait.contains e.seq) then
      f.modSp d (fun n => { n with exc := .acked, excWait := [] })
    else f))

/-- SP_EXC_REQ_FALL (R289): a handshake that was acknowledged is complete and is counted. -/
def execSpExcReqFall (d : Nat) (s : State) : Host.Outcome State Fault Refusal :=
  .next (s.onFab (fun f =>
    let n := f.spOf d
    if !n.excReq then f
    else
      let f := if n.exc = .acked then f.bump .sp d O.SP_EXC_DRAINS 0 else f
      f.modSp d (fun n => { n with excReq := false, exc := .idle, excWait := [] })))

/-- The packets of the FAM control, which the reset of the port leaves in the injection queues. -/
def keepControl (x : Sched) : SMap (List QPkt) :=
  (x.q.map (fun kv => (kv.1, kv.2.filter (fun e => mcOf e.pkt == 7)))).filter (fun kv => !kv.2.isEmpty)

/-- A service-port NI is reset (R290, R333): buffered stores are discarded into STORES_LOST, every word, access and
barrier with them. -/
def Fab.spReset (f : Fab) (d : Nat) : Fab :=
  let n := f.spOf d
  let f := f.bump .sp d O.STORES_LOST 0 n.pwb.length
  let f := f.dropObjs (fun k => keyScope k == Scope.sp.code && keyNum k == d && keyIdx k / 256 == 0x22)
  f.modSp d (fun n => { Sp.reset with
    rstN := n.rstN, ready := false, dnCred := 0, excReq := n.excReq, fence := n.fence, lensT := n.lensT, drain := n.drain,
    histAt := n.histAt, inj := { Sched.reset with q := keepControl n.inj, seq := n.inj.seq } })

/-- VCs of MC7: in the slot of a service port they carry the traffic of the die's FAM control (R224, R231, R241), which
SPd_RST_N does not reset. -/
def vcControl (vc : Nat) : Bool := vc / 2 == 7

/-- What the tile does as the service-port NI in its slot 1 is reset while it is not (R121): flits sent to the NI are
abandoned, the rest of the packets in passage to it is discarded, packets that it cut short are closed, and the credits of
both directions load again. The slot acknowledges at once, since the FAM control keeps it (DESIGN CHOICE, log 78). -/
def Fab.slotReset (f : Fab) (t : Nat) : Fab :=
  let hit := (f.tile t).rin.filter (fun kv =>
    match kv.2.route with | some (q, ov) => q == pSlot1 && !vcControl ov | none => false)
  let f := hit.foldl (fun f kv => f.modIn t (kv.1 / 16) (kv.1 % 16) (fun v => { v with sink := true })) f
  let load (c : List Nat) : List Nat := (List.range 16).map (fun vc => if vcControl vc then c.getD vc 0 else 4)
  let free (l : List Bool) : List Bool := (List.range 16).map (fun vc => vcControl vc && l.getD vc false)
  let fresh (o : OutPort) : OutPort := if o.owed then o else { o with cred := load o.cred, held := free o.held }
  let f := (f.modOut t pSlot1 fresh).modOut t sndUnit fresh
  let keep (l : List Nat) : List Nat := l.filter vcControl
  let f := f.modTile t (fun x => { x with
    uprog := x.uprog.filter (fun kv => vcControl kv.1)
    ej1 := ⟨x.ej1.buf.filter (fun vf => vcControl vf.1), x.ej1.asm.filter (fun kv => vcControl kv.1),
      x.ej1.arr.filter (fun vp => mcOf vp.2 == 7)⟩
    cret := (x.cret.set (fun _ => []) pSlot1 (keep (x.cret.get (fun _ => []) pSlot1))).set (fun _ => []) sndUnit
      (keep (x.cret.get (fun _ => []) sndUnit)) })
  ((f.openVCs t pSlot1).filter (fun vc => !vcControl vc)).foldl (fun f vc => f.sendPhit t pSlot1 [(vc, fillerFlit)]) f

/-- SP_RESET (R121, R258, R290): SPd_RST_N goes low. -/
def execSpReset (d : Nat) (s : State) : Host.Outcome State Fault Refusal :=
  .next (s.onFab (fun f =>
    if !(f.spOf d).rstN then f
    else
      let f := if f.tileOut (spTile d) then f else (f.spReset d).slotReset (spTile d)
      f.modSp d (fun n => { n with rstN := false })))

/-- The wait of R291 begins: SP_REQ_TIMEOUT at its reset value. -/
def Fab.spWait (f : Fab) (d : Nat) : Fab :=
  f.modSp d (fun n => { n with noReq := some (f.runN (spTile d) + us (objDefault .sp d O.SP_REQ_TIMEOUT 0)) })

/-- A service-port NI leaves a reset (R291): after an instance reset it sends at once, and after any other it waits; it
samples SPd_EXC_REQ (R289). -/
def Fab.spLeave (f : Fab) (d : Nat) (inst : Bool) : Fab :=
  if f.spInReset d then f
  else
    let f := if inst then f.modSp d (fun n => { n with noReq := none, ready := true, dnCred := 32, upCred := 0 })
      else f.spWait d
    f.excSample d

/-- SP_RESET_RELEASE (R258, R291): SPd_RST_N rises. -/
def execSpResetRelease (d : Nat) (s : State) : Host.Outcome State Fault Refusal :=
  .next (s.onFab (fun f =>
    if (f.spOf d).rstN then f else (f.modSp d (fun n => { n with rstN := true })).spLeave d false))

/-- SP_REQUEST_RESUME (R291): SPd_READY rises and the down credits return (R259). -/
def execSpRequestResume (d : Nat) (s : State) : Host.Outcome State Fault Refusal :=
  .next (s.onFab (fun f =>
    match (f.spOf d).noReq with
    | some due =>
      if due ≤ f.runN (spTile d) ∧ f.spInReset d = false then
        f.modSp d (fun n => { n with noReq := none, ready := true, dnCred := 32, upCred := 0 })
      else f
    | none => f))

/-- A request to take the service port's tile below T1 (R292) holds the down stream and makes every entry eligible. -/
def Fab.spPowerDown (f : Fab) (d : Nat) : Fab :=
  (f.modSp d (fun n => { n with pdReq := true })).makeEligible d (fun _ => true)

/-- SP_POWER_DOWN_REQUEST (R292). A NI in reset drives its reset values, and no request stands there (R256). -/
def execSpPowerDownRequest (d : Nat) (s : State) : Host.Outcome State Fault Refusal :=
  .next (s.onFab (fun f => if f.spInReset d then f else f.spPowerDown d))

end Sys2Proof.Machine
end

