-- ==== Sys2Proof/Machine/Cycle.lean ====
section
/-! DEFINITION. Cycle: a QCLK cycle of a tile as a whole (SWITCH_ALLOCATION): its router's cycle (R109) and what its
schedulers do at the start of the next one (R88, R301, R307, R328). -/

namespace Sys2Proof.Machine

/-- The start of a cycle for the schedulers of an edge NI: a new selection is possible (R301), one more flit of the packet
being written to the EAP has gone, FLUSH holds begin (R88), buckets and gates are brought up to date and queues that have
become eligible wake (R307, R328). -/
def Fab.schedCycleNi (f : Fab) (t : Nat) : Fab :=
  let f := f.modNi t (fun n => { n with
    inj := { n.inj with picked := false }, egr := { n.egr with picked := false }, eRest := n.eRest - 1 })
  let f := f.beginFlush t
  (f.settleSched (.ni t) 0 (f.injectOk t)).settleSched (.ni t) 1 (fun _ mc e => f.egressOk t mc e)

/-- The start of a cycle for the schedulers of a service-port NI. -/
def Fab.schedCycleSp (f : Fab) (d : Nat) : Fab :=
  let f := f.modSp d (fun n => { n with
    inj := { n.inj with picked := false }, egr := { n.egr with picked := false } })
  (f.settleSched (.sp d) 0 (fun _ _ e => f.injectOkSp d e)).settleSched (.sp d) 1 (fun _ _ e => f.egressOkSp d e)

/-- The start of a cycle for every scheduler of a tile. -/
def Fab.schedCycle (f : Fab) (t : Nat) : Fab :=
  let f := f.schedCycleNi t
  match unit1 t with
  | .sp d => f.schedCycleSp d
  | _ => f

/-- SWITCH_ALLOCATION (R109): one QCLK cycle of tile `t`. `links` gives what LCHK shows at the transmit adapters of its seam
outputs (R375), at 2*port + slot; a slot that it does not name is clean. In T1 only the counters run (R593); without QCLK
there is no cycle. -/
def execSwitchAllocation : Nat × List (Nat × Lchk) → State → Host.Outcome State Fault Refusal
  | (t, links), s => .next (s.onFab (fun f =>
    if !f.qclkRuns t then f
    else match (f.tile t).st with
      | .t0 => (f.routerCycle t links).schedCycle t
      | .t1 => f.endCycle t
      | _ => f))

end Sys2Proof.Machine
end

