-- ==== Sys2Proof/Machine/Commons.lean ====
section
/-! DEFINITION. Commons: the commands of a Commons bank (R252, R283 to R288, R664). -/

namespace Sys2Proof.Machine

/-- Bytes of a reservation granule (R288, R295). -/
def Fab.resvGran (f : Fab) (n : Nat) : Nat := 64 * 2 ^ f.o .cmn n O.CMN_RESV_GRAN 0

/-- Flits and packets of the answer queue of a bank (R664). -/
def Tile.answerFlits (x : Tile) : Nat :=
  x.uout.foldl (fun a p => a + p.length) 0 + x.uprog.foldl (fun a kv => a + kv.2.pkt.length) 0
@[inherit_doc Tile.answerFlits]
def Tile.answerPkts (x : Tile) : Nat := x.uout.length + x.uprog.length

/-- The oldest packet at the slot-1 input of a bank, when the tile runs. -/
def Fab.cmnFront (f : Fab) (n : Nat) : Option Packet :=
  let t := cmnTile n
  if (f.tile t).st == .t0 then ((f.tile t).ej1.arr.head?).map (·.2) else none
/-- Takes it. -/
def Fab.cmnTake (f : Fab) (n : Nat) : Fab :=
  f.modTile (cmnTile n) (fun x => { x with ej1 := { x.ej1 with arr := x.ej1.arr.drop 1 } })

/-- Byte offset in the bank of a request's first byte. -/
def cmnOffset (p : Packet) : Nat := ((addrOf p * 64) + (if pktExtent p then boffOf p else 0)) % 2 ^ 19
/-- Bytes that a request addresses. -/
def cmnBytes (p : Packet) : Nat := if pktExtent p then bcntOf p else 64

/-- Whether an AG packet keeps the limits of R264. -/
def agLimits (p : Packet) : Bool :=
  if opcOf p = 0x11 then [1, 2, 4, 8].contains (bcntOf p) && boffOf p % (max 1 (bcntOf p)) == 0
  else decide (1 ≤ bcntOf p) && decide (bcntOf p ≤ 64) && decide (boffOf p + bcntOf p ≤ 64)

/-- The operations of a bank (R283). -/
inductive CmnOp where
  | read | write | xld | xst | unsupported
  deriving DecidableEq, Repr

/-- What a bank does with a packet (R264, R283). -/
def cmnOp (p : Packet) : CmnOp :=
  match mcOf p, opcOf p with
  | 0, 0x00 => .read
  | 0, 0x01 => .read
  | 0, 0x04 => .read
  | 0, 0x0D => .read
  | 1, 0x00 => .write
  | 1, 0x01 => .write
  | 1, 0x0D => .write
  | 0, 0x10 => if agLimits p then .read else .unsupported
  | 1, 0x10 => if agLimits p then .write else .unsupported
  | 0, 0x11 => if agLimits p then .xld else .unsupported
  | 1, 0x11 => if agLimits p then .xst else .unsupported
  | _, _ => .unsupported

/-- The answer that a bank gives a request (R283): its part, none for MEM_SPEC_RD. -/
def cmnPart (p : Packet) : Option Part :=
  match mcOf p, opcOf p with
  | 0, 0x00 => some ⟨3, 0x00, qual4 0, 0, 64⟩
  | 0, 0x01 => some ⟨3, 0x00, qual4 0, 0, 64⟩
  | 0, 0x0D => some ⟨3, 0x0C, 0, bcntOf p, bcntOf p⟩
  | 0, 0x10 => some ⟨3, 0x10, 0, 0, bcntOf p⟩
  | 0, 0x11 => some ⟨3, 0x10, 0, 0, bcntOf p⟩
  | 1, 0x00 => some ⟨2, 0x00, qual4 1, 0, 0⟩
  | 1, 0x01 => some ⟨2, 0x00, qual4 1, 0, 0⟩
  | 1, 0x0D => some ⟨2, 0x0C, 0, 0, 0⟩
  | 1, 0x10 => some ⟨2, 0x10, 0, 0, 0⟩
  | 1, 0x11 => some ⟨2, 0x10, 0, 0, 0⟩
  | _, _ => none

/-- Whether the answer queue has room for a whole answer of `flits` flits in `pkts` packets (R664). -/
def Fab.cmnRoom (f : Fab) (n flits pkts : Nat) : Bool :=
  let x := f.tile (cmnTile n)
  decide (x.answerFlits + flits ≤ 128) && decide (x.answerPkts + pkts ≤ 32)

/-- Answers of a bank enter its answer queue (R283, R663, R664). -/
def Fab.cmnAnswer (f : Fab) (n : Nat) (p : Packet) (status : Nat) (psn : Bool) (data : Nat) (parts : List Part) : Fab :=
  let ps := parts.map (fun a => mkAnswer p (cmnTile n, 1) (scOf p) 0 status parts.length psn a data)
  f.modTile (cmnTile n) (fun x => { x with uout := x.uout ++ ps })

/-- Performing an access: it is counted, its packet leaves the input, and a tagged one is recorded (R598, R608). -/
def Fab.cmnBegin (f : Fab) (n : Nat) (p : Packet) (ce : Nat) : Fab :=
  (((f.cmnTake n).event (cmnTile n) 0x40 0).bump .cmn n O.CMN_CE 0 ce).hopRecord (cmnTile n) 2 7 7 false 0 0 p

/-- CMN_UE (R284, R580). -/
def Fab.cmnUe (f : Fab) (n : Nat) (p : Packet) (off : Nat) (write : Bool) : Fab :=
  f.raise (famKey .cmn n) 0 (off % 2 ^ 19 + b2n write * 2 ^ 19) (srcTile p + srcSlot p * 2 ^ 8 + oidOf p * 2 ^ 9) 0

/-- The ordering identifier of a request holds this reservation. -/
def Resv.mine (r : Resv) (p : Packet) : Bool := r.tile == srcTile p && r.slot == srcSlot p && r.oid == oidOf p

/-- Reservations whose granule a write of `len` bytes at `off` touches are cleared (R288). -/
def Fab.clearResv (f : Fab) (n off len : Nat) : Fab :=
  let g := f.resvGran n
  f.modCmn n (fun c => { c with resv := c.resv.filter (fun r => !overlap r.gran g off len) })

/-- Byte enables of a write: all bytes, or the mask that follows the data of MEM_WR_PTL (R77). -/
def writeMask (p : Packet) : Nat :=
  if mcOf p = 1 ∧ opcOf p = 0x01 then field (bodyNat p) 512 64 else 2 ^ cmnBytes p - 1
/-- Write data of a request. -/
def writeData (p : Packet) : Nat := if pktExtent p then bodyNat p / 2 ^ 64 else bodyNat p

/-- Whether a write leaves part of some 64-bit word as it was, so that it reads the word first (R284). -/
def needsRmw (p : Packet) : Bool :=
  let off := cmnOffset p
  let m := writeMask p * 2 ^ (off % 8)
  (List.range ((off % 8 + cmnBytes p + 7) / 8)).any (fun k => let b := field m (8 * k) 8
    b != 0 && b != 255)

/-- The bank writes a request's bytes and clears reservations on what it writes (R288). -/
def Fab.cmnStore (f : Fab) (n : Nat) (p : Packet) : Fab :=
  let off := cmnOffset p
  (f.modCmn n (fun c => { c with mem := memWrite c.mem off (writeData p) (writeMask p) (cmnBytes p) })).clearResv n off
    (cmnBytes p)

/-- Reads at a bank: `ue` is the offset of a word with an uncorrectable error (R284). -/
def Fab.cmnReadAnswer (f : Fab) (n : Nat) (p : Packet) (ue : Option Nat) : Fab :=
  let data := memRead (f.cmnOf n).mem (cmnOffset p) (cmnBytes p)
  match cmnPart p, ue with
  | none, none => f
  | none, some off => f.cmnUe n p off false
  | some a, none => f.cmnAnswer n p 0 false data [a]
  | some a, some off => (f.cmnUe n p off false).cmnAnswer n p 1 true data [a]

/-- Flits of a bank's answer. -/
def cmnFlits (p : Packet) : Nat := match cmnPart p with | some a => lenFor a.size | none => 0

/-- A command of a bank applies when the oldest packet at its input calls for the operation and its answer fits
(R664). -/
def Fab.cmnWhen (f : Fab) (n : Nat) (op : CmnOp) (go : Fab → Packet → Fab) : Fab :=
  match f.cmnFront n with
  | none => f
  | some p =>
    if p.length = lenOf p ∧ cmnOp p = op ∧ f.cmnRoom n (cmnFlits p) (if (cmnPart p).isSome then 1 else 0) = true then go f p
    else f

/-- CMN_READ (R252, R283, R284): `ce` words are corrected; `ue` is the offset of a word with an uncorrectable error. -/
def execCmnRead (n ce : Nat) (ue : Option Nat) (s : State) : Host.Outcome State Fault Refusal :=
  .next (s.onFab (fun f => f.cmnWhen n .read (fun f p => (f.cmnBegin n p ce).cmnReadAnswer n p ue)))

/-- A write at a bank, or its refusal when the word it must read first has an uncorrectable error (R284). -/
def Fab.cmnWrite (f : Fab) (n : Nat) (p : Packet) (ue : Option Nat) : Fab :=
  let parts := (cmnPart p).toList
  match ue, needsRmw p with
  | some off, true => (f.cmnUe n p off true).cmnAnswer n p 1 true 0 parts
  | _, _ => (f.cmnStore n p).cmnAnswer n p 0 false 0 parts

/-- CMN_WRITE (R252, R283, R284, R288). -/
def execCmnWrite (n ce : Nat) (ue : Option Nat) (s : State) : Host.Outcome State Fault Refusal :=
  .next (s.onFab (fun f => f.cmnWhen n .write (fun f p => (f.cmnBegin n p ce).cmnWrite n p ue)))

/-- The reservation of a request's identifier is set (R286): an earlier one goes, and the oldest of 256 is evicted. -/
def Fab.setResv (f : Fab) (n : Nat) (p : Packet) : Fab :=
  let off := cmnOffset p
  let r : Resv := ⟨srcTile p, srcSlot p, oidOf p, off - off % f.resvGran n⟩
  let others := (f.cmnOf n).resv.filter (fun x => !x.mine p)
  if 256 ≤ others.length then
    (f.modCmn n (fun c => { c with resv := others.drop 1 ++ [r] })).bump .cmn n O.CMN_RESV_EVICT 0
  else f.modCmn n (fun c => { c with resv := others ++ [r] })

/-- CMN_XLD (R286). -/
def execCmnXld (n ce : Nat) (ue : Option Nat) (s : State) : Host.Outcome State Fault Refusal :=
  .next (s.onFab (fun f => f.cmnWhen n .xld (fun f p => ((f.cmnBegin n p ce).setResv n p).cmnReadAnswer n p ue)))

/-- CMN_XST (R287): the store is performed when its identifier's reservation contains every byte; its reservation is
cleared either way. A store whose reservation holds and whose read-modify-write meets an uncorrectable error (R284) is
counted neither as succeeded nor as failed, and leaves the reservations of others: the spec does not say (DESIGN CHOICE,
log 80). -/
def execCmnXst (n ce : Nat) (ue : Option Nat) (s : State) : Host.Outcome State Fault Refusal :=
  .next (s.onFab (fun f => f.cmnWhen n .xst (fun f p =>
    let f := f.cmnBegin n p ce
    let off := cmnOffset p
    let g := f.resvGran n
    let held := (f.cmnOf n).resv.any (fun r => r.mine p && decide (r.gran ≤ off) && decide (off + cmnBytes p ≤ r.gran + g))
    let f := f.modCmn n (fun c => { c with resv := c.resv.filter (fun r => !r.mine p) })
    if held then
      (if ue.isSome && needsRmw p then f.cmnWrite n p ue else (f.cmnWrite n p none).bump .cmn n O.CMN_XST_OK 0)
    else (((f.bump .cmn n O.CMN_XST_FAIL 0).event (cmnTile n) 0x41 0).cmnAnswer n p 4 false 0 (cmnPart p).toList))))

/-- The first packet of MC2 to MC7 that waits behind a request at the input of a bank is discarded (R283, R664). -/
def Fab.cmnDiscard (f : Fab) (n : Nat) : Fab :=
  let t := cmnTile n
  let is (v : Nat × Packet) : Bool := decide (2 ≤ mcOf v.2)
  match (f.tile t).ej1.arr.find? is with
  | none => f
  | some v => (f.modTile t (fun x => { x with ej1 := { x.ej1 with arr := dropFirst is x.ej1.arr } })).raise
      (famKey .cmn n) 1 (header v.2 % 2 ^ 64) (header v.2 / 2 ^ 64) 0

/-- CMN_UNSUPPORTED (R264, R283): a request outside the table is answered UNSUPPORTED, and a packet of another class is
discarded, also from behind a request that waits; a packet whose flit count differs from its LEN is discarded (R122). -/
def execCmnUnsupported (n : Nat) (s : State) : Host.Outcome State Fault Refusal :=
  .next (s.onFab (fun f =>
    match f.cmnFront n with
    | none => f
    | some p =>
      let t := cmnTile n
      if p.length ≠ lenOf p then
        (((f.cmnTake n).bumpT t O.TRUNCATED).raiseT t 4 (header p % 2 ^ 64) (lenOf p + p.length * 64) 0).hopRecord t 3 7 0
          false 0 0 p
      else if cmnOp p ≠ .unsupported then f.cmnDiscard n
      else
        let parts := if mcOf p ≤ 1 then answerParts .poison p else []
        let flits := parts.foldl (fun a x => a + lenFor x.size) 0
        if !f.cmnRoom n flits parts.length then f.cmnDiscard n
        else ((f.cmnTake n).raise (famKey .cmn n) 1 (header p % 2 ^ 64) (header p / 2 ^ 64) 0).cmnAnswer n p 2 false 0 parts))

/-- Every reservation of a bank is cleared (R288). -/
def Fab.clearAllResv (f : Fab) (n : Nat) : Fab := f.modCmn n (fun c => { c with resv := [] })

/-- A write of CMN_RESV_GRAN (R288, R295). -/
def Fab.wResvGran (f : Fab) (n v : Nat) : Fab × Nat :=
  if 7 ≤ v then (f, cDenied) else ((f.setO .cmn n O.CMN_RESV_GRAN 0 v).clearAllResv n, cOk)

/-- CMN_RESV_GRAN_WRITE (R288). -/
def execCmnResvGranWrite (who n v : Nat) (s : State) : Host.Outcome State Fault Refusal :=
  .next (s.onFab (fun f => Fab.done (f.wResvGran n v) who))

/-- A write of CMN_RESV_CLEAR (R288). -/
def Fab.wResvClear (f : Fab) (n v : Nat) : Fab × Nat := (if v = 0 then f else f.clearAllResv n, cOk)

/-- CMN_RESV_CLEAR_WRITE (R288). -/
def execCmnResvClearWrite (who n v : Nat) (s : State) : Host.Outcome State Fault Refusal :=
  .next (s.onFab (fun f => Fab.done (f.wResvClear n v) who))

end Sys2Proof.Machine
end

