-- ==== Sys2Proof/Machine/SchedObjects.lean ====
section
/-! DEFINITION. SchedObjects: plain object writes (R29, R521, R522), and the commands of the schedulers (R309 to R332,
R336). -/

namespace Sys2Proof.Machine

/-! ## Plain writes -/

/-- The value that a write stores in an object of the catalogue, with the code of the operation (R29): DENIED for a value
that it refuses, CLIPPED for one that it changes. -/
def judgeWrite (sc : Scope) (idx sub v : Nat) : Option (Nat × Nat) :=
  match objRow sc idx sub with
  | none => none
  | some r =>
    match judgeValue r.ty r.rng sub v with
    | none => none
    | some x => some (x, if isClipped r.ty r.rng v x then cClipped else cOk)

/-- A write that stores its value and has no other effect (R29). -/
def Fab.wPlain (f : Fab) (sc : Scope) (num idx sub v : Nat) : Fab × Nat :=
  match judgeWrite sc idx sub v with
  | none => (f, cDenied)
  | some (x, code) => (f.setO sc num idx sub x, code)

/-- Whether an object exists (R17, R518). -/
def objExists (sc : Scope) (num idx sub : Nat) : Bool := decide (num < sc.count) && (objRow sc idx sub).isSome

/-- A write of an object goes to `w` when the object exists, and ends with NO_OBJECT otherwise (R495). -/
def Fab.objWrite (f : Fab) (who : Nat) (sc : Scope) (num idx sub : Nat) (w : Fab → Fab × Nat) : Fab :=
  if objExists sc num idx sub then Fab.done (w f) who else f.answer who cNoObject

/-- The holder of the schedulers of a TILE or SP scope. -/
def whoOf (sp : Bool) (n : Nat) : Who := if sp then .sp n else .ni n
/-- Direction of a per-class subindex (R303). -/
def dirOf (sub : Nat) : Nat := sub / 16
/-- Service class of a per-class subindex (R303). -/
def clsOf (sub : Nat) : Nat := sub % 16

/-! ## Weights, shapers, policer -/

/-- SCHED_WEIGHT_WRITE (R309). -/
def execSchedWeightWrite (who : Nat) (sp : Bool) (n sub v : Nat) (s : State) : Host.Outcome State Fault Refusal :=
  let w := whoOf sp n
  .next (s.onFab (fun f => f.objWrite who w.scope n O.SCHED_WEIGHT sub (fun f =>
    f.wPlain w.scope n O.SCHED_WEIGHT sub v)))

/-- A write of SHAPER_RATE or SHAPER_EN: the bucket is brought up to date under the settings in force, which then
change (R311, R313). -/
def Fab.wShaper (f : Fab) (w : Who) (idx sub v : Nat) : Fab × Nat :=
  (f.refill w (dirOf sub) (clsOf sub)).wPlain w.scope w.num idx sub v

/-- SHAPER_RATE_WRITE (R313, R316). -/
def execShaperRateWrite (who : Nat) (sp : Bool) (n sub v : Nat) (s : State) : Host.Outcome State Fault Refusal :=
  let w := whoOf sp n
  .next (s.onFab (fun f => f.objWrite who w.scope n O.SHAPER_RATE sub (fun f => f.wShaper w O.SHAPER_RATE sub v)))

/-- A write of SHAPER_BURST (R314): the count falls to the new depth. -/
def Fab.wBurst (f : Fab) (w : Who) (sub v : Nat) : Fab × Nat :=
  let r := f.wShaper w O.SHAPER_BURST sub v
  let top : Int := (1024 * r.1.oW w O.SHAPER_BURST sub : Nat)
  (r.1.modCl w (dirOf sub) (clsOf sub) (fun c => if top < c.tok then { c with tok := top, frac := 0 } else c), r.2)

/-- SHAPER_BURST_WRITE (R314). -/
def execShaperBurstWrite (who : Nat) (sp : Bool) (n sub v : Nat) (s : State) : Host.Outcome State Fault Refusal :=
  let w := whoOf sp n
  .next (s.onFab (fun f => f.objWrite who w.scope n O.SHAPER_BURST sub (fun f => f.wBurst w sub v)))

/-- A write of SHAPER_CLEAR (R315). -/
def Fab.wShaperClear (f : Fab) (w : Who) (sub v : Nat) : Fab × Nat :=
  if v = 0 then (f, cOk)
  else ((f.refill w (dirOf sub) (clsOf sub)).modCl w (dirOf sub) (clsOf sub) (fun c => { c with tok := 0, frac := 0 }), cOk)

/-- SHAPER_CLEAR_WRITE (R315). -/
def execShaperClearWrite (who : Nat) (sp : Bool) (n sub v : Nat) (s : State) : Host.Outcome State Fault Refusal :=
  let w := whoOf sp n
  .next (s.onFab (fun f => f.objWrite who w.scope n O.SHAPER_CLEAR sub (fun f => f.wShaperClear w sub v)))

/-- Brings the policer of an NI up to date (R318, R320). -/
def Fab.refillPolicer (f : Fab) (t : Nat) : Fab :=
  let now := f.time t
  f.modNi t (fun n => { n with
    pol := (min (f.oT t O.POLICE_CBS * 65536000) (n.pol.1 + f.oT t O.POLICE_CIR * (now - n.pol.2)), now) })

/-- A write of POLICE_CIR (R320). -/
def Fab.wPoliceCir (f : Fab) (t v : Nat) : Fab × Nat := (f.refillPolicer t).wPlain .tile t O.POLICE_CIR 0 v

/-- POLICE_CIR_WRITE (R320). -/
def execPoliceCirWrite (who t v : Nat) (s : State) : Host.Outcome State Fault Refusal :=
  .next (s.onFab (fun f => f.objWrite who .tile t O.POLICE_CIR 0 (fun f => f.wPoliceCir t v)))

/-- A write of POLICE_CBS (R320). -/
def Fab.wPoliceCbs (f : Fab) (t v : Nat) : Fab × Nat :=
  let r := (f.refillPolicer t).wPlain .tile t O.POLICE_CBS 0 v
  (r.1.modNi t (fun n => { n with pol := (min n.pol.1 (r.1.oT t O.POLICE_CBS * 65536000), n.pol.2) }), r.2)

/-- POLICE_CBS_WRITE (R320). -/
def execPoliceCbsWrite (who t v : Nat) (s : State) : Host.Outcome State Fault Refusal :=
  .next (s.onFab (fun f => f.objWrite who .tile t O.POLICE_CBS 0 (fun f => f.wPoliceCbs t v)))

/-! ## Gates -/

/-- The gate list of a class: entries up to the first of zero duration (R322). -/
def Fab.gateList (f : Fab) (w : Who) (dir s : Nat) : List (Nat × Bool) :=
  let base := (if dir = 0 then O.GATE_LIST_INJ else O.GATE_LIST_EGR) + s - 1
  ((List.range 16).map (fun e => let v := f.oW w base e
    (field v 0 31, bit v 31))).takeWhile (fun e => e.1 != 0)

/-- Whether a list may be applied at `base` (R323). -/
def gateRefused (l : List (Nat × Bool)) (now base : Nat) : Bool :=
  let c := l.foldl (fun a e => a + e.1) 0
  !l.any (·.2) || l.any (fun e => decide (e.1 < 16)) || decide (c < 1000) || decide (1000000000 < c)
    || decide (base < now + us 1) || decide (now + ms 10000 < base)

/-- A write of GATE_APPLY (R323). -/
def Fab.wGateApply (f : Fab) (w : Who) (sub v : Nat) : Fab × Nat :=
  let l := f.gateList w (dirOf sub) (clsOf sub)
  if gateRefused l (f.time w.tile) v then (f, cDenied)
  else (f.modCl w (dirOf sub) (clsOf sub) (fun c => { c with pend := some ⟨l, v⟩ }), cOk)

/-- GATE_APPLY_WRITE (R323). -/
def execGateApplyWrite (who : Nat) (sp : Bool) (n sub v : Nat) (s : State) : Host.Outcome State Fault Refusal :=
  let w := whoOf sp n
  .next (s.onFab (fun f => f.objWrite who w.scope n O.GATE_APPLY sub (fun f => f.wGateApply w sub v)))

/-- GATE_SCHEDULE_START (R324): at its base, a pending schedule of a class replaces the running one. -/
def execGateScheduleStart (sp : Bool) (n sub : Nat) (s : State) : Host.Outcome State Fault Refusal :=
  let w := whoOf sp n
  .next (s.onFab (fun f => f.modCl w (dirOf sub) (clsOf sub) (fun c => c.start (f.time w.tile))))

/-- GATE_BOUNDARY (R324): a boundary of a class's schedule takes effect. -/
def execGateBoundary (sp : Bool) (n sub : Nat) (s : State) : Host.Outcome State Fault Refusal :=
  let w := whoOf sp n
  .next (s.onFab (fun f => f.modCl w (dirOf sub) (clsOf sub) (fun c => c.boundary (f.time w.tile))))

/-- A write of GATE_EN (R329). A schedule that is applied and waits for its base counts as applied: R329 does not say
(DESIGN CHOICE, log 76). -/
def Fab.wGateEn (f : Fab) (w : Who) (sub v : Nat) : Fab × Nat :=
  let c := (f.sched w (dirOf sub)).cl (clsOf sub)
  if v ≠ 0 ∧ c.run.isNone ∧ c.pend.isNone then (f, cDenied) else f.wPlain w.scope w.num O.GATE_EN sub v

/-- GATE_EN_WRITE (R329). -/
def execGateEnWrite (who : Nat) (sp : Bool) (n sub v : Nat) (s : State) : Host.Outcome State Fault Refusal :=
  let w := whoOf sp n
  .next (s.onFab (fun f => f.objWrite who w.scope n O.GATE_EN sub (fun f => f.wGateEn w sub v)))

/-- CYC at the last histogram sample of an NI. -/
def Fab.histAt (f : Fab) : Who → Nat
  | .ni t => (f.ni t).histAt
  | .sp d => (f.spOf d).histAt
/-- Records a histogram sample at CYC `c`. -/
def Fab.setHistAt (f : Fab) (c : Nat) : Who → Fab
  | .ni t => f.modNi t (fun n => { n with histAt := c })
  | .sp d => f.modSp d (fun n => { n with histAt := c })
/-- Whether HIST_PERIOD QCLK cycles have passed since an NI's last sample (R330). -/
def Fab.histDue (f : Fab) (w : Who) : Bool :=
  decide (f.oW w O.HIST_PERIOD 0 ≤ ((f.tile w.tile).cyc + 2 ^ 64 - f.histAt w) % 2 ^ 64)

/-- HIST_SAMPLE (R330, R331): both schedulers of an NI sample, every HIST_PERIOD QCLK cycles. -/
def execHistSample (sp : Bool) (n : Nat) (s : State) : Host.Outcome State Fault Refusal :=
  let w := whoOf sp n
  .next (s.onFab (fun f =>
    if (f.tile w.tile).st == .t0 && f.histDue w then
      ((f.histSample w 0).histSample w 1).setHistAt (f.tile w.tile).cyc w
    else f))

/-! ## A step of Lantern time (R335) -/

/-- Changes every class of both schedulers of a holder. -/
def Fab.everyClass (f : Fab) (w : Who) (g : Fab → Nat → Nat → Fab) : Fab :=
  [0, 1].foldl (fun f dir => (List.range 6).foldl (fun f s => g f dir s) f) f
/-- The buckets and the policer of a holder are brought up to date, just before its tile's time takes a step. -/
def Fab.beforeStep (f : Fab) (w : Who) : Fab :=
  let f := f.everyClass w (fun f dir s => f.refill w dir s)
  match w with
  | .ni t => f.refillPolicer t
  | .sp _ => f
/-- After a step: a forward step is elapsed time, a backward one none, and time counts on from the new time (R335). -/
def Fab.afterStep (f : Fab) (w : Who) : Fab :=
  let now := f.time w.tile
  let f := f.everyClass w (fun f dir s => f.modCl w dir s (fun c => { c with last := min c.last now }))
  match w with
  | .ni t => f.modNi t (fun n => { n with pol := (n.pol.1, min n.pol.2 now) })
  | .sp _ => f
/-- The holders of schedulers on die `d`. -/
def holdersOf (d : Nat) : List Who := .sp d :: (List.range 64).map (fun i => .ni (64 * d + i))

end Sys2Proof.Machine
end

