-- ==== Sys2Proof/Machine/Spill.lean ====
section
/-! DEFINITION. Spill: the edge NI's side of Stuffsack (R340 to R352, R362). -/

namespace Sys2Proof.Machine

/-- STALL_CONDITION_RISE (R345): the stall condition has risen, and every resident SC5 packet is dropped. -/
def execStallConditionRise (t : Nat) (s : State) : Host.Outcome State Fault Refusal :=
  .next (s.onFab (fun f =>
    if !f.stall t then f
    else
      let q := (f.ni t).egr.q
      let gone := (q.filter (fun kv => kv.1 / 8 == 5)).flatMap (fun kv => kv.2.map (·.pkt))
      let f := f.modSched (.ni t) 1 (fun x => { x with q := x.q.filter (fun kv => kv.1 / 8 != 5) })
      gone.foldl (fun f p => (f.bumpT t O.SC5_STALL_DROP).hopRecord t 3 6 0 false 0 0 p) f))

/-- Flits of the resident SC2 to SC4 packets of a spill queue (R342). -/
def Ni.queueFlits (n : Ni) (i : Nat) : Nat :=
  [2, 3, 4].foldl (fun a s => (n.egr.fifo s (spillMc i)).foldl (fun a e => a + e.pkt.length) a) 0

/-- Sends an ASK for 128 flits (R348). -/
def Fab.ask (f : Fab) (t i : Nat) : Fab :=
  (f.modSpq t i (fun q => { q with ask := some (f.runN t) })).toSk t .ask i 128 0 []

/-- Whether an ABANDON for a queue was received within the last SPILL_TIMEOUT (R342). -/
def Fab.abandonedLately (f : Fab) (t i : Nat) : Bool :=
  match (f.spq t i).abandoned with
  | some a => decide (f.runN t < a + us (f.oT t O.SPILL_TIMEOUT))
  | none => false

/-- Whether the spill port that a tile uses runs (R342). -/
def Fab.skRuns (f : Fab) (t : Nat) : Bool :=
  match f.skFor t with
  | some n => (f.skOf n).st == .run
  | none => false

/-- SPILL_START (R342): spill queue `i` of tile `t`, 0 to 4 for MC0, MC1, MC2, MC3 and MC6. -/
def execSpillStart (t i : Nat) (s : State) : Host.Outcome State Fault Refusal :=
  .next (s.onFab (fun f =>
    if (f.tile t).st == .t0 && decide (i < 5) && (f.spq t i).st == .resident && f.stall t && f.oT t O.SPILL_EN == 1
        && f.skRuns t && decide (f.oT t O.SPILL_QMIN ≤ (f.ni t).queueFlits i) && !f.abandonedLately t i then
      let f' := f.modSpq t i (fun q => { q with st := .spilling, seq := 0, exp := 0, spilled := 0 })
      if (f.spq t i).ask.isNone then f'.ask t i else f'
    else f))

/-- SPILL_END (R344). -/
def execSpillEnd (t i : Nat) (s : State) : Host.Outcome State Fault Refusal :=
  .next (s.onFab (fun f =>
    let q := f.spq t i
    if q.st != .resident && q.outb.isEmpty && q.spilled == 0 && q.pull.isNone then
      f.modSpq t i (fun q => { q with st := .resident })
    else f))

/-- The first envelope of a kind that waits at an edge NI, with its queue. -/
def Fab.takeEnv (f : Fab) (t : Nat) (k : EnvKind) : Fab × Option (Nat × Packet) :=
  let is (p : Packet) : Bool := isEnvelope p && envKind p == some k
  match (f.ni t).ctlIn.find? is with
  | none => (f, none)
  | some p =>
    (f.modNi t (fun n => { n with ctlIn := dropFirst is n.ctlIn }), (spillIdx (envMc p)).map (fun i => (i, p)))

/-- SPILL_GRANT (R348, R351, R352). A GRANT that answers no outstanding ASK is stale and is dropped. -/
def execSpillGrant (t : Nat) (s : State) : Host.Outcome State Fault Refusal :=
  .next (s.onFab (fun f =>
    match f.takeEnv t .grant with
    | (f, none) => f
    | (f, some (i, p)) =>
      let q := f.spq t i
      if q.ask.isNone then f
      else if envFlits p = 0 then
        (f.bumpT t O.SPILL_REFUSED).modSpq t i (fun q => { q with
          ask := none, zeroAt := f.runN t, st := if q.st = .resident then .resident else .blocked })
      else
        let f := f.modSpq t i (fun q => { q with
          ask := none, grant := q.grant + envFlits p, st := if q.st = .resident then .resident else .spilling })
        if (f.spq t i).st = .spilling ∧ (f.spq t i).grant < 64 then f.ask t i else f))

/-- SPILL_REASK (R348): 1 µs after a GRANT of zero. -/
def execSpillReask (t i : Nat) (s : State) : Host.Outcome State Fault Refusal :=
  .next (s.onFab (fun f =>
    let q := f.spq t i
    if q.st = .blocked ∧ q.ask.isNone ∧ q.zeroAt + us 1 ≤ f.runN t then f.ask t i else f))

/-- SPILL_SEND (R343, R348, R350): the oldest outbound packet leaves as a SPILL when the unused grant covers it. -/
def execSpillSend (t i : Nat) (s : State) : Host.Outcome State Fault Refusal :=
  .next (s.onFab (fun f =>
    let q := f.spq t i
    match q.outb with
    | [] => f
    | p :: rest =>
      if q.grant < p.length + 1 ∨ q.st = .resident then f
      else
        let f := f.toSk t .spill i 0 q.seq p
        let f := f.modSpq t i (fun q => { q with
          outb := rest, grant := q.grant - (p.length + 1), seq := (q.seq + 1) % 65536, spilled := q.spilled + 1 })
        let f := (f.bumpT t O.SPILL_PKTS).event t 0x2C (spillMc i)
        if (f.spq t i).grant < 64 ∧ (f.spq t i).ask.isNone ∧ (f.spq t i).st = .spilling then f.ask t i else f))

/-- SPILL_PULL_SEND (R348). -/
def execSpillPullSend (t i : Nat) (s : State) : Host.Outcome State Fault Refusal :=
  .next (s.onFab (fun f =>
    let q := f.spq t i
    let have_ := (f.ni t).queueFlits i + q.rsv
    let water := f.oT t O.PULL_WATER
    if q.st != .resident && q.pull.isNone && decide (i < 5) && decide (have_ + 53 ≤ water) then
      let n := water - have_
      (f.modSpq t i (fun q => { q with pull := some (f.runN t), rsv := q.rsv + n })).toSk t .pull i n 0 []
    else f))

/-- SPILL_RETURN (R339, R347, R350): `hck` is what HCHK finds on the carried packet. A RETURN that answers no outstanding
PULL belongs to an abandoned queue and is dropped. -/
def execSpillReturn (t : Nat) (hck : Lchk) (s : State) : Host.Outcome State Fault Refusal :=
  .next (s.onFab (fun f =>
    match f.takeEnv t .ret with
    | (f, none) => f
    | (f, some (i, e)) =>
      let q := f.spq t i
      if q.pull.isNone then f
      else if envSeq e ≠ q.exp then
        (f.raiseT t 15 (i + q.exp * 2 ^ 3 + envSeq e * 2 ^ 19) 0 0).abandonNi t i true
      else
        let p := unwrap e
        let f := f.modSpq t i (fun q => { q with
          exp := (q.exp + 1) % 65536, spilled := q.spilled - 1
          pull := if envLast e then none else q.pull
          rsv := if envLast e then 0 else q.rsv - p.length })
        let f := (f.bumpT t O.RETURN_PKTS).event t 0x2D (spillMc i)
        match hck with
        | .uncorrectable syn => f.headerUe (famKey .tile t) t p syn
        | .corrected => (f.modTile t (fun x => { x with hchkCe := x.hchkCe + 1 })).niDeliver t p
        | .clean => f.niDeliver t p))

/-- SPILL_NONE (R348): the PULL is answered, and its reservation is released. -/
def execSpillNone (t : Nat) (s : State) : Host.Outcome State Fault Refusal :=
  .next (s.onFab (fun f =>
    match f.takeEnv t .none with
    | (f, none) => f
    | (f, some (i, _)) => f.modSpq t i (fun q => { q with pull := none, rsv := 0 })))

/-- SPILL_TIMEOUT (R362): an ASK or a PULL has had no answer within SPILL_TIMEOUT. -/
def execSpillTimeout (t i : Nat) (s : State) : Host.Outcome State Fault Refusal :=
  .next (s.onFab (fun f =>
    let q := f.spq t i
    let late (a : Option Nat) : Bool := match a with
      | some a => decide (a + us (f.oT t O.SPILL_TIMEOUT) ≤ f.runN t) | none => false
    if late q.ask || late q.pull then f.abandonNi t i true else f))

/-- An edge NI takes an ABANDON (R362). -/
def Fab.abandonAtNi (f : Fab) (t : Nat) : Fab :=
  let is (p : Packet) : Bool := isEnvelope p && envKind p == some .abandon
  match (f.ni t).ctlIn.find? is with
  | none => f
  | some p =>
    let f := f.modNi t (fun n => { n with ctlIn := dropFirst is n.ctlIn })
    if envMc p = 7 then (List.range 5).foldl (fun f i => f.abandonNi t i false) f
    else match spillIdx (envMc p) with
      | some i => f.abandonNi t i false
      | none => f

/-- A write of SPILL_PORT (R353). -/
def Fab.wSpillPort (f : Fab) (t v : Nat) : Fab × Nat :=
  if (f.ni t).spill.any (fun q => q.st != .resident) then (f, cDenied) else f.wPlain .tile t O.SPILL_PORT 0 v

end Sys2Proof.Machine
end

