-- ==== Sys2Proof/Machine/SpillPort.lean ====
section
/-! DEFINITION. SpillPort: the spill ports: quotas and grants (R351, R356), chunks and descriptors (R354, R355), the
spill-port interface (R357 to R360), faults and recovery (R361 to R367). -/

namespace Sys2Proof.Machine

/-! ## Queues and chunks -/

/-- QID of a queue (R359). -/
def qidOf (t i : Nat) : Nat := 5 * (t % 64) + i
/-- Tile of a QID of spill port `n`. -/
def qidTile (n q : Nat) : Nat := 64 * (n / 2) + q / 5
/-- Whether a spill port is in reset: its tile is, or has no power (R357, R364). -/
def Fab.skInReset (f : Fab) (n : Nat) : Bool := (f.tile (skTile n)).st == .reset || (f.tile (skTile n)).st == .unpowered
/-- A queue of a spill port. -/
def Sk.q (k : Sk) (q : Nat) : SkQueue := k.qs.get (fun _ => SkQueue.reset) q
/-- Changes a queue of a spill port. -/
def Fab.modSkQ (f : Fab) (n q : Nat) (g : SkQueue → SkQueue) : Fab :=
  f.modSk n (fun k => { k with qs := k.qs.set (fun _ => SkQueue.reset) q (g (k.q q)) })
/-- An object of a spill port. -/
def Fab.oK (f : Fab) (n idx : Nat) : Nat := f.o .sk n idx 0

/-- The first number from `i` up that is not a key of a sparse map with rising keys. -/
def firstFree : Nat → SMap Nat → Nat
  | i, [] => i
  | i, (k, _) :: m => if k = i then firstFree (i + 1) m else i

/-- The lowest free chunk. -/
def Fab.freeChunk (f : Fab) (n : Nat) : Option Nat :=
  let c := firstFree 0 (f.skOf n).used
  if c < f.oK n O.SK_CHUNKS then some c else none

/-- Marks a chunk as used. -/
def Fab.useChunk (f : Fab) (n c : Nat) : Fab :=
  let f := f.modSk n (fun k => { k with used := k.used.set (fun _ => 0) c 1 })
  f.peak .sk n O.SK_PEAK_CHUNKS (f.skOf n).used.length
/-- Frees a chunk. -/
def Fab.dropChunk (f : Fab) (n c : Nat) : Fab :=
  f.modSk n (fun k => { k with used := k.used.set (fun _ => 0) c 0 })

/-- Beat index of a beat of a chunk in external memory (R354). -/
def Fab.beatAddr (f : Fab) (n c b : Nat) : Nat := f.oK n O.SK_BASE + 1024 * c + b

/-- Queues a command. -/
def Fab.skCmd (f : Fab) (n : Nat) (write : Bool) (addr beats : Nat) (data : List Nat) (q : Nat) (why : SkWhy) : Fab :=
  f.modSk n (fun k => { k with cmdQ := k.cmdQ ++ [⟨write, addr, beats, data, q, why, 0⟩] })

/-- Beats in the write staging, and flits granted and not yet used (R356). -/
def Sk.staged (k : Sk) : Nat :=
  k.cmdQ.foldl (fun a c => a + c.data.length) 0 + k.qs.foldl (fun a kv => a + kv.2.grant) 0

/-- Beats left for flits in the chunk that a queue is writing (R355). -/
def SkQueue.left (q : SkQueue) : Nat :=
  match q.chunks.getLast? with
  | none => 0
  | some c => 1023 - c.count / 5 - q.wpos

/-! ## Sending envelopes -/

/-- A spill port sends an envelope to the tile of a queue (R346, R349). -/
def Fab.skSend (f : Fab) (n q : Nat) (k : EnvKind) (flits seq : Nat) (plast : Bool) (carried : Packet) : Fab :=
  let t := qidTile n q
  let p := mkEnvelope k t 0 (skTile n) 1 t (spillMc (q % 5)) flits seq plast carried
  f.modTile (skTile n) (fun x => { x with uout := x.uout ++ [p] })

/-- The first envelope of a kind that waits at a spill port. -/
def Fab.skTake (f : Fab) (n : Nat) (k : EnvKind) : Fab × Option Packet :=
  let is (v : Nat × Packet) : Bool := isEnvelope v.2 && envKind v.2 == some k
  let t := skTile n
  if (f.tile t).st != .t0 then (f, none)
  else (f.modTile t (fun x => { x with ej1 := { x.ej1 with arr := dropFirst is x.ej1.arr } }),
    ((f.tile t).ej1.arr.find? is).map (·.2))

/-- QID of an envelope. -/
def envQid (p : Packet) : Option Nat := (spillIdx (envMc p)).map (fun i => qidOf (envTile p) i)

/-! ## Abandoning (R362, R363) -/

/-- Whether a queue holds spill state at its port. -/
def SkQueue.holds (q : SkQueue) : Bool := decide (q ≠ SkQueue.reset)

/-- A spill port discards a queue: its chunks are freed and its staged beats go; `tell` sends ABANDON to its tile. -/
def Fab.skAbandon (f : Fab) (n q : Nat) (tell : Bool) : Fab :=
  let x := (f.skOf n).q q
  if !x.holds then f
  else
    let f := (x.chunks.map (·.idx) ++ x.resv.toList).foldl (fun f c => f.dropChunk n c) f
    let f := f.modSk n (fun k => { k with
      qs := SMap.erase k.qs q
      cmdQ := k.cmdQ.filter (fun c => c.qid != q)
      outs := k.outs.map (fun c => if c.qid = q then { c with why := .drop } else c) })
    let f := f.bump .sk n O.SK_ABANDONS 0
    if tell then f.skSend n q .abandon 0 0 false [] else f

/-- Abandons every queue of a port (R363, R367). -/
def Fab.skAbandonAll (f : Fab) (n : Nat) : Fab :=
  ((f.skOf n).qs.map (·.1)).foldl (fun f q => f.skAbandon n q true) f

/-- A port becomes FAILED (R361, R363). -/
def Fab.skFail (f : Fab) (n : Nat) : Fab :=
  if (f.skOf n).st = .run then
    (f.skAbandonAll n).modSk n (fun k => { k with st := .failed, cmdQ := [], outs := [] })
  else f

/-! ## Grants (R351, R356) -/

/-- Chunks that a queue holds. -/
def SkQueue.held (q : SkQueue) : Nat := q.chunks.length

/-- What a port grants a queue (R351): at most 128 flits, the free write staging, and what the queue's chunks cover; a
chunk is reserved when the grant may need another. -/
def Fab.skGrant (f : Fab) (n q want : Nat) : Fab × Nat :=
  let k := f.skOf n
  let x := k.q q
  let room := min (min 128 want) (768 - k.staged)
  if k.st ≠ .run ∨ f.oT (qidTile n q) O.SPILL_QUOTA ≤ x.held ∨ room = 0 then (f, 0)
  else if x.grant + room ≤ x.left ∨ x.resv.isSome then (f, room)
  else
    match f.freeChunk n with
    | some c => ((f.useChunk n c).modSkQ n q (fun x => { x with resv := some c }), room)
    | none => (f, x.left - x.grant)

/-- SPILL_ASK (R348, R351, R363). -/
def execSpillAsk (n : Nat) (s : State) : Host.Outcome State Fault Refusal :=
  .next (s.onFab (fun f =>
    match f.skTake n .ask with
    | (f, none) => f
    | (f, some p) =>
      match envQid p with
      | none => f
      | some q =>
        if (f.skOf n).st = .failed then f.skSend n q .abandon 0 0 false []
        else
          let g := f.skGrant n q (envFlits p)
          let a := min g.2 128
          (g.1.modSkQ n q (fun x => { x with grant := x.grant + a })).skSend n q .grant a 0 false []))

/-! ## Writing (R355) -/

/-- The CRC of a chunk header over its bits [29:0], as four bytes with zeros above. PRESUMED for the form (log 11). -/
def headerCrc (h : Nat) : Nat := crc32c (h % 2 ^ 30) 4
/-- A chunk header (R355). -/
def chunkHeader (next q : Nat) : Nat :=
  let h := next + 2 ^ 20 + q * 2 ^ 21
  h + headerCrc h * 2 ^ 32

/-- CRC-32C over a descriptor's bits [95:0] and its packet's flits (R355). -/
def descCrc (d : Nat) (flits : List Nat) : Nat :=
  (flits.foldl (fun c v => crc32cFrom c v 80) (crc32cFrom 0xFFFFFFFF (d % 2 ^ 96) 12)) ^^^ 0xFFFFFFFF

/-- The descriptor of a packet (R355). -/
def descOf (p : Packet) (seq : Nat) : Nat :=
  let psn := (List.range p.length).foldl (fun a k => a + b2n (p.getD k Flit.zero).psn * 2 ^ k) 0
  let d := p.length + seq * 2 ^ 6 + (headOf p).hchk.toNat * 2 ^ 22 + psn * 2 ^ 30
  d + descCrc d (p.map (fun f => f.data.toNat)) * 2 ^ 96

/-- A beat of up to five descriptors, the first in its lowest bytes. -/
def descBeat (l : List Nat) : Nat := l.foldr (fun d acc => d + 2 ^ 128 * acc) 0

/-- Writes the descriptors in assembly of a queue to their beat in its last chunk. -/
def Fab.flushDesc (f : Fab) (n q : Nat) : Fab :=
  let x := (f.skOf n).q q
  match x.chunks.getLast? with
  | none => f
  | some c =>
    if x.desc.isEmpty then f
    else (f.skCmd n true (f.beatAddr n c.idx (1023 - (c.count - 1) / 5)) 1 [descBeat x.desc] q .desc).modSkQ n q
      (fun x => { x with desc := [] })

/-- The queue's last chunk is full or missing: its descriptors are written, the next chunk is linked through its header,
and writing begins at its beat 1 (R355). Answers whether there is a chunk. R355 does not say when a header is written: the
model writes it when the next chunk is linked, and a queue's last chunk has none (DESIGN CHOICE, log 81). -/
def Fab.openChunk (f : Fab) (n q : Nat) : Fab × Bool :=
  let f := f.flushDesc n q
  let x := (f.skOf n).q q
  let next := match x.resv with | some c => some c | none => f.freeChunk n
  match next with
  | none => (f, false)
  | some c =>
    let f := f.useChunk n c
    let f := match x.chunks.getLast? with
      | some old => f.skCmd n true (f.beatAddr n old.idx 0) 1 [chunkHeader c q] q .header
      | none => f
    (f.modSkQ n q (fun x => { x with chunks := x.chunks ++ [⟨c, 0⟩], wpos := 1, resv := none }), true)

/-- Whether the next packet and its descriptor fit the last chunk (R355). -/
def SkQueue.fits (q : SkQueue) (len : Nat) : Bool :=
  match q.chunks.getLast? with
  | none => false
  | some c => decide (q.wpos + len ≤ 1023 - c.count / 5)

/-- A packet is stored behind a queue's last one (R355). -/
def Fab.skStore (f : Fab) (n q seq : Nat) (p : Packet) : Fab :=
  let r := if ((f.skOf n).q q).fits p.length then (f, true) else f.openChunk n q
  let f := r.1
  if !r.2 then f.skAbandon n q true
  else
    let x := (f.skOf n).q q
    match x.chunks.getLast? with
    | none => f
    | some c =>
      let f := f.skCmd n true (f.beatAddr n c.idx x.wpos) p.length (p.map (fun fl => fl.data.toNat)) q .packet
      let f := f.modSkQ n q (fun x => { x with
        chunks := modAt x.chunks (x.chunks.length - 1) (fun c => { c with count := c.count + 1 })
        wpos := x.wpos + p.length, desc := x.desc ++ [descOf p seq] })
      if ((f.skOf n).q q).desc.length = 5 then f.flushDesc n q else f

/-! ## Returning (R348, R355, R356) -/

/-- Packets of a queue that have not been read. -/
def SkQueue.unread (q : SkQueue) : Nat := q.chunks.foldl (fun a c => a + c.count) 0 - q.rcnt

/-- The next packet's descriptor, when the port holds it: in assembly, or in the descriptor beat last read. -/
def Fab.nextDesc (f : Fab) (n : Nat) (x : SkQueue) : Option Nat :=
  match x.chunks with
  | [] => none
  | c :: rest =>
    if c.count ≤ x.rcnt then none
    else if rest.isEmpty ∧ c.count - x.desc.length ≤ x.rcnt then x.desc[x.rcnt - (c.count - x.desc.length)]?
    else match x.cache with
      | some (a, v) => if a = f.beatAddr n c.idx (1023 - x.rcnt / 5) then some (field v (128 * (x.rcnt % 5)) 128) else none
      | none => none

/-- Beats of the packets that a queue has prefetched. -/
def SkQueue.readyBeats (q : SkQueue) : Nat := q.ready.foldl (fun a e => a + e.1.length) 0

/-- LEN of the packet behind the oldest prefetched one: `some none` when the queue holds no other, none while the port does
not know it. -/
def Fab.lenAfter (f : Fab) (n : Nat) (x : SkQueue) : Option (Option Nat) :=
  match x.ready with
  | _ :: e :: _ => some (some e.1.length)
  | _ => if x.unread = 0 then some none else (f.nextDesc n x).map (fun d => some (d % 64))

/-- A queue with no packet left frees its chunks; one stays reserved while a grant is unused. -/
def Fab.skEmpty (f : Fab) (n q : Nat) : Fab :=
  let x := (f.skOf n).q q
  if x.unread ≠ 0 ∨ ¬x.ready.isEmpty ∨ x.read ≠ .idle then f
  else
    let all := x.chunks.map (·.idx) ++ x.resv.toList
    let keep := if x.grant = 0 then none else all.head?
    let f := (all.filter (fun c => some c != keep)).foldl (fun f c => f.dropChunk n c) f
    f.modSkQ n q (fun x => { SkQueue.reset with grant := x.grant, resv := keep, pull := x.pull, ansAt := x.ansAt })

/-- Answers the pull of a queue with its prefetched packets in SEQ order (R348), at most `k` of them: a packet goes once it is
known whether another follows within FLITS, the last with PLAST; NONE when the queue holds no packet. -/
def Fab.skServe : Nat → Fab → Nat → Nat → Fab
  | 0, f, _, _ => f
  | k + 1, f, n, q =>
    let x := (f.skOf n).q q
    let now := f.runN (skTile n)
    match x.pull, x.ready with
    | some left, (p, seq) :: rest =>
      match f.lenAfter n x with
      | none => f
      | some l =>
        let more := l.any (fun l => decide (p.length + l ≤ left))
        let f := (f.skSend n q .ret 0 seq (!more) p).modSkQ n q (fun x => { x with
          ready := rest, pull := if more then some (left - p.length) else none, ansAt := if more then x.ansAt else some now })
        if more then f.skServe k n q else f
    | some _, [] =>
      if x.unread = 0 then
        (f.skSend n q .none 0 0 false []).modSkQ n q (fun x => { x with pull := none, ansAt := some now })
      else f
    | none, _ => f

/-- Read beats that are reserved in read staging: those of unanswered reads and of packets prefetched (R356, R360). -/
def Sk.readBusy (k : Sk) : Nat :=
  (k.outs.filter (fun c => !c.write)).foldl (fun a c => a + c.n) 0
    + k.qs.foldl (fun a kv => a + kv.2.readyBeats + (match kv.2.read with | .packet _ l => l.length | _ => 0)) 0

/-- Prefetches for a queue whose pull is outstanding, or was answered within the last 1 µs: the next packet while the queue
has at most 128 beats in read staging, and the descriptor or header that leads to it (R355, R356). Half of the staging is
kept for packets that outstanding pulls ask for, and a prefetched packet stays until it returns (DESIGN CHOICE, log 37). -/
def Fab.skFetch (f : Fab) (n q : Nat) : Fab :=
  let x := (f.skOf n).q q
  let recent : Bool := x.ansAt.any (fun a => decide (f.runN (skTile n) ≤ a + us 1))
  if x.read ≠ .idle ∨ ¬(x.pull.isSome ∨ recent) then f
  else
    match x.chunks with
    | [] => f
    | c :: rest =>
      if c.count ≤ x.rcnt then
        (if rest.isEmpty then f
         else (f.skCmd n false (f.beatAddr n c.idx 0) 1 [] q .header).modSkQ n q (fun x => { x with read := .header }))
      else
        match f.nextDesc n x with
        | none => (f.skCmd n false (f.beatAddr n c.idx (1023 - x.rcnt / 5)) 1 [] q .desc).modSkQ n q
            (fun x => { x with read := .desc })
        | some d =>
          let all := x.readyBeats + d % 64
          let asked := x.pull.any (fun left => decide (all ≤ left))
          if 128 < all ∨ (¬asked ∧ 320 < (f.skOf n).readBusy + d % 64) then f
          else (f.skCmd n false (f.beatAddr n c.idx x.rpos) (d % 64) [] q .packet).modSkQ n q
            (fun x => { x with read := .packet d [] })

/-- Goes on with a queue: its pull is answered as far as its packets are there, the next is prefetched, and a queue that has
become empty frees its chunks (R348, R355, R356). -/
def Fab.skPump (f : Fab) (n q : Nat) : Fab :=
  ((f.skServe (((f.skOf n).q q).ready.length + 1) n q).skFetch n q).skEmpty n q

/-- SK_STAGE_UE (R580, R583). -/
def Fab.stageUe (f : Fab) (n part a : Nat) : Fab := f.raise (famKey .sk n) 7 (a % 2 ^ 20) part 0

/-- SPILL_RECEIVE (R355): the oldest SPILL at a spill port is stored. `e` is what the code of the staging finds. -/
def execSpillReceive (n : Nat) (e : StageErr) (s : State) : Host.Outcome State Fault Refusal :=
  .next (s.onFab (fun f =>
    match f.skTake n .spill with
    | (f, none) => f
    | (f, some p) =>
      match envQid p with
      | none => f
      | some q =>
        if (f.skOf n).st ≠ .run then f
        else
          let f := f.modSkQ n q (fun x => { x with grant := x.grant - p.length })
          let pkt := unwrap p
          match e with
          | .clean => (f.skStore n q (envSeq p) pkt).skPump n q
          | .bitmap a =>
            let f := f.stageUe n 0 a
            let f := match f.freeChunk n with | some c => f.useChunk n c | none => f
            (f.skStore n q (envSeq p) pkt).skPump n q
          | .queue a => (f.stageUe n 1 a).skAbandon n q true
          | .assembly a => (f.stageUe n 4 a).skAbandon n q true
          | .beat k a =>
            ((f.stageUe n 2 a).skStore n q (envSeq p) (modAt pkt k (fun x => { x with psn := true }))).skPump n q))

/-- SPILL_PULL (R348). -/
def execSpillPull (n : Nat) (s : State) : Host.Outcome State Fault Refusal :=
  .next (s.onFab (fun f =>
    match f.skTake n .pull with
    | (f, none) => f
    | (f, some p) =>
      match envQid p with
      | none => f
      | some q =>
        if (f.skOf n).st ≠ .run then f.skSend n q .none 0 0 false []
        else (f.modSkQ n q (fun x => { x with pull := some (envFlits p) })).skPump n q))

/-- The packet of a descriptor and its beats (R355): flit `k` carries PSN as its descriptor bit or its beat says. -/
def packetOf (d : Nat) (beats : List (Nat × Bool)) : Packet :=
  let len := beats.length
  (List.range len).map (fun k =>
    let b := beats.getD k (0, false)
    ⟨BitVec.ofNat 640 b.1, k == 0, k + 1 == len, b.2 || bit d (30 + k), if k = 0 then BitVec.ofNat 8 (field d 22 8) else 0⟩)

/-! ## The interface (R357 to R360) -/

/-- The head of a command on SKn_OD (R358). -/
def cmdHead (c : SkCmd) : Nat := b2n c.write + c.addr * 2 + (c.n - 1) * 2 ^ 31 + c.qid * 2 ^ 37

/-- Whether a command can be presented as far as R360 goes: fewer than 32 of its kind are unanswered, and its read beats have
room. A packet's beats leave 128 beats for descriptors and headers (DESIGN CHOICE, log 37). -/
def Sk.mayPresent (k : Sk) (c : SkCmd) : Bool :=
  decide ((k.outs.filter (fun x => x.write == c.write)).length < 32)
    && (c.write || decide (k.readBusy + c.n ≤ if c.why = .packet then 512 else 640))

/-- The oldest command that can be presented behind no other of its QID (R359); `seen` holds the QIDs passed over. -/
def Sk.pickCmd (k : Sk) : List Nat → List SkCmd → Option SkCmd
  | _, [] => none
  | seen, c :: l => if seen.contains c.qid || !k.mayPresent c then k.pickCmd (c.qid :: seen) l else some c

/-- The driven outputs SKn_OV, SKn_OHEAD, SKn_OD and SKn_OPAR (R357, R358) in the `c`-th SKCLK cycle after the presenting of
the last command began: its words in order, and the reset values when no out word is present. -/
def Sk.out (k : Sk) (c : Nat) : Bool × Bool × Nat × Nat :=
  match k.outW[c]? with
  | some w => (true, c == 0, w % 2 ^ 640, parity640 w)
  | none => (false, false, 0, 0)

/-- SK_COMMAND (R358, R359, R360): a command is presented, with its beats for a write, when credits cover it. -/
def execSkCommand (n : Nat) (s : State) : Host.Outcome State Fault Refusal :=
  .next (s.onFab (fun f =>
    let k := f.skOf n
    match k.pickCmd [] k.cmdQ with
    | none => f
    | some c =>
      let words := 1 + c.data.length
      if k.st ≠ .run ∨ ¬k.memReady ∨ k.cred < words then f
      else
        let f := f.modSk n (fun k => { k with
          cmdQ := k.cmdQ.erase c, cred := k.cred - words, outW := cmdHead c :: c.data
          outs := k.outs ++ [{ c with data := [], sentAt := f.runN (skTile n) }] })
        if c.write then (f.bump .sk n O.SK_WR_BEATS 0 c.n).event (skTile n) 0x42 0 c.n else f))

/-- SK_OUT_CREDIT (R358): the counter stays zero in reset and while SKn_MEMREADY is low. -/
def execSkOutCredit (n : Nat) (s : State) : Host.Outcome State Fault Refusal :=
  .next (s.onFab (fun f =>
    if (f.skOf n).memReady && !f.skInReset n then f.modSk n (fun k => { k with cred := k.cred + 1 }) else f))

/-- INFO0 of the spill-port sources (R580). -/
def skInfo (addr q : Nat) (write : Bool) : Nat := addr + q * 2 ^ 30 + b2n write * 2 ^ 39

/-- An answer leaves the list of unanswered commands: the oldest of a QID and kind. -/
def Fab.skAnswered (f : Fab) (n q : Nat) (write : Bool) : Fab × Option SkCmd :=
  let is (c : SkCmd) : Bool := c.qid == q && c.write == write
  ((f.modSk n (fun k => { k with outs := dropFirst is k.outs })), (f.skOf n).outs.find? is)

/-- A header or descriptor beat is bad (R361): the queue is abandoned. -/
def Fab.metaUe (f : Fab) (n q addr : Nat) (crc desc : Bool) : Fab :=
  (f.raise (famKey .sk n) 2 (skInfo addr q false) (b2n crc + 2 * b2n desc) 0).skAbandon n q true

/-- The beats of a packet are all there: its CRC is checked, unless a beat was poisoned on the way, and it waits to be
returned (R355, R361). -/
def Fab.packetRead (f : Fab) (n q addr d : Nat) (beats : List (Nat × Bool)) : Fab :=
  if !beats.any (·.2) && descCrc d (beats.map (·.1)) != field d 96 32 then f.metaUe n q addr true true
  else
    (f.modSkQ n q (fun x => { x with
      read := .idle, ready := x.ready ++ [(packetOf d beats, field d 6 16)], rcnt := x.rcnt + 1
      rpos := x.rpos + beats.length })).skPump n q

/-- The command of a read beat with the beats it still expects. -/
def Fab.skBeatTaken (f : Fab) (n q : Nat) (c : SkCmd) : Fab :=
  let is (x : SkCmd) : Bool := x.qid == q && !x.write
  if c.n ≤ 1 then f.modSk n (fun k => { k with outs := dropFirst is k.outs })
  else f.modSk n (fun k => { k with
    outs := (match k.outs.span (fun x => !is x) with
      | (a, y :: b) => a ++ { y with n := y.n - 1, addr := y.addr + 1 } :: b
      | (a, []) => a) })

/-- SK_READ_BEAT (R358, R360, R361): a read beat of QID `q`. `err` is SKn_IERR; `ue` is the address of an uncorrectable
error of the read staging under it (R583). -/
def execSkReadBeat (n q data par : Nat) (err : Bool) (ue : Option Nat) (s : State) : Host.Outcome State Fault Refusal :=
  .next (s.onFab (fun f =>
    match (f.skOf n).outs.find? (fun c => c.qid == q && !c.write) with
    | none => f
    | some c =>
      let data := data % 2 ^ 640
      let fails := parityFails data par
      let f := ((f.skBeatTaken n q c).bump .sk n O.SK_RD_BEATS 0).event (skTile n) 0x43 0
      let f := if fails = 0 then f else f.raise (famKey .sk n) 0 (skInfo c.addr q false) fails 0
      let f := match ue with | some a => f.stageUe n 3 a | none => f
      let bad := err || fails != 0 || ue.isSome
      match c.why, ((f.skOf n).q q).read with
      | .packet, .packet d beats =>
        let f := if err then f.raise (famKey .sk n) 1 (skInfo c.addr q false) 0 0 else f
        let all := beats ++ [(data, bad)]
        if all.length = d % 64 then f.packetRead n q c.addr d all
        else f.modSkQ n q (fun x => { x with read := .packet d all })
      | .desc, .desc =>
        if bad then f.metaUe n q c.addr false true
        else (f.modSkQ n q (fun x => { x with read := .idle, cache := some (c.addr, data) })).skPump n q
      | .header, .header =>
        if bad then f.metaUe n q c.addr false false
        else if field data 32 32 ≠ headerCrc data ∨ ¬bit data 20 ∨ field data 21 9 ≠ q then f.metaUe n q c.addr true false
        else
          match ((f.skOf n).q q).chunks with
          | [] => f
          | ch :: _ =>
            ((f.dropChunk n ch.idx).modSkQ n q (fun x => { x with
              chunks := x.chunks.drop 1, rcnt := 0, rpos := 1, cache := none, read := .idle })).skPump n q
      | _, _ => f))

/-- SK_WRITE_DONE (R358). -/
def execSkWriteDone (n q : Nat) (s : State) : Host.Outcome State Fault Refusal :=
  .next (s.onFab (fun f => (f.skAnswered n q true).1))

/-- SK_WRITE_FAILED (R361): the queue is abandoned. -/
def execSkWriteFailed (n q : Nat) (s : State) : Host.Outcome State Fault Refusal :=
  .next (s.onFab (fun f =>
    match f.skAnswered n q true with
    | (f, none) => f
    | (f, some c) => (f.raise (famKey .sk n) 3 (skInfo c.addr q true) 0 0).skAbandon n q true))

/-- SK_RSP_TIMEOUT (R361): the oldest unanswered command is late and the port becomes FAILED. -/
def execSkRspTimeout (n : Nat) (s : State) : Host.Outcome State Fault Refusal :=
  .next (s.onFab (fun f =>
    match (f.skOf n).outs with
    | [] => f
    | c :: _ =>
      if (f.skOf n).st = .run ∧ c.sentAt + us (f.oK n O.SK_RSP_TIMEOUT) ≤ f.runN (skTile n) then
        (f.raiseC (famKey .sk n) 4 (skInfo c.addr c.qid c.write) 0 0).skFail n
      else f))

/-- SK_MEMREADY_CHANGE (R358, R361): SKn_MEMREADY takes a level. -/
def execSkMemreadyChange (n : Nat) (level : Bool) (s : State) : Host.Outcome State Fault Refusal :=
  .next (s.onFab (fun f =>
    let was := (f.skOf n).memReady
    let f := f.modSk n (fun k => { k with memReady := level, cred := if level && was then k.cred else 0 })
    if level then f.endC (famKey .sk n) 5
    else if was ∧ (f.skOf n).st = .run then (f.raiseC (famKey .sk n) 5 0 0 0).skFail n
    else f))

/-! ## Objects (R354, R363, R367) -/

/-- A write of SK_RECOVER (R363). -/
def Fab.wSkRecover (f : Fab) (n v : Nat) : Fab × Nat :=
  if (f.skOf n).st ≠ .failed ∨ ¬(f.skOf n).memReady then (f, cDenied)
  else (if v = 0 then f else f.modSk n (fun k => { k with recover := true }), cOk)

/-- SK_RECOVER_WRITE (R363). -/
def execSkRecoverWrite (who n v : Nat) (s : State) : Host.Outcome State Fault Refusal :=
  .next (s.onFab (fun f => f.objWrite who .sk n O.SK_RECOVER 0 (fun f => f.wSkRecover n v)))

/-- SK_RECOVER_DONE (R363): the bitmap is clear and the port runs. -/
def execSkRecoverDone (n : Nat) (s : State) : Host.Outcome State Fault Refusal :=
  .next (s.onFab (fun f =>
    if (f.skOf n).recover then
      (f.modSk n (fun k => { k with recover := false, st := .run, used := [], qs := [] })).endC (famKey .sk n) 4
    else f))

/-- A write of SK_ENABLE (R367). -/
def Fab.wSkEnable (f : Fab) (n v : Nat) : Fab × Nat :=
  let k := f.skOf n
  if v ≠ 0 then
    (if !k.memReady || f.oK n O.SK_CHUNKS == 0 then (f, cDenied)
     else ((f.setO .sk n O.SK_ENABLE 0 1).modSk n (fun k => { k with st := if k.st = .off then .run else k.st }), cOk))
  else
    let f := (f.skAbandonAll n).setO .sk n O.SK_ENABLE 0 0
    ((f.modSk n (fun k => { k with st := .off, cmdQ := [], outs := [], used := [], qs := [], recover := false })).endC
      (famKey .sk n) 4, cOk)

/-- SK_ENABLE_WRITE (R367). -/
def execSkEnableWrite (who n v : Nat) (s : State) : Host.Outcome State Fault Refusal :=
  .next (s.onFab (fun f => f.objWrite who .sk n O.SK_ENABLE 0 (fun f => f.wSkEnable n v)))

/-- A write of SK_BASE or SK_CHUNKS (R29, R354): the value is clipped to the object's range, and then judged. -/
def Fab.wSkRegion (f : Fab) (n idx v : Nat) : Fab × Nat :=
  let x := ((judgeWrite .sk idx 0 v).elim v (·.1))
  let base := if idx = O.SK_BASE then x else f.oK n O.SK_BASE
  let chunks := if idx = O.SK_CHUNKS then x else f.oK n O.SK_CHUNKS
  if f.oK n O.SK_ENABLE = 1 ∨ base % 1024 ≠ 0 ∨ 2 ^ 30 < base + 1024 * chunks then (f, cDenied)
  else f.wPlain .sk n idx 0 v

/-- A spill port takes an ABANDON (R362). -/
def Fab.abandonAtSk (f : Fab) (n : Nat) : Fab :=
  match f.skTake n .abandon with
  | (f, none) => f
  | (f, some p) =>
    if envMc p = 7 then (List.range 5).foldl (fun f i => f.skAbandon n (qidOf (envTile p) i) false) f
    else match envQid p with
      | some q => f.skAbandon n q false
      | none => f

/-- SPILL_ABANDON_RECEIVE (R362), at the edge NI of tile `n`, or at spill port `n` when `sk`. -/
def execSpillAbandonReceive (sk : Bool) (n : Nat) (s : State) : Host.Outcome State Fault Refusal :=
  .next (s.onFab (fun f => if sk then f.abandonAtSk n else f.abandonAtNi n))

end Sys2Proof.Machine
end

