-- ==== Sys2Proof/Machine/SeamDir.lean ====
section
/-! DEFINITION. SeamDir: the shared operations over a direction of a crossing: its lanes (R368), its states (R390 to
R395), training (R380 to R384), repair (R386 to R389) and one side in reset (R404, R405). A direction is named by its
receive side `ss` and crossing `c`; its transmit half is at the far side. -/

namespace Sys2Proof.Machine

/-! ## Lanes (R368, R391) -/

/-- The lanes of a mask of excluded lanes that are not excluded, in ascending order. -/
def lanesLeft (excl : Nat) : List Nat := (List.range 30).filter (fun l => !bit excl l)
/-- The lanes in use: the first 28, or the first 14 at half width. -/
def lanesUsed (excl : Nat) (half : Bool) : List Nat := (lanesLeft excl).take (if half then 14 else 28)
/-- The spares. -/
def lanesSpare (excl : Nat) (half : Bool) : List Nat := (lanesLeft excl).drop (if half then 14 else 28)
/-- Lanes excluded. -/
def exclCount (excl : Nat) : Nat := popcount excl 30

/-- Receive lanes of a side in use. -/
def CrossSide.rxUsed (x : CrossSide) : List Nat := lanesUsed x.rxExcl x.rxHalf
/-- Spare receive lanes: SEAM_RX_SPARES (R407). -/
def CrossSide.rxSpares (x : CrossSide) : List Nat := lanesSpare x.rxExcl x.rxHalf

/-- Time of the die of a seam-side. -/
def Fab.sideTime (f : Fab) (ss : Nat) : Nat := f.dieTime (sideDie ss)
/-- SEAM_SB_LOSS holds: both receive sideband lanes of the side are unlocked (R403). -/
def Fab.sbLost (f : Fab) (ss : Nat) : Bool := !(f.sideOf ss).lock0 && !(f.sideOf ss).lock1

/-! ## Faults (R406, R579) -/

/-- INFO0 of a seam source: crossing, lane (31 for none), and 1 for the transmit direction. -/
def seamInfo (c lane : Nat) (tx : Bool) : Nat := c + lane * 8 + b2n tx * 256
/-- Raises an event source of a seam-side; a crossing-side in reset raises none (R577). -/
def Fab.seamRaise (f : Fab) (ss c lane : Nat) (tx : Bool) (code i1 : Nat) : Fab :=
  if (f.xs ss c).inRst then f else f.raise (famKey .seam ss) code (seamInfo c lane tx) i1 0
/-- Raises a condition source of a seam-side for one more direction. -/
def Fab.seamCond (f : Fab) (ss c lane : Nat) (tx : Bool) (code i1 : Nat) : Fab :=
  if (f.xs ss c).inRst then f
  else (f.seamRaise ss c lane tx code i1).modFam (famKey .seam ss) (fun x => { x with cond := setBit x.cond code })
/-- Ends the causes of SEAM_SPARES_OUT, SEAM_DEGRADED and SEAM_DOWN that hold for no direction of the side. -/
def Fab.seamSettle (f : Fab) (ss : Nat) : Fab :=
  let anyX (p : CrossSide → Bool) : Bool := (List.range 8).any (fun c => p (f.xs ss c))
  let f1 := if anyX (fun x => x.rx.runs && x.rxSpares.isEmpty) then f else f.endC (famKey .seam ss) 4
  let f2 := if anyX (fun x => x.rx == .half) then f1 else f1.endC (famKey .seam ss) 5
  if anyX (fun x => x.rx == .down || x.tx == .down) then f2 else f2.endC (famKey .seam ss) 9

/-! ## The transmit PLL (R398) -/

/-- Whether every transmit lane of a crossing-side is OFF (R398). -/
def CrossSide.txDark (x : CrossSide) : Bool := x.tx.dead || (x.tx == .deep && !x.txOn)
/-- The PLL of a seam-side stops while every transmit lane of the side is OFF (R398). -/
def Fab.pllSettle (f : Fab) (ss : Nat) : Fab :=
  if (f.sideOf ss).pll && (List.range 8).all (fun c => (f.xs ss c).txDark) then f.modSide ss (fun x => { x with pll := false })
  else f

/-! ## Entry of a crossing to DOWN (R120 to R122, R395) -/

/-- A side whose crossing is DOWN abandons what it has sent and not had credited, and discards partial packets: the
packets in passage on its seam port, the slots of its transmit adapter, and, with a filler flit each, the packets that
stand open in its landing buffer. Its receive direction holds AWAKE low. -/
def Fab.abandon (f : Fab) (ss c : Nat) : Fab :=
  let tp := sideTile ss c
  let f := f.cutOutput tp.1 tp.2 (fun f => f.bump .seam ss O.SEAM_DISCARD 0)
  let f := f.modSeamOut ss c (fun o => { o with owed := true, cred := List.replicate 16 0, pool := 0 })
  let opens := (List.range 16).filter (fun v => bit (f.xs ss c).mid v)
  let f := opens.foldl (fun f v => f.sendPhit tp.1 tp.2 [(v, fillerFlit)]) f
  let inBuf := (f.wireOf tp.1 tp.2).foldl (fun a ph => a + ph.length) 0
  let f := f.modX ss c (fun x => { x with
    fifo := [], creds := [], mid := 0, stale := inBuf, txDrop := 0, knockIn := false,
    replay := x.replay.map (fun fr => { fr with slots := [], creds := [] }) })
  if (f.xs ss c).awakeOut then f.driveAwake ss c false else f

/-- A change of a crossing-side; where it takes the crossing DOWN, the side abandons its traffic. -/
def Fab.modRoute (f : Fab) (ss c : Nat) (g : CrossSide → CrossSide) : Fab :=
  let before := f.routeState ss c
  let f := f.modX ss c g
  if before ≠ 2 ∧ f.routeState ss c = 2 then f.abandon ss c else f

/-- One half of a direction goes DOWN (R395) with the reason of R579. -/
def Fab.downHalf (f : Fab) (ss c : Nat) (tx : Bool) (why : Nat) : Fab :=
  let x := f.xs ss c
  let was := if tx then x.tx else x.rx
  if x.inRst || was == .down then f
  else
    let f := f.modRoute ss c (fun x =>
      if tx then { x with tx := .down, txTr := none, txRep := none, held := [], cmds := [], txOn := false }
      else { x with rx := .down, rxTr := none, rxRep := none, want := [], air := [], sleepReq := false, cmdIn := [] })
    ((f.seamCond ss c 31 tx 9 why).seamSettle ss).pllSettle ss

/-- A direction goes DOWN: both of its halves. -/
def Fab.takeDown (f : Fab) (ss c why : Nat) : Fab := (f.downHalf ss c false why).downHalf (farSide ss) c true why
/-- Both directions of a crossing go DOWN. -/
def Fab.crossDown (f : Fab) (ss c why : Nat) : Fab := (f.takeDown ss c why).takeDown (farSide ss) c why

/-! ## Training (R380 to R384, R394) -/

/-- The seam repair defaults of a direction (R382, R560). -/
def Fab.repairDefault (f : Fab) (ss c : Nat) : Nat := f.repair.get (fun _ => 0) (8 * ss + c)

/-- A direction starts training: both halves, with the lanes of R382 excluded, AWAKE low, and the frames in flight lost
until they are resent. `half` asks for half width; `keep` says that sequence, replay buffer and credits stay (R384). -/
def Fab.startTraining (f : Fab) (ss c : Nat) (full half keep : Bool) : Fab :=
  let far := farSide ss
  let excl := f.repairDefault ss c ||| (f.xs ss c).rxExcl ||| (f.xs far c).txExcl
  let tr : Training := ⟨full, half, 1, excl, 0, keep, 0⟩
  let f := f.modRoute ss c (fun x => { x with
    rx := .training, rxTr := some tr, rxRep := none, want := [], air := [], sleepReq := false })
  let f := f.modRoute far c (fun x => { x with
    tx := .training, txTr := some tr, txRep := none, held := [], txEq := true, txOn := false })
  let f := if (f.xs ss c).awakeOut then f.driveAwake ss c false else f
  ((f.takeAwake far c false).seamSettle ss).seamSettle far

/-- A retrain of a direction in RUN or HALF (R394), counted at both sides. -/
def Fab.retrain (f : Fab) (ss c : Nat) (full : Bool) : Fab :=
  if (f.xs ss c).rx.runs then
    let f := (f.bump .seam ss O.SEAM_RETRAINS c).bump .seam (farSide ss) O.SEAM_RETRAINS c
    f.startTraining ss c full (f.xs ss c).rxHalf true
  else f

/-- Training of a direction fails (R381): a short training is followed by a full one, which excludes afresh (R382); a
full one leaves the direction DOWN. -/
def Fab.failTraining (f : Fab) (ss c : Nat) (tr : Training) (excl : Nat) (noPll : Bool) : Fab :=
  let far := farSide ss
  if !tr.full then
    let base := f.repairDefault ss c ||| (f.xs ss c).rxExcl ||| (f.xs far c).txExcl
    let tr2 : Training := { tr with full := true, phase := 1, excl := base, peer := 0, eq := 0 }
    (f.modX ss c (fun x => { x with rxTr := some tr2 })).modX far c (fun x => { x with txTr := some tr2 })
  else
    let info := tr.phase + exclCount excl * 8 + b2n noPll * 256
    ((f.seamRaise ss c 31 false 8 info).seamRaise far c 31 true 8 info).takeDown ss c 0

/-- The landing buffer of a side can take flits: QCLK of its tile runs (R650). -/
def Fab.seamQclk (f : Fab) (ss c : Nat) : Bool :=
  f.qclkRuns (sideTile ss c).1 && (f.tile (sideTile ss c).1).st == .t0

/-- The receive side raises AWAKE of a direction that carries traffic, when the crossing is not DOWN and QCLK runs. -/
def Fab.raiseAwake (f : Fab) (ss c : Nat) : Fab :=
  let x := f.xs ss c
  if x.rx.runs && !x.awakeOut && f.routeState ss c != 2 && f.seamQclk ss c then f.driveAwake ss c true else f

/-- Resends every unacknowledged frame in FSEQ order (R377); null frames follow (R376). -/
def Fab.resend (f : Fab) (ss c : Nat) : Fab :=
  let f := f.modX ss c (fun x => { x with gen := x.gen + 1 })
  let x := f.xs ss c
  (x.replay.foldl (fun f fr => f.launch ss c { fr with
    ack := x.ack, nak := x.nak, awake := x.awakeOut, gen := x.gen, seen := x.seen }) f).emitNull ss c

/-- Training of a direction ends well (R382 to R384): its width, its lanes and its state at both halves. -/
def Fab.endTraining (f : Fab) (ss c : Nat) (tr : Training) (excl : Nat) : Fab :=
  let far := farSide ss
  let half := tr.half || decide (2 < exclCount excl)
  let st : DirSt := if half then .half else .run
  let now := f.sideTime ss
  let f := if tr.full then
      (lanesLeft excl).foldl (fun f l => f.modX ss c (fun x => { x with
        eqSaved := true, eq := x.eq.set (fun _ => 0) l (field tr.eq (16 * l) 16) })) f
    else f
  let f := f.modRoute ss c (fun x => { x with 
    rx := st, rxHalf := half, rxExcl := excl, rxTr := none, rxUp := true, lastFlit := now })
  let f := f.modRoute far c (fun x => { x with tx := st, txHalf := half, txExcl := excl, txTr := none, txUp := true })
  let f := if tr.keep then f.resend far c
    else
      let f := f.modX ss c (fun x => { x with exp := 0, nak := false, seen := 0, creds := [], ackOwed := false })
      let f := f.modX far c (fun x => { x with
        fifo := [], fseq := 0, replay := [], gen := 0, nakAck := none, resends := 0 })
      f.modSeamOut far c (fun o => { o with owed := true, cred := List.replicate 16 0, pool := 0 })
  let f := if half then f.seamCond ss c 31 false 5 (exclCount excl) else f
  let f := if (lanesSpare excl half).isEmpty then f.seamCond ss c 31 false 4 0 else f
  let f := (f.seamSettle ss).seamSettle far
  let f := (((f.emit far c emitAll).emitNull far c).raiseAwake ss c)
  -- the opposite direction may have waited for the crossing to leave DOWN
  f.raiseAwake far c

/-- Both directions of a crossing train after a reset of a side (R383, R405): full training where a cold reset has left
a side without equaliser states. It waits until neither side is in reset and each peer reset has been acknowledged. -/
def Fab.tryTrain (f : Fab) (ss c : Nat) : Fab :=
  let far := farSide ss
  let x := f.xs ss c
  let y := f.xs far c
  let idle (d : DirSt) : Bool := d == .off || d == .down
  if x.inRst || y.inRst || x.peerRst || y.peerRst then f
  else
    let full := !x.eqSaved || !y.eqSaved
    let f := if idle x.rx then f.startTraining ss c full false false else f
    if idle y.rx then f.startTraining far c full false false else f

/-! ## Repair (R386 to R389, R393) -/

/-- A request to repair a lane when no spare is left (R393). -/
def Fab.noSpare (f : Fab) (ss c : Nat) : Fab :=
  if f.o .seam ss O.SEAM_ALLOW_DEGRADE = 1 then f.seamCmd ss c .retrain 1 else f.takeDown ss c 4

/-- The receive side requests repair of a lane in use (R386, R388). -/
def Fab.requestRepair (f : Fab) (ss c lane : Nat) : Fab :=
  let x := f.xs ss c
  if !x.rx.runs || !x.rxUsed.contains lane then f
  else match x.rxRep with
    | some r =>
      if r.lane = lane ∨ lane ∈ x.want then f
      else (f.modX ss c (fun x => { x with want := x.want ++ [lane] })).seamCmd ss c .repairReq lane
    | none =>
      match x.rxSpares with
      | [] => f.noSpare ss c
      | sp :: _ => (f.modX ss c (fun x => { x with rxRep := some ⟨lane, sp, false⟩ })).seamCmd ss c .repairReq lane

/-- The next repair that the receive side wants begins once one has ended. -/
def Fab.nextRepair (f : Fab) (ss c : Nat) : List Nat → Fab
  | [] => f.modX ss c (fun x => { x with want := [] })
  | lane :: rest =>
    let x := f.xs ss c
    if !x.rxUsed.contains lane then f.nextRepair ss c rest
    else match x.rxSpares with
      | [] => (f.modX ss c (fun x => { x with want := [] })).noSpare ss c
      | sp :: _ => f.modX ss c (fun x => { x with rxRep := some ⟨lane, sp, false⟩, want := rest })

/-- The transmit side begins the repair of a lane with its lowest-numbered spare (R388), unless a training has
overtaken the request. -/
def Fab.beginRepair (f : Fab) (ss c lane : Nat) : Fab :=
  let x := f.xs ss c
  let y := f.xs (farSide ss) c
  let asked := y.rxRep.map (·.lane) == some lane || y.want.contains lane
  if !(lanesUsed x.txExcl x.txHalf).contains lane || !asked then f
  else match lanesSpare x.txExcl x.txHalf with
    | [] => f
    | sp :: _ => f.modX ss c (fun x => { x with txRep := some ⟨lane, sp, false⟩ })

/-- Repair asked for by a lane's own errors or signals, while SEAM_AUTO_REPAIR is 1 (R386). -/
def Fab.autoRepair (f : Fab) (ss c lane : Nat) : Fab :=
  if f.o .seam ss O.SEAM_AUTO_REPAIR = 1 then f.requestRepair ss c lane else f

/-! ## Waking (R399) -/

/-- The receive side has a KNOCK, or what stands for one: from SLEEP the direction carries frames again, from DEEP it
trains, and a direction that was about to sleep stays awake. -/
def Fab.wakeDir (f : Fab) (ss c : Nat) : Fab :=
  let far := farSide ss
  let x := f.xs ss c
  let now := f.sideTime ss
  let f := f.askWake (sideTile ss c).1
  match x.rx with
  | .sleep =>
    let f := f.modRoute ss c (fun x => { x with
      rx := if x.rxHalf then .half else .run, sleepReq := false, lastFlit := now, air := [] })
    let f := f.modRoute far c (fun x => { x with tx := if x.txHalf then .half else .run, txOn := false })
    (((f.seamSettle ss).raiseAwake ss c).emit far c emitAll).emitNull far c
  | .deep => f.startTraining ss c false x.rxHalf true
  | .run => (f.modX ss c (fun x => { x with sleepReq := false, lastFlit := now })).raiseAwake ss c
  | .half => (f.modX ss c (fun x => { x with sleepReq := false, lastFlit := now })).raiseAwake ss c
  | _ => f

/-! ## One side in reset (R404, R405) -/

/-- A side takes both directions of a crossing DOWN for a reset of its peer. -/
def Fab.peerReset (f : Fab) (ss c : Nat) (all : Bool) (first : Bool) : Fab :=
  let f := (f.downHalf ss c false 2).downHalf ss c true 2
  let f := f.modX ss c (fun x => { x with peerRst := true, peerRx := .off })
  if first && !(f.xs ss c).inRst then
    f.raise (famKey .seam ss) 11 (seamInfo c 31 false + b2n all * 512) 0 0
  else f

/-- On the acknowledgement of a peer reset, sequence, replay, credits and landing-buffer accounting take their reset
values (R404); the crossing trains once neither side is in reset. -/
def Fab.peerAck (f : Fab) (ss c : Nat) : Fab :=
  let f := f.modX ss c (fun x => { x with
    peerRst := false, txUp := false, rxUp := false, fseq := 0, exp := 0, replay := [], creds := [], nak := false, nakAck := none, resends := 0,
    gen := 0, seen := 0, ackOwed := false, fifo := [], cmds := [], cmdIn := [], air := [] })
  let f := f.modSeamOut ss c (fun o => { o with owed := true, cred := List.replicate 16 0, pool := 0 })
  f.tryTrain ss c

/-- A reset includes a crossing-side (R404, R588): a warm one keeps the equaliser states and the exclusions. -/
def Fab.resetCross (f : Fab) (ss c : Nat) (cold : Bool) : Fab :=
  Fab.pllSettle (ss := ss) <| f.modX ss c (fun x =>
    let y : CrossSide := { CrossSide.reset with inRst := true, peerRst := x.peerRst, los := x.los, lol := x.lol }
    if cold then y
    else { y with eqSaved := x.eqSaved, eq := x.eq, rxExcl := x.rxExcl, txExcl := x.txExcl })

/-- The reset of a crossing-side ends, and the side starts training (R405). -/
def Fab.releaseCross (f : Fab) (ss c : Nat) : Fab :=
  (f.modX ss c (fun x => { x with inRst := false })).tryTrain ss c

/-! ## The sideband (R401) -/

/-- The oldest message on the way to a side on sideband lane 1 goes to `g` where `p` accepts it; other messages wait
for their own commands. -/
def Fab.takeSb (f : Fab) (ss : Nat) (g : Fab → SbMsg → Option Fab) : Fab :=
  match (f.sideOf ss).sb with
  | [] => f
  | m :: rest =>
    match g (f.modSide ss (fun x => { x with sb := rest })) m with
    | some f' => f'
    | none => f

end Sys2Proof.Machine
end

