-- ==== Sys2Proof/Machine/Phy.lean ====
section
/-! DEFINITION. Phy: the frames of a direction as bits (R373, R374, R378, R387, R391), what a receiver makes of errors in
them, the margin search (R385), and the lane PHY signals that the state of a crossing-side drives (R369 to R372, R380 to
R399). -/

namespace Sys2Proof.Machine

/-! ## The code RS(154,136) over GF(2^10) (R374)

R374 names the code and gives neither its field polynomial nor its first root: both are free values. Codeword symbol `k`
is bits [10k+9:10k]; message symbol `k` has the power k + 18 and parity symbol `j`, at codeword symbol 136 + j, the power j
(DESIGN CHOICE, log 84). -/

/-- A symbol times the element x of the field. -/
def gfTwice (a : Nat) : Nat :=
  if a.testBit 9 then (2 * a % 1024) ^^^ (Config.rsPoly % 1024) else 2 * a % 1024
/-- The product of two symbols. -/
def gfMul (a b : Nat) : Nat :=
  (List.range 10).foldl (fun acc k => if b.testBit (9 - k) then gfTwice acc ^^^ a else gfTwice acc) 0
/-- The power `n` of the element x. -/
def gfPow (n : Nat) : Nat := iter gfTwice n 1

/-- A polynomial, its lowest coefficient first, times (x + r). -/
def polyTimes (r : Nat) (p : List Nat) : List Nat :=
  (List.range (p.length + 1)).map (fun k => (if k = 0 then 0 else p.getD (k - 1) 0) ^^^ gfMul r (p.getD k 0))
/-- The generator polynomial: 18 successive powers of x are its roots. -/
def rsGen : List Nat := (List.range 18).foldl (fun p k => polyTimes (gfPow (Config.rsFirst + k)) p) [1]

/-- One step of the division by the generator: the remainder of 18 symbols, its lowest first, takes the symbol `s`. -/
def rsStep (r : List Nat) (s : Nat) : List Nat :=
  let lead := r.getD 17 0 ^^^ s
  (List.range 18).map (fun k => (if k = 0 then 0 else r.getD (k - 1) 0) ^^^ gfMul lead (rsGen.getD k 0))
/-- A number as the symbols of a list, the first lowest. -/
def ofSymbols : List Nat → Nat
  | [] => 0
  | s :: l => s % 1024 + 1024 * ofSymbols l
/-- The 18 parity symbols of a message of 136 symbols, as 180 bits. -/
def rsParity (msg : Nat) : Nat :=
  ofSymbols ((List.range 136).foldl (fun r k => rsStep r (field msg (10 * (135 - k)) 10)) (List.replicate 18 0))
/-- The codeword of a message: bits [1359:0] the message, bits [1539:1360] the parity. -/
def codewordOf (msg : Nat) : Nat := msg % 2 ^ 1360 + 2 ^ 1360 * (rsParity msg % 2 ^ 180)

/-! ## The message of a frame (R374, R387) -/

/-- CMD (R387). -/
def LaneCmd.code : LaneCmd → Nat
  | .none => 0 | .repairReq => 1 | .repairReady => 2 | .repairAt => 3 | .retrain => 4
/-- The command of a CMD code; 5 to 7 are reserved, and no sender sends them (R387). -/
def LaneCmd.ofCode : Nat → LaneCmd
  | 1 => .repairReq | 2 => .repairReady | 3 => .repairAt | 4 => .retrain | _ => .none

/-- CTL of a slot: SV, VC, FIRST, LAST, HCHK, PSN and one credit return, in the order of R374. -/
def ctlBits (s : Option (Nat × Flit)) (cr : Option Nat) : Nat :=
  (match s with
   | some (vc, x) => 1 + 2 * (vc % 16) + 2 ^ 5 * b2n x.first + 2 ^ 6 * b2n x.last + 2 ^ 7 * x.hchk.toNat + 2 ^ 15 * b2n x.psn
   | none => 0)
  + (match cr with | some vc => 2 ^ 16 + 2 ^ 17 * (vc % 16) | none => 0)

/-- The message of a frame, bit by bit as R374 lays it out. -/
def Frame.message (fr : Frame) : Nat :=
  let data (k : Nat) : Nat := (fr.slots[k]?).elim 0 (fun s => s.2.data.toNat)
  data 0 + 2 ^ 640 * data 1
    + 2 ^ 1280 * ctlBits fr.slots[0]? fr.creds[0]? + 2 ^ 1301 * ctlBits fr.slots[1]? fr.creds[1]?
    + 2 ^ 1322 * (fr.fseq.getD 0 % 64) + 2 ^ 1328 * b2n fr.fseq.isNone + 2 ^ 1329 * (fr.ack % 64)
    + 2 ^ 1335 * b2n fr.nak + 2 ^ 1336 * b2n fr.awake + 2 ^ 1337 * fr.cmd.code + 2 ^ 1340 * (fr.arg % 32)

/-- The slot that a message carries, if valid: its data at `d` and its CTL at `c`. -/
def slotOf (msg d c : Nat) : List (Nat × Flit) :=
  if bit msg c then
    [(field msg (c + 1) 4, ⟨BitVec.ofNat 640 (field msg d 640), bit msg (c + 5), bit msg (c + 6), bit msg (c + 15),
      BitVec.ofNat 8 (field msg (c + 7) 8)⟩)]
  else []
/-- The credit return that a message carries in the CTL at `c`. -/
def credOf (msg c : Nat) : List Nat := if bit msg (c + 16) then [field msg (c + 17) 4] else []

/-- The frame of a message. -/
def Frame.ofMessage (msg gen seen : Nat) : Frame where
  slots := slotOf msg 0 1280 ++ slotOf msg 640 1301
  creds := credOf msg 1280 ++ credOf msg 1301
  fseq := if bit msg 1328 then none else some (field msg 1322 6)
  ack := field msg 1329 6
  nak := bit msg 1335
  awake := bit msg 1336
  cmd := LaneCmd.ofCode (field msg 1337 3)
  arg := field msg 1340 5
  gen := gen
  seen := seen

/-! ## Framing and lanes (R373, R378, R391) -/

/-- The framing pattern of a lane, frame 0 in bit 31 (R378); `logical` is 31 on a lane in training for repair. -/
def framingWord (logical physical : Nat) : Nat :=
  let nums := (logical % 32) * 32 + physical % 32
  0xF628 * 2 ^ 16 + nums * 2 ^ 6 + popcount nums 10 % 2
/-- The framing bit of frame `n` of a run of 32. -/
def framingBit (logical physical n : Nat) : Bool := (framingWord logical physical).testBit (31 - n % 32)

/-- The 56 bits of a lane in one STCLK cycle: the framing bit, and 55 bits of the codeword (R373). At half width a frame spans
two cycles of 14 lanes with 110 bits each (R391): the lower 55 go first (DEDUCED, log 84), and the framing bit of the second
cycle is the complement. -/
def laneBits (half : Bool) (logical physical n cyc cw : Nat) : Nat :=
  let b := framingBit logical physical n
  if half then b2n (if cyc = 0 then b else !b) + 2 * field cw (110 * logical + 55 * cyc) 55
  else b2n b + 2 * field cw (55 * logical) 55

/-- Logical lanes that carry a bit of a codeword symbol: 55 codeword bits a lane, or 110 at half width (R374, R391). -/
def symbolLanes (half : Bool) (sym : Nat) : List Nat :=
  let w := if half then 110 else 55
  let a := 10 * sym / w
  let b := (10 * sym + 9) / w
  if a = b then [a] else [a, b]

/-! ## What a receiver finds (R374, R377, R378) -/

/-- The error word of the codeword bits that are inverted on the way; a bit inverted twice is as sent. -/
def flipWord (flips : List Nat) : Nat := flips.foldl (fun a b => if b < 1540 then a ^^^ mask b else a) 0
/-- The symbols that an error word touches, in rising order. -/
def wrongSymbols (w : Nat) : List Nat := (List.range 154).filter (fun s => field w (10 * s) 10 != 0)

/-- What a receiver decodes (R374): up to 9 wrong symbols are corrected, and the frame is the one sent, with the symbols
corrected. Beyond that the code may find another codeword or none, which R374 leaves open (log 84). -/
def Frame.decoded (fr : Frame) (flips : List Nat) : Option (Frame × List Nat) :=
  let wrong := wrongSymbols (flipWord flips)
  if wrong.length ≤ 9 then some (fr, wrong)
  else
    let rx := codewordOf fr.message ^^^ flipWord flips
    (Config.rsBeyond rx).map (fun m => (Frame.ofMessage m fr.gen fr.seen, wrongSymbols (rx ^^^ codewordOf m)))

/-- What a run of 32 framing bits shows on a lane (R378): the lane is aligned, its alignment is lost, or its numbers
disagree with the lane map. -/
inductive Aligned where
  | ok | lost | wrong (logical physical : Nat)
  deriving DecidableEq, Repr

/-- The judgement of a run of 32 framing bits on a lane whose logical number is `logical`: sync word, zero bits, parity and a
skew of up to 2 frames; then the lane numbers (R378). -/
def judgeRun (r : LaneRun) (logical : Nat) : Aligned :=
  let l := field r.word 11 5
  let p := field r.word 6 5
  if 2 < r.skew ∨ r.word % 2 ^ 32 ≠ framingWord l p then .lost
  else if l = logical ∧ p = r.lane then .ok else .wrong l p

/-- The runs of framing bits that end with a frame, judged on the lanes in use: the lanes whose alignment is lost, and the
lanes whose numbers disagree. -/
def CrossSide.judgeRuns (x : CrossSide) (runs : List LaneRun) : List (Nat × Nat × Aligned) :=
  runs.filterMap (fun r => (x.rxUsed.findIdx? (· == r.lane)).map (fun k => (r.lane, k, judgeRun r k)))

/-! ## The margin search (R385) -/

/-- The largest value from `lo` to `hi` that passes, by binary search; `lo` is not tested. -/
def searchMax (pass : Nat → Bool) : Nat → Nat → Nat → Nat
  | 0, lo, _ => lo
  | n + 1, lo, hi =>
    if hi ≤ lo then lo
    else
      let m := (lo + hi + 1) / 2
      if pass m then searchMax pass n m hi else searchMax pass n lo (m - 1)

/-- pass(eye, dh, dv): OSERR_l toggles at most 16 times in the dwell. -/
def passes (tog : List ScanPoint) (lane eye : Nat) (dh dv : Int) : Bool :=
  match tog.find? (fun p => p.lane == lane && p.eye == eye && p.dh == dh && p.dv == dv) with
  | some p => decide (p.toggles ≤ 16)
  | none => true

/-- scan(l): the margin of a lane, the least of the six searches of each kind. -/
def laneMargin (tog : List ScanPoint) (lane : Nat) : Nat × Nat :=
  [0, 1, 2].foldl (fun hv eye => [(-1 : Int), 1].foldl (fun hv dir =>
    (min hv.1 (searchMax (fun a => passes tog lane eye (dir * a) 0) 6 0 32),
     min hv.2 (searchMax (fun b => passes tog lane eye 0 (dir * b)) 7 0 127))) hv) (32, 127)

/-- OSEN_l, OSH_l, OSV_l and OSEYE_l: a test point during its dwell, and the reset values otherwise (R372, R385). -/
def samplerPins : Option ScanPoint → Bool × Nat × Nat × Nat
  | some p => (true, ofSigned p.dh 7, ofSigned p.dv 8, p.eye % 4)
  | none => (false, 0, 0, 0)

/-! ## Lane signals (R369, R371, R372) -/

/-- Whether a crossing-side drives its reset values: it is in reset, or unpowered (R372). -/
def Fab.crossOff (f : Fab) (ss c : Nat) : Bool :=
  (f.xs ss c).inRst || (f.tile (sideTile ss c).1).st == .unpowered

/-- Lanes that a training uses, by its exclusions so far (R380, R382). -/
def Training.on (tr : Training) (l : Nat) : Bool := !bit (tr.excl ||| tr.peer) l

/-- TXPWR_l of a side that is not in reset: 0 OFF, 1 IDLE, 2 ON. Excluded lanes and spares are OFF, but for a spare in
training for repair (R382, R383, R388); the lanes are IDLE in SLEEP and OFF in DEEP, until a KNOCK sets them ON (R396, R398,
R399). A DOWN direction's lanes are OFF, since its training begins with lanes from OFF to ON (DEDUCED from R380, log 85). -/
def CrossSide.txPower (x : CrossSide) (l : Nat) : Nat :=
  let used := (lanesUsed x.txExcl x.txHalf).contains l
  match x.tx with
  | .off => 0
  | .down => 0
  | .training => if x.txTr.any (fun tr => tr.on l) then 2 else 0
  | .run => if used || x.txRep.any (fun r => r.spare == l) then 2 else 0
  | .half => if used || x.txRep.any (fun r => r.spare == l) then 2 else 0
  | .sleep => if used then (if x.txOn then 2 else 1) else 0
  | .deep => if used && x.txOn then 2 else 0
/-- RXPWR_l likewise; the receive side sets its lanes ON with the KNOCK (R399). -/
def CrossSide.rxPower (x : CrossSide) (l : Nat) : Nat :=
  let used := x.rxUsed.contains l
  match x.rx with
  | .off => 0
  | .down => 0
  | .training => if x.rxTr.any (fun tr => tr.on l) then 2 else 0
  | .run => if used || x.rxRep.any (fun r => r.spare == l) then 2 else 0
  | .half => if used || x.rxRep.any (fun r => r.spare == l) then 2 else 0
  | .sleep => if used then 1 else 0
  | .deep => 0
/-- TXPWR_l (R372). -/
def Fab.txPwr (f : Fab) (ss c l : Nat) : Nat := if f.crossOff ss c then 0 else (f.xs ss c).txPower l
/-- RXPWR_l (R372). -/
def Fab.rxPwr (f : Fab) (ss c l : Nat) : Nat := if f.crossOff ss c then 0 else (f.xs ss c).rxPower l

/-- Whether a training is in phases 2 to 4, which the model numbers 3 and 4 (R380). -/
def Training.prbs (tr : Training) : Bool := tr.phase == 3 || tr.phase == 4
/-- TXPAT_l (R372, R380): PRBS13Q in phases 2 to 4 of a training. PRBS31Q is for tests that firmware runs (R371), and no
object starts one. -/
def Fab.txPat (f : Fab) (ss c l : Nat) : Nat :=
  if f.txPwr ss c l = 2 ∧ (f.xs ss c).txTr.any (·.prbs) = true then 1 else 0
/-- TXEQ_l (R371, R372): the taps that training has set, held in service. R371 gives no values: they are free (log 85). -/
def Fab.txEqPin (f : Fab) (ss c l : Nat) : Nat :=
  if f.crossOff ss c ∨ (f.xs ss c).txEq = false then 0 else Config.txTaps (xKey ss c) l % 2 ^ 18

/-- TXD_l in cycle `cyc` of a frame, the `n`-th of a run of 32 (R372, R373, R378, R388): the bits of a lane in use; a spare in
training for repair sends the framing pattern with logical lane number 31 and PRBS13Q; any other lane, and a lane that sends
a pattern of the PHY, sends 0. -/
def Fab.txData (f : Fab) (ss c l : Nat) (fr : Frame) (n cyc : Nat) : Nat :=
  let x := f.xs ss c
  if f.txPwr ss c l ≠ 2 ∨ f.txPat ss c l ≠ 0 then 0
  else
    let lanes := match x.txTr with
      | some tr => lanesUsed (tr.excl ||| tr.peer) (tr.half || decide (2 < exclCount (tr.excl ||| tr.peer)))
      | none => lanesUsed x.txExcl x.txHalf
    match lanes.findIdx? (· == l) with
    | some k => laneBits x.txHalf k l n cyc (codewordOf fr.message)
    | none => if x.txRep.any (fun r => r.spare == l) then b2n (framingBit 31 l n) + 2 * (Config.prbs13 n % 2 ^ 55) else 0

/-- Whether a receive lane restores its saved equaliser state: in phase 4 of a short training, and a spare in training for
repair (R380, R388). -/
def CrossSide.restores (x : CrossSide) (l : Nat) : Bool :=
  x.rxTr.any (fun tr => tr.phase == 4 && !tr.full && tr.on l) || x.rxRep.any (fun r => r.spare == l && !r.ready)
/-- RXADAPT_l (R372, R380): full adaptation, in phase 4 of a full training. -/
def Fab.rxAdapt (f : Fab) (ss c l : Nat) : Bool :=
  !f.crossOff ss c && (f.xs ss c).rxTr.any (fun tr => tr.phase == 4 && tr.full && tr.on l)
/-- RXEQSET_l (R372): the saved equaliser state that is being restored. -/
def Fab.rxEqSet (f : Fab) (ss c l : Nat) : Nat :=
  if f.crossOff ss c = false ∧ (f.xs ss c).restores l = true then (f.xs ss c).eq.get (fun _ => 0) l else 0
/-- RXEQLD_l (R372): a pulse in the first cycle of a restoring. -/
def Fab.rxEqLd (f : Fab) (ss c l : Nat) (first : Bool) : Bool := first && !f.crossOff ss c && (f.xs ss c).restores l
/-- SRCLKSEL (R369, R372): a lane in use of the receive direction, chosen by the block. R369 does not say which: the choice is
free (log 85). -/
def Fab.srclkSel (f : Fab) (ss c : Nat) : Nat :=
  let x := f.xs ss c
  let lanes := match x.rxTr with | some tr => lanesUsed (tr.excl ||| tr.peer) tr.half | none => x.rxUsed
  if f.crossOff ss c || x.rx.dead then 0
  else lanes.getD (Config.clockLane (xKey ss c) (x.rxExcl) % lanes.length) 0

end Sys2Proof.Machine
end

