-- ==== Sys2Proof/Machine/Seams.lean ====
section
/-! DEFINITION. Seams: the commands of seam-sides (R368 to R407). A direction is named by its receive side `ss` and
crossing `c`, unless a command belongs to the transmit side; each docstring says which. -/

namespace Sys2Proof.Machine

/-! ## Frames (R374 to R379) -/

/-- A corrected symbol is attributed to a physical lane (R379); more than SEAM_CORR_REPAIR within 1 ms request repair
(R386). -/
def Fab.laneCorr (f : Fab) (ss c lane : Nat) : Fab :=
  let now := f.sideTime ss
  let f := f.bump .seam ss O.SEAM_LANE_CORR (30 * c + lane)
  let recent := ((f.xs ss c).corr.get (fun _ => []) lane).filter (fun tn => decide (now < tn.1 + ms 1)) ++ [(now, 1)]
  let f := f.modX ss c (fun x => { x with corr := x.corr.set (fun _ => []) lane recent })
  if f.o .seam ss O.SEAM_CORR_REPAIR < recent.foldl (fun a tn => a + tn.2) 0 then f.autoRepair ss c lane else f

/-- The corrected symbols of a frame (R379). -/
def Fab.frameCorr (f : Fab) (ss c : Nat) (syms : List Nat) : Fab :=
  let used := (f.xs ss c).rxUsed
  let half := (f.xs ss c).rxHalf
  syms.foldl (fun f s =>
    (symbolLanes half s).foldl (fun f k =>
      match used[k]? with
      | some lane => f.laneCorr ss c lane
      | none => f) (f.bump .seam ss O.SEAM_FEC_CE c)) f

/-- The receiver discards a frame and asks for it again with NAK (R377), counted once until the expected FSEQ
arrives. -/
def Fab.refuseFrame (f : Fab) (ss c : Nat) (fr : Frame) : Fab :=
  let again := (f.xs ss c).nak
  let f := f.modX ss c (fun x => { x with nak := true, seen := max x.seen fr.gen, ackOwed := true })
  let f := if again then f else f.bump .seam ss O.SEAM_REPLAYS c
  f.emitNull ss c

/-- ACKSEQ frees the frames up to it (R376). -/
def ackReplay (ack : Nat) (l : List Frame) : List Frame :=
  match l.findIdx? (fun fr => fr.fseq == some ack) with
  | some i => l.drop (i + 1)
  | none => l

/-- A sender handles ACKSEQ and NAK (R376, R377): the first NAK for an ACKSEQ resends, a NAK of a later resend for the
same ACKSEQ resends again, and SEAM_REPLAY_LIMIT such resends start a retrain (R394). -/
def Fab.takeAck (f : Fab) (ss c : Nat) (fr : Frame) : Fab :=
  let f := f.modX ss c (fun x => { x with replay := ackReplay fr.ack x.replay })
  let x := f.xs ss c
  if !fr.nak then
    (f.modX ss c (fun x => { x with nakAck := none, resends := 0 })).emit ss c emitAll
  else if x.nakAck != some fr.ack then
    (f.modX ss c (fun x => { x with nakAck := some fr.ack, resends := 0 })).resend ss c
  else if fr.seen < x.gen then f
  else if f.o .seam ss O.SEAM_REPLAY_LIMIT ≤ x.resends + 1 then
    let f := f.modX ss c (fun x => { x with nakAck := none, resends := 0 })
    (f.seamRaise ss c 31 true 6 fr.ack).retrain (farSide ss) c false
  else
    (f.modX ss c (fun x => { x with resends := x.resends + 1 })).resend ss c

/-- A flit of a good frame enters the landing buffer; one whose packet was cut short is dropped and its credit returned
(R122). -/
def Fab.landFlit (f : Fab) (ss c : Nat) (vf : Nat × Flit) : Fab × List (Nat × Flit) :=
  let x := f.xs ss c
  if vf.2.first || bit x.mid vf.1 then
    (f.modX ss c (fun x => { x with
      mid := if vf.2.last then clearBits x.mid (mask vf.1) else setBit x.mid vf.1 }), [vf])
  else (f.seamCredit ss c vf.1, [])

/-- The slots of a good frame enter the landing buffer as one phit (R370). -/
def Fab.land (f : Fab) (ss c : Nat) (slots : List (Nat × Flit)) : Fab :=
  let r := slots.foldl (fun (acc : Fab × List (Nat × Flit)) vf =>
    let s := acc.1.landFlit ss c vf
    (s.1, acc.2 ++ s.2)) (f, [])
  let tp := sideTile ss c
  r.1.sendPhit tp.1 tp.2 r.2

/-- A good non-null frame with the expected FSEQ (R370, R374, R377). Its slots and credits count only while the
crossing is not DOWN. -/
def Fab.acceptFrame (f : Fab) (ss c : Nat) (fr : Frame) : Fab :=
  let f := f.modX ss c (fun x => { x with
    exp := (x.exp + 1) % 64, nak := false, seen := max x.seen fr.gen, ackOwed := true })
  let f := if f.routeState ss c = 2 then f
    else
      let f := if fr.slots.isEmpty then f
        else (f.modX ss c (fun x => { x with lastFlit := f.sideTime ss })).land ss c fr.slots
      fr.creds.foldl (fun f vc => f.modSeamOut ss c (fun o => o.give true vc)) f
  let f := if fr.cmd = .none then f
    else f.modX ss c (fun x => { x with cmdIn := x.cmdIn ++ [(fr.cmd, fr.arg)] })
  let f := f.emit ss c emitAll
  if (f.xs ss c).ackOwed then f.emitNull ss c else f

/-- A frame that decodes. -/
def Fab.goodFrame (f : Fab) (ss c : Nat) (fr : Frame) : Fab :=
  let f := if fr.awake != (f.xs ss c).awakeIn && (f.xs ss c).tx.runs then f.takeAwake ss c fr.awake else f
  let f := f.takeAck ss c fr
  match fr.fseq with
  | none => f
  | some n => if n = (f.xs ss c).exp then f.acceptFrame ss c fr else f.refuseFrame ss c fr

/-- The framing patterns that end with a frame (R378, R394): numbers that disagree with the lane map raise SEAM_MAP_MISMATCH
and start a retrain, and so does alignment lost on two or more lanes. `none` where neither holds. -/
def Fab.judgeFraming (f : Fab) (ss c : Nat) (runs : List LaneRun) : Option Fab :=
  let js := (f.xs ss c).judgeRuns runs
  match js.findSome? (fun j => match j.2.2 with | .wrong l p => some (j.1, j.2.1, l, p) | _ => none) with
  | some (lane, k, l, p) => some ((f.seamRaise ss c lane false 7 (k + l * 32 + p * 1024)).retrain ss c false)
  | none => if 2 ≤ (js.filter (fun j => j.2.2 == .lost)).length then some (f.retrain ss c false) else none

/-- SEAM_FRAME_RECEIVE (R377): receive side `ss` decodes the next frame of crossing `c`; `e` is what the crossing has done to
it. -/
def execSeamFrameReceive (ss c : Nat) (e : FrameErr) (s : State) : Host.Outcome State Fault Refusal :=
  .next (s.onFab (fun f =>
    match (f.xs ss c).air with
    | [] => f
    | fr :: rest =>
      let f := f.modX ss c (fun x => { x with air := rest })
      if !(f.xs ss c).rx.runs then f
      else match f.judgeFraming ss c e.runs with
        | some g => g
        | none =>
          match fr.decoded e.flips with
          | some (fr', syms) => (f.frameCorr ss c syms).goodFrame ss c fr'
          | none => (f.bump .seam ss O.SEAM_FEC_UE c).refuseFrame ss c fr))

/-! ## Training (R380 to R384) -/

/-- SEAM_TRAINING_PHASE_END (R380): the running phase of the direction that side `ss` receives on crossing `c` ends.
`pll` is TXPLL_LOCK of the transmit side (phase 1); `los` and `lol` are the lane inputs (phases 2 and 3); `bad` are
the lanes that fail the eye check (phase 4) or the alignment (phase 5); `eqs` holds the adapted equaliser states. -/
def execSeamTrainingPhaseEnd (ss c : Nat) (pll : Bool) (los lol bad eqs : Nat) (s : State) :
    Host.Outcome State Fault Refusal :=
  .next (s.onFab (fun f =>
    let far := farSide ss
    match (f.xs ss c).rxTr with
    | none => f
    | some tr =>
      let peer := match (f.xs far c).txTr with | some y => y.excl ||| y.peer | none => 0
      let go (f : Fab) (tr : Training) : Fab :=
        (f.modX ss c (fun x => { x with rxTr := some tr })).modX far c (fun x =>
          { x with txTr := x.txTr.map (fun y => { y with phase := tr.phase }) })
      let all := 2 ^ 30 - 1
      match tr.phase with
      | 1 =>
        if pll then
          go ((f.modSide far (fun x => { x with pll := true })).endC (famKey .seam far) 10) { tr with phase := 3 }
        else f.failTraining ss c tr tr.excl true
      | 3 =>
        go (f.modX ss c (fun x => { x with los := los % 2 ^ 30, lol := lol % 2 ^ 30 }))
          { tr with phase := 4, excl := tr.excl ||| ((los ||| lol) &&& all) }
      | 4 => go f { tr with phase := 5, excl := tr.excl ||| (bad &&& all), eq := if tr.full then eqs else 0 }
      | 5 =>
        let excl := tr.excl ||| (bad &&& all) ||| tr.peer ||| peer
        if 16 < exclCount excl then f.failTraining ss c tr excl false
        else (go f { tr with phase := 6, excl := excl }).sbSend ss (.train c 6 excl)
      | _ => f.endTraining ss c tr (tr.excl ||| tr.peer ||| peer)))

/-- SEAM_TRAIN_MESSAGE (R380, R382): a TRAIN message arrives at side `ss`. It speaks of the direction that its sender
receives, as STATE does; its lanes join the union of exclusions. -/
def execSeamTrainMessage (ss : Nat) (s : State) : Host.Outcome State Fault Refusal :=
  .next (s.onFab (fun f => f.takeSb ss (fun f m =>
    match m with
    | .train c _ excl =>
      some (f.modX ss c (fun x => { x with txTr := x.txTr.map (fun y => { y with peer := y.peer ||| excl }) }))
    | _ => none)))

/-! ## Margins and lane signals (R385, R386) -/

/-- A lane's scan ends (R385, R386). -/
def Fab.laneScan (f : Fab) (ss c lane : Nat) (tog : List ScanPoint) : Fab :=
  let hv := laneMargin tog lane
  let m := hv.1 + 256 * hv.2
  let below (o : Nat) : Bool := decide (hv.1 < field o 0 8) || decide (hv.2 < field o 8 8)
  let f := f.setO .seam ss O.SEAM_MARGIN (30 * c + lane) m
  let f := if below (f.o .seam ss O.SEAM_MARGIN_WARN) then f.seamRaise ss c lane false 2 m else f
  if below (f.o .seam ss O.SEAM_MARGIN_REPAIR) then f.autoRepair ss c lane else f

/-- SEAM_MARGIN_SCAN (R385): receive side `ss` scans the lanes in use of crossing `c` once in every SEAM_SCAN_PERIOD.
`tog` holds the toggles of OSERR at test points. -/
def execSeamMarginScan (ss c : Nat) (tog : List ScanPoint) (s : State) : Host.Outcome State Fault Refusal :=
  .next (s.onFab (fun f =>
    let x := f.xs ss c
    let now := f.sideTime ss
    if x.rx.runs && decide (x.scanAt + ms (f.o .seam ss O.SEAM_SCAN_PERIOD) ≤ now) then
      let f := f.modX ss c (fun x => { x with scanAt := now })
      let f := (List.range 30).foldl (fun f l =>
        if x.rxUsed.contains l then f else f.setO .seam ss O.SEAM_MARGIN (30 * c + l) 0) f
      x.rxUsed.foldl (fun f l => f.laneScan ss c l tog) f
    else f))

/-- SEAM_LANE_LOSS (R386, R394, R403): RXLOS rises on the lanes of `los` and RXLOL on those of `lol`, within one frame.
One lane in use requests repair, two or more start a retrain; loss of signal on every lane with the sideband lost is a
peer reset with its acknowledgement given. -/
def execSeamLaneLoss (ss c los lol : Nat) (s : State) : Host.Outcome State Fault Refusal :=
  .next (s.onFab (fun f =>
    let x := f.xs ss c
    let riseS := x.rxUsed.filter (fun l => bit los l && !bit x.los l)
    let riseL := x.rxUsed.filter (fun l => bit lol l)
    let f := f.modX ss c (fun x => { x with
      los := (x.los ||| los) % 2 ^ 30, lol := (x.lol ||| lol) % 2 ^ 30 })
    if f.sbLost ss && !x.rx.dead && !x.inRst && x.rxUsed.all (fun l => bit (f.xs ss c).los l) then
      let f := (f.peerReset ss c false true)
      f.peerAck ss c
    else if !x.rx.runs then f
    else
      let f := riseS.foldl (fun f l => f.seamRaise ss c l false 0 0) f
      let f := riseL.foldl (fun f l => f.seamRaise ss c l false 1 0) f
      let lanes := x.rxUsed.filter (fun l => riseS.contains l || riseL.contains l)
      match lanes with
      | [] => f
      | [l] => f.autoRepair ss c l
      | _ => f.retrain ss c false))

/-- RXLOS_FALL (R403): RXLOS falls on lanes of a direction in SLEEP or DEEP whose sidebands are lost; the receive side
treats it as a KNOCK. -/
def execRxlosFall (ss c lanes : Nat) (s : State) : Host.Outcome State Fault Refusal :=
  .next (s.onFab (fun f =>
    let x := f.xs ss c
    let fell := (x.los &&& lanes) != 0
    let f := f.modX ss c (fun x => { x with los := clearBits x.los lanes })
    if fell && f.sbLost ss && (x.rx == .sleep || x.rx == .deep) then f.wakeDir ss c else f))

/-! ## Lane commands (R387, R388) -/

/-- The oldest lane command received by a side goes to `g` where it is of the code asked for. -/
def Fab.takeCmd (f : Fab) (ss c : Nat) (cmd : LaneCmd) (g : Fab → Nat → Fab) : Fab :=
  match (f.xs ss c).cmdIn with
  | [] => f
  | (k, arg) :: rest => if k = cmd then g (f.modX ss c (fun x => { x with cmdIn := rest })) arg else f

/-- SEAM_REPAIR_REQ (R388): transmit side `ss` receives REPAIR_REQ; during another repair it is held. -/
def execSeamRepairReq (ss c : Nat) (s : State) : Host.Outcome State Fault Refusal :=
  .next (s.onFab (fun f => f.takeCmd ss c .repairReq (fun f lane =>
    if (f.xs ss c).txRep.isSome then f.modX ss c (fun x => { x with held := x.held ++ [lane] })
    else f.beginRepair ss c lane)))

/-- SEAM_SPARE_TRAINED (R388): receive side `ss` has trained the spare; where it failed (`ok` false), the spare is
excluded as well and the repair continues with the next spare, or as R393 says when none is left. -/
def execSeamSpareTrained (ss c : Nat) (ok : Bool) (s : State) : Host.Outcome State Fault Refusal :=
  .next (s.onFab (fun f =>
    let far := farSide ss
    match (f.xs ss c).rxRep with
    | none => f
    | some r =>
      if r.ready || (f.xs far c).txRep.map (·.lane) != some r.lane then f
      else if ok then
        (f.modX ss c (fun x => { x with rxRep := some { r with ready := true } })).seamCmd ss c .repairReady r.lane
      else
        let f := f.modX ss c (fun x => { x with rxExcl := setBit x.rxExcl r.spare, rxRep := none })
        let f := f.modX far c (fun x => { x with txExcl := setBit x.txExcl r.spare, txRep := none })
        match (f.xs ss c).rxSpares with
        | [] => (f.seamCond ss c r.lane false 4 0).noSpare ss c
        | sp :: _ =>
          (f.modX ss c (fun x => { x with rxRep := some ⟨r.lane, sp, false⟩ })).modX far c
            (fun x => { x with txRep := some ⟨r.lane, sp, false⟩ })))

/-- The transmit side's next repair is the oldest request held. -/
def Fab.heldRepair (f : Fab) (ss c : Nat) : List Nat → Fab
  | [] => f.modX ss c (fun x => { x with held := [] })
  | lane :: rest =>
    if (lanesUsed (f.xs ss c).txExcl (f.xs ss c).txHalf).contains lane then
      (f.modX ss c (fun x => { x with held := rest })).beginRepair ss c lane
    else f.heldRepair ss c rest

/-- SEAM_REPAIR_READY (R388): transmit side `ss` receives REPAIR_READY, sends REPAIR_AT in the last frame under the old
map, and applies the new map. -/
def execSeamRepairReady (ss c : Nat) (s : State) : Host.Outcome State Fault Refusal :=
  .next (s.onFab (fun f => f.takeCmd ss c .repairReady (fun f lane =>
    if (f.xs ss c).txRep.map (·.lane) = some lane then
      let f := f.seamCmd ss c .repairAt lane
      let f := f.modX ss c (fun x => { x with txExcl := setBit x.txExcl lane, txRep := none })
      f.heldRepair ss c (f.xs ss c).held
    else f)))

/-- SEAM_REPAIR_AT (R388, R389): REPAIR_AT arrives at receive side `ss`; the new map applies from the next frame. -/
def execSeamRepairAt (ss c : Nat) (s : State) : Host.Outcome State Fault Refusal :=
  .next (s.onFab (fun f => f.takeCmd ss c .repairAt (fun f lane =>
    match (f.xs ss c).rxRep with
    | none => f
    | some r =>
      if r.lane = lane then
        let f := f.modX ss c (fun x => { x with rxExcl := setBit x.rxExcl lane, rxRep := none })
        let f := f.seamRaise ss c lane false 3 r.spare
        let f := if (f.xs ss c).rxSpares.isEmpty then f.seamCond ss c lane false 4 0 else f
        f.nextRepair ss c (f.xs ss c).want
      else f)))

/-- SEAM_RETRAIN_CMD (R387): transmit side `ss` receives RETRAIN for its direction: 0 short, 1 short at half width,
2 full. -/
def execSeamRetrainCmd (ss c : Nat) (s : State) : Host.Outcome State Fault Refusal :=
  .next (s.onFab (fun f => f.takeCmd ss c .retrain (fun f arg =>
    let rs := farSide ss
    if !(f.xs rs c).rx.runs then f
    else if arg = 1 then f.startTraining rs c false true true
    else f.retrain rs c (arg == 2))))

/-! ## Writes (R386, R394, R407) -/

/-- A write of SEAM_REPAIR_LANE: it requests repair of a lane in use, and is DENIED for any other (R386). -/
def Fab.wRepairLane (f : Fab) (ss c v : Nat) : Fab × Nat :=
  match judgeWrite .seam O.SEAM_REPAIR_LANE c v with
  | none => (f, cDenied)
  | some (lane, code) =>
    let x := f.xs ss c
    if x.rx.runs && x.rxUsed.contains lane then (f.requestRepair ss c lane, code) else (f, cDenied)

/-- SEAM_REPAIR_LANE_WRITE (R386). -/
def execSeamRepairLaneWrite (who ss c v : Nat) (s : State) : Host.Outcome State Fault Refusal :=
  .next (s.onFab (fun f => f.objWrite who .seam ss O.SEAM_REPAIR_LANE c (fun f => f.wRepairLane ss c v)))

/-- Firmware retrains one direction (R394, R395): from RUN or HALF a retrain, from DOWN a training afresh, and a
sleeping direction wakes through training. -/
def Fab.retrainDir (f : Fab) (ss c : Nat) (full : Bool) : Fab :=
  let x := f.xs ss c
  let y := f.xs (farSide ss) c
  if x.inRst || y.inRst || x.peerRst || y.peerRst then f
  else match x.rx with
    | .down => f.startTraining ss c full false false
    | .sleep => f.startTraining ss c full x.rxHalf true
    | .deep => f.startTraining ss c full x.rxHalf true
    | _ => f.retrain ss c full

/-- A write of SEAM_RETRAIN: 1 short training, 2 full training, of both directions (R407). -/
def Fab.wRetrain (f : Fab) (ss c v : Nat) : Fab × Nat :=
  match judgeWrite .seam O.SEAM_RETRAIN c v with
  | none => (f, cDenied)
  | some (k, code) =>
    let down := f.routeState ss c = 2
    -- a direction that still runs on a DOWN crossing starts afresh with the other one
    let one (f : Fab) (rs : Nat) : Fab :=
      if down && (f.xs rs c).rx.runs then
        ((f.bump .seam ss O.SEAM_RETRAINS c).bump .seam (farSide ss) O.SEAM_RETRAINS c).startTraining rs c (k == 2) false
          false
      else f.retrainDir rs c (k == 2)
    (one (one f ss) (farSide ss), code)

/-- SEAM_RETRAIN_WRITE (R394). -/
def execSeamRetrainWrite (who ss c v : Nat) (s : State) : Host.Outcome State Fault Refusal :=
  .next (s.onFab (fun f => f.objWrite who .seam ss O.SEAM_RETRAIN c (fun f => f.wRetrain ss c v)))

/-! ## The PLL (R395, R398) -/

/-- SEAM_PLL_LOSS (R395): TXPLL_LOCK of side `ss` falls. In service it raises SEAM_PLL, whichever
of its crossing-sides are in reset (R406), and takes all eight crossings DOWN. -/
def execSeamPllLoss (ss : Nat) (s : State) : Host.Outcome State Fault Refusal :=
  .next (s.onFab (fun f =>
    if !(f.sideOf ss).pll then f
    else
      let f := f.modSide ss (fun x => { x with pll := false })
      let busy := (List.range 8).any (fun c =>
        let x := f.xs ss c
        !(x.tx.dead || x.tx == .deep))
      if busy then
        let f := if (List.range 8).all (fun c => (f.xs ss c).inRst) then f
          else f.raiseMore (famKey .seam ss) 10 (seamInfo 0 31 true) 0 0
        (List.range 8).foldl (fun f c => f.crossDown ss c 3) f
      else f))

/-! ## Sleep and waking (R396 to R399) -/

/-- SEAM_SLEEP_REQUEST (R396): receive side `ss` of an idle direction lowers AWAKE and sends SLEEP. -/
def execSeamSleepRequest (ss c : Nat) (s : State) : Host.Outcome State Fault Refusal :=
  .next (s.onFab (fun f =>
    let x := f.xs ss c
    let tp := sideTile ss c
    let idle := f.o .seam ss O.SEAM_SLEEP_IDLE
    if x.rx.runs && !x.sleepReq && idle != 0 && decide (x.lastFlit + ns idle ≤ f.sideTime ss)
        && (f.wireOf tp.1 tp.2).isEmpty && f.oI O.FABRIC_MODE != 0
        && !f.sbLost ss && !f.sbLost (farSide ss) then
      let f := f.driveAwake ss c false
      (f.modX ss c (fun x => { x with sleepReq := true })).sbSend ss (.sleep c)
    else f))

/-- SEAM_SLEEP_RECEIVE (R396): transmit side `ss` receives SLEEP; it answers SLEPT when it holds no unacknowledged frame,
no credit return, no CMD and no KNOCK, and KNOCK otherwise. -/
def execSeamSleepReceive (ss : Nat) (s : State) : Host.Outcome State Fault Refusal :=
  .next (s.onFab (fun f => f.takeSb ss (fun f m =>
    match m with
    | .sleep c =>
      let x := f.xs ss c
      if !x.tx.runs then some f
      else if x.replay.isEmpty && x.fifo.isEmpty && x.creds.isEmpty && x.cmds.isEmpty
          && (f.seamOut ss c).knock.isNone then
        let f := (f.takeAwake ss c false).modRoute ss c (fun x => { x with tx := .sleep })
        some (f.sbSend ss (.slept c))
      else some (f.sbSend ss (.knock c))
    | _ => none)))

/-- SEAM_SLEPT_RECEIVE (R396): receive side `ss` has SLEPT, and the direction is in SLEEP. The frames sent before the
lanes went IDLE arrive first. -/
def execSeamSleptReceive (ss : Nat) (s : State) : Host.Outcome State Fault Refusal :=
  .next (s.onFab (fun f => f.takeSb ss (fun f m =>
    match m with
    | .slept c =>
      let x := f.xs ss c
      if x.rx.runs && !x.air.isEmpty then none
      else if x.rx.runs && x.sleepReq then
        some ((f.modRoute ss c (fun x => { x with
          rx := .sleep, sleepReq := false, sleptAt := f.sideTime ss, air := [] })).seamSettle ss)
      else some f
    | _ => none)))

/-- SEAM_DEEP_ENTRY (R398): the direction that side `ss` receives has been in SLEEP for SEAM_DEEP_IDLE; both sides set
its lanes OFF, and a transmit PLL with no lane left stops. -/
def execSeamDeepEntry (ss c : Nat) (s : State) : Host.Outcome State Fault Refusal :=
  .next (s.onFab (fun f =>
    let far := farSide ss
    let x := f.xs ss c
    let idle := f.o .seam ss O.SEAM_DEEP_IDLE
    if x.rx == .sleep && (f.xs far c).tx == .sleep && idle != 0 && decide (x.sleptAt + us idle ≤ f.sideTime ss)
        && !f.sbLost ss && !f.sbLost far then
      let f := f.modRoute ss c (fun x => { x with rx := .deep })
      (f.modRoute far c (fun x => { x with tx := .deep, txOn := false })).pllSettle far
    else f))

/-- SEAM_KNOCK (R397, R399): transmit side `ss` has a flit, a credit return, an acknowledgement or a lane command for a
direction whose AWAKE is low; it sets its lanes ON and sends KNOCK. -/
def execSeamKnock (ss c : Nat) (s : State) : Host.Outcome State Fault Refusal :=
  .next (s.onFab (fun f =>
    let x := f.xs ss c
    let wants := (f.seamOut ss c).knock.isSome || !x.creds.isEmpty || x.ackOwed || !x.cmds.isEmpty
    if wants && !x.awakeIn && (x.tx == .sleep || x.tx == .deep || x.tx.runs) then
      (f.modX ss c (fun x => { x with txOn := !x.tx.runs })).sbSend ss (.knock c)
    else f))

/-- SEAM_KNOCK_RECEIVE (R399): receive side `ss` has KNOCK. -/
def execSeamKnockReceive (ss : Nat) (s : State) : Host.Outcome State Fault Refusal :=
  .next (s.onFab (fun f => f.takeSb ss (fun f m =>
    match m with
    | .knock c => some ((f.modX ss c (fun x => { x with knockIn := !x.awakeOut })).wakeDir ss c)
    | _ => none)))

/-- SEAM_AWAKE_MESSAGE (R399): an AWAKE message sets the level of AWAKE of the direction that side `ss` transmits. -/
def execSeamAwakeMessage (ss : Nat) (s : State) : Host.Outcome State Fault Refusal :=
  .next (s.onFab (fun f => f.takeSb ss (fun f m =>
    match m with
    | .awake c level => some (f.takeAwake ss c level)
    | _ => none)))

/-! ## STATE (R392, R402) -/

/-- What STATE says of the direction that a side receives (R401). -/
def CrossSide.stateMsg (x : CrossSide) : DirSt × Nat × Bool := (x.rx, min 3 x.rxSpares.length, x.rxHalf)

/-- SEAM_STATE_MESSAGE (R392): a STATE message arrives at side `ss`. -/
def execSeamStateMessage (ss : Nat) (s : State) : Host.Outcome State Fault Refusal :=
  .next (s.onFab (fun f => f.takeSb ss (fun f m =>
    match m with
    | .state c st spares half =>
      let f := f.modRoute ss c (fun x => { x with peerRx := st, peerSpares := spares, peerHalf := half })
      some (f.raiseAwake ss c)
    | _ => none)))

/-- SEAM_STATE_SEND (R402): side `ss` sends STATE of crossing `c` on a change, or 1 ms after the last one. -/
def execSeamStateSend (ss c : Nat) (s : State) : Host.Outcome State Fault Refusal :=
  .next (s.onFab (fun f =>
    let x := f.xs ss c
    let m := x.stateMsg
    let now := f.sideTime ss
    if x.stSent != m || decide (x.stAt + ms 1 ≤ now) then
      (f.modX ss c (fun x => { x with stSent := m, stAt := now })).sbSend ss (.state c m.1 m.2.1 m.2.2)
    else f))

/-! ## Sideband locks (R403) -/

/-- SIDEBAND_LOCK_LOSS (R403): receive sideband lane `lane` of side `ss` loses lock. With both lost, SEAM_SB_LOSS, and
every direction of the seam is woken. -/
def execSidebandLockLoss (ss lane : Nat) (s : State) : Host.Outcome State Fault Refusal :=
  .next (s.onFab (fun f =>
    let was := f.sbLost ss
    let f := f.modSide ss (fun x =>
      { x with lock0 := x.lock0 && lane != 0, lock1 := x.lock1 && lane != 1 })
    if !was && f.sbLost ss then
      let f := (f.modSide ss (fun x => { x with sb := [] })).raiseC (famKey .seam ss) 12 (seamInfo 0 31 false) 0 0
      (List.range 8).foldl (fun f c => (f.wakeDir ss c).wakeDir (farSide ss) c) f
    else f))

/-! ## One side in reset (R404, R405) -/

/-- RST_ENTER_RECEIVE (R404): side `ss` has RST_ENTER; it takes the crossing, or all eight, DOWN and answers
RST_SEEN. -/
def execRstEnterReceive (ss : Nat) (s : State) : Host.Outcome State Fault Refusal :=
  .next (s.onFab (fun f => f.takeSb ss (fun f m =>
    match m with
    | .rst c all 0 =>
      let cs := if all then List.range 8 else [c]
      let f := cs.foldl (fun f k => f.peerReset ss k all (k == cs.headD 0)) f
      some (f.sbSend ss (.rst c all 1))
    | _ => none)))

/-- RST_SEEN_RECEIVE (R405): the Groundsheet of the reset side answers RST_ACK. -/
def execRstSeenReceive (ss : Nat) (s : State) : Host.Outcome State Fault Refusal :=
  .next (s.onFab (fun f => f.takeSb ss (fun f m =>
    match m with
    | .rst c all 1 => some (f.sbSend ss (.rst c all 2))
    | _ => none)))

/-- RST_ACK_RECEIVE (R404): the crossing values take their reset values. -/
def execRstAckReceive (ss : Nat) (s : State) : Host.Outcome State Fault Refusal :=
  .next (s.onFab (fun f => f.takeSb ss (fun f m =>
    match m with
    | .rst c all 2 => some ((if all then List.range 8 else [c]).foldl (fun f k => f.peerAck ss k) f)
    | _ => none)))

end Sys2Proof.Machine
end

