-- ==== Sys2Proof/Machine/Lantern.lean ====
section
/-! DEFINITION. Lantern: fabric time (R408 to R442): the tick, exchanges between dies, the servo of the lead Lantern,
steps, PPS_OUT and the time bus. -/

namespace Sys2Proof.Machine

/-! ## The accumulator (R408, R410) -/

/-- Adds to the die time, an 80-bit TIME80 with 24 bits below it. -/
def Lantern.advance (l : Lantern) (x : Int) : Lantern :=
  { l with acc := (((l.acc : Int) + x) % ((2 ^ 104 : Nat) : Int)).toNat }

/-- One LCLK cycle of every die that has supply (R410). -/
def Fab.tick (f : Fab) : Fab :=
  (List.range 4).foldl (fun f d =>
    if (f.die d).ao then f.modLan d (fun l => l.advance l.inc) else f) f

/-- Rounds a time down to the resolution of 62.5 ps (R415, R421). -/
def stamp (t : Nat) : Nat := t / 4096 * 4096
/-- Key of a die's Lantern family and a raise on it. -/
def Fab.lanRaise (f : Fab) (d code i0 i1 : Nat) : Fab := f.raise (famLantern d) code i0 i1 0
/-- A condition of a die's Lantern. -/
def Fab.lanCond (f : Fab) (d code i0 i1 : Nat) : Fab := f.raiseC (famLantern d) code i0 i1 0
/-- Its end. -/
def Fab.lanEnd (f : Fab) (d code : Nat) : Fab := f.endC (famLantern d) code

/-- The servo holds a rate to ±500 ppm (R410, R421). -/
def clampRate (r : Int) : Int := max (-500000000) (min 500000000 r)

/-- A signed instance object (R521). -/
def Fab.oSigned (f : Fab) (idx : Nat) (sub : Nat := 0) : Int := toSigned (f.oI idx sub) 64
/-- Picoseconds in 2^-16 ns. -/
def psUnits (ps : Int) : Int := ps * 65536 / 1000

/-- A Lantern enters HOLDOVER (R440) for a cause of R581: 0 sideband, 1 PPS, 2 upstream, 3 reference. -/
def Fab.holdover (f : Fab) (d cause : Nat) : Fab :=
  (f.modLan d (fun l => { l with st := .holdover, removing := [], good := 0 })).lanCond d 7 cause 0

/-- A Lantern enters ACQUIRE. -/
def Fab.acquire (f : Fab) (d : Nat) : Fab :=
  (f.modLan d (fun l => { l with st := .acquire, good := 0, miss := 0, stepped := false })).lanEnd d 7

/-! ## The spine check (R411) -/

/-- LANTERN_SPINE_CHECK (R411): the check line of die `d`. `l` names the tile registers that have been disturbed since
the last check, with the disturbance in 2^-40 ns; each is reloaded and raises LT_TILE_SYNC. -/
def execLanternSpineCheck (d : Nat) (l : List (Nat × Int)) (s : State) : Host.Outcome State Fault Refusal :=
  .next (s.onFab (fun f =>
    let put (m : SMap Int) (tx : Nat × Int) : SMap Int :=
      if dieOf tx.1 = d then SMap.set (fun _ => 0) m tx.1 tx.2 else m
    let f := f.modLan d (fun x => { x with dev := l.foldl put x.dev })
    let bad := (f.lantern d).dev
    let f := bad.foldl (fun f tx => f.lanRaise d 0 tx.1 ((f.lantern d).tileTime tx.1 / 65536)) f
    f.modLan d (fun x => { x with dev := [] })))

/-! ## Exchanges (R414 to R417) -/

/-- Preferred and fallback seams of a follower (R414). -/
def upSeams (d : Nat) : List Nat := [[], [0, 3], [2, 1], [3, 1]].getD d []
/-- The seam-side of a die on a seam, and the die across it. -/
def sideOn (d seam : Nat) : Nat := if sideDie (2 * seam) = d then 2 * seam else 2 * seam + 1
/-- The die across a seam. -/
def acrossSeam (d seam : Nat) : Nat := sideDie (farSide (sideOn d seam))

/-- Whether a die may take the die across a seam as its upstream (R414). -/
def Fab.upstreamOk (f : Fab) (d seam : Nat) : Bool :=
  let u := f.lantern (acrossSeam d seam)
  !f.sbLost (sideOn d seam) && u.hops != 3 && u.upstream != some seam

/-- The upstream of a follower (R414). -/
def Fab.pickUpstream (f : Fab) (d : Nat) : Option Nat := (upSeams d).find? (fun s => f.upstreamOk d s)

/-- A follower takes its upstream anew; LT_PATH and LT_LINK_LOSS follow (R419, R440). -/
def Fab.chooseUpstream (f : Fab) (d : Nat) : Fab :=
  let up := f.pickUpstream d
  let hops := match up with | some s => min 3 ((f.lantern (acrossSeam d s)).hops + 1) | none => 3
  let f := f.modLan d (fun l => { l with upstream := up, hops := hops })
  let f := match up with
    | some s => if hops = 3 then f.lanCond d 2 s 0 else f.lanEnd d 2
    | none => f.lanEnd d 2
  if (upSeams d).all (fun s => f.sbLost (sideOn d s)) then f.lanCond d 3 0 0 else f.lanEnd d 3

/-- An exchange has given no offset (R417). -/
def Fab.missed (f : Fab) (d : Nat) : Fab :=
  let f := f.modLan d (fun l => { l with miss := l.miss + 1, req := none })
  if (f.lantern d).st = .locked ∧ 4 ≤ (f.lantern d).miss then f.holdover d 0 else f

/-- The rate that removes an offset over four exchanges of 16 µs, within ±100 ppm (R417), in parts per 10^12. -/
def removalRate (theta : Int) : Int :=
  max (-100000000) (min 100000000 (theta * 1000000000000 / (65536 * 64000)))

/-- The rate of a follower with removals (R417): they adjust its base rate together by at most ±100 ppm. -/
def Lantern.withRemovals (l : Lantern) (r : List (Int × Nat)) : Lantern :=
  { l with removing := r
           rate := clampRate (l.base + max (-100000000) (min 100000000 (r.foldl (fun a e => a + e.1) 0))) }

/-- An exchange passes for the removals that run; each ends after four (R417). -/
def Lantern.endRemoval (l : Lantern) : Lantern :=
  if l.removing.isEmpty then l
  else l.withRemovals ((l.removing.map (fun e => (e.1, e.2 - 1))).filter (fun e => e.2 != 0))

/-- LANTERN_EXCHANGE (R415): every 16 µs follower `d` sends TIME_REQ to its upstream. An earlier exchange still without
its answer has given no offset. -/
def execLanternExchange (d : Nat) (s : State) : Host.Outcome State Fault Refusal :=
  .next (s.onFab (fun f =>
    if d = 0 ∨ 4 ≤ d then f
    else
      let f := if (f.lantern d).req.isSome then f.missed d else f
      let f := (f.modLan d Lantern.endRemoval).chooseUpstream d
      let l := f.lantern d
      match l.upstream with
      | none => f.missed d
      | some seam =>
        (f.modLan d (fun l => { l with req := some (l.seq, stamp l.time), seq := (l.seq + 1) % 256 })).sbSend
          (sideOn d seam) (.timeReq l.seq)))

/-- State code of TIME_RSP (R415). -/
def LanternSt.rspCode : LanternSt → Nat
  | .acquire => 0 | .locked => 1 | .holdover => 2 | .free => 3

/-- TIME_REQ_RECEIVE (R415): the die of side `ss` answers; `turn` is the time t3 − t2 in 2^-16 ns that its answer
took. -/
def execTimeReqReceive (ss turn : Nat) (s : State) : Host.Outcome State Fault Refusal :=
  .next (s.onFab (fun f => f.takeSb ss (fun f m =>
    match m with
    | .timeReq seq =>
      let l := f.lantern (sideDie ss)
      some (f.sbSend ss (.timeRsp seq (stamp l.time) (stamp turn % 2 ^ 32) l.st.rspCode l.hops))
    | _ => none)))

/-- A follower steps its own die by θ at once (R417). -/
def Lantern.ownStep (l : Lantern) (theta : Int) : Lantern :=
  { (l.advance (theta * 2 ^ 24)) with stepSum := l.stepSum + theta, stepped := true, good := 0, removing := [],
                                      rate := l.base }

/-- A follower starts to remove an offset, beside the removals that run (R417). -/
def Lantern.remove (l : Lantern) (theta : Int) : Lantern := l.withRemovals (l.removing ++ [(removalRate theta, 4)])

/-- A follower handles an offset by its state (R417). Thresholds: 100 ns, 10 ns, 1 ns. -/
def Fab.follow (f : Fab) (d : Nat) (theta : Int) : Fab :=
  let size := theta.natAbs
  match (f.lantern d).st with
  | .locked =>
    let f := f.modLan d (fun l => ({ l with base := clampRate (Config.followerRate l.base theta) }).remove theta)
    if ns 10 < size then (f.lanRaise d 1 (ofSigned theta 64) 0).acquire d else f
  | .holdover => if (f.lantern d).refOk then (f.acquire d).modLan d (fun l => l.remove theta) else f
  | _ =>
    let l := f.lantern d
    if !l.stepped && decide (ns 100 < size) then f.modLan d (fun l => l.ownStep theta)
    else
      let good := if size ≤ ns 1 then l.good + 1 else 0
      f.modLan d (fun l => { l.remove theta with good := good, st := if 16 ≤ good then .locked else .acquire })

/-- TIME_RSP_RECEIVE (R416, R417): the answer arrives at side `ss` of a follower, which forms θ and δ. An answer of
another sequence, or one that reports 3 hops, gives no offset. -/
def execTimeRspReceive (ss : Nat) (s : State) : Host.Outcome State Fault Refusal :=
  .next (s.onFab (fun f => f.takeSb ss (fun f m =>
    match m with
    | .timeRsp seq t2 dt _ hops =>
      let d := sideDie ss
      let l := f.lantern d
      match l.req with
      | none => some f
      | some (n, t1) =>
        if n ≠ seq ∨ hops = 3 ∨ l.upstream ≠ some (sideSeam ss) then some (f.missed d)
        else
          let t4 : Int := stamp l.time
          let asym := psUnits (toSigned (f.oD d O.LANTERN_ASYM (sideSeam ss)) 64)
          let theta := (((t2 : Int) - t1) - (t4 - (t2 + dt)) - asym) / 2
          let delta := ((t4 - t1) - dt) / 2
          let f := f.modLan d (fun l => { l with
            req := none, miss := 0, offset := theta, delay := (delta * 1000 / 65536).toNat % 2 ^ 32 })
          some (f.follow d theta)
    | _ => none)))

/-! ## Steps (R427 to R431) -/

/-- Sends a STEP to every die that takes die `d` as its upstream (R427). -/
def Fab.sendStep (f : Fab) (d a : Nat) (amount : Int) : Fab :=
  (sidesOfDie d).foldl (fun f ss =>
    if (f.lantern (sideDie (farSide ss))).upstream = some (sideSeam ss) then f.sbSend ss (.timeStep a amount) else f) f

/-- The lead Lantern sets the apply time and sends the step to its followers (R427). -/
def Fab.requestStep (f : Fab) (amount : Int) : Fab :=
  let a := f.dieTime 0 + us 50
  (f.modLan 0 (fun l => { l with step := some (a, amount) })).sendStep 0 a amount

/-- Whether a write that asks for a step is refused (R428); the amount is in 2^-16 ns. -/
def Fab.stepRefused (f : Fab) (amount : Int) : Bool :=
  (f.lantern 0).step.isSome || f.oI O.LANTERN_SOURCE == 2
    || (f.oI O.LANTERN_SOURCE == 1 && amount % (65536 * 1000000000) != 0)
    || decide (65536 * 1000000000000000 < amount.natAbs)

/-- A write of LANTERN_STEP, in ns (R427, R428). -/
def Fab.wLanternStep (f : Fab) (v : Nat) : Fab × Nat :=
  let amount := toSigned v 64 * 65536
  if f.stepRefused amount then (f, cDenied) else (f.requestStep amount, cOk)

/-- LANTERN_STEP_WRITE (R427). -/
def execLanternStepWrite (who v : Nat) (s : State) : Host.Outcome State Fault Refusal :=
  .next (s.onFab (fun f => Fab.done (f.wLanternStep v) who))

/-- A write of LANTERN_SET: the amount makes fabric time equal the value at the apply time (R427, R428). -/
def Fab.wLanternSet (f : Fab) (v : Nat) : Fab × Nat :=
  let amount : Int := ((v % 2 ^ 80 : Nat) : Int) - (f.dieTime 0 + us 50 : Nat)
  if f.stepRefused amount then (f, cDenied) else (f.requestStep amount, cOk)

/-- LANTERN_SET_WRITE (R427). -/
def execLanternSetWrite (who v : Nat) (s : State) : Host.Outcome State Fault Refusal :=
  .next (s.onFab (fun f => Fab.done (f.wLanternSet v) who))

/-- STEP_APPLY (R335, R427, R429): at die time A the step is applied on every tile of die `d`. -/
def execStepApply (d : Nat) (s : State) : Host.Outcome State Fault Refusal :=
  .next (s.onFab (fun f =>
    match (f.lantern d).step with
    | none => f
    | some (a, amount) =>
      if f.dieTime d < a then f
      else
        let f := (holdersOf d).foldl (fun f w => f.beforeStep w) f
        let f := (f.modLan d (fun l =>
          { l.advance (amount * 2 ^ 24) with step := none, stepSum := l.stepSum + amount })).bump .die d
          O.LANTERN_STEPS 0
        (holdersOf d).foldl (fun f w => f.afterStep w) f))

/-! ## The servo of the lead Lantern (R420 to R423) -/

/-- An offset, folded into (-5e8, +5e8] ns (R421). -/
def foldSecond (x : Int) : Int :=
  let s : Int := 65536000000000
  let r := x % s
  if s / 2 < r then r - s else r

/-- The servo of R421 on an offset `e` in 2^-16 ns. -/
def Fab.servo (f : Fab) (e : Int) : Fab :=
  let l := f.lantern 0
  let size := e.natAbs
  let tc : Int := f.oI O.LANTERN_TIME_CONST
  let f := f.modLan 0 (fun l => { l with offset := e })
  let thr := f.oI O.STEP_THRESH
  if l.st = .acquire ∧ 0 < thr ∧ ns thr < size then
    let f := f.modLan 0 (fun l => { l with integ := 0 })
    if l.step.isSome then f else f.requestStep (-e)
  else
    let integ := l.integ + e
    let rate := clampRate (-((e * 4 * tc + integ) * 1000 / (65536 * 4 * tc * tc)))
    let lock := ns (f.oI O.LOCK_THRESH)
    let good := if size ≤ lock then l.good + 1 else 0
    let f := f.modLan 0 (fun l => { l with
      integ := integ, rate := rate, base := rate, good := good,
      st := if l.st = .acquire ∧ 4 ≤ good then .locked else l.st })
    if (f.lantern 0).st = .locked ∧ 10 * lock < size then
      (f.lanRaise 0 1 (ofSigned e 64) 0).modLan 0 (fun l => { l with st := .acquire })
    else f

/-- An edge or a sample returns the lead Lantern from HOLDOVER to ACQUIRE, its integral term kept (R422), unless its
reference is lost (R423). -/
def Fab.leadReturns (f : Fab) : Fab :=
  if (f.lantern 0).st = .holdover ∧ (f.lantern 0).refOk = true then f.acquire 0 else f

/-- PPS_IN_EDGE (R421, R634): PPS_IN of die `d` has been high for 100 ns. Those of D1 to D3 are ignored, and so is an
edge less than 500 ms after the last counted one. -/
def execPpsInEdge (d : Nat) (s : State) : Host.Outcome State Fault Refusal :=
  .next (s.onFab (fun f =>
    let l := f.lantern 0
    let now := stamp l.time
    let run := (l.run).toNat
    let soon := match l.edgeAt with | some t => decide (run < t + ms 500) | none => false
    if d ≠ 0 ∨ soon = true then f
    else
      let f := f.bump .inst 0 O.PPS_IN_COUNT 0
      let f := (f.modLan 0 (fun l => { l with
        ppsAt := run, edgeAt := some run, ppsNs := now / 65536 })).lanEnd 0 4
      if f.oI O.LANTERN_SOURCE = 1 then
        let f := f.leadReturns
        if (f.lantern 0).st = .holdover then f
        else f.servo (foldSecond ((now : Int) - psUnits (f.oSigned O.PPS_DELAY)))
      else f))

/-- PPS_TIMEOUT (R422). -/
def execPpsTimeout (s : State) : Host.Outcome State Fault Refusal :=
  .next (s.onFab (fun f =>
    let l := f.lantern 0
    if f.oI O.LANTERN_SOURCE = 1 ∧ ((l.ppsAt + ms (f.oI O.LANTERN_PPS_TIMEOUT) : Nat) : Int) ≤ l.run then
      (f.lanCond 0 4 0 l.ppsNs).holdover 0 1
    else f))

/-- LREFCLK_LOSS (R423): the reference of die `d` is lost. -/
def execLrefclkLoss (d : Nat) (s : State) : Host.Outcome State Fault Refusal :=
  .next (s.onFab (fun f =>
    if (f.lantern d).refOk then
      ((f.modLan d (fun l => { l with refOk := false })).lanCond d 6 0 0).holdover d 3
    else f))

/-- LREFCLK_RETURN (R423): the reference returns and the PLL relocks. In FREE the lead Lantern has the state FREE
(R420). -/
def execLrefclkReturn (d : Nat) (s : State) : Host.Outcome State Fault Refusal :=
  .next (s.onFab (fun f =>
    if (f.lantern d).refOk then f
    else
      let f := ((f.modLan d (fun l => { l with refOk := true })).lanEnd d 6).acquire d
      if d = 0 ∧ f.oI O.LANTERN_SOURCE = 0 then f.modLan 0 (fun l => { l with st := .free }) else f))

/-- A write of LANTERN_SOURCE (R442). -/
def Fab.wLanternSource (f : Fab) (v : Nat) : Fab × Nat :=
  match f.wPlain .inst 0 O.LANTERN_SOURCE 0 v with
  | (f, code) =>
    if code = cDenied then (f, code)
    else
      let f := f.acquire 0
      let run := ((f.lantern 0).run).toNat
      (f.modLan 0 (fun l => { l with
        integ := 0, ppsAt := run, upAt := run, st := if v = 0 then .free else .acquire }), code)

/-- LANTERN_SOURCE_WRITE (R442). -/
def execLanternSourceWrite (who v : Nat) (s : State) : Host.Outcome State Fault Refusal :=
  .next (s.onFab (fun f => Fab.done (f.wLanternSource v) who))

/-- A write of LANTERN_UP_PORT restarts the timeout of R426. -/
def Fab.wUpPort (f : Fab) (v : Nat) : Fab × Nat :=
  match f.wPlain .inst 0 O.LANTERN_UP_PORT 0 v with
  | (f, code) =>
    if code = cDenied then (f, code)
    else (f.modLan 0 (fun l => { l with upAt := (l.run).toNat }), code)

/-! ## Following an upstream switch (R424 to R426) -/

/-- CRC-8 over the low `n` bits of a number, bit 0 first: polynomial 0x07, initial value 0 (R435). -/
def crc8 (w : Nat) : Nat → Nat
  | 0 => 0
  | n + 1 =>
    let c := crc8 w n
    let b := (b2n (bit c 7) + b2n (bit w n)) % 2
    (2 * c % 256) ^^^ (7 * b)

/-- The lead Lantern uses an offset of the upstream switch (R425). -/
def Fab.useUpstream (f : Fab) (e : Int) : Fab :=
  let f := (f.bump .inst 0 O.UP_SAMPLE_COUNT 0).modLan 0 (fun l => { l with upAt := (l.run).toNat, upNs := l.time / 65536 })
  let f := (f.lanEnd 0 5).leadReturns
  if (f.lantern 0).st = .holdover then f else f.servo e

/-- Sends an UP_OFFSET along a die's upstream path (R425). -/
def Fab.sendOffset (f : Fab) (d : Nat) (e : Int) (seq : Nat) : Fab :=
  match (f.lantern d).upstream with
  | some seam => f.sbSend (sideOn d seam) (.timeOffset e seq)
  | none => f

/-- TIME_SAMPLE (R424, R425, R436): the 176 bits `w` of a time sample on TSg. -/
def execTimeSample (g w : Nat) (s : State) : Host.Outcome State Fault Refusal :=
  .next (s.onFab (fun f =>
    let d := g / 16
    let port := 4 * g + field w 0 2
    if f.oI O.LANTERN_SOURCE ≠ 2 ∨ ¬ bit (f.o .die d O.LANTERN_TB_EN) (g % 16) = true
        ∨ port ≠ f.oI O.LANTERN_UP_PORT ∨ 64 ≤ g then f
    else if field w 168 8 ≠ crc8 w 168 then f.modLan d (fun l => { l with upBad := true })
    else
      let seq := field w 162 6
      if (f.lantern d).upSeq = some seq then f
      else
        let f := f.modLan d (fun l => { l with upSeq := some seq, upBad := false })
        let e : Int := (field w 2 80 : Int) - (field w 82 80 : Int)
        if d = 0 then f.useUpstream e else f.sendOffset d (toSigned (ofSigned e 64) 64) seq))

/-- TIME_CMD_RECEIVE (R425, R427): a TIME_CMD arrives at side `ss`: a STEP of the upstream is armed and forwarded, an
UP_OFFSET is forwarded, or used by D0. -/
def execTimeCmdReceive (ss : Nat) (s : State) : Host.Outcome State Fault Refusal :=
  .next (s.onFab (fun f => f.takeSb ss (fun f m =>
    let d := sideDie ss
    match m with
    | .timeStep a amount =>
      if (f.lantern d).upstream = some (sideSeam ss) then
        some ((f.modLan d (fun l => { l with step := some (a, amount) })).sendStep d a amount)
      else some f
    | .timeOffset e seq =>
      if d = 0 then some (if f.oI O.LANTERN_SOURCE = 2 then f.useUpstream e else f)
      else some (f.sendOffset d e seq)
    | _ => none)))

/-- UP_TIMEOUT (R426, R581): whether the last sample failed its CRC is known where it arrives, at the die of
LANTERN_UP_PORT. -/
def execUpTimeout (s : State) : Host.Outcome State Fault Refusal :=
  .next (s.onFab (fun f =>
    let l := f.lantern 0
    if f.oI O.LANTERN_SOURCE = 2 ∧ ((l.upAt + ms (f.oI O.LANTERN_UP_TIMEOUT) : Nat) : Int) ≤ l.run then
      (f.lanCond 0 5 (b2n (f.lantern (f.oI O.LANTERN_UP_PORT / 64)).upBad) l.upNs).holdover 0 2
    else f))

/-! ## PPS_OUT and the time bus (R432 to R435) -/

/-- Whole seconds of the die time less LANTERN_PPS_OUT_OFFSET (R432). -/
def Fab.ppsIndex (f : Fab) (d : Nat) : Nat :=
  (((f.dieTime d : Int) - psUnits (toSigned (f.oD d O.LANTERN_PPS_OUT_OFFSET) 64)) / 65536000000000).toNat

/-- PPS_OUT_EDGE (R430 to R433): PPS_OUT of die `d` rises at a whole second; an edge that a backward step repeats does
not come again, and none comes during a cold reset. -/
def execPpsOutEdge (d : Nat) (s : State) : Host.Outcome State Fault Refusal :=
  .next (s.onFab (fun f =>
    let k := f.ppsIndex d
    if !f.coldRuns && decide ((f.lantern d).ppsSec < k) then
      f.modLan d (fun l => { l with
        ppsSec := k, ppsOut := if f.oD d O.LANTERN_PPS_OUT_WIDTH = 0 then none else some (l.run).toNat })
    else f))

/-- PPS_OUT_FALL (R432). -/
def execPpsOutFall (d : Nat) (s : State) : Host.Outcome State Fault Refusal :=
  .next (s.onFab (fun f =>
    match (f.lantern d).ppsOut with
    | some t =>
      if ((t + us (f.oD d O.LANTERN_PPS_OUT_WIDTH) : Nat) : Int) ≤ (f.lantern d).run then
        f.modLan d (fun l => { l with ppsOut := none })
      else f
    | none => f))

/-- STATE of a time frame (R435). -/
def Lantern.busState (l : Lantern) : Nat :=
  if l.invalid then 3 else match l.st with | .locked => 1 | .holdover => 2 | _ => 0

/-- A time frame of a port group (R435): TIME is the tile time at the next frame's bit 0, 256 LCLK cycles later. -/
def Lantern.frame (l : Lantern) (g : Nat) : Nat :=
  let time := (l.advance (256 * l.inc : Nat)).tileTime (4 * g)
  let w := time + (2 * l.inc / 2 ^ 12 % 2 ^ 32) * 2 ^ 80 + l.busState * 2 ^ 112
  w + crc8 w 120 * 2 ^ 120

/-- TIME_FRAME (R434, R435): a frame begins on the time bus of port group `g`; a disabled group holds its data low. -/
def execTimeFrame (g : Nat) (s : State) : Host.Outcome State Fault Refusal :=
  .next (s.onFab (fun f =>
    let d := g / 16
    if 64 ≤ g then f
    else
      let en := bit (f.o .die d O.LANTERN_TB_EN) (g % 16)
      f.modLan d (fun l =>
        { l with frames := SMap.set (fun _ => 0) l.frames g (if en then l.frame g else 0) })))

end Sys2Proof.Machine
end

