-- ==== Sys2Proof/Machine/Power.lean ====
section
/-! DEFINITION. Power: tile power states (R447 to R458), quadrant PLLs (R459 to R461), fabric modes (R132, R400, R462,
R463), power handshakes (R638 to R642), and the knocks that wake a tile (R115, R181). -/

namespace Sys2Proof.Machine

/-- Changes the power side of a tile. -/
def Fab.modPw (f : Fab) (t : Nat) (g : TilePow → TilePow) : Fab := f.modTile t (fun x => { x with pw := g x.pw })

/-! ## Quadrant PLLs (R459 to R461, R646) -/

/-- QPLL_STATE: 0 RUNNING, 1 PARKED, 2 RELOCKING. -/
def Fab.qpll (f : Fab) (q : Nat) : Nat := f.o .quad q O.QPLL_STATE
/-- Sets PD_QP_REQ of a quadrant. -/
def Fab.setQp (f : Fab) (q : Nat) (b : Bool) : Fab :=
  f.modDie (q / 4) (fun d => { d with qpReq := modAt d.qpReq (q % 4) (fun _ => b) })
/-- A Parked PLL starts to relock (R461). -/
def Fab.relock (f : Fab) (q : Nat) : Fab :=
  if f.qpll q = 1 then
    ((f.setO .quad q O.QPLL_STATE 0 2).bump .quad q O.QPLL_RELOCKS 0).setQp q true
  else f

/-! ## Time in states (R476) -/

/-- TILE_STATE (R450, R453): an entry under way still reads the state before it. -/
def Tile.shown (x : Tile) : TState := if x.pw.entering then x.pw.before else x.st
/-- Subindex of TILE_TIME_IN for a state. -/
def timeInSub : TState → Option Nat
  | .t0 => some 1 | .t1 => some 2 | .t2 => some 3 | .t3 => some 4 | _ => none
/-- Brings TILE_TIME_IN of a tile up to date. -/
def Fab.accTime (f : Fab) (t : Nat) : Fab :=
  let now := (f.run t).toNat
  let whole := (now - (f.tile t).pw.since) / 65536
  let f := match timeInSub (f.tile t).shown with
    | some sub => f.bump .tile t O.TILE_TIME_IN sub whole
    | none => f
  f.modPw t (fun p => { p with since := p.since + whole * 65536 })

/-! ## Wakes (R450, R453, R454) -/

/-- What follows in a tile's sequence once its acknowledgements stand as they do. -/
def TilePow.proceed (p : TilePow) (st : TState) : TilePow :=
  if p.waking then
    -- TILE_LOGIC is on: the SRAM leaves retention (R453)
    if p.tlAck && p.tlReq then { p with retReq := false } else p
  else if p.entering then
    match st with
    | .t3 =>
      if !p.tlAck && p.tsReq then { p with tsReq := false }
      else if !p.tlAck && !p.tsAck && !p.retAck then { p with entering := false }
      else p
    | _ => if !p.tlAck && p.retAck then { p with entering := false } else p
  else p

/-- A tile's exit to T0 starts, or its entry is aborted; a wake in a Parked quadrant starts the relock (R454, R458,
R461, R641). -/
def Fab.startWake (f : Fab) (t : Nat) : Fab :=
  let f := f.relock (quadOf t)
  let x := f.tile t
  let go (p : TilePow) : TilePow :=
    match x.st with
    | .t1 => { p with waking := true, wakeReq := false }
    | .t2 => { p with waking := true, wakeReq := false, tlReq := true, t3Gnt := false }
    | .t3 => { p with
        waking := true, wakeReq := false, tlReq := true, tsReq := true, retReq := false, t3Gnt := false }
    | _ => { p with wakeReq := false }
  f.modPw t (fun p => (go p).proceed x.st)

/-- Whether something wants a sleeping tile awake: a KNOCK, I_KNOCK, a wake request, TILE_HOLD, or work of its own. -/
def Fab.wakeWanted (f : Fab) (t : Nat) : Bool :=
  let p := (f.tile t).pw
  p.wakeReq || (f.ni t).knock || (List.range 8).any (fun k => f.knocked t k) || f.oT t O.TILE_HOLD == 1
    || !f.tileIdle t 1

/-- Whether a tile sleeps and is not on its way out. -/
def Tile.asleep (x : Tile) : Bool := (x.st == .t1 || x.st == .t2 || x.st == .t3) && !x.pw.waking

/-- KNOCK_RECEIVED (R115): KNOCK is high on input `p` of tile `t`, and its Groundsheet wakes it. -/
def execKnockReceived (t p : Nat) (s : State) : Host.Outcome State Fault Refusal :=
  .next (s.onFab (fun f =>
    if f.knocked t p && ((f.tile t).asleep || ((f.tile t).st == .t0 && !f.qclkRuns t)) then f.startWake t else f))

/-- I_KNOCK (R181): the port controller raises I_KNOCK; it acts as KNOCK does. -/
def execIKnock (t : Nat) (s : State) : Host.Outcome State Fault Refusal :=
  .next (s.onFab (fun f =>
    let f := f.modNi t (fun n => { n with knock := true })
    if (f.tile t).asleep || ((f.tile t).st == .t0 && !f.qclkRuns t) then f.startWake t
    else f.settleKnock t))

/-- TILE_WAKE (R453, R454). -/
def execTileWake (t : Nat) (s : State) : Host.Outcome State Fault Refusal :=
  .next (s.onFab (fun f => 
    if ((f.tile t).asleep && f.wakeWanted t)
        || ((f.tile t).st == .t0 && !f.qclkRuns t && (f.tile t).pw.wakeReq) then f.startWake t
    else f))

/-- Whether a wake may end: the domains are on and the quadrant's clock runs (R448, R453). -/
def Fab.wakeReady (f : Fab) (t : Nat) : Bool :=
  let p := (f.tile t).pw
  p.waking && f.qclkRuns t && p.tlReq && p.tlAck && p.tsReq && p.tsAck && !p.retReq && !p.retAck

/-- Scheduling state of a holder after T3 (R333, R455): reset, with every bucket full at its retained depth. -/
def Fab.resetSched (f : Fab) (w : Who) : Fab :=
  let now := f.time w.tile
  [0, 1].foldl (fun f dir => f.modSched w dir (fun x => { Sched.reset with
    seq := x.seq, cls := (List.range 6).map (fun s => { ClassState.reset with
      tok := if s = 0 then ClassState.reset.tok else (1024 * f.oW w O.SHAPER_BURST (ssub dir s) : Nat)
      last := now }) })) f

/-- Outputs whose credits are owed load them at a waking while AWAKE is high (R116). -/
def Fab.loadOwed (f : Fab) (t : Nat) : Fab :=
  (List.range 10).foldl (fun f p =>
    let o := f.out t p
    if o.owed && o.awake && f.receiverAwake t p then f.modOut t p (fun o => o.load (decide (p < 8) && isSeam t p))
    else f) f

/-- A tile runs in T0 again: no wake or entry is under way, and its idle timers start (R451, R453). -/
def Fab.toRun (f : Fab) (t : Nat) : Fab :=
  f.modTile t (fun x => { x with st := .t0, pw := { x.pw with
    waking := false, entering := false, wakeReq := false, idle1 := 0,
    idle2 := (f.run t).toNat, idle3 := (f.run t).toNat } })

/-- Every queue of a holder's schedulers wakes when it is next eligible (R307, R334). -/
def Fab.schedsWake (f : Fab) (w : Who) : Fab :=
  [0, 1].foldl (fun f dir => f.modSched w dir (fun x =>
    { x with cls := x.cls.map (fun c => { c with dormant := true }) })) f
/-- Every queue of the NIs of a tile wakes when it is next eligible (R307, R334). -/
def Fab.queuesWake (f : Fab) (t : Nat) : Fab :=
  let f := f.schedsWake (.ni t)
  if isSpTile t then f.schedsWake (.sp (dieOf t)) else f

/-- The seam directions that end at a tile raise AWAKE where they may (R399, R650). -/
def Fab.raiseSeams (f : Fab) (t : Nat) : Fab :=
  (List.range 8).foldl (fun f p => match seamPort t p with
    | some (ss, c) => f.raiseAwake ss c
    | none => f) f

/-- TILE_WAKE_DONE (R453, R455, R231, R307): the clock gate opens and AWAKE rises. From T3 the tag table, the hold queue
and the scheduling state start afresh; from T2 and T3 the lens is disabled until a LENS_INV. -/
def execTileWakeDone (t : Nat) (s : State) : Host.Outcome State Fault Refusal :=
  .next (s.onFab (fun f =>
    let x := f.tile t
    if !f.wakeReady t then f
    else
      let from3 := x.st == .t3
      let deep := x.st == .t2 || from3
      let f := f.accTime t
      -- an entry that was aborted has reached no state to wake from
      let f := if x.pw.entering && x.pw.before == .t0 then f
        else (f.bumpT t O.TILE_WAKES).event t 0x50 0
      let f := f.toRun t
      let f := if from3 then
          (f.modNi t (fun n => { n with tags := [], holdQ := [], waitH := [] })).resetSched (.ni t)
        else f
      let f := f.queuesWake t
      let f := if deep then
          (f.modNi t (fun n => { n.lensClear with lensOn := false, lensT := none, acked := false })).lensGreet t
        else f
      let f := f.settleKnock t
      let f := if isSpTile t then f.modSp (dieOf t) (fun n => { n with pdReq := n.pdReq && x.pw.t3Req }) else f
      (f.loadOwed t).raiseSeams t))

/-! ## Entries (R451 to R453) -/

/-- AWAKE of the seam directions that end at a tile falls as it sleeps (R117). -/
def Fab.dropSeams (f : Fab) (t : Nat) : Fab :=
  (List.range 8).foldl (fun f p => match seamPort t p with
    | some (ss, c) => if (f.xs ss c).awakeOut then f.driveAwake ss c false else f
    | none => f) f

/-- AWAKE of a tile falls at the senders that send to it (R117). -/
def Fab.dropAwake (f : Fab) (t : Nat) : Fab :=
  let f := (List.range 6).foldl (fun f p => match neighbour t p with
    | some (u, q) => f.modOut u q (fun o => { o with awake := false })
    | none => f) f
  let f := [pSlot0, pSlot1, sndNi, sndUnit].foldl (fun f p => f.modOut t p (fun o => { o with awake := false })) f
  f.dropSeams t

/-- Whether a tile refuses to sleep because its Groundsheet cell's crossing is fenced (R470). -/
def Fab.cellFenced (f : Fab) (t : Nat) : Bool := f.cdcFenced (.cell t)

/-- TILE_DOZE_ENTRY (R451). -/
def execTileDozeEntry (t : Nat) (s : State) : Host.Outcome State Fault Refusal :=
  .next (s.onFab (fun f =>
    let x := f.tile t
    let idle := f.oT t O.TILE_DOZE_IDLE
    if x.st == .t0 && !x.pw.waking && f.qclkRuns t && idle != 0 && decide (idle ≤ x.pw.idle1) && f.sleepOk t 1
        && !x.pw.wakeReq && !f.cellFenced t then
      ((f.accTime t).modTile t (fun x => { x with st := .t1 })).dropAwake t
    else f))

/-- What entry to T2 or T3 does beside its handshakes: the epoch ends (R182), the lens clears (R209), and the
reservations of a Commons bank clear (R288). Its NIs owe no acknowledgement and no drain report from then on (R228,
R241). -/
def Fab.enterDeep (f : Fab) (t : Nat) : Fab :=
  let zero := List.replicate 8 0
  let f := f.modNi t (fun n => { n.lensClear with
    epoch := false, iCred := zero, iShare := zero, eCred := zero, eMax := zero, tgnt := none })
  match unit1 t with
  | .cmn n => f.clearAllResv n
  | _ => f

/-- The entry to T2 begins (R453); a service port's down stream is held from then on (R292). -/
def Fab.beginNap (f : Fab) (t : Nat) : Fab :=
  let f := ((f.cdcEvent (.cell t)).accTime t).modTile t (fun x => { x with st := .t2, pw := { x.pw with
    entering := true, before := x.st, retReq := true, tlReq := false, deepAt := (f.run t).toNat } })
  let f := if isSpTile t then f.spPowerDown (dieOf t) else f
  ((f.enterDeep t).dropAwake t).oweLess

/-- The entry to T3 begins: TILE_LOGIC goes first, then TILE_SRAM (R448). The request crosses to the Groundsheet cell
(R470). -/
def Fab.beginOff (f : Fab) (t : Nat) : Fab :=
  let granted := (f.tile t).pw.t3Req
  let f := ((f.cdcEvent (.cell t)).accTime t).modTile t (fun x => { x with st := .t3, pw := { x.pw with
    entering := true, before := x.st, tlReq := false, retReq := false, t3Gnt := granted,
    tsReq := x.pw.tlAck, deepAt := if x.st = .t2 then x.pw.deepAt else (f.run t).toNat } })
  ((f.enterDeep t).dropAwake t).oweLess

/-- TILE_NAP_ENTRY (R451, R453). -/
def execTileNapEntry (t : Nat) (s : State) : Host.Outcome State Fault Refusal :=
  .next (s.onFab (fun f =>
    let x := f.tile t
    let idle := f.oT t O.TILE_NAP_IDLE
    if (x.st == .t0 || x.st == .t1) && !x.pw.waking && idle != 0
        && decide (x.pw.idle2 + ns idle ≤ (f.run t).toNat) && f.sleepOk t 2 && !x.pw.wakeReq && !f.cellFenced t then
      f.beginNap t
    else f))

/-- Whether a tile may go to T3: its timer has expired, or the power controller asks, which disregards TILE_DEEPEST and
TILE_OFF_IDLE (R458). -/
def Fab.mayOff (f : Fab) (t : Nat) : Bool :=
  let x := f.tile t
  let idle := f.oT t O.TILE_OFF_IDLE
  let asks := x.pw.t3Req && f.tileIdle t 3 && f.oT t O.TILE_HOLD == 0
  let timer := idle != 0 && decide (x.pw.idle3 + us idle ≤ (f.run t).toNat) && f.sleepOk t 3
  (x.st == .t0 || x.st == .t1 || x.st == .t2) && !x.pw.waking && !x.pw.entering && !x.pw.wakeReq && !f.cellFenced t
    && (asks || timer)

/-- TILE_OFF_ENTRY (R451, R458). -/
def execTileOffEntry (t : Nat) (s : State) : Host.Outcome State Fault Refusal :=
  .next (s.onFab (fun f => if f.mayOff t then f.beginOff t else f))

/-! ## Handshakes (R638 to R642) -/

/-- The UNIQUE handshake of a die (R642): the grant follows PD_UQ_ACK. -/
def Die.uqProceed (d : Die) : Die :=
  if d.pcUqReq && !d.uqReq && !d.uqAck then { d with pcUqGnt := true }
  else if !d.pcUqReq && d.uqReq && d.uqAck then { d with pcUqGnt := false }
  else d

/-- A tile's acknowledgement changes and its sequence proceeds. -/
def Fab.pdTile (f : Fab) (t : Nat) (g : TilePow → TilePow) : Fab :=
  let f := f.accTime t
  f.modTile t (fun x => { x with pw := (g x.pw).proceed x.st })

/-- Whether every switched domain of a die but UNIQUE is off (R642). -/
def Fab.domainsOff (f : Fab) (d : Nat) : Bool :=
  let x := f.die d
  !x.famAck && x.qpAck.all (fun b => !b)
    && (tilesOfDie d).all (fun t => !(f.tile t).pw.tlAck && !(f.tile t).pw.tsAck)

/-- RST_COLD_N is held low. -/
def Fab.coldHeld (f : Fab) : Bool := f.coldLow

/-- PC_UQ_REQ lowers PD_UQ_REQ once RST_COLD_N is low and every other domain of D0 is off (R642). -/
def Fab.uqCheck (f : Fab) : Fab :=
  if (f.die 0).pcUqReq && (f.die 0).uqReq && f.coldHeld && f.domainsOff 0 then
    f.modDie 0 (fun d => { d with uqReq := false })
  else f

/-- PD_ACK_CHANGE (R639): the power controller brings a domain to the state of its REQ and sets ACK equal to it. -/
def execPdAckChange (k : Pd) (s : State) : Host.Outcome State Fault Refusal :=
  .next (s.onFab (fun f =>
    match k with
    | .tl t => (f.pdTile t (fun p => { p with tlAck := p.tlReq })).uqCheck
    | .ts t => (f.pdTile t (fun p => { p with tsAck := p.tsReq })).uqCheck
    | .ret t => f.pdTile t (fun p => { p with retAck := p.retReq })
    | .qp q =>
      (f.modDie (q / 4) (fun d => { d with
        qpAck := modAt d.qpAck (q % 4) (fun _ => d.qpReq.getD (q % 4) false) })).uqCheck
    | .fam d => (f.modDie d (fun x => { x with famAck := x.famReq })).uqCheck
    | .uq d => f.modDie d (fun x => ({ x with uqAck := x.uqReq }).uqProceed)))

/-- PC_T3_REQ (R292, R458, R641): the power controller asks for tile `t` in T3, or withdraws its request. -/
def execPcT3Req (t : Nat) (level : Bool) (s : State) : Host.Outcome State Fault Refusal :=
  .next (s.onFab (fun f =>
    let f := f.modPw t (fun p => { p with t3Req := level, t3Gnt := p.t3Gnt && level })
    let f := if isSpTile t && level && !f.spInReset (dieOf t) then f.spPowerDown (dieOf t) else f.pdSettle t
    if level && f.mayOff t then f.beginOff t else f))

/-- PC_UQ_REQ (R33, R458, R642): the power controller asks for the UNIQUE domain of D0 off, granted only in the hold of
RST_COLD_N with every other domain off, or releases the request; without a slice strapped 0 the domain stays off. -/
def execPcUqReq (level : Bool) (s : State) : Host.Outcome State Fault Refusal :=
  .next (s.onFab (fun f =>
    let f := f.modDie 0 (fun d => { d with pcUqReq := level })
    let f := if level then f.uqCheck else if f.map.present then f.modDie 0 (fun d => { d with uqReq := true }) else f
    f.modDie 0 Die.uqProceed))

/-! ## QPLL commands -/

/-- QPLL_PARK (R459, R460). -/
def execQpllPark (q : Nat) (s : State) : Host.Outcome State Fault Refusal :=
  .next (s.onFab (fun f =>
    let idle := f.o .quad q O.QPLL_PARK_IDLE
    let slept (t : Nat) : Bool :=
      let x := f.tile t
      (x.st == .t2 || x.st == .t3) && !x.pw.waking && !x.pw.entering && decide (x.pw.deepAt + us idle ≤ (f.run t).toNat)
    if f.qpll q = 0 ∧ q % 4 ≠ 0 ∧ q < 16 ∧ idle ≠ 0 ∧ f.o .quad q O.QPLL_HOLD = 0 ∧ (tilesOfQuad q).all slept = true then
      (f.setO .quad q O.QPLL_STATE 0 1).setQp q false
    else f))

/-- QPLL_RELOCK_DONE (R461): the PLL runs; crossings whose training ended meanwhile raise AWAKE (R650), and I_KNOCK falls
where E_AWAKE is high again (R181). -/
def execQpllRelockDone (q : Nat) (s : State) : Host.Outcome State Fault Refusal :=
  .next (s.onFab (fun f =>
    if f.qpll q = 2 ∧ (f.die (q / 4)).qpAck.getD (q % 4) false = true then
      let f := (f.setO .quad q O.QPLL_STATE 0 0).startPass q
      (tilesOfQuad q).foldl (fun f t => (f.raiseSeams t).settleKnock t) f
    else f))

/-- A write of QPLL_HOLD (R459). -/
def Fab.wQpllHold (f : Fab) (q v : Nat) : Fab × Nat :=
  let r := f.wPlain .quad q O.QPLL_HOLD 0 v
  (if v = 0 then r.1 else r.1.relock q, r.2)

/-- QPLL_HOLD_WRITE (R459). -/
def execQpllHoldWrite (who q v : Nat) (s : State) : Host.Outcome State Fault Refusal :=
  .next (s.onFab (fun f => f.objWrite who .quad q O.QPLL_HOLD 0 (fun f => f.wQpllHold q v)))

/-- A write of QCLK_FREQ (R446). -/
def Fab.wQclkFreq (f : Fab) (v : Nat) : Fab × Nat :=
  if (List.range 16).all (fun q => f.qpll q == 1) then f.wPlain .inst 0 O.QCLK_FREQ 0 v else (f, cDenied)

/-- QCLK_FREQ_WRITE (R446). -/
def execQclkFreqWrite (who v : Nat) (s : State) : Host.Outcome State Fault Refusal :=
  .next (s.onFab (fun f => Fab.done (f.wQclkFreq v) who))

/-! ## Holds and modes -/

/-- A tile deeper than its TILE_DEEPEST wakes, or aborts its entry (R454, R463). -/
def Fab.obeyDeepest (f : Fab) (t : Nat) : Fab :=
  let lim := f.oT t O.TILE_DEEPEST + 1
  let depth := match (f.tile t).st with | .t1 => 1 | .t2 => 2 | .t3 => 3 | _ => 0
  if lim < depth ∧ (f.tile t).pw.waking = false then f.startWake t else f

/-- A write of TILE_HOLD (R457). -/
def Fab.wTileHold (f : Fab) (t v : Nat) : Fab × Nat :=
  let r := (f.idleSettle t 0).wPlain .tile t O.TILE_HOLD 0 v
  (if v ≠ 0 ∧ (r.1.tile t).asleep = true then r.1.startWake t else r.1, r.2)

/-- TILE_HOLD_WRITE (R457). -/
def execTileHoldWrite (who t v : Nat) (s : State) : Host.Outcome State Fault Refusal :=
  .next (s.onFab (fun f => f.objWrite who .tile t O.TILE_HOLD 0 (fun f => f.wTileHold t v)))

/-- A write of TILE_DEEPEST (R463). -/
def Fab.wTileDeepest (f : Fab) (t v : Nat) : Fab × Nat :=
  let r := (f.idleSettle t 0).wPlain .tile t O.TILE_DEEPEST 0 v
  (r.1.obeyDeepest t, r.2)

/-- TILE_DEEPEST_WRITE (R463). -/
def execTileDeepestWrite (who t v : Nat) (s : State) : Host.Outcome State Fault Refusal :=
  .next (s.onFab (fun f => f.objWrite who .tile t O.TILE_DEEPEST 0 (fun f => f.wTileDeepest t v)))

/-- The values that a mode loads (R132, R400, R462). -/
structure ModeRow where
  /-- EXPRESS_BIAS -/
  bias : Nat
  /-- SLEEP_PENALTY -/
  penalty : Nat
  /-- SEAM_SLEEP_IDLE, ns -/
  sleepIdle : Nat
  /-- SEAM_DEEP_IDLE, µs -/
  deepIdle : Nat
  /-- TILE_DEEPEST -/
  deepest : Nat
  /-- TILE_DOZE_IDLE -/
  doze : Nat
  /-- TILE_NAP_IDLE -/
  nap : Nat
  /-- TILE_OFF_IDLE -/
  off : Nat
  /-- QPLL_PARK_IDLE, µs -/
  park : Nat
  deriving DecidableEq, Repr

/-- The tables of R132, R400 and R462: LATENCY, BALANCED, THRIFT. -/
def modeRow : Nat → ModeRow
  | 0 => ⟨16, 16, 0, 0, 0, 256, 0, 0, 0⟩
  | 1 => ⟨4, 48, 20000, 0, 1, 64, 50000, 0, 0⟩
  | _ => ⟨0, 96, 1000, 200, 1, 16, 2000, 0, 100⟩

/-- The units of a die take the values of a mode (R462, R463, R660). -/
def Fab.applyMode (f : Fab) (v d : Nat) : Fab :=
  let m := modeRow v
  let f := (f.setO .inst d O.EXPRESS_BIAS 0 m.bias).setO .inst d O.SLEEP_PENALTY 0 m.penalty
  let f := (sidesOfDie d).foldl (fun f ss =>
    (f.setO .seam ss O.SEAM_SLEEP_IDLE 0 m.sleepIdle).setO .seam ss O.SEAM_DEEP_IDLE 0 m.deepIdle) f
  let f := (tilesOfDie d).foldl (fun f t =>
    (((((f.idleSettle t 0).setO .tile t O.TILE_DEEPEST 0 m.deepest).setO .tile t O.TILE_DOZE_IDLE 0 m.doze).setO .tile t
      O.TILE_NAP_IDLE 0 m.nap).setO .tile t O.TILE_OFF_IDLE 0 m.off).obeyDeepest t) f
  [4 * d, 4 * d + 1, 4 * d + 2, 4 * d + 3].foldl (fun f q =>
    let f := f.setO .quad q O.QPLL_PARK_IDLE 0 m.park
    if m.park = 0 ∨ (f.boot = true ∧ q = 4 * d) then f.relock q else f) f

/-- FABRIC_MODE leaves LATENCY, which has held every seam awake until now (R396). -/
def Fab.endLatency (f : Fab) : Fab :=
  if f.oI O.FABRIC_MODE = 0 then
    (List.range 64).foldl (fun f k => f.modX (k / 8) (k % 8) (fun x => { x with lastFlit := f.sideTime (k / 8) })) f
  else f

/-- A write of FABRIC_MODE (R132, R400, R462, R647, R648, R660): it closes the boot window; a die station that the
broadcast misses has it sent again. -/
def Fab.wFabricMode (f : Fab) (v : Nat) : Fab × Nat :=
  match f.endLatency.wPlain .inst 0 O.FABRIC_MODE 0 v with
  | (g, code) =>
    if code = cDenied then (f, code)
    else
      let up := (List.range 4).filter (fun d => g.bcastUp d)
      let f := up.foldl (fun f d => f.applyMode v d) g
      ({ f with boot := false, modeDue := (List.range 4).filter (fun d => !up.contains d) }, code)

/-- FABRIC_MODE_WRITE (R462). -/
def execFabricModeWrite (who v : Nat) (s : State) : Host.Outcome State Fault Refusal :=
  .next (s.onFab (fun f => Fab.done (f.wFabricMode v) who))

/-- BOOT_DEFAULT_MODE (R647): 1 ms after the reset without a write of FABRIC_MODE, the boot ROM writes DEFAULT_MODE. -/
def execBootDefaultMode (s : State) : Host.Outcome State Fault Refusal :=
  .next (s.onFab (fun f =>
    if f.boot && decide (f.bootAt + ms 1 ≤ (f.run 0).toNat) then (f.wFabricMode f.defaultMode).1 else f))

end Sys2Proof.Machine
end

