-- ==== Sys2Proof/Machine/Crossings.lean ====
section
/-! DEFINITION. Crossings: the crossings between clock domains (R464 to R475): idle events, timeouts and fences, their
release, and one side in reset. -/

namespace Sys2Proof.Machine

/-- Owner of a crossing (R470): its fault family, the code of CDC_TIMEOUT there, INFO0 (R578 to R582), and its die. -/
def cdcOwner : Cdc → Nat × Nat × Nat × Nat
  | .eapIn t => (famKey .tile t, 13, 0, dieOf t)
  | .eapOut t => (famKey .tile t, 13, 1, dieOf t)
  | .station t => (famKey .tile t, 13, 2, dieOf t)
  | .cell t => (famKey .tile t, 13, 3, dieOf t)
  | .sp d => (famKey .sp d, 6, 0, d)
  | .sk n => (famKey .sk n, 6, 0, n / 2)
  | .seamTx ss c => (famKey .seam ss, 13, seamInfo c 31 true, sideDie ss)
  | .seamRx ss c => (famKey .seam ss, 13, seamInfo c 31 false, sideDie ss)
  | .lantern d => (famLantern d, 8, 0, d)
  | .mapXbar => (famMap, 7, 0, 0)
  | .xbarGuy => (famKey .inst 0, 7, 0, 0)
  | .debug => (famKey .inst 0, 7, 1, 0)
  | .otp => (famKey .inst 0, 7, 2, 0)

/-- Every crossing of the block. -/
def allCdc : List Cdc :=
  (List.range 256).flatMap (fun t => [Cdc.eapIn t, .eapOut t, .station t, .cell t])
    ++ (List.range 4).map Cdc.sp ++ (List.range 8).map Cdc.sk
    ++ (List.range 8).flatMap (fun ss => (List.range 8).flatMap (fun c => [Cdc.seamTx ss c, .seamRx ss c]))
    ++ (List.range 4).map Cdc.lantern ++ [.mapXbar, .xbarGuy, .debug, .otp]

/-- Whether a crossing is held by a reset of one side (R473, R475). -/
def Fab.cdcHeld (f : Fab) (x : Cdc) : Bool := (f.cdcOf x).peer != 0

/-- The crossings of a tile. -/
def tileCdc (t : Nat) : List Cdc := [.eapIn t, .eapOut t, .station t, .cell t]

/-- What the fence of a crossing does (R470). -/
def Fab.cdcEffect (f : Fab) : Cdc → Fab
  | .eapIn t => (f.modNi t (fun n => { n with fenceCdc := true })).portBecomesGone t 1
  | .eapOut t => (f.modNi t (fun n => { n with fenceCdc := true })).portBecomesGone t 1
  | .station t => (f.modNi t (fun n => { n with fenceCdc := true })).portBecomesGone t 1
  | .cell t => (f.modNi t (fun n => { n with fenceCdc := true })).portBecomesGone t 1
  | .sp d => f.modSp d (fun n => { n with fence := true })
  | .sk n => (f.modSk n (fun k => { k with fence := true })).skFail n
  | .seamTx ss c => (f.modX ss c (fun x => { x with cdc := true })).crossDown ss c 1
  | .seamRx ss c => (f.modX ss c (fun x => { x with cdc := true })).crossDown ss c 1
  | _ => f

/-- What the end of a fence does: a spill port stays FAILED and a crossing DOWN until firmware acts (R361, R395). -/
def Fab.cdcLift (f : Fab) : Cdc → Fab
  | .eapIn t => liftTile f t
  | .eapOut t => liftTile f t
  | .station t => liftTile f t
  | .cell t => liftTile f t
  | .sp d => f.modSp d (fun n => { n with fence := false })
  | .sk n => f.modSk n (fun k => { k with fence := false })
  | .seamTx ss c => f.modX ss c (fun x => { x with cdc := f.cdcFenced (.seamRx ss c) })
  | .seamRx ss c => f.modX ss c (fun x => { x with cdc := f.cdcFenced (.seamTx ss c) })
  | _ => f
where
  /-- A tile's port stays fenced while any of its crossings is. -/
  liftTile (f : Fab) (t : Nat) : Fab :=
    let still := (tileCdc t).any (fun x => f.cdcFenced x)
    f.modNi t (fun n => { n with fenceCdc := still })

/-- CDC_IDLE_EVENT (R469): an idle crossing sends an idle event; `acked` says that its receiving side acknowledges. On a
crossing whose handshake is in flight, that acknowledgement returns late (R466, R467). -/
def execCdcIdleEvent (x : Cdc) (acked : Bool) (s : State) : Host.Outcome State Fault Refusal :=
  .next (s.onFab (fun f =>
    if f.cdcFenced x || f.cdcHeld x then f
    else f.modCdc x (fun c =>
      if c.busy then (if acked then c.acked f.cdcLimit else c)
      else if acked then (c.start f.cdcLimit).taken else c.start f.cdcLimit)))

/-- CDC_TIMEOUT (R470 to R472): a handshake is unacknowledged `cycles` cycles of the sending clock after it began. It keeps
the limit that stood when it began; one whose beginning the model does not show, a pointer update of R465, has the limit that
stands (log 33). The crossing is fenced, also in the middle of a release. -/
def execCdcTimeout : Cdc × Nat → State → Host.Outcome State Fault Refusal
  | (x, cycles), s => .next (s.onFab (fun f =>
    let c := f.cdcOf x
    if (c.fenced && !c.releasing) || f.cdcHeld x || decide (cycles < if c.busy then c.limit else f.cdcLimit) then f
    else
      let o := cdcOwner x
      let f := (f.modCdc x (fun c => { c with fenced := true, releasing := false })).raiseMore o.1 o.2.1 o.2.2.1 0 0
      (f.bump .die o.2.2.2 O.CDC_TIMEOUTS 0).cdcEffect x))

/-- A clear of CDC_TIMEOUT in a family's PEND, made while the clocks run, starts the release of its fenced crossings: each
is reset from both sides, and its first handshake begins (R471). -/
def Fab.cdcClear (f : Fab) (key : Nat) : Fab :=
  allCdc.foldl (fun f x =>
    if (cdcOwner x).1 == key && f.cdcFenced x then
      f.modCdc x (fun c => { CdcSt.reset.start f.cdcLimit with
        fenced := true, releasing := true, peer := c.peer, ended := c.ended })
    else f) f

/-- CDC_RELEASE_DONE (R471): the second release handshake completes and the fence lifts; the source is pending no longer
once no crossing of its owner is fenced. -/
def execCdcReleaseDone (x : Cdc) (s : State) : Host.Outcome State Fault Refusal :=
  .next (s.onFab (fun f =>
    let c := f.cdcOf x
    if c.fenced && c.releasing then
      let o := cdcOwner x
      let f := (f.modCdc x (fun _ => CdcSt.reset)).cdcLift x
      if allCdc.any (fun y => (cdcOwner y).1 == o.1 && f.cdcFenced y) then f
      else f.modFam o.1 (fun y => { y with
        cond := clearBits y.cond (mask o.2.1), pend := clearBits y.pend (mask o.2.1) })
    else f))

/-! ## One side in reset (R473 to R475) -/

/-- The reset sequencer raises PEER_RESET on a crossing. -/
def Fab.peerEnter (f : Fab) (x : Cdc) : Fab := f.modCdc x (fun c => { c with peer := 1, ended := false })
/-- The reset ends; a crossing whose RESET_SEEN or RESET_ACK is still to come is held until then (R475). -/
def Fab.peerEnd (f : Fab) (x : Cdc) : Fab :=
  f.modCdc x (fun c => if c.peer = 3 then { c with peer := 0, ended := false } else { c with ended := c.peer != 0 })

/-- PEER_RESET_RECEIVE (R473): the other side abandons the pending event and the request in flight, and answers
RESET_SEEN. -/
def execPeerResetReceive (x : Cdc) (s : State) : Host.Outcome State Fault Refusal :=
  .next (s.onFab (fun f =>
    if (f.cdcOf x).peer = 1 then
      f.modCdc x (fun c => { c with peer := 2, pending := false, ack := c.req, releasing := false })
    else f))

/-- RESET_ACK_RECEIVE (R473): every value of the crossing reverts to its reset value, DIRTY, PENDING, H and the toggles
among them; it resumes once the reset has ended. -/
def execResetAckReceive (x : Cdc) (s : State) : Host.Outcome State Fault Refusal :=
  .next (s.onFab (fun f =>
    if (f.cdcOf x).peer = 2 then
      f.modCdc x (fun c => { CdcSt.reset with fenced := c.fenced, peer := if c.ended then 0 else 3 })
    else f))

end Sys2Proof.Machine
end

