-- ==== Sys2Proof/Machine/Objects.lean ====
section
/-! DEFINITION. Objects: what a read of an object returns and does (R26, R520 to R525, R529): the values that mirror the
live state, and the clears of RC objects (R524). -/

namespace Sys2Proof.Machine

/-! ## OTP fields (R558, R559) -/

/-- `n` bytes of the OTP array from a byte offset that is a multiple of 4, little-endian. -/
def Otp.bytes (o : Otp) (off n : Nat) : Nat :=
  (List.range ((n + 3) / 4)).foldl (fun a k => a + o.arr.get (fun _ => 0) (off / 4 + k) * 2 ^ (32 * k)) 0 % 2 ^ (8 * n)
/-- `n` bytes of a field of the record in use; zero when there is none (R560, R561). -/
def Otp.inUse (o : Otp) (off n : Nat) : Nat :=
  match o.slot with | some s => o.bytes (0x800 * s + off) n | none => 0
/-- AUTH_KEY_HASH in use. -/
def Otp.authHash (o : Otp) : Nat := o.inUse 0x010 48
/-- Content of slot `s`, its seal field taken as zero. -/
def Otp.record (o : Otp) (s : Nat) : Nat := setField (o.bytes (0x800 * s) 2048) 48 16 0
/-- Whether a record is valid (R559). -/
def recordValid (r : Nat) : Bool :=
  field r 0 32 == 0x42505231 && field r 40 8 == 1 && field r (8 * 0x7F8) 32 == 0xA5C35A3C && field r 32 8 != 0
    && field r (8 * 0x7FC) 32 == crc32c r 0x7FC
    && field r (8 * 0x041) 56 == 0 && field r (8 * 0x058) (8 * 0xA8) == 0 && field r (8 * 0x200) (8 * 0x5F8) == 0
    && (List.range 64).all (fun k =>
      let e := field r (8 * 0x100 + 32 * k) 32
      decide (popcount e 30 ≤ 16) && field e 30 2 == 0)
/-- Whether a slot is blank, valid or spent (R559). -/
def Otp.blank (o : Otp) (s : Nat) : Bool := o.record s == 0
@[inherit_doc Otp.blank]
def Otp.valid (o : Otp) (s : Nat) : Bool := recordValid (o.record s)
@[inherit_doc Otp.blank]
def Otp.spent (o : Otp) (s : Nat) : Bool := !o.blank s && !o.valid s
/-- GEN of a slot. -/
def Otp.gen (o : Otp) (s : Nat) : Nat := field (o.record s) 32 8
/-- The record in use (R559): the valid record of highest GEN, the lower slot in a tie. -/
def Otp.choose (o : Otp) : Option Nat :=
  (List.range 4).foldl (fun (a : Option Nat) s =>
    if o.valid s then (match a with | some b => if o.gen b < o.gen s then some s else a | none => some s) else a) none
/-- Seal-field bits that read as 1 (R539). -/
def Otp.sealBits (o : Otp) : Nat :=
  (List.range 4).foldl (fun a s => a + popcount (field (o.bytes (0x800 * s) 8) 48 16) 16) 0
/-- SEALED (R539). -/
def Otp.isSealed (o : Otp) : Bool := decide (8 ≤ o.sealBits)
/-- Blank slots. -/
def Otp.spare (o : Otp) : Nat := ((List.range 4).filter (fun s => o.blank s)).length

/-! ## Live values -/

/-- The scope in which an object that lists INSTANCE and DIE stands: an INSTANCE read returns the value of D0 (R520). -/
def normScope (sc : Scope) (idx : Nat) : Scope :=
  if sc = .inst ∧ [O.LANTERN_TIME, O.LANTERN_STATE, O.LANTERN_OFFSET, O.LANTERN_RATE, O.LANTERN_STEPS,
      O.LANTERN_STEP_SUM, O.FAM, O.SHARE_GROUP, O.PBR_ROUTE].contains idx then .die else sc

/-- Key of the fault family of an object (R535). -/
def famOf (sc : Scope) (num idx : Nat) : Nat := if idx = O.FAULT_LANTERN then famLantern num else famKey sc num

/-- IDENTITY (R525). -/
def Fab.identity (f : Fab) : Nat :=
  0xAF58 + 0x2B * 2 ^ 16 + 0x01 * 2 ^ 24 + 0x422D3635322D4E58 * 2 ^ 32 + 0x0142 * 2 ^ 96 + 256 * 2 ^ 112
    + 4 * 2 ^ 128 + 4 * 2 ^ 136 + 0x03 * 2 ^ 144 + f.otp.inUse 0x008 8 * 2 ^ 160

/-- WARDEN_STATE (R647): BOOT, RUN, RESTARTING. -/
def Fab.wardenState (f : Fab) : Nat := if f.wd.restarting then 2 else if f.boot then 0 else 1

/-- Live values of INSTANCE objects. -/
def Fab.readInst (f : Fab) (idx sub elem : Nat) : Nat :=
  if idx = O.IDENTITY then f.identity
  else if idx = O.GUY_STATE then f.guyState
  else if idx = O.WARDEN_STATE then f.wardenState
  else if idx = O.INSTANCE_NONCE then f.nonce
  else if idx = O.CONFIG_MEASURE then f.wd.measure
  else if idx = O.AUTH_KEY_HASH then f.otp.authHash
  else if idx = O.OTP_GEN then f.otp.inUse 4 1
  else if idx = O.OTP_SPARE then f.otp.spare
  else if idx = O.STAGE_COUNT then f.bind.stage.length
  else if idx = O.FAM_COMMIT_STATE then (match f.bind.cst with | .idle => 0 | .opened => 1 | .armed => 2)
  else if idx = O.DRAIN_STATE then (match f.bind.dst with | .idle => 0 | .running => 1 | .done => 2)
  else if idx = O.DRAIN_REPORTED then f.bind.rep.length
  else if idx = O.DRAIN_EXPIRED then f.bind.exp
  else if idx = O.COMMIT_LAST then f.bind.last
  else if idx = O.COMMIT_SEQ then f.bind.seq
  else if idx = O.FAM_STAGE then
    (match f.bind.stage[elem]? with
     | some r => r.table + r.part * 4 + r.elem * 16 + r.value * 2 ^ 64
     | none => 0)
  else if idx = O.TRACE then (f.quarter.get (fun _ => Quarter.reset) (elem / 12288)).recs.get (fun _ => 0) (elem % 12288)
  else if idx = O.TRACE_COUNT then
    (List.range 4).foldl (fun a d => a + (f.quarter.get (fun _ => Quarter.reset) d).count) 0
  else f.oI idx sub

/-- Encoding of LANTERN_UPSTREAM (R441): NONE, S01, S02, S13, S23. -/
def upstreamCode : Option Nat → Nat
  | some 0 => 1 | some 2 => 2 | some 3 => 3 | some 1 => 4 | _ => 0

/-- Live values of DIE objects. -/
def Fab.readDie (f : Fab) (d idx sub elem : Nat) : Nat :=
  let l := f.lantern d
  if idx = O.LANTERN_TIME then l.time
  else if idx = O.LANTERN_STATE then l.st.code
  else if idx = O.LANTERN_OFFSET then ofSigned l.offset 64
  else if idx = O.LANTERN_RATE then ofSigned l.rate 64
  else if idx = O.LANTERN_DELAY then l.delay
  else if idx = O.LANTERN_UPSTREAM then upstreamCode l.upstream
  else if idx = O.LANTERN_STEP_SUM then
    ofSigned (max (-(2 : Int) ^ 63) (min ((2 : Int) ^ 63 - 1) (l.stepSum / 65536))) 64
  else if idx = O.FAM then (f.copyOf d).entry elem
  else if idx = O.SHARE_GROUP then (f.copyOf d).group elem
  else if idx = O.PBR_ROUTE then (f.copyOf d).route elem
  else f.o .die d idx sub

/-- Live values of the scheduler objects of an edge or service-port NI. -/
def Fab.readSched (f : Fab) (w : Who) (idx sub : Nat) : Nat :=
  if idx = O.SHAPER_TOKENS then
    ofSigned ((((f.refill w (dirOf sub) (clsOf sub)).sched w (dirOf sub)).cl (clsOf sub)).tok / 1024) 64
  else if idx = O.GATE_GUARD then f.guardBand w sub
  else if idx = O.GATE_STATE then f.gateState w (dirOf sub) (clsOf sub)
  else if idx = O.SCHED_VTIME then (f.sched w sub).v
  else f.oW w idx sub

/-- Position of a state in TILE_STATE (R476). -/
def TState.code : TState → Nat
  | .t0 => 0 | .t1 => 1 | .t2 => 2 | .t3 => 3 | .reset => 4 | .unpowered => 5

/-- Spill queue of a subindex: 0x01, 0x02, 0x03, 0x04 and 0x07 for MC0, MC1, MC2, MC3 and MC6 (R366). -/
def spillSub (sub : Nat) : Nat := if sub = 7 then 4 else sub - 1

/-- Live values of TILE objects. -/
def Fab.readTile (f : Fab) (t idx sub : Nat) : Nat :=
  let x := f.tile t
  let n := x.ni
  if idx = O.HOLD_DEPTH then n.holdQ.length
  else if idx = O.PORT_DEAD then (List.range 8).foldl (fun a p => a + b2n (f.out t p).dead * 2 ^ p) 0
  else if idx = O.EDGE_LINK then n.link.code
  else if idx = O.EDGE_FENCE_CAUSE then f.fenceCause t
  else if idx = O.EDGE_TAGS_OUT then n.tagsOut
  else if idx = O.EDGE_TAGS_QUAR then n.tagsQuar
  else if idx = O.EDGE_ECRED then n.eCred.getD (sub - 1) 0
  else if idx = O.SPILL_QSTATE then
    (match (f.spq t (spillSub sub)).st with | .resident => 0 | .spilling => 1 | .blocked => 2)
  else if idx = O.SPILL_QPKTS then (f.spq t (spillSub sub)).spilled
  else if idx = O.TILE_STATE then x.shown.code
  else if idx = O.TILE_TIME_IN then (f.accTime t).oT t idx sub
  else if idx = O.CYC then x.cyc
  else if idx = O.CNT_VALUE then x.cnt.getD sub 0
  else if idx = O.SHADOW_CYC then x.shadow.getD 0 0
  else if idx = O.SHADOW_CNT then x.shadow.getD (sub + 1) 0
  else f.readSched (.ni t) idx sub

/-- Live values of SP objects. -/
def Fab.readSp (f : Fab) (d idx sub : Nat) : Nat :=
  let n := f.spOf d
  if idx = O.HOLD_DEPTH then n.holdQ.length
  else if idx = O.SP_BUF_DEPTH then n.pwb.length
  else if idx = O.SP_TAGS_OUT then (n.tags.filter (fun kv => kv.2.st == .out)).length
  else f.readSched (.sp d) idx sub

/-- SK_FREE (R366): chunks of the region that are not in use. -/
def Fab.skFree (f : Fab) (n : Nat) : Nat := f.oK n O.SK_CHUNKS - (f.skOf n).used.length

/-- Live values of SK objects. -/
def Fab.readSk (f : Fab) (n idx sub : Nat) : Nat :=
  if idx = O.SK_STATE then (match (f.skOf n).st with | .off => 0 | .run => 1 | .failed => 2)
  else if idx = O.SK_FREE then f.skFree n
  else f.o .sk n idx sub

/-- Live values of SEAMSIDE objects. -/
def Fab.readSeam (f : Fab) (ss idx sub : Nat) : Nat :=
  let x := f.xs ss sub
  if idx = O.CROSSING_ROUTE_STATE then (List.range 8).foldl (fun a c => a + f.routeState ss c * 4 ^ c) 0
  else if idx = O.SEAM_TX_STATE then x.tx.code
  else if idx = O.SEAM_RX_STATE then x.rx.code
  else if idx = O.SEAM_TX_EXCL then x.txExcl
  else if idx = O.SEAM_RX_EXCL then x.rxExcl
  else if idx = O.SEAM_RX_SPARES then x.rxSpares.length
  else if idx = O.SEAM_MARGIN then
    if (f.xs ss (sub / 30)).rxUsed.contains (sub % 30) then f.o .seam ss idx sub else 0
  else if idx = O.SEAM_LANE_EQ then (f.xs ss (sub / 30)).eq.get (fun _ => 0) (sub % 30)
  else if idx = O.SEAM_SB_STATE then b2n (f.sideOf ss).lock0 + 2 * b2n (f.sideOf ss).lock1
  else f.o .seam ss idx sub

/-- Fault family objects (R535, R573). -/
def Fab.readFault (f : Fab) (key sub : Nat) : Nat :=
  let x := f.fam key
  match sub with
  | 1 => x.first
  | 2 => x.pend
  | 3 => b2n x.ovf
  | 4 => 0
  | 5 => x.en
  | k => x.info.getD (k - 6) 0

/-- What a read of an object returns (R520 to R529): a WO object reads zero, as do SEAL_BURN and OTP_PROGRAM. -/
def Fab.readObj (f : Fab) (sc : Scope) (num idx sub elem : Nat) : Nat :=
  match objRow sc idx sub with
  | none => 0
  | some r =>
    if r.acc = .wo ∨ r.acc = .rwg then 0
    else if idx = O.FAULT ∨ idx = O.FAULT_LANTERN then f.readFault (famOf sc num idx) sub
    else match normScope sc idx with
      | .inst => f.readInst idx sub elem
      | .die => f.readDie num idx sub elem
      | .tile => f.readTile num idx sub
      | .seam => f.readSeam num idx sub
      | .sk => f.readSk num idx sub
      | .sp => f.readSp num idx sub
      | .quad => f.o .quad num idx sub
      | .cmn => if idx = O.CMN_RESV_COUNT then (f.cmnOf num).resv.length else f.o .cmn num idx sub

/-- What an RC object holds after a read (R524): a peak restarts from the quantity it tracks, a count from zero. -/
def Fab.afterRead (f : Fab) (sc : Scope) (num idx : Nat) : Nat :=
  if idx = O.HOLD_PEAK then (if sc = .sp then (f.spOf num).holdQ.length else (f.ni num).holdQ.length)
  else if idx = O.EDGE_TAG_PEAK then (f.ni num).tagsOut
  else if idx = O.SK_PEAK_CHUNKS then (f.skOf num).used.length
  else 0

/-- What a read does: an RC object clears (R524); TILE_TIME_IN restarts its count. -/
def Fab.readSide (f : Fab) (sc : Scope) (num idx sub : Nat) : Fab :=
  match objRow sc idx sub with
  | some r =>
    if r.acc = .rc then
      let f := if idx = O.TILE_TIME_IN then f.accTime num else f
      f.setO (normScope sc idx) num idx sub (f.afterRead sc num idx)
    else f
  | none => f

end Sys2Proof.Machine
end

