-- ==== Sys2Proof/Machine/Faults.lean ====
section
/-! DEFINITION. Faults: the writes of the fault families (R535, R569 to R577). -/

namespace Sys2Proof.Machine

/-- Sources of a family (R492, R578 to R581). -/
def famSources (key : Nat) : Nat :=
  match key / 256 with
  | 0 => 14 | 1 => 4 | 3 => 18 | 4 => 14 | 5 => 8 | 6 => 7 | 7 => 2 | 8 => 9 | _ => 8

/-- Code of CDC_TIMEOUT in a family that has it (R578 to R582). -/
def famCdc (key : Nat) : Option Nat :=
  match key / 256 with
  | 0 => some 7 | 3 => some 13 | 4 => some 13 | 5 => some 6 | 6 => some 6 | 8 => some 8 | 9 => some 7 | _ => none

/-- A write of FIRST (R535, R575): 0 frees the latch. -/
def Fab.wFirst (f : Fab) (key v : Nat) : Fab × Nat :=
  if v = 0 then (f.modFam key Fam.freeLatch, cOk) else (f, cDenied)

/-- A write of ones to PEND (R471, R574); `clk` says that the clocks of the family's fenced crossings run, when a clear of
CDC_TIMEOUT starts their release. -/
def Fab.clearFam (f : Fab) (key ones : Nat) (clk : Bool) : Fab :=
  let f := match famCdc key with
    | some k => if bit ones k && clk then f.cdcClear key else f
    | none => f
  f.modFam key (fun x => x.clearPend ones)

/-- A write of PEND. -/
def Fab.wPend (f : Fab) (key ones : Nat) (clk : Bool) : Fab × Nat := (f.clearFam key ones clk, cOk)

/-- A write of OVF (R535): 0 clears it. -/
def Fab.wOvf (f : Fab) (key v : Nat) : Fab × Nat :=
  if v = 0 then (f.modFam key (fun x => { x with ovf := false }), cOk) else (f, cDenied)

/-- Forcing sources (R571, R573): the lowest is raised first. A unit in reset raises none (R577). -/
def Fab.forceFam (f : Fab) (key v : Nat) : Fab :=
  if f.famInReset key then f
  else
    ((List.range (famSources key)).filter (fun k => bit v k)).foldl
      (fun f k => f.modFam key (fun x => x.force k (f.famNs key))) f

/-- A write of FORCE. -/
def Fab.wForce (f : Fab) (key v : Nat) : Fab × Nat := (f.forceFam key v, cOk)

/-- A write of EN. -/
def Fab.wEn (f : Fab) (key v : Nat) : Fab × Nat := (f.modFam key (fun x => { x with en := v }), cOk)

/-- A write of a fault family object in a scope (R535). -/
def Fab.wFault (f : Fab) (key sub v : Nat) (clk : Bool) : Fab × Nat :=
  match sub with
  | 1 => f.wFirst key v
  | 2 => f.wPend key v clk
  | 3 => f.wOvf key v
  | 4 => f.wForce key v
  | 5 => f.wEn key v
  | _ => (f, cDenied)

/-- Index of the family object: 6001 for the Lantern family of a die, 6000 otherwise. -/
def famIdx (lantern : Bool) : Nat := if lantern then O.FAULT_LANTERN else O.FAULT

/-- FAULT_FIRST_CLEAR (R535, R575). -/
def execFaultFirstClear (who : Nat) (sc : Scope) (num : Nat) (lantern : Bool) (v : Nat) (s : State) :
    Host.Outcome State Fault Refusal :=
  .next (s.onFab (fun f => f.objWrite who sc num (famIdx lantern) 1 (fun f => f.wFirst (famOf sc num (famIdx lantern)) v)))

/-- FAULT_PEND_CLEAR (R574). -/
def execFaultPendClear (who : Nat) (sc : Scope) (num : Nat) (lantern : Bool) (ones : Nat) (clk : Bool) (s : State) :
    Host.Outcome State Fault Refusal :=
  .next (s.onFab (fun f => f.objWrite who sc num (famIdx lantern) 2 (fun f =>
    f.wPend (famOf sc num (famIdx lantern)) ones clk)))

/-- FAULT_OVF_CLEAR (R535). -/
def execFaultOvfClear (who : Nat) (sc : Scope) (num : Nat) (lantern : Bool) (v : Nat) (s : State) :
    Host.Outcome State Fault Refusal :=
  .next (s.onFab (fun f => f.objWrite who sc num (famIdx lantern) 3 (fun f => f.wOvf (famOf sc num (famIdx lantern)) v)))

/-- FAULT_FORCE (R573). -/
def execFaultForce (who : Nat) (sc : Scope) (num : Nat) (lantern : Bool) (v : Nat) (s : State) :
    Host.Outcome State Fault Refusal :=
  .next (s.onFab (fun f => f.objWrite who sc num (famIdx lantern) 4 (fun f => f.wForce (famOf sc num (famIdx lantern)) v)))

end Sys2Proof.Machine
end

