-- ==== Sys2Proof/Machine/Counters.lean ====
section
/-! DEFINITION. Counters: counter settings (R593 to R598), snapshots (R599 to R602), the settings of the Counter Collector
(R603, R605) and the trace buffer (R609 to R611). -/

namespace Sys2Proof.Machine

/-! ## Counter settings -/

/-- The qualifiers that an event of R598 admits: the least and the number of them; none for a code that is not in the
table. -/
def evQual (code : Nat) : Option (Nat × Nat) :=
  if [0x00, 0x01, 0x08, 0x09, 0x0A, 0x24, 0x25, 0x26, 0x27, 0x28, 0x29, 0x2A, 0x2E, 0x40, 0x41, 0x42, 0x43, 0x44, 0x45,
      0x50, 0x60, 0x61, 0x62].contains code then some (0, 1)
  else if [0x02, 0x03, 0x04, 0x05, 0x06, 0x07, 0x20, 0x22, 0x2B, 0x2C, 0x2D, 0x51].contains code then some (0, 8)
  else if code = 0x21 ∨ code = 0x23 then some (0, 6)
  else if code = 0x2F then some (1, 5)
  else none

/-- Whether CNT_EVENT accepts a value (R594). -/
def cntEventOk (v : Nat) : Bool :=
  match evQual (v % 256) with
  | none => false
  | some (lo, n) => decide (lo ≤ field v 8 3) && decide (field v 8 3 < lo + n)

/-- The events of the running cycle are added under the settings in force, which then change (R595). -/
def Fab.settleCounters (f : Fab) (t : Nat) : Fab := (f.countCycle t 0 0 8).modTile t (fun x => { x with ev := [] })

/-- A write of CNT_EVENT (R594, R595); bits [15:11] are reserved. -/
def Fab.wCntEvent (f : Fab) (t k v : Nat) : Fab × Nat :=
  if cntEventOk v then ((f.settleCounters t).setO .tile t O.CNT_EVENT k (v % 2 ^ 11), cOk) else (f, cDenied)

/-- CNT_EVENT_WRITE (R594). -/
def execCntEventWrite (who t k v : Nat) (s : State) : Host.Outcome State Fault Refusal :=
  .next (s.onFab (fun f => f.objWrite who .tile t O.CNT_EVENT k (fun f => f.wCntEvent t k v)))

/-- A write of CNT_VALUE (R595): the increments of the same cycle are added to it. -/
def Fab.wCntValue (f : Fab) (t k v : Nat) : Fab × Nat :=
  let x := min v (2 ^ 48 - 1)
  (f.modTile t (fun y => { y with cnt := modAt y.cnt k (fun _ => x) }), if x = v then cOk else cClipped)

/-- CNT_VALUE_WRITE (R595). -/
def execCntValueWrite (who t k v : Nat) (s : State) : Host.Outcome State Fault Refusal :=
  .next (s.onFab (fun f => f.objWrite who .tile t O.CNT_VALUE k (fun f => f.wCntValue t k v)))

/-- A write of CNT_ENABLE or CNT_CHAIN (R595, R596). -/
def Fab.wCntSetting (f : Fab) (t idx sub v : Nat) : Fab × Nat := (f.settleCounters t).wPlain .tile t idx sub v

/-! ## Snapshots -/

/-- Whether the by-pass of a tile station is closed (R484). -/
def Fab.bypassed (f : Fab) (t : Nat) : Bool := f.guy.bypass.get (fun _ => false) t

/-- Arms a snapshot at `tm` in the stations that the broadcast reaches (R599); a die station keeps it for its tiles that
are by-passed (R601). -/
def Fab.armSnapshot (f : Fab) (tm : Nat) : Fab :=
  let f := (List.range 4).foldl (fun f d =>
    if f.bcastUp d then
      (tilesOfDie d).foldl (fun f t =>
        if f.bypassed t then f else f.modTile t (fun x => { x with snap := some tm }))
        (f.setO .inst d O.SNAPSHOT_AT 0 tm)
    else f) f
  (f.setO .inst 0 O.SNAPSHOT_AT 0 tm).setO .inst 0 O.SNAPSHOT_STATE 0 1

/-- A write of SNAPSHOT_AT (R599). -/
def Fab.wSnapshotAt (f : Fab) (tm : Nat) : Fab × Nat :=
  let now := f.dieTime 0
  if tm < now + us 10 ∨ now + ms 10000 < tm ∨ f.oI O.SNAPSHOT_STATE = 1 ∨ f.oI O.COLLECT_PERIOD ≠ 0 then (f, cDenied)
  else (f.armSnapshot tm, if (List.range 4).all (fun d => f.bcastUp d) then cOk else cAbsent)

/-- SNAPSHOT_AT_WRITE (R599). -/
def execSnapshotAtWrite (who tm : Nat) (s : State) : Host.Outcome State Fault Refusal :=
  .next (s.onFab (fun f => Fab.done (f.wSnapshotAt tm) who))

/-- A tile whose time has reached its armed T copies CYC and its counters (R600); a tile in reset copies nothing
(R601). -/
def Fab.takeSnapshot (f : Fab) (t : Nat) : Fab :=
  match (f.tile t).snap with
  | none => f
  | some tm =>
    if f.time t < tm then f
    else f.modTile t (fun x =>
      { x with snap := none, shadow := if x.st = .reset ∨ x.st = .unpowered then x.shadow else x.cyc :: x.cnt })

/-- SNAPSHOT_TAKE (R600): every tile whose time has reached its armed T takes its copy. -/
def execSnapshotTake (s : State) : Host.Outcome State Fault Refusal :=
  .next (s.onFab (fun f => (List.range 256).foldl (fun f t => f.takeSnapshot t) f))

/-! ## Trace buffer (R609 to R611) -/

/-- Quarter `d` of the trace buffer. -/
def Fab.traceOf (f : Fab) (d : Nat) : Quarter := f.quarter.get (fun _ => Quarter.reset) d
/-- Replaces a quarter. -/
def Fab.setTrace (f : Fab) (d : Nat) (q : Quarter) : Fab := { f with quarter := f.quarter.set (fun _ => Quarter.reset) d q }

/-- A quarter takes a record (R609 to R611): when full it loses the new record under STOP (`none`), and overwrites the
record of lowest SEQ under WRAP. -/
def Quarter.put (q : Quarter) (d rec : Nat) (stop : Bool) : Option Quarter :=
  if q.count = 12288 ∧ stop = true then none
  else some ⟨q.recs.set (fun _ => 0) q.nextE (rec + q.seq * 2 ^ 256 + d * 2 ^ 288), min 12288 (q.count + 1),
    (q.nextE + 1) % 12288, (q.seq + 1) % 2 ^ 32⟩

/-- TRACE_RECORD_WRITE (R609, R611): the trace tree takes the oldest record from the queue of tile `t`. -/
def execTraceRecordWrite (t : Nat) (s : State) : Host.Outcome State Fault Refusal :=
  .next (s.onFab (fun f =>
    let d := dieOf t
    match (f.tile t).hop with
    | [] => f
    | r :: rest =>
      let f := f.modTile t (fun x => { x with hop := rest })
      match (f.traceOf d).put d r (f.oD d O.TRACE_MODE == 1) with
      | some q => f.setTrace d q
      | none => f.bump .inst 0 O.TRACE_LOST 0))

/-- A write of TRACE_CLEAR (R611). -/
def Fab.wTraceClear (f : Fab) (v : Nat) : Fab × Nat :=
  (if v = 0 then f else (List.range 4).foldl (fun f d => if f.bcastUp d then f.setTrace d Quarter.reset else f) f, cOk)

/-- TRACE_CLEAR_WRITE (R611). -/
def execTraceClearWrite (who v : Nat) (s : State) : Host.Outcome State Fault Refusal :=
  .next (s.onFab (fun f => Fab.done (f.wTraceClear v) who))

/-! ## Settings of the Counter Collector -/

/-- A write of COLLECT_PERIOD (R603): DENIED while a snapshot of firmware's is armed. -/
def Fab.wCollectPeriod (f : Fab) (v : Nat) : Fab × Nat :=
  if f.oI O.SNAPSHOT_STATE = 1 ∧ f.coll.armed = none then (f, cDenied) else f.wPlain .inst 0 O.COLLECT_PERIOD 0 v

/-- COLLECT_PERIOD_WRITE (R603). -/
def execCollectPeriodWrite (who v : Nat) (s : State) : Host.Outcome State Fault Refusal :=
  .next (s.onFab (fun f => Fab.done (f.wCollectPeriod v) who))

/-- A write of COLLECT_ADDR (R605). -/
def Fab.wCollectAddr (f : Fab) (v : Nat) : Fab × Nat :=
  if v % 64 ≠ 0 ∨ v < 0x20000000 ∨ 0x2003B800 < v then (f, cDenied) else (f.setO .inst 0 O.COLLECT_ADDR 0 v, cOk)

end Sys2Proof.Machine
end

