-- ==== Sys2Proof/Machine/Sha.lean ====
section
/-! DEFINITION. Sha: SHA-384 (R505 names SHA-384 through R542, R545, R556; FIPS 180-4 gives it; PRESUMED, log 14). Bytes are
numbers below 256; a digest is a number of 384 bits whose first byte stands highest. -/

namespace Sys2Proof.Sha

/-- The greatest `r < 2 ^ k` above the start `r` with `r ^ e ≤ n`, found bit by bit from the top. -/
def rootFrom (e n : Nat) : Nat → Nat → Nat
  | 0, r => r
  | k + 1, r => rootFrom e n k (if (r + 2 ^ k) ^ e ≤ n then r + 2 ^ k else r)
/-- The first 64 bits of the fractional part of the `e`-th root of `p` (for a root below 32). -/
def rootFraction (e p : Nat) : Nat := rootFrom e (p * 2 ^ (64 * e)) 69 0 % 2 ^ 64
/-- The primes below 410: FIPS 180-4 needs the first 80 of them, and there are 80. -/
def primes : List Nat := (List.range 410).filter (fun p => 2 ≤ p ∧ ∀ d ∈ List.range 21, 2 ≤ d → d < p → p % d ≠ 0)
/-- The 80 round constants: fractions of the cube roots of the first 80 primes. -/
def constants : List Nat := primes.map (rootFraction 3)

/-- Word `i` of a number of `n` words of 64 bits, word 0 the highest. -/
def wordAt (n x i : Nat) : Nat := x / 2 ^ (64 * (n - 1 - i)) % 2 ^ 64
/-- The number of `n` words whose words a function gives. -/
def fromWords (n : Nat) (f : Nat → Nat) : Nat := (List.range n).foldl (fun x i => 2 ^ 64 * x + f i % 2 ^ 64) 0
/-- The first hash value of SHA-384: fractions of the square roots of the 9th to 16th primes. -/
def start : Nat := fromWords 8 (fun i => rootFraction 2 (primes.getD (8 + i) 0))

/-- Exclusive or of a word turned right by each of the amounts. -/
def turns (x : Nat) (ns : List Nat) : Nat := ns.foldl (fun a n => a ^^^ (x * (2 ^ 64 + 1) / 2 ^ n % 2 ^ 64)) 0

/-- The schedule is the last sixteen words, as one number: word `t` leaves at the top and word `t + 16` enters below. -/
def scheduleNext (m : Nat) : Nat :=
  let lo := wordAt 16 m 1
  let hi := wordAt 16 m 14
  (m * 2 ^ 64 + (m / 2 ^ 960 + wordAt 16 m 9 + (turns lo [1, 8] ^^^ lo / 2 ^ 7) + (turns hi [19, 61] ^^^ hi / 2 ^ 6))
    % 2 ^ 64) % 2 ^ 1024

/-- One round on the eight working variables held as one number of 512 bits (a highest): every word moves one place
down, a new a enters at the top and the word that becomes e gains T1. -/
def turn (v w k : Nat) : Nat :=
  let at' := wordAt 8 v
  let choose := at' 6 ^^^ (at' 4 &&& (at' 5 ^^^ at' 6))
  let most := (at' 0 &&& (at' 1 ||| at' 2)) ||| (at' 1 &&& at' 2)
  let t1 := v % 2 ^ 64 + turns (at' 4) [14, 18, 41] + choose + k + w
  fromWords 8 (fun i => if i = 0 then t1 + turns (at' 0) [28, 34, 39] + most else at' (i - 1) + if i = 4 then t1 else 0)

/-- A block of 1,024 bits folded into the hash value. -/
def absorb (h m : Nat) : Nat :=
  let r := constants.foldl (fun (vm : Nat × Nat) k => (turn vm.1 (wordAt 16 vm.2 0) k, scheduleNext vm.2)) (h, m)
  fromWords 8 (fun i => wordAt 8 h i + wordAt 8 r.1 i)

/-- Big-endian number of a list of bytes. -/
def ofBytes (l : List Nat) : Nat := l.foldl (fun a b => 256 * a + b % 256) 0
/-- `n` bytes of a number, the lowest first. -/
def bytesLe (x : Nat) : Nat → List Nat
  | 0 => []
  | n + 1 => x % 256 :: bytesLe (x / 256) n
/-- `n` bytes of a number, the highest first. -/
def bytesBe (x n : Nat) : List Nat := (bytesLe x n).reverse
/-- The number whose lowest byte comes first. -/
def ofBytesLe (l : List Nat) : Nat := ofBytes l.reverse

/-- A message padded to whole blocks, as one number: the bit 1, zeros, and the length in bits in the last 128. -/
def padded (m : List Nat) : Nat :=
  (ofBytes m * 2 + 1) * 2 ^ (1023 - (8 * m.length + 128) % 1024 + 128) + 8 * m.length
/-- The number of blocks of a padded message. -/
def blockCount (m : List Nat) : Nat := (8 * m.length + 128) / 1024 + 1

/-- SHA-384 of a list of bytes: the upper 384 bits of the last hash value. -/
def sha384 (m : List Nat) : Nat :=
  let n := blockCount m
  (List.range n).foldl (fun h i => absorb h (padded m / 2 ^ (1024 * (n - 1 - i)) % 2 ^ 1024)) start / 2 ^ 128

/-- A digest as a BLOB(48): byte 0 lowest. -/
def digestLe (d : Nat) : Nat := ofBytesLe (bytesBe d 48)

end Sys2Proof.Sha
end

