-- ==== Sys2Proof/Machine/Ecdsa.lean ====
section
/-! DEFINITION. Ecdsa: ECDSA verification over P-384 (R545, R547; FIPS 186-5 and SEC 1 give it; PRESUMED, log 14). -/

namespace Sys2Proof.Ecdsa

/-- The field prime of P-384. -/
def prime : Nat := 2 ^ 384 - 2 ^ 128 - 2 ^ 96 + 2 ^ 32 - 1
/-- The curve constant b. -/
def curveB : Nat :=
  0xb3312fa7e23ee7e4988e056be3f82d19181d9c6efe8141120314088f5013875ac656398d8a2ed19d2a85c8edd3ec2aef
/-- The order of the base point. -/
def order : Nat :=
  0xffffffffffffffffffffffffffffffffffffffffffffffffc7634d81f4372ddf581a0db248b0a77aecec196accc52973
/-- The base point. -/
def baseX : Nat :=
  0xaa87ca22be8b05378eb1c71ef320ad746e1d3b628ba79b9859f741e082542a385502f25dbf55296c3a545e3872760ab7
@[inherit_doc baseX]
def baseY : Nat :=
  0x3617de4a96262c6f5d9e98bf9292dc29f8f41dbd289a147ce9da3113b5f0b8c00a60b1ce1d7e819d7a431d7c90ea0e5f

/-- `b` to the power of the low `n` bits of `e`, modulo `m`. -/
def powMod (m b e : Nat) : Nat → Nat
  | 0 => 1 % m
  | n + 1 =>
    let r := powMod m (b * b % m) (e / 2) n
    if e % 2 = 1 then b * r % m else r

/-- The inverse of `x` modulo a prime. -/
def inv (m x : Nat) : Nat := powMod m (x % m) (m - 2) 384
/-- `x - y` modulo `m`, for `y` below `m`. -/
def subMod (m x y : Nat) : Nat := (x + m - y % m) % m

/-- A point of the curve; none for the point at infinity. -/
abbrev Point := Option (Nat × Nat)

/-- The third point of the line of slope `l` through points of abscissas `x1` and `x2`. -/
def chord (l x1 y1 x2 : Nat) : Point :=
  let x3 := subMod prime (subMod prime (l * l) x1) x2
  some (x3, subMod prime (l * subMod prime x1 x3) y1)

/-- Addition of points. -/
def plus : Point → Point → Point
  | none, q => q
  | p, none => p
  | some (x1, y1), some (x2, y2) =>
    if x1 = x2 then
      (if (y1 + y2) % prime = 0 then none
       else chord (subMod prime (3 * x1 * x1) 3 * inv prime (2 * y1) % prime) x1 y1 x2)
    else chord (subMod prime y2 y1 * inv prime (subMod prime x2 x1) % prime) x1 y1 x2

/-- The multiple of a point by the low `n` bits of `k`. -/
def times (p : Point) (k : Nat) : Nat → Point
  | 0 => none
  | n + 1 =>
    let r := times (plus p p) (k / 2) n
    if k % 2 = 1 then plus p r else r

/-- Whether coordinates are a point of P-384. -/
def onCurve (x y : Nat) : Bool :=
  decide (x < prime) && decide (y < prime) && (y * y % prime == (x * x * x + (prime - 3) * x + curveB) % prime)

/-- Verification of the signature `(r, s)` of a digest under the public key `(x, y)`. -/
def verify (digest x y r s : Nat) : Bool :=
  onCurve x y && decide (0 < r) && decide (r < order) && decide (0 < s) && decide (s < order) &&
    (let w := inv order s
     match plus (times (some (baseX, baseY)) (digest * w % order) 384) (times (some (x, y)) (r * w % order) 384) with
     | none => false
     | some (px, _) => px % order == r)

end Sys2Proof.Ecdsa
end

