-- ==== Sys2Proof/Machine/Security.lean ====
section
/-! DEFINITION. Security: the seal (R539 to R541), one-time storage (R558 to R565), tickets (R545 to R555), the verify
engine (R566), and restarts of the Warden (R508 to R510). -/

namespace Sys2Proof.Machine

/-- Changes one-time storage. -/
def Fab.modOtp (f : Fab) (g : Otp → Otp) : Fab := { f with otp := g f.otp }
/-- Changes the verify engine. -/
def Fab.modVe (f : Fab) (g : Ve → Ve) : Fab := { f with ve := g f.ve }
/-- Raises a source of the Warden family. -/
def Fab.raiseW (f : Fab) (code i0 i1 : Nat) : Fab := f.raise (famKey .inst 0) code i0 i1 0

/-! ## One-time storage -/

/-- ORs bits into an array word: a bit goes from 0 to 1 and never back (R539). -/
def Otp.program (o : Otp) (w v : Nat) : Otp :=
  { o with arr := o.arr.set (fun _ => 0) w (o.arr.get (fun _ => 0) w ||| v % 2 ^ 32) }
/-- A word of the array. -/
def Otp.word (o : Otp) (w : Nat) : Nat := o.arr.get (fun _ => 0) w

/-- SEAL_STATE follows the array (R539, R560); its change is a measured change (R557). -/
def Fab.readSeal (f : Fab) : Fab :=
  let v := b2n f.otp.isSealed
  if f.oI O.SEAL_STATE = v then f else (f.setO .inst 0 O.SEAL_STATE 0 v).measured

/-- The load of a cold instance reset (R560, R561). -/
def Fab.otpLoad (f : Fab) : Fab :=
  let f := f.modOtp (fun o => { o with slot := o.choose, loaded := true, addr := 0, wdata := 0, fail := false })
  let o := f.otp
  let bad := (List.range 4).filter (fun s => o.spent s)
  let mask := bad.foldl (fun a s => a + 2 ^ s) 0
  let f := bad.foldl (fun f _ => f.raiseW 10 mask 0) f
  let f := if o.slot.isNone then f.raiseC (famKey .inst 0) 11 0 0 0 else f
  let f := { f with
    repair := (List.range 64).foldl (fun m k => m.set (fun _ => 0) k (o.inUse (0x100 + 4 * k) 4)) [],
    defaultMode := if o.slot.isNone then 1 else o.inUse 0x040 1 }
  let f := (List.range 4).foldl (fun f d => (List.range 4).foldl (fun f s =>
    f.setO .inst d O.LANTERN_ASYM s (ofSigned (toSigned (field (o.inUse 0x048 8) (16 * s) 16) 16) 64)) f) f
  (f.setO .inst 0 O.SEAL_STATE 0 (b2n o.isSealed)).measured

/-- Programs `n` words of a record into a slot in the order of R562: offsets 0x000 to 0x7F7, then the CRC word, then the
DONE word. -/
def programOrder : List Nat := List.range 510 ++ [511, 510]
/-- Programs the first `n` words of a record; `fails` lists words of the slot with bits that do not take. -/
def Otp.programRecord (o : Otp) (slot record n : Nat) (fails : List (Nat × Nat)) : Otp :=
  (programOrder.take n).foldl (fun o w =>
    let miss := (fails.lookup w).getD 0
    o.program (512 * slot + w) (clearBits (field record (32 * w) 32) miss)) o

/-- Programs the seal-field bits of every slot that `mask` holds, 16 bits for each slot (R540). -/
def Otp.burnSeal (o : Otp) (mask : Nat) : Otp :=
  (List.range 4).foldl (fun o s => o.program (512 * s + 1) (field mask (16 * s) 16 * 2 ^ 16)) o

/-- A burn or a programming is cut short by a cold reset or a restart of the Warden (R541, R563): the bits that stand are
open, between none and all of the burn, and a record stands without DONE. -/
def Fab.cutOtp (f : Fab) : Fab :=
  let v := Config.free f.fresh
  let f := match f.wd.burn with
    | some _ => f.modOtp (fun o => o.burnSeal v)
    | none => f
  let f := match f.wd.prog with
    | some j => f.modOtp (fun o => o.programRecord j.slot j.record (1 + v % 511) [])
    | none => f
  let used := f.wd.burn.isSome || f.wd.prog.isSome
  let f := f.modWd (fun w => { w with burn := none, prog := none })
  if used then { f with fresh := f.fresh + 1 } else f

/-- Whether a write of SEAL_BURN is refused (R541). -/
def Fab.burnRefused (f : Fab) (v : Nat) : Bool :=
  v != 0x5EA15EA1 || f.otp.slot.isNone || f.otp.authHash == 0 || f.bind.cst != .idle || f.bind.dst == .running
    || f.oI O.TICKET_STATE == 1 || f.sealed

/-- Whether a write of OTP_PROGRAM is refused (R562). -/
def Fab.programRefused (f : Fab) (record : Nat) : Bool :=
  let r := setField record 48 16 0
  !recordValid r || (List.range 4).any (fun s => f.otp.valid s && decide (field r 32 8 ≤ f.otp.gen s))
    || f.otp.spare == 0 || (f.sealed && field r 128 384 != f.otp.authHash)

/-- Whether the Warden programs one-time storage. -/
def Warden.programs (w : Warden) : Bool := w.burn.isSome || w.prog.isSome

/-- The Warden begins a SEAL_BURN or OTP_PROGRAM operation, or refuses it. -/
def Fab.beginProgram (f : Fab) (who idx v : Nat) : Fab :=
  if idx = O.SEAL_BURN then
    (if f.burnRefused v then f.answer who cDenied else f.modWd (fun w => { w with burn := some who }))
  else if f.programRefused v then f.answer who cDenied
  else
    let slot := ((List.range 4).find? (fun s => f.otp.blank s)).getD 0
    let sl := match f.otp.slot with
      | some s => field (f.otp.bytes (0x800 * s) 8) 48 16
      | none => 0
    f.modWd (fun w => { w with prog := some ⟨who, slot, setField v 48 16 sl⟩ })

/-- A SEAL_BURN or OTP_PROGRAM operation reaches the Warden, which does one at a time. -/
def Fab.wProgram (f : Fab) (who idx v : Nat) : Fab :=
  if f.wd.programs then f.modWd (fun w => { w with wait := w.wait ++ [(who, idx, v)] }) else f.beginProgram who idx v

/-- Whether a PROGRAM command is refused (R565): it would set a bit of a completed record other than a seal bit. -/
def Otp.refuses (o : Otp) (w v : Nat) : Bool :=
  let fresh := clearBits (v % 2 ^ 32) (o.word w)
  let kept := if w % 512 = 1 then fresh % 2 ^ 16 else fresh
  o.word (512 * (w / 512) + 510) == 0xA5C35A3C && kept != 0

/-- A PROGRAM command of the OTP controller (R564, R565); `miss` holds the bits that do not take. -/
def Fab.otpCmd (f : Fab) (miss : Nat) : Fab :=
  let o := f.otp
  if o.refuses o.addr o.wdata then f.modOtp (fun o => { o with fail := true })
  else
    let f := f.modOtp (fun o => { o.program o.addr (clearBits o.wdata miss) with
      fail := decide (o.word o.addr ||| clearBits o.wdata miss ≠ o.word o.addr ||| o.wdata) })
    f.readSeal

/-- OTP_CMD_PROGRAM (R565): a Warden write of OTP_CMD[PROGRAM]. -/
def execOtpCmdProgram (miss : Nat) (s : State) : Host.Outcome State Fault Refusal :=
  .next (s.onFab (fun f => f.otpCmd miss))

/-! ## The verify engine (R566) -/

/-- A command of the engine: while it is BUSY it only sets ERR. -/
def Fab.veCmd (f : Fab) (g : Ve → Ve) : Fab :=
  f.modVe (fun e => if e.op.isSome then { e with err := true } else g e)

/-- VE_HASH_START. -/
def Ve.start (e : Ve) : Ve := { e with msg := [] }
/-- VE_HASH_FINISH: VE_LEN beyond the bytes fed is inconsistent. -/
def Ve.finish (e : Ve) : Ve := if e.msg.length < e.len then { e with err := true } else { e with op := some .finish }

/-- VE_HASH_START (R566). -/
def execVeHashStart (s : State) : Host.Outcome State Fault Refusal := .next (s.onFab (fun f => f.veCmd Ve.start))
/-- VE_HASH_FINISH (R566). -/
def execVeHashFinish (s : State) : Host.Outcome State Fault Refusal := .next (s.onFab (fun f => f.veCmd Ve.finish))
/-- VE_VERIFY (R566). -/
def execVeVerify (s : State) : Host.Outcome State Fault Refusal :=
  .next (s.onFab (fun f => f.veCmd (fun e => { e with op := some .verify })))
/-- VE_NONCE_DRAW (R542, R566). -/
def execVeNonceDraw (s : State) : Host.Outcome State Fault Refusal :=
  .next (s.onFab (fun f => f.veCmd (fun e => { e with op := some .draw })))

/-- Four message bytes of VE_DATA. -/
def Ve.feed (e : Ve) (w : Nat) : Ve := { e with msg := e.msg ++ Sha.bytesLe w 4 }
/-- VE_DATA_WRITE (R566). -/
def execVeDataWrite (w : Nat) (s : State) : Host.Outcome State Fault Refusal :=
  .next (s.onFab (fun f => f.modVe (fun e => e.feed w)))

/-! ## Restarts of the Warden (R508 to R510) -/

/-- A ticket in verification is rejected with ABORTED (R550). -/
def Fab.abortTicket (f : Fab) : Fab :=
  match f.wd.ticket with
  | some tk => (f.modWd (fun w => { w with ticket := none })).ticketRejected 10 (field tk 40 8) (field tk 320 64)
  | none => f

/-- The Warden restarts (R509): its operations end with TIMEOUT, and its transfer is forgotten. -/
def Fab.wardenRestart (f : Fab) : Fab :=
  let whos := f.wd.burn.toList ++ (f.wd.prog.map (fun j => j.who)).toList ++ f.wd.wait.map (·.1)
  let f := f.cutOtp.abortTicket
  let f := whos.foldl (fun f w => f.answer w cTimeout) f
  ((f.modWd (fun w => { w with wait := [], restarting := true })).readSeal)

/-- WARDEN_WDOG (R509): the period passes without a clear; `addr` is the fetch address. -/
def execWardenWdog (addr : Nat) (s : State) : Host.Outcome State Fault Refusal :=
  .next (s.onFab (fun f =>
    if f.oI O.WARDEN_WDOG = 0 then f
    else ((f.raiseW 0 addr 0).bump .inst 0 O.WARDEN_RESTARTS 0).wardenRestart))

/-- Warden SRAM appears at address zero, the Warden restarts there, and WARDEN_REMAP locks (R510, R555). -/
def Fab.doRemap (f : Fab) : Fab :=
  let id := if f.sealed then (f.wd.patch.map (·.2)).getD 0 else (Config.imageHeader f.wd.sram).1
  let f := (f.setO .inst 0 O.WARDEN_REMAP 1 1).setO .inst 0 O.WARDEN_IMAGE 0 (id % 2 ^ 32)
  ((f.modWd (fun w => { w with remapLocked := true, remapDue := false })).wardenRestart).shadowAll .inst 0
    O.WARDEN_REMAP 1 1

/-- Whether the Warden has a crossbar transfer outstanding. -/
def Fab.wardenBusy (f : Fab) : Bool :=
  (f.xb.wait.any (fun kv => kv.1 == 1)) || f.xb.busy.any (fun kv => kv.2.master == 1)

/-- A write of WARDEN_REMAP (R510, R555). -/
def Fab.wRemap (f : Fab) (v : Nat) : Fab × Nat :=
  if f.wd.remapLocked || f.wd.remapDue || (v != 0 && f.sealed && f.wd.patch.isNone) then (f, cDenied)
  else if v = 0 then
    ((f.modWd (fun w => { w with remapLocked := true })).shadowAll .inst 0 O.WARDEN_REMAP 1 0, cOk)
  else if f.wardenBusy then (f.modWd (fun w => { w with remapDue := true }), cOk)
  else (f.doRemap, cOk)

/-- WARDEN_REMAP_WRITE (R510). -/
def execWardenRemapWrite (who v : Nat) (s : State) : Host.Outcome State Fault Refusal :=
  .next (s.onFab (fun f => Fab.done (f.wRemap v) who))

/-! ## Tickets (R545 to R552) -/

/-- A write of an RWT object other than a table (R536, R537): in the object and in every shadow (R503). -/
def Fab.wRwt (f : Fab) (byTicket : Bool) (sc : Scope) (num idx sub v : Nat) : Fab × Nat :=
  if f.sealed && !byTicket then (f, cDenied)
  else match judgeWrite sc idx sub v with
    | none => (f, cDenied)
    | some (x, code) =>
      let f := if sc = .inst then
          (List.range 4).foldl (fun f d => if f.bcastUp d then f.setO .inst d idx sub x else f) f
        else f.setO sc num idx sub x
      (f.shadowAll sc num idx sub x, code)

/-- A field of a ticket: `n` bytes from byte `off`. -/
def tkField (tk off n : Nat) : Nat := field tk (8 * off) (8 * n)
/-- KIND, LENGTH, BODY_LEN, COUNTER and TIME of a ticket (R545). -/
def tkKind (tk : Nat) : Nat := tkField tk 5 1
@[inherit_doc tkKind] def tkLength (tk : Nat) : Nat := tkField tk 6 2
@[inherit_doc tkKind] def tkBody (tk : Nat) : Nat := tkField tk 58 2
@[inherit_doc tkKind] def tkCounter (tk : Nat) : Nat := tkField tk 40 8
@[inherit_doc tkKind] def tkTime (tk : Nat) : Nat := tkField tk 48 10
/-- The operations of a BINDING ticket, 16 bytes each (R546). -/
def tkOps (tk : Nat) : List Nat := (List.range (tkBody tk / 16)).map (fun k => tkField tk (160 + 16 * k) 16)

/-- Whether the reserved fields of an operation are zero (R222, R546). -/
def opReservedOk (op : Nat) : Bool :=
  match field op 0 2 with
  | 0 => field op 2 2 == 0 && field op 24 40 == 0
  | 1 => field op 24 40 == 0
  | 2 => field op 2 2 == 0 && field op 24 40 == 0 && field op 80 48 == 0
  | _ => field op 2 2 == 0 && field op 39 25 == 0
      && (match (Scope.ofCode (field op 28 3)).bind (fun sc => objRow sc (field op 4 16) (field op 20 8)) with
          | some r => decide (field op 64 64 < 2 ^ (8 * r.ty.bytes))
          | none => true)

/-- Check 1, FORMAT (R547). -/
def tkFormatOk (tk : Nat) : Bool :=
  let k := tkKind tk
  let b := tkBody tk
  tkField tk 0 4 == 0x58544B31 && tkField tk 4 1 == 1 && decide (1 ≤ k) && decide (k ≤ 3) && tkField tk 60 3 == 0
    && tkLength tk == 160 + b + 96 && decide (tkLength tk ≤ 4096)
    && (if k = 1 then b % 16 == 0 && decide (b ≤ 3840) && (tkOps tk).all opReservedOk
        else if k = 2 then b == 0
        else b == 64 && tkField tk 216 8 == 0)

/-- Check 5, SIGNATURE (R547). -/
def tkSignatureOk (tk : Nat) : Bool :=
  let bytes := Sha.bytesLe tk (tkLength tk)
  let key := (bytes.drop 63).take 97
  let sig := bytes.drop (tkLength tk - 96)
  key.headD 0 == 4 && Ecdsa.verify (Sha.sha384 (bytes.take (tkLength tk - 96))) (Sha.ofBytes ((key.drop 1).take 48))
    (Sha.ofBytes (key.drop 49)) (Sha.ofBytes (sig.take 48)) (Sha.ofBytes (sig.drop 48))

/-- The first of the checks 1 to 5 that fails, by reason code; 0 when all pass. -/
def Fab.tkEarly (f : Fab) (tk : Nat) : Nat :=
  let hash := f.otp.authHash
  if !tkFormatOk tk then 1
  else if hash = 0 ∨ Sha.digestLe (Sha.sha384 (Sha.bytesLe (tkField tk 63 97) 97)) ≠ hash then 2
  else if tkField tk 8 32 ≠ f.nonce ∨ f.nonce = 0 then 3
  else if tkCounter tk ≤ f.oI O.TICKET_COUNTER then 4
  else if !tkSignatureOk tk then 5
  else 0

/-- One operation of a BINDING ticket (R546, R548): its effect, or none where check 8 refuses it. -/
def Fab.tkOp (f : Fab) (op : Nat) : Option Fab :=
  let ok (r : Fab × Nat) : Option Fab := if r.2 = cOk then some r.1 else none
  let elem := field op 4 20
  match field op 0 2 with
  | 0 => ok (f.wTable false true tblFam elem (field op 64 64))
  | 1 =>
    if 4096 ≤ elem ∨ f.locked tblShare elem = true ∨ f.bind.cst = .armed ∨ 4096 ≤ f.bind.stage.length then none
    else some (f.stageRecords [⟨tblShare, field op 2 2, elem, field op 64 64⟩])
  | 2 => if 4096 ≤ elem then none else ok (f.wTable false true tblPbr elem (field op 64 64))
  | _ =>
    let idx := field op 4 16
    let sub := field op 20 8
    let num := field op 31 8
    match Scope.ofCode (field op 28 3) with
    | none => none
    | some sc =>
      if !objExists sc num idx sub then none
      else if idx = O.STAGE_CLEAR then
        (if field op 64 64 = 1 ∧ f.bind.cst ≠ .armed then
           some ((List.range 4).foldl (fun f d => f.modCopy d (fun c => { c with ovl := [] }))
             (f.modBind (fun b => { b with stage := [], cst := .idle })))
         else none)
      else if elemCount idx = 0 ∧ (objRow sc idx sub).any (fun r => r.acc == .rwt) = true then
        ok (f.wRwt true sc num idx sub (field op 64 64))
      else none

/-- The operations of a ticket in order; none where check 8 refuses one. -/
def Fab.tkApply (f : Fab) : List Nat → Option Fab
  | [] => some f
  | op :: ops => match f.tkOp op with
    | none => none
    | some f' => f'.tkApply ops

/-- Whether a DEBUG ticket's TIME lies outside its window, in run time (R547). -/
def Fab.debugRefused (f : Fab) (tm : Nat) : Bool :=
  let now := f.dieTime 0
  decide (tm < now + ms 1) || decide (now + ms 86400000 < tm)

/-- Whether the image in Warden SRAM matches a descriptor (R554). -/
def Fab.imageOk (f : Fab) (tk : Nat) : Bool :=
  let len := tkField tk 208 4
  decide (4 ≤ len) && decide (len ≤ 262144) && len % 4 == 0 && tkField tk 212 4 != 0
    && Sha.digestLe (Sha.sha384 ((List.range len).map (fun a => (SMap.get emptyByte f.wd.sram a).toNat)))
        == tkField tk 160 48

/-- A ticket is accepted (R548). -/
def Fab.ticketAccepted (f : Fab) (counter : Nat) : Fab :=
  ((f.setO .inst 0 O.TICKET_COUNTER 0 counter).setO .inst 0 O.TICKET_RESULT 0 0).setO .inst 0 O.TICKET_STATE 0 2

/-- Checks 6 to 9 and the application of a ticket that has passed checks 1 to 5: the new state, or the reason. -/
def Fab.tkLate (f : Fab) (tk : Nat) : Except Nat Fab :=
  let tm := tkTime tk
  let now := f.dieTime 0
  let c := tkCounter tk
  if tkKind tk = 1 then
    let after := f.tkApply (tkOps tk)
    let count := match after with
      | some g => g.bind.stage.length
      | none => f.bind.stage.length + ((tkOps tk).filter (fun o => field o 0 2 != 3)).length
    if tm ≠ 0 ∧ (tm < now + us 20 ∨ now + ms 10000 < tm) then .error 6
    else if tm ≠ 0 ∧ (f.bind.cst = .armed ∨ f.bind.dst = .running ∨ count = 0) then .error 7
    else match after with
      | none => .error 8
      | some g =>
        let g := g.ticketAccepted c
        if tm = 0 then .ok g
        else
          let g := (g.setO .inst 0 O.TICKET_STATE 0 1).arm tm none
          .ok (g.modBind (fun b => { b with tkt := some c }))
  else if tkKind tk = 2 then
    (if f.debugRefused tm then .error 6
     else .ok (((f.setO .inst 0 O.DEBUG_TICKET 0 1).modWd (fun w =>
       { w with debugEnd := f.run0 + (tm - now) })).ticketAccepted c))
  else if !f.imageOk tk then .error 9
  else .ok ((f.modWd (fun w => { w with patch := some (tkField tk 208 4, tkField tk 212 4) })).ticketAccepted c)

/-- A write of TICKET_SUBMIT whose last segment completes (R550). -/
def Fab.wTicketSubmit (f : Fab) (v : Nat) : Fab × Nat :=
  if f.oI O.TICKET_STATE = 1 then (f, cDenied)
  else ((f.modWd (fun w => { w with ticket := some (v % 2 ^ 32768) })).setO .inst 0 O.TICKET_STATE 0 1, cOk)

/-! ## Operations that the Warden serves (R500) -/

/-- An operation reaches the Warden, which serves it once it runs (R500, R509) and once the nonce has been drawn (R542). -/
def Fab.wardenServe (f : Fab) (who idx v : Nat) : Fab :=
  if f.wd.restarting || f.ve.op == some .draw then f.modWd (fun w => { w with wait := w.wait ++ [(who, idx, v)] })
  else if idx = O.TICKET_SUBMIT then Fab.done (f.wTicketSubmit v) who
  else f.wProgram who idx v

/-- The operations that waited are taken up. -/
def Fab.wardenNext (f : Fab) : Fab :=
  let l := f.wd.wait
  l.foldl (fun f x => f.wardenServe x.1 x.2.1 x.2.2) (f.modWd (fun w => { w with wait := [] }))

/-- TICKET_SUBMIT (R550). -/
def execTicketSubmit (who v : Nat) (s : State) : Host.Outcome State Fault Refusal :=
  .next (s.onFab (fun f => f.wardenServe who O.TICKET_SUBMIT v))

/-- SEAL_BURN_WRITE (R540, R541). -/
def execSealBurnWrite (who v : Nat) (s : State) : Host.Outcome State Fault Refusal :=
  .next (s.onFab (fun f => f.wardenServe who O.SEAL_BURN v))

/-- SEAL_BURN_DONE (R540): the four words have been programmed and read back; `miss` holds the seal bits that did not
take, 16 for each slot. -/
def execSealBurnDone (miss : Nat) (s : State) : Host.Outcome State Fault Refusal :=
  .next (s.onFab (fun f =>
    match f.wd.burn with
    | none => f
    | some who =>
      let f := (f.modOtp (fun o => o.burnSeal (clearBits (2 ^ 64 - 1) miss))).modWd (fun w => { w with burn := none })
      let left := (List.range 4).find? (fun s => field (f.otp.word (512 * s + 1)) 16 16 != 0xFFFF)
      let f := match left with
        | some s => f.raiseW 12 (s + (512 * s + 1) * 4 + 2 ^ 13) 0
        | none => f
      ((f.readSeal.measured).answer who (if left.isSome then cDenied else cOk)).wardenNext))

/-- OTP_PROGRAM_WRITE (R562). -/
def execOtpProgramWrite (who record : Nat) (s : State) : Host.Outcome State Fault Refusal :=
  .next (s.onFab (fun f => f.wardenServe who O.OTP_PROGRAM record))

/-- OTP_PROGRAM_DONE (R562): `fails` lists the words of the slot with bits that did not take. -/
def execOtpProgramDone (fails : List (Nat × Nat)) (s : State) : Host.Outcome State Fault Refusal :=
  .next (s.onFab (fun f =>
    match f.wd.prog with
    | none => f
    | some j =>
      let f := (f.modOtp (fun o => o.programRecord j.slot j.record 512 fails)).modWd (fun w => { w with prog := none })
      let bad := programOrder.find? (fun w => f.otp.word (512 * j.slot + w) != field j.record (32 * w) 32)
      match bad with
      | some w => ((f.raiseW 12 (j.slot + (512 * j.slot + w) * 4) 0).answer j.who cDenied).wardenNext
      | none => (f.answer j.who cOk).wardenNext))

/-- VE_OP_COMPLETE (R542, R543, R566): `samples` are the entropy samples of a draw, and `fail` the health test that fails,
0 the repetition count test and 1 the adaptive proportion test; the operations that waited for the draw are then served. -/
def execVeOpComplete (samples : List Nat) (fail : Option Nat) (s : State) : Host.Outcome State Fault Refusal :=
  .next (s.onFab (fun f =>
    let e := f.ve
    match e.op with
    | none => f
    | some .finish => f.modVe (fun e => { e with op := none, digest := Sha.sha384 (e.msg.take e.len) })
    | some .verify => f.modVe (fun e => { e with
        op := none,
        sigOk := Ecdsa.verify e.digest (e.key / 2 ^ 384) (e.key % 2 ^ 384) (e.sig / 2 ^ 384) (e.sig % 2 ^ 384) })
    | some .draw =>
      match fail with
      | some k => ((({ f with nonce := 0 }).modVe (fun e => { e with op := none, health := true })).raiseW 9 k 0).wardenNext
      | none =>
        (({ f with nonce := Sha.digestLe (Sha.sha384 samples) % 2 ^ 256 }).modVe (fun e =>
          { e with op := none, health := false })).wardenNext))

/-! ## Verification of a ticket (R547 to R552) -/

/-- What checks 6 to 9 decide of a ticket: it is applied, or rejected with their reason (R547, R548). -/
def Fab.tkEnd (f : Fab) (tk : Nat) : Except Nat Fab → Fab
  | .error r => f.ticketRejected r (tkKind tk) (tkCounter tk)
  | .ok g => g

/-- TICKET_VERIFY_DONE (R547 to R549): the ticket is rejected at the first check that fails, or applied. -/
def execTicketVerifyDone (s : State) : Host.Outcome State Fault Refusal :=
  .next (s.onFab (fun f =>
    match f.wd.ticket with
    | none => f
    | some tk =>
      let f := f.modWd (fun w => { w with ticket := none })
      let early := f.tkEarly tk
      if early ≠ 0 then f.ticketRejected early (tkKind tk) (tkCounter tk) else f.tkEnd tk (f.tkLate tk)))

/-- DEBUG_TICKET_EXPIRY (R552): the end time is reached in run time. -/
def execDebugTicketExpiry (s : State) : Host.Outcome State Fault Refusal :=
  .next (s.onFab (fun f =>
    if f.oI O.DEBUG_TICKET = 1 ∧ f.wd.debugEnd ≤ f.run0 then f.setO .inst 0 O.DEBUG_TICKET 0 0 else f))

end Sys2Proof.Machine
end

