-- ==== Sys2Proof/Machine/ObjWrite.lean ====
section
/-! DEFINITION. ObjWrite: what a write of an object does and with which code it ends (R26, R29, R518, R526, R527), for every
object of the catalogue: each is passed to the operation that its own command uses. -/

namespace Sys2Proof.Machine

/-- Whether an object is stored in every die station (R483): a plain INSTANCE object that the units of a die read. -/
def perDie (idx : Nat) : Bool :=
  [O.ROUTE_MODE, O.EXPRESS_BIAS, O.SLEEP_PENALTY, O.DEGRADE_PENALTY, O.SA_WEIGHT, O.AGE_LIMIT, O.KNOCK_LIMIT,
    O.LANTERN_ASYM, O.LANTERN_PPS_OUT_OFFSET, O.LANTERN_PPS_OUT_WIDTH, O.CDC_TIMEOUT, O.TRACE_MODE].contains idx

/-- A write of XBAR_FABRIC_BASE (R517). -/
def Fab.wFabricBase (f : Fab) (v : Nat) : Fab × Nat :=
  if v % 2 ^ 22 ≠ 0 ∨ 2 ^ 52 ≤ v then (f, cDenied) else (f.setO .inst 0 O.XBAR_FABRIC_BASE 0 v, cOk)

/-- A write of a plain INSTANCE object by die station `d`, or in one place when its units read one copy. -/
def Fab.wInstPlain (f : Fab) (d idx sub v : Nat) : Fab × Nat :=
  if perDie idx then f.wPlain .inst d idx sub v else f.wPlain .inst 0 idx sub v

/-- A write of an INSTANCE object other than a table, a deferred one or a fault family. -/
def Fab.wInst (f : Fab) (d idx sub v : Nat) : Fab × Nat :=
  if idx = O.FABRIC_MODE then f.wFabricMode v
  else if idx = O.XBAR_FABRIC_BASE then f.wFabricBase v
  else if idx = O.WARDEN_REMAP then f.wRemap v
  else if idx = O.GRANULE then f.wGranule v
  else if idx = O.DRAIN then f.wDrain (v % 256)
  else if idx = O.STAGE_CLEAR then f.wStageClear v
  else if idx = O.VIOLATION_FLOOR then f.wRwt false .inst 0 idx sub v
  else if idx = O.LANTERN_SET then f.wLanternSet v
  else if idx = O.LANTERN_STEP then f.wLanternStep v
  else if idx = O.LANTERN_SOURCE then f.wLanternSource v
  else if idx = O.LANTERN_UP_PORT then f.wUpPort v
  else if idx = O.QCLK_FREQ then f.wQclkFreq v
  else if idx = O.SNAPSHOT_AT then f.wSnapshotAt v
  else if idx = O.COLLECT_PERIOD then f.wCollectPeriod v
  else if idx = O.COLLECT_ADDR then f.wCollectAddr v
  else if idx = O.TRACE_CLEAR then f.wTraceClear v
  else f.wInstPlain d idx sub v

/-- A write of a scheduler object of an edge or service-port NI. -/
def Fab.wSched (f : Fab) (w : Who) (idx sub v : Nat) : Fab × Nat :=
  if idx = O.SHAPER_RATE ∨ idx = O.SHAPER_EN then f.wShaper w idx sub v
  else if idx = O.SHAPER_BURST then f.wBurst w sub v
  else if idx = O.SHAPER_CLEAR then f.wShaperClear w sub v
  else if idx = O.GATE_APPLY then f.wGateApply w sub v
  else if idx = O.GATE_EN then f.wGateEn w sub v
  else f.wPlain w.scope w.num idx sub v

/-- A write of a TILE object other than a fault family. -/
def Fab.wTileObj (f : Fab) (t idx sub v : Nat) : Fab × Nat :=
  if idx = O.VIOL_CLEAR then f.wViolClear .tile t v
  else if idx = O.BIND_PBR_REACH ∨ idx = O.EDGE_PROV then f.wRwt false .tile t idx sub v
  else if idx = O.POLICE_CIR then f.wPoliceCir t v
  else if idx = O.POLICE_CBS then f.wPoliceCbs t v
  else if idx = O.EDGE_FENCE then f.wEdgeFence t v
  else if idx = O.SPILL_PORT then f.wSpillPort t v
  else if idx = O.TILE_HOLD then f.wTileHold t v
  else if idx = O.TILE_DEEPEST then f.wTileDeepest t v
  else if idx = O.CNT_EVENT then f.wCntEvent t sub v
  else if idx = O.CNT_VALUE then f.wCntValue t sub v
  else if idx = O.CNT_CHAIN ∨ idx = O.CNT_ENABLE then f.wCntSetting t idx sub v
  else f.wSched (.ni t) idx sub v

/-- A write of an SP object other than a fault family. -/
def Fab.wSpObj (f : Fab) (d idx sub v : Nat) : Fab × Nat :=
  if idx = O.VIOL_CLEAR then f.wViolClear .sp d v
  else if idx = O.SP_BIND ∨ idx = O.SP_PROV then f.wRwt false .sp d idx sub v
  else f.wSched (.sp d) idx sub v

/-- A write of an SK object other than a fault family. -/
def Fab.wSkObj (f : Fab) (n idx sub v : Nat) : Fab × Nat :=
  if idx = O.SK_RECOVER then f.wSkRecover n v
  else if idx = O.SK_ENABLE then f.wSkEnable n v
  else if idx = O.SK_BASE ∨ idx = O.SK_CHUNKS then f.wSkRegion n idx v
  else f.wPlain .sk n idx sub v

/-- A write of a SEAMSIDE object other than a fault family. -/
def Fab.wSeamObj (f : Fab) (ss idx sub v : Nat) : Fab × Nat :=
  if idx = O.SEAM_RETRAIN then f.wRetrain ss sub v
  else if idx = O.SEAM_REPAIR_LANE then f.wRepairLane ss sub v
  else f.wPlain .seam ss idx sub v

/-- Table of an object index (R222). -/
def tableOf (idx : Nat) : Option Nat :=
  if idx = O.FAM then some 0 else if idx = O.SHARE_GROUP then some 1 else if idx = O.PBR_ROUTE then some 2 else none

/-- A write that reaches its server, of an object that exists and can be written; `d` is the die whose station applies it
when it is an INSTANCE object, `dbg` marks the debug master, and `clk` is as for a fault family. -/
def Fab.wObj (f : Fab) (d : Nat) (dbg : Bool) (sc : Scope) (num idx sub elem v : Nat) (clk : Bool) : Fab × Nat :=
  match tableOf idx with
  | some table => f.wTable dbg false table elem v
  | none =>
    if idx = O.FAULT ∨ idx = O.FAULT_LANTERN then f.wFault (famOf sc num idx) sub v clk
    else match sc with
      | .inst => f.wInst d idx sub v
      | .tile => f.wTileObj num idx sub v
      | .sp => f.wSpObj num idx sub v
      | .sk => f.wSkObj num idx sub v
      | .seam => f.wSeamObj num idx sub v
      | .quad => if idx = O.QPLL_HOLD then f.wQpllHold num v else f.wPlain .quad num idx sub v
      | .cmn => if idx = O.CMN_RESV_GRAN then f.wResvGran num v
                else if idx = O.CMN_RESV_CLEAR then f.wResvClear num v
                else f.wPlain .cmn num idx sub v
      | .die => if idx = O.VIOL_CLEAR then f.wViolClear .die num v else f.wPlain .die num idx sub v

/-- Whether the access code of an object refuses a write before its value is judged (R526, order 6). -/
def Fab.writeBarred (f : Fab) (sc : Scope) (idx sub : Nat) : Bool :=
  match objRow sc idx sub with
  | none => true
  | some r =>
    match r.acc with
    | .ro => true
    | .rc => true
    | .rwt => f.sealed
    | .rwl => (idx == O.GRANULE && f.bind.granLocked) || (idx == O.WARDEN_REMAP && f.wd.remapLocked)
    | _ => false

/-- Size of an object in bytes (R521). -/
def objSize (sc : Scope) (idx sub : Nat) : Nat :=
  match objRow sc idx sub with | some r => r.ty.bytes | none => 0

/-- Whether an object is a BLOB (R498). -/
def objBlob (sc : Scope) (idx sub : Nat) : Bool :=
  match objRow sc idx sub with
  | some r => (match r.ty with | .blob _ => true | _ => false)
  | none => false

/-- A write that reaches its server, in the order of R526: refused by its access code; `len` bytes (0 for the object's size)
of `v` too long for a BLOB, or not the object's size (R498); else judged by its object. -/
def Fab.wChecked (f : Fab) (d : Nat) (dbg : Bool) (sc : Scope) (num idx sub elem len v : Nat) (clk : Bool) : Fab × Nat :=
  let size := objSize sc idx sub
  if f.writeBarred sc idx sub && !(dbg && (tableOf idx).isSome) then (f, cDenied)
  else if objBlob sc idx sub && decide (size < len) then (f, cTooLong)
  else if !objBlob sc idx sub && len != 0 && len != size then (f, cDenied)
  else f.wObj d dbg sc num idx sub elem (v % 2 ^ (8 * (if len = 0 then size else len))) clk

end Sys2Proof.Machine
end

