-- ==== Sys2Proof/Machine/Guyline.lean ====
section
/-! DEFINITION. Guyline: the ring, its master and its stations (R477 to R486, R531 to R533), and the Counter Collector, which
reads over it (R602 to R606). A RESP carries the whole object. -/

namespace Sys2Proof.Machine

/-- Changes the Guyline master and the stations. -/
def Fab.modGuy (f : Fab) (g : Guy → Guy) : Fab := { f with guy := g f.guy }

/-! ## Frames -/

/-- KIND values (R481). -/
def kRead : Nat := 0
@[inherit_doc kRead] def kWrite : Nat := 1
@[inherit_doc kRead] def kBcast : Nat := 2
@[inherit_doc kRead] def kResp : Nat := 3

/-- Header bytes [7:0] of a frame (R481, R581). -/
def GFrame.low (x : GFrame) (tag : Nat) : Nat :=
  (x.kind + tag * 2 ^ 4 + x.seq * 2 ^ 8 + x.sc.code * 2 ^ 12 + x.num * 2 ^ 15 + x.idx * 2 ^ 23 + x.sub * 2 ^ 39
    + x.elem * 2 ^ 47) % 2 ^ 64
/-- Bytes of a frame's data; R481 pads an odd number with a zero byte. The model's frame keeps LEN 0 for an operation that
gives no length, and its data then fills the object (log 50). -/
def GFrame.dataBytes (x : GFrame) : Nat :=
  let n := if x.kind = kRead then 0 else if x.len = 0 then objSize x.sc x.idx x.sub else x.len
  n + n % 2
/-- The header, data and COUNT of a frame as a number, its first byte lowest (R481). -/
def GFrame.body (x : GFrame) (tag : Nat) : Nat :=
  let n := x.dataBytes
  x.low tag + x.elem % 2 ^ 20 / 2 ^ 17 * 2 ^ 64
    + (if x.kind = kRead then 0 else x.len % 64) * 2 ^ 67 + x.status % 8 * 2 ^ 73 + b2n x.ccw * 2 ^ 76 + b2n x.loop * 2 ^ 77
    + b2n x.guard * 2 ^ 78 + (x.data % 2 ^ (8 * n)) * 2 ^ 80
    + (if x.kind = kBcast then x.count.length * 2 ^ (80 + 8 * n) else 0)
/-- Bytes of a frame before its check. -/
def GFrame.bodyLen (x : GFrame) : Nat := 10 + x.dataBytes + (if x.kind = kBcast then 2 else 0)
/-- The check of a frame (R481): CRC over its bytes, each most significant bit first, polynomial 0x1021, initial value
0xFFFF. -/
def GFrame.check (x : GFrame) (tag : Nat) : Nat :=
  (List.range x.bodyLen).foldl (fun c k => crcBits 16 0x1021 c (field (x.body tag) (8 * k) 8) 8) 0xFFFF
/-- A frame with its check as a number, its first byte lowest. The order of the two bytes of the check is PRESUMED
(log 83). -/
def GFrame.wire (x : GFrame) (tag : Nat) : Nat := x.body tag + x.check tag * 2 ^ (8 * x.bodyLen)
/-- Bytes of a frame. -/
def GFrame.wireLen (x : GFrame) : Nat := x.bodyLen + 2

/-- INFO0 of GUY_CRC and GUY_TIMEOUT (R581). -/
def GFrame.info (x : GFrame) (tag : Nat) : Nat := tag + x.seq * 2 ^ 4 + b2n x.ccw * 2 ^ 8 + b2n x.loop * 2 ^ 9

/-- A frame leaves the master. -/
def Fab.launchFrame (f : Fab) (tag : Nat) (x : GFrame) : Fab :=
  let x := { x with sentAt := f.run0 }
  f.modGuy (fun g => { g with ring := SMap.insert g.ring tag x, sent := SMap.insert g.sent tag x })

/-- A new request under a tag, with the next SEQ; it waits while a late frame of the tag is in flight (R485). It
crosses to the Guyline master (R470). -/
def Fab.sendFrame (f : Fab) (tag : Nat) (x : GFrame) : Fab :=
  let f := f.cdcCarry .xbarGuy (x.low tag)
  let q := f.guy.seq.get (fun _ => 0) tag
  let x := { x with seq := q }
  let f := f.modGuy (fun g => { g with seq := g.seq.set (fun _ => 0) tag ((q + 1) % 16) })
  if (f.guy.ring.lookup tag).isSome then f.modGuy (fun g => { g with wait := SMap.insert g.wait tag x })
  else f.launchFrame tag x

/-- A frame of a request. -/
def GFrame.make (kind : Nat) (sc : Scope) (num idx sub elem len data : Nat) (guard dbg : Bool) : GFrame :=
  ⟨kind, 0, sc, num, idx, sub, elem, len, data, 0, false, false, guard, [], false, false, false, 0, dbg⟩

/-! ## Stations -/

/-- The tile station that serves a scope (R477); none for the scopes of die stations. -/
def tileStation (sc : Scope) (num : Nat) : Option Nat :=
  match sc with
  | .tile => some num | .sk => some (skTile num) | .sp => some (spTile num) | .cmn => some (cmnTile num) | _ => none
/-- The die of the die station that serves a scope (R477). -/
def dieStation (sc : Scope) (num : Nat) : Nat :=
  match sc with
  | .die => num | .quad => num / 4 | .seam => sideDie num | _ => 0
/-- TILE objects that the die station serves while the tile is in T3 (R456). -/
def servedAsleep (idx : Nat) : Bool :=
  [O.TILE_STATE, O.TILE_HOLD, O.TILE_DEEPEST, O.TILE_DOZE_IDLE, O.TILE_NAP_IDLE, O.TILE_OFF_IDLE, O.FAULT].contains idx
/-- The station that claims a frame of an object: a tile 0 to 255, or 256 + d (R477, R484). -/
def Fab.claimer (f : Fab) (sc : Scope) (num idx : Nat) : Option Nat :=
  match tileStation sc num with
  | some t =>
    if !f.bypassed t then some t
    else if sc = .tile ∧ (f.tile t).st = .t3 ∧ servedAsleep idx = true then some (256 + dieOf t)
    else none
  | none => some (256 + dieStation sc num)
/-- Die of a station. -/
def stationDie (st : Nat) : Nat := if st < 256 then dieOf st else st - 256
/-- Whether a frame that travels in a rotation passes a station that claims it. -/
def Fab.claimable (f : Fab) (ccw : Bool) (st : Nat) : Bool :=
  f.ringPasses ccw (stationDie st) && (if st < 256 then (f.die (stationDie st)).ao else f.dieLive (st - 256))

/-- Whether an object of a tile station is held in tile logic (R449, R597, R600). -/
def inLogic (sc : Scope) (idx sub : Nat) : Bool :=
  (tileStation sc 0).isSome
    && !([O.TILE_STATE, O.TILE_WAKES, O.TILE_TIME_IN, O.FAULT, O.STORES_LOST, O.SHADOW_CYC, O.SHADOW_CNT].contains idx)
    && (idx == O.CNT_VALUE || (match objRow sc idx sub with
        | some r => (match r.acc with | .ro => true | .rc => true | .wo => true | _ => false)
        | none => false))

/-- Whether the debug master reads an object as zero (R553). -/
def Fab.dbgZero (f : Fab) (dbg : Bool) (idx : Nat) : Bool :=
  dbg && f.sealed && f.oI O.DEBUG_TICKET == 0
    && [O.FAM, O.SHARE_GROUP, O.PBR_ROUTE, O.FAM_STAGE, O.TRACE].contains idx

/-- What a READ returns, as the whole object: the collector's reads of SHADOW_CNT return four of them (R604), and an
uncorrectable error in the trace buffer (`ue`) returns zero (R583). -/
def Fab.readValue (f : Fab) (dbg : Bool) (sc : Scope) (num idx sub elem len : Nat) (collector ue : Bool) : Nat :=
  if f.dbgZero dbg idx || (ue && idx == O.TRACE) then 0
  else if collector && idx == O.SHADOW_CNT && len == 32 then
    (List.range 4).foldl (fun a k => a + f.readObj sc num idx (sub + k) elem * 2 ^ (64 * k)) 0
  else f.readObj sc num idx sub elem

/-- A READ is performed. -/
def Fab.doRead (f : Fab) (dbg : Bool) (sc : Scope) (num idx sub elem len : Nat) (collector ue : Bool) : Fab × Nat :=
  let v := f.readValue dbg sc num idx sub elem len collector ue
  let f := if ue && idx == O.TRACE then f.raiseW 13 elem 0 else f
  (f.readSide sc num idx sub, v)

/-- The frame under a tag becomes a RESP, which its station keeps (R482, R485). -/
def Fab.respond (f : Fab) (tag st : Nat) (x : GFrame) (status data : Nat) : Fab :=
  f.modGuy (fun g => { g with
    ring := SMap.insert g.ring tag { x with kind := kResp, status := status, data := data },
    stored := SMap.insert g.stored (16 * st + tag) ⟨x.seq, status, data⟩ })

/-- Whether the access crosses a crossing over which it ends with TIMEOUT (R470). -/
def Fab.accessFenced (f : Fab) (st idx : Nat) (logic : Bool) : Bool :=
  (logic && f.cdcShut (.station st)) || (idx == O.LANTERN_TIME && 256 ≤ st && f.cdcShut (.lantern (st - 256)))

/-- What an access carries over the crossings between its station and the object (R467, R470): the value written or the
object read, and the sampled time. -/
def Fab.accessCarry (f : Fab) (st : Nat) (x : GFrame) (logic : Bool) : Fab :=
  if logic then f.cdcCarry (.station st) (if x.kind = kRead then x.idx else x.data)
  else if x.idx = O.LANTERN_TIME ∧ 256 ≤ st then f.cdcCarry (.lantern (st - 256)) (f.dieTime (st - 256)) else f

/-- The access of a claimed READ or WRITE (R482). -/
def Fab.access (f : Fab) (tag st : Nat) (x : GFrame) (ue clk : Bool) : Fab :=
  let logic := decide (st < 256) && inLogic x.sc x.idx x.sub
  let shut := f.accessFenced st x.idx logic
  let f := f.accessCarry st x logic
  if shut then f.respond tag st x cTimeout 0
  else if x.kind = kRead then
    let r := f.doRead x.dbg x.sc x.num x.idx x.sub x.elem x.len (8 ≤ tag) ue
    r.1.respond tag st x cOk r.2
  else
    let r := f.wChecked (dieStation x.sc x.num) x.dbg x.sc x.num x.idx x.sub x.elem x.len x.data clk
    r.1.respond tag st x r.2 0

/-- GUY_FRAME_CLAIM (R456, R482, R484, R485): the station that holds the object claims the frame under tag `tag`. A repeated
SEQ is answered with the stored RESP; an object in tile logic wakes the tile first; `ue` is the outcome of the code of the
trace buffer, and `clk` says that the clocks of the fenced crossings of a family run. -/
def execGuyFrameClaim (tag : Nat) (ue clk : Bool) (s : State) : Host.Outcome State Fault Refusal :=
  .next (s.onFab (fun f =>
    match f.guy.ring.lookup tag with
    | none => f
    | some x =>
      if x.kind ≠ kRead ∧ x.kind ≠ kWrite then f
      else match f.claimer x.sc x.num x.idx with
        | none => f
        | some st =>
          if !f.claimable x.ccw st then f
          else match f.guy.stored.lookup (16 * st + tag) with
            | some k =>
              if k.seq = x.seq then f.respond tag st x k.status k.data
              else perform f tag st x
            | none => perform f tag st x))
where
  /-- The access, once the tile that it needs is awake. -/
  perform (f : Fab) (tag st : Nat) (x : GFrame) : Fab :=
    if st < 256 ∧ inLogic x.sc x.idx x.sub = true ∧ ((f.tile st).st ≠ .t0 ∨ f.qclkRuns st = false)
        ∧ f.cdcFenced (.station st) = false then (f.askWake st).cdcEvent (.station st)
    else f.access tag st x ue clk

/-! ## Broadcasts (R483) -/

/-- What die station `d` does with a broadcast: an object of which each die holds a copy is written there; any other is
judged and written at D0. -/
def Fab.bcastApply (f : Fab) (d : Nat) (x : GFrame) (clk : Bool) : Fab × Nat :=
  if d = 0 ∨ (tableOf x.idx = none ∧ perDie x.idx = true) then
    f.wChecked d x.dbg x.sc x.num x.idx x.sub x.elem x.len x.data clk
  else (f, cOk)

/-- GUY_BCAST (R483): die station `d` applies the broadcast under tag `tag` and counts it; D0 comes first on the ring. A
repeated SEQ is counted and not performed again (R485). -/
def execGuyBcast (tag d : Nat) (clk : Bool) (s : State) : Host.Outcome State Fault Refusal :=
  .next (s.onFab (fun f =>
    match f.guy.ring.lookup tag with
    | none => f
    | some x =>
      if x.kind ≠ kBcast ∨ 4 ≤ d ∨ x.count.contains d = true ∨ f.bcastUp d = false
          ∨ (d ≠ 0 ∧ f.bcastUp 0 = true ∧ x.count.contains 0 = false) then f
      else match f.guy.stored.lookup (16 * (256 + d) + tag) with
        | some k => if k.seq = x.seq then counted f x k.status else perform f x
        | none => perform f x))
where
  /-- COUNT goes up; the code that D0 finds ends the operation. -/
  counted (f : Fab) (x : GFrame) (code : Nat) : Fab :=
    f.modGuy (fun g => { g with ring := SMap.insert g.ring tag { x with
      count := x.count ++ [d], status := if d = 0 then code else x.status } })
  /-- The write. -/
  perform (f : Fab) (x : GFrame) : Fab :=
    let r := f.bcastApply d x clk
    counted (r.1.modGuy (fun g => { g with
      stored := SMap.insert g.stored (16 * (256 + d) + tag) ⟨x.seq, r.2, 0⟩ })) x r.2

/-- The stage without the last record equal to `r`. -/
def dropLast (r : StageRec) (l : List StageRec) : List StageRec := (dropFirst (fun x => x == r) l.reverse).reverse

/-- The records of a stage write that missed a die are withdrawn (R532). -/
def Fab.withdraw (f : Fab) (table elem v : Nat) : Fab :=
  let rs := recordsOf table elem v
  let cut (l : List StageRec) : List StageRec := rs.foldl (fun l r => dropLast r l) l
  let f := f.modBind (fun b => { b with
    stage := cut b.stage, cst := if b.cst = .opened ∧ (cut b.stage).isEmpty = true then .idle else b.cst })
  (List.range 4).foldl (fun f d => f.modCopy d (fun c => { c with ovl := cut c.ovl })) f

/-! ## The Counter Collector (R602 to R606) -/

/-- Changes the collector. -/
def Fab.modColl (f : Fab) (g : Coll → Coll) : Fab := { f with coll := g f.coll }

/-- Frame `k` of a collection (R604). -/
def collFrame (k : Nat) : GFrame :=
  match k % 3 with
  | 0 => GFrame.make kRead .tile (k / 3) O.SHADOW_CNT 0 0 32 0 false false
  | 1 => GFrame.make kRead .tile (k / 3) O.SHADOW_CNT 4 0 32 0 false false
  | _ => GFrame.make kRead .tile (k / 3) O.SHADOW_CYC 0 0 8 0 false false

/-- Free collector tags send the next frames (R604). -/
def Fab.collPump (f : Fab) : Fab :=
  [8, 9, 10, 11].foldl (fun f tag =>
    if f.coll.reading.isSome ∧ f.coll.next < 768 ∧ (f.guy.ring.lookup tag).isNone then
      (f.sendFrame tag (collFrame f.coll.next)).modColl (fun c => { c with next := c.next + 1 })
    else f) f

/-- The entry of a tile that cannot be reached (R605). -/
def absentEntry : Nat := 2 ^ 576 - 1

/-- A collector frame has ended: its part of the tile's entry, laid out as R605 gives. -/
def Fab.collTake (f : Fab) (x : GFrame) (status data : Nat) : Fab :=
  let f := f.modColl (fun c =>
    let old := c.got.get (fun _ => 0) x.num
    let new := if old = absentEntry ∨ status ≠ cOk then absentEntry
      else if x.idx = O.SHADOW_CYC then setField old 0 64 data
      else setField old (64 + 64 * x.sub) 256 data
    { c with got := c.got.set (fun _ => 0) x.num new })
  f.collPump

/-- SNAPSHOT_TAKEN (R602): 1 µs past T, SNAPSHOT_STATE becomes TAKEN; a collection then begins to read. -/
def execSnapshotTaken (s : State) : Host.Outcome State Fault Refusal :=
  .next (s.onFab (fun f =>
    let tm := f.oI O.SNAPSHOT_AT
    if f.oI O.SNAPSHOT_STATE = 1 ∧ tm + us 1 ≤ f.dieTime 0 then
      let f := (List.range 256).foldl (fun f t => f.takeSnapshot t) f
      let f := (f.setO .inst 0 O.SNAPSHOT_STATE 0 2).setO .inst 0 O.SNAPSHOT_TIME 0 tm
      match f.coll.armed with
      | some _ => (f.modColl (fun c => { c with armed := none, reading := some tm, got := [], next := 0 })).collPump
      | none => f
    else f))

/-- COLLECT_START (R603): the collector, when it is idle, arms the snapshot of the next whole multiple of COLLECT_PERIOD that
lies at least 10 µs ahead. -/
def execCollectStart (s : State) : Host.Outcome State Fault Refusal :=
  .next (s.onFab (fun f =>
    let p := us (f.oI O.COLLECT_PERIOD)
    if p = 0 ∨ f.coll.armed.isSome = true ∨ f.coll.reading.isSome = true ∨ f.oI O.SNAPSHOT_STATE = 1 then f
    else
      let tm := (f.dieTime 0 + us 10 + p - 1) / p * p
      (f.armSnapshot tm).modColl (fun c => { c with armed := some tm })))

/-- Whether a collection may be written (R606): above IMAGE_LEN of the patch approval, and above the running image. -/
def Fab.collMayWrite (f : Fab) : Bool :=
  let off := f.oI O.COLLECT_ADDR - 0x20000000
  (match f.wd.patch with | some (len, _) => decide (len ≤ off) | none => true)
    && (f.oI O.WARDEN_REMAP 1 == 0 || decide ((Config.imageHeader f.wd.sram).2 ≤ off))

/-- COLLECT_COMPLETE (R605, R606): every frame has ended; the entries are written into Warden SRAM. -/
def execCollectComplete (s : State) : Host.Outcome State Fault Refusal :=
  .next (s.onFab (fun f =>
    match f.coll.reading with
    | none => f
    | some tm =>
      if f.coll.next < 768 ∨ [8, 9, 10, 11].any (fun t => (f.guy.ring.lookup t).isSome) = true then f
      else
        let base := f.oI O.COLLECT_ADDR - 0x20000000
        let got := f.coll.got
        let ok := f.collMayWrite
        let f := f.modColl (fun c => { c with reading := none, got := [], next := 0 })
        if !ok then f
        else
          let f := f.modWd (fun w => { w with
            sram := (List.range 256).foldl (fun m t =>
              memWrite m (base + 72 * t) (got.get (fun _ => 0) t) (2 ^ 72 - 1) 72) w.sram })
          f.setO .inst 0 O.COLLECT_DONE 0 tm))

/-! ## Returns (R484 to R486) -/

/-- The frame under a tag leaves the ring; a request that waited for it is sent. -/
def Fab.dropTag (f : Fab) (tag : Nat) : Fab :=
  let w := f.guy.wait.lookup tag
  let f := f.modGuy (fun g => { g with
    ring := SMap.erase g.ring tag, sent := SMap.erase g.sent tag, wait := SMap.erase g.wait tag })
  match w with
  | some x => f.launchFrame tag x
  | none => f

/-- An operation of the master ends: its requester is answered, unless it has given up (R502). -/
def Fab.guyEnd (f : Fab) (tag : Nat) (x : GFrame) (status data : Nat) : Fab :=
  let f := if status = cAbsent then f.bump .inst 0 O.GUY_ABSENT 0 else f
  let f := f.dropTag tag
  if 8 ≤ tag then f.collTake x status data
  else if x.late then f
  else f.answer tag status data

/-- A frame is sent once more with its SEQ, or its operation ends with TIMEOUT (R485). -/
def Fab.again (f : Fab) (tag : Nat) (x : GFrame) : Fab :=
  match f.guy.sent.lookup tag with
  | none => f
  | some y =>
    if x.resent then f.guyEnd tag x cTimeout 0
    else (f.launchFrame tag { y with resent := true, late := x.late }).bump .inst 0 O.GUY_RETRIES 0

/-- Whether an unclaimed READ or WRITE comes back: nothing in its rotation claims it. -/
def Fab.unclaimed (f : Fab) (x : GFrame) : Bool :=
  match f.claimer x.sc x.num x.idx with
  | some st => !f.claimable x.ccw st
  | none => true

/-- Whether a broadcast has been applied by every die that it reaches. -/
def Fab.bcastThrough (f : Fab) (x : GFrame) : Bool :=
  (List.range 4).all (fun d => !f.bcastUp d || x.count.contains d)

/-- The end of a broadcast (R483, R531, R532): OK, or the code that D0 found, when all four dies counted it. -/
def Fab.bcastEnd (f : Fab) (tag : Nat) (x : GFrame) : Fab :=
  if x.count.length = 4 then f.guyEnd tag x x.status 0
  else
    let f := match tableOf x.idx with
      | some table => if x.count.contains 0 && x.status == cOk then f.withdraw table x.elem x.data else f
      | none => f
    f.guyEnd tag x cAbsent 0

/-- GUY_RESP_RETURN (R483 to R486): the frame under `tag` returns to the master; `ok` says that it passes its check. -/
def execGuyRespReturn (tag : Nat) (ok : Bool) (s : State) : Host.Outcome State Fault Refusal :=
  .next (s.onFab (fun f =>
    match f.guy.ring.lookup tag with
    | none => f
    | some x =>
      let looped := f.ringHops x.ccw != 4
      if f.ringReturns x.ccw = false
          ∨ (x.kind ≠ kResp ∧ (if x.kind = kBcast then f.bcastThrough x else f.unclaimed x) = false) then f
      else if !ok then (f.raiseW 4 ({ x with loop := looped }.info tag) (x.low tag)).again tag x
      else if x.kind = kResp then f.guyEnd tag x x.status x.data
      else if x.kind = kBcast then f.bcastEnd tag x
      else if looped && !x.turned then
        match f.guy.sent.lookup tag with
        | some y => f.launchFrame tag { y with ccw := !y.ccw, turned := true, resent := x.resent, late := x.late }
        | none => f
      else f.guyEnd tag x cAbsent 0))

/-- GUY_TIMEOUT (R485): the frame under `tag` has not returned within GUY_TIMEOUT. -/
def execGuyTimeout (tag : Nat) (s : State) : Host.Outcome State Fault Refusal :=
  .next (s.onFab (fun f =>
    match f.guy.ring.lookup tag with
    | none => f
    | some x =>
      if f.run0 < x.sentAt + us (f.oI O.GUY_TIMEOUT) then f
      else
        match f.guy.sent.lookup tag with
        | some y => (f.raiseW 5 (y.info tag) (y.low tag)).again tag x
        | none => f))

/-! ## Breaks and by-passes -/

/-- Bit of the break at a seam hop, named by its receive side (R486). -/
def breakBit (ss : Nat) : Nat := ss / 2 + 4 * b2n (sideDie ss != [1, 2, 0, 3].getD (ss / 2) 0)

/-- The mode is sent again to the dies that missed it and can now be reached (R660). -/
def Fab.modeAgain (f : Fab) : Fab :=
  let up := f.modeDue.filter (fun d => f.bcastUp d)
  let f := up.foldl (fun f d => f.applyMode (f.oI O.FABRIC_MODE) d) f
  { f with modeDue := f.modeDue.filter (fun d => !up.contains d) }

/-- GUY_BREAK (R486): the seam hop that side `ss` receives has lost both sideband lanes; each break raises the source. -/
def execGuyBreak (ss : Nat) (s : State) : Host.Outcome State Fault Refusal :=
  .next (s.onFab (fun f =>
    let k := breakBit ss
    if ss < 8 ∧ f.sbLost ss = true ∧ bit f.guyBreaks k = false then
      ((({ f with guyBreaks := setBit f.guyBreaks k }).raise (famKey .inst 0) 6 k 0 0).modFam (famKey .inst 0) (fun y =>
        { y with cond := setBit y.cond 6 })).modeAgain
    else f))

/-- SIDEBAND_LOCK_REGAIN (R403, R486, R637): receive sideband lane `lane` of side `ss` has had the 10-bit words `words` on
SBs_RXC_j, with any alignment; it locks when they hold the comma at one alignment. SEAM_SB_LOSS and the break of the hop
end. -/
def execSidebandLockRegain : Nat → Nat × List Nat → State → Host.Outcome State Fault Refusal
  | ss, (lane, words), s => .next (s.onFab (fun f =>
    let f := match commaAlign words with
      | some a => f.modSide ss (fun x =>
        if lane = 0 then { x with lock0 := true, align0 := a }
        else if lane = 1 then { x with lock1 := true, align1 := a } else x)
      | none => f
    if f.sbLost ss then f
    else
      let f := f.endC (famKey .seam ss) 12
      if bit f.guyBreaks (breakBit ss) then
        let f := { f with guyBreaks := clearBits f.guyBreaks (mask (breakBit ss)) }
        (if f.guyBreaks = 0 then f.endC (famKey .inst 0) 6 else f).modeAgain
      else f))

/-- Whether the by-pass of a tile station is to be closed (R484). -/
def Fab.bypassDue (f : Fab) (t : Nat) : Bool :=
  match (f.tile t).st with
  | .t3 => !(f.tile t).pw.entering
  | .reset => true
  | .unpowered => true
  | _ => false

/-- A tile station returns from by-pass: it takes the armed snapshot of its die station (R483, R601). -/
def Fab.openBypass (f : Fab) (t : Nat) : Fab :=
  let tm := f.oD (dieOf t) O.SNAPSHOT_AT
  let f := f.modGuy (fun g => { g with bypass := g.bypass.set (fun _ => false) t false })
  if f.oI O.SNAPSHOT_STATE = 1 ∧ f.time t < tm then f.modTile t (fun x => { x with snap := some tm }) else f

/-- STATION_BYPASS_CHANGE (R483, R484): the by-pass of the station of tile `t` follows its tile. -/
def execStationBypassChange (t : Nat) (s : State) : Host.Outcome State Fault Refusal :=
  .next (s.onFab (fun f =>
    if f.bypassDue t then f.modGuy (fun g => { g with bypass := g.bypass.set (fun _ => false) t true })
    else if f.bypassed t && !f.cdcHeld (.station t) then f.openBypass t
    else f))

end Sys2Proof.Machine
end

