-- ==== Sys2Proof/Machine/Mailbox.lean ====
section
/-! DEFINITION. Mailbox: the mailboxes of the MAP and the request slots of N4 (R491, R495 to R502, R512, R526 to R530,
R533). Mailboxes 0 to 3 are MBX0 to MBX3, 4 to 7 the slots 0 to 3. -/

namespace Sys2Proof.Machine

/-- A mailbox. -/
def Fab.mbxOf (f : Fab) (m : Nat) : Mbx := f.mbx.get (fun _ => Mbx.reset) m
/-- Changes a mailbox. -/
def Fab.modMbx (f : Fab) (m : Nat) (g : Mbx → Mbx) : Fab :=
  { f with mbx := f.mbx.set (fun _ => Mbx.reset) m (g (f.mbxOf m)) }
/-- Whether the MAP is held by an instance reset or a strap error (R494, R615). -/
def Fab.mapHeld (f : Fab) : Bool := f.rsts.any (fun r => r.sc == .inst) || f.map.strapErr
/-- Raises a source of the MAP family (R582): offset, write, size code and write data. -/
def Fab.mapRaise (f : Fab) (code off : Nat) (wr : Bool) (size data : Nat) : Fab :=
  f.raise famMap code (off % 65536 + b2n wr * 2 ^ 16 + size * 2 ^ 17) (data % 2 ^ 32) 0

/-! ## The end of an operation -/

/-- A guarded write ends (R491): LAST, and REFUSED, which stops at 255. -/
def MapRegs.guarded (m : MapRegs) (last : Nat) : MapRegs :=
  { m with last := last, refused := if last = 1 then m.refused else min 255 (m.refused + 1) }

/-- An operation of a mailbox ends with a code (R496, R527, R528): for a read that ends with OK the data registers take the
bytes from the segment's offset. -/
def Mbx.complete (x : Mbx) (op : MbxOp) (code data : Nat) : Mbx :=
  if op.read && code == cOk then
    let full := min 32 (op.size - op.off)
    let n := if op.len = 0 then full else min op.len full
    { x with
      op := none, code := if n < full then cClipped else cOk, valid := true, rlen := n,
      more := decide (op.off + n < op.size), data := field data (8 * op.off) (8 * n),
      prev := if 32 < op.size then some op.tgt else none, buf := if 32 < op.size then data else 0 }
  else { x with op := none, code := code }

/-- Ends the operation of mailbox `m`. -/
def Fab.endMbx (f : Fab) (m : Nat) (op : MbxOp) (code data : Nat) : Fab :=
  let f := f.modMbx m (fun x => x.complete op code data)
  if op.guard = 0 then f
  else f.modMap (fun r => r.guarded (if op.guard = 2 then 2 else if code = cOk ∨ code = cClipped then 1 else 3))

/-- MBX_COMPLETE (R496, R502): the server's answer to mailbox `m` arrives; an answer to no operation is discarded. -/
def execMbxComplete (m : Nat) (s : State) : Host.Outcome State Fault Refusal :=
  .next (s.onFab (fun f =>
    match f.answers.find? (fun a => a.who == m) with
    | none => f
    | some a =>
      let f := { f with answers := dropFirst (fun a => a.who == m) f.answers }
      match (f.mbxOf m).op with
      | none => f
      | some op => f.endMbx m op a.code a.data))

/-- Nothing that is still under way answers requester `m` (R502). -/
def Fab.forget (f : Fab) (m : Nat) : Fab :=
  let sub (w : Nat) : Nat := if w = m then 12 else w
  let f := { f with answers := f.answers.filter (fun a => a.who != m) }
  let f := f.modBind (fun b => { b with who := if b.who = some m then none else b.who })
  let f := f.modWd (fun w => { w with
    burn := w.burn.map sub, prog := w.prog.map (fun j => { j with who := sub j.who }),
    wait := w.wait.map (fun x => (sub x.1, x.2.1, x.2.2)) })
  f.modGuy (fun g => { g with
    ring := g.ring.map (fun kv => if kv.1 = m then (kv.1, { kv.2 with late := true }) else kv),
    wait := SMap.erase g.wait m })

/-- MBX_TIMEOUT (R502): an operation still BUSY after MBX_TIMEOUT ends with TIMEOUT. -/
def execMbxTimeout (m : Nat) (s : State) : Host.Outcome State Fault Refusal :=
  .next (s.onFab (fun f =>
    match (f.mbxOf m).op with
    | none => f
    | some op =>
      if f.run0 < op.goAt + ms (f.oI O.MBX_TIMEOUT) then f
      else
        let x := f.mbxOf m
        let f := (f.forget m).endMbx m op cTimeout 0
        if m < 4 then f.raise famMap 6 m x.obj x.cmd else f))

/-! ## The object that a command names -/

/-- Objects of access RWG. -/
def isGuarded (sc : Scope) (idx sub : Nat) : Bool := (objRow sc idx sub).any (fun r => r.acc == .rwg)

/-- The target of a command and the offset of its segment (R499, R518); none where the object does not exist. A TRACE element
carries the segment in SUB, an object beyond 32 bytes in ELEM. -/
def mbxTarget (read : Bool) (cmd obj elem : Nat) : Option (MbxTarget × Nat) :=
  let idx := obj % 65536
  let sub := field obj 16 8
  match Scope.ofCode (field cmd 4 3) with
  | none => none
  | some sc =>
    let num := field cmd 8 8
    if 2 ^ 20 ≤ elem then none
    else if elemCount idx ≠ 0 then
      let seg := if read && decide (32 < objSize sc idx 0) then sub else 0
      if objExists sc num idx (sub - seg) = true ∧ elem < elemCount idx then some (⟨sc, num, idx, 0, elem⟩, 32 * seg)
      else none
    else if objExists sc num idx sub then
      (if 32 < objSize sc idx sub then some (⟨sc, num, idx, sub, 0⟩, elem)
       else if elem = 0 then some (⟨sc, num, idx, sub, 0⟩, 0) else none)
    else none

/-! ## Servers (R500) -/

/-- The Warden runs again and takes up the operations that waited. -/
def Fab.wardenUp (f : Fab) : Fab := (f.modWd (fun w => { w with restarting := false })).wardenNext

/-- Whether an object is served by the Guyline master itself. -/
def isLocal (t : MbxTarget) : Bool := t.sc == .inst && decide (0x1000 ≤ t.idx) && decide (t.idx < 0x1100)
/-- Whether an object's operations other than a READ of an RO object go to the Warden. -/
def isWarden (t : MbxTarget) : Bool := t.sc == .inst && decide (0x1100 ≤ t.idx) && decide (t.idx < 0x1200)

/-- A READ goes to its server. -/
def Fab.serveRead (f : Fab) (m : Nat) (dbg : Bool) (t : MbxTarget) : Fab :=
  if f.cdcShut .mapXbar && decide (m < 4) then f.answer m cTimeout
  else if isLocal t then
    let r := f.doRead dbg t.sc t.num t.idx t.sub t.elem 0 false false
    r.1.answer m cOk r.2
  else if isWarden t && !(objRow t.sc t.idx t.sub).any (fun r => r.acc == .ro) then f.answer m cOk 0
  else if f.cdcShut .xbarGuy then f.answer m cTimeout
  else f.sendFrame m (GFrame.make kRead t.sc t.num t.idx t.sub t.elem 0 0 false dbg)

/-- A write that the Warden serves: judged as any write, then passed to the Warden. -/
def Fab.serveWarden (f : Fab) (m : Nat) (t : MbxTarget) (len v : Nat) : Fab :=
  let size := objSize t.sc t.idx t.sub
  if f.writeBarred t.sc t.idx t.sub then f.answer m cDenied
  else if objBlob t.sc t.idx t.sub && decide (size < len) then f.answer m cTooLong
  else if !objBlob t.sc t.idx t.sub && len != 0 && len != size then f.answer m cDenied
  else f.wardenServe m t.idx (v % 2 ^ (8 * (if len = 0 then size else len)))

/-- A write of FAM_COMMIT, which is answered when its acknowledgements are in (R228). -/
def Fab.serveCommit (f : Fab) (m len v : Nat) : Fab :=
  if !f.bcastUp 0 then (f.bump .inst 0 O.GUY_ABSENT 0).answer m cAbsent
  else if (len != 0 && len != 10) || f.sealed || f.commitRefused (v % 2 ^ 80) then f.answer m cDenied
  else f.arm (v % 2 ^ 80) (some m)

/-- A WRITE goes to its server (R483, R500). -/
def Fab.serveWrite (f : Fab) (m : Nat) (dbg : Bool) (t : MbxTarget) (len v : Nat) (guard : Bool) : Fab :=
  if f.cdcShut .mapXbar && decide (m < 4) then f.answer m cTimeout
  else if isLocal t then Fab.done (f.wChecked 0 dbg t.sc t.num t.idx t.sub t.elem len v true) m
  else if isWarden t then f.serveWarden m t len v
  else if f.cdcShut .xbarGuy then f.answer m cTimeout
  else if t.idx = O.FAM_COMMIT then f.serveCommit m len v
  else
    let kind := if t.sc = .inst ∨ (tableOf t.idx).isSome then kBcast else kWrite
    f.sendFrame m (GFrame.make kind t.sc t.num t.idx t.sub t.elem len v guard dbg)

/-! ## Commands (R496 to R499) -/

/-- An operation of mailbox `m` begins; one of the MAP crosses to the management crossbar (R470). -/
def Fab.beginMbx (f : Fab) (m : Nat) (op : MbxOp) : Fab :=
  let f := if m < 4 then f.cdcCarry .mapXbar (m + 4 * op.tgt.idx) else f
  { f with answers := f.answers.filter (fun a => a.who != m) }.modMbx m (fun x => { x with op := some op })

/-- A READ of an object, or of a segment (R499). -/
def Fab.cmdRead (f : Fab) (m : Nat) (dbg : Bool) (t : MbxTarget) (off len : Nat) : Fab :=
  let x := f.mbxOf m
  let size := objSize t.sc t.idx t.sub
  let op : MbxOp := ⟨true, t, size, off, len, 0, f.run0⟩
  if off = 0 then ((f.modMbx m (fun x => { x with prev := none })).beginMbx m op).serveRead m dbg t
  else if x.prev = some t ∧ off < size then (f.beginMbx m op).answer m cOk x.buf
  else ((f.modMbx m (fun x => { x with prev := none })).beginMbx m op).answer m cDenied

/-- A segment of a WRITE or WRITE_SEG (R499): what has been collected with it and how many bytes, or none out of order. -/
def Mbx.collect (x : Mbx) (t : MbxTarget) (off n : Nat) : Option (Nat × Nat) :=
  let bytes := x.data % 2 ^ (8 * n)
  match x.seg with
  | some (t', v, k) =>
    if off = 0 then some (bytes, n)
    else if t' = t ∧ k = off then some (v + bytes * 2 ^ (8 * k), k + n)
    else none
  | none => if off = 0 then some (bytes, n) else none

/-- A WRITE_SEG (R499). -/
def Fab.cmdSeg (f : Fab) (m : Nat) (t : MbxTarget) (off len : Nat) : Fab :=
  let x := f.mbxOf m
  let size := objSize t.sc t.idx t.sub
  let f := (f.modMbx m (fun x => { x with prev := none, seg := none })).beginMbx m ⟨false, t, size, off, len, 0, f.run0⟩
  if size ≤ 32 ∨ f.writeBarred t.sc t.idx t.sub = true ∨ ¬(len = 0 ∨ len = 32) then f.answer m cDenied
  else match x.collect t off 32 with
    | none => f.answer m cDenied
    | some (v, k) =>
      if size < k then f.answer m cTooLong
      else (f.modMbx m (fun x => { x with seg := some (t, v, k) })).answer m cOk

/-- A WRITE, or the last segment of one (R498, R499); `guard` is 0 for an unguarded write, 1 with the lock open and 2
refused (R491). -/
def Fab.cmdWrite (f : Fab) (m : Nat) (dbg : Bool) (t : MbxTarget) (off len guard : Nat) : Fab :=
  let x := f.mbxOf m
  let size := objSize t.sc t.idx t.sub
  let f := (f.modMbx m (fun x => { x with prev := none, seg := none })).beginMbx m
    ⟨false, t, size, off, len, guard, f.run0⟩
  if guard = 2 then f.answer m cDenied
  else if size ≤ 32 then f.serveWrite m dbg t len x.data (guard == 1)
  else match x.collect t off (if len = 0 then 32 else len) with
    | none => f.answer m cDenied
    | some (v, k) => f.serveWrite m dbg t k v (guard == 1)

/-- The guard of a WRITE (R491): a guarded write closes the lock; made while it is closed it is refused. -/
def Fab.guardOf (f : Fab) (m cmd : Nat) (t : MbxTarget) : Fab × Nat :=
  if isGuarded t.sc t.idx t.sub then
    (if f.map.lock then (f.modMap (fun r => { r with lock := false }), 1)
     else (f.mapRaise 3 (0x100 + 0x40 * m) true 2 cmd, 2))
  else (f, 0)

/-- A write of MBX_CMD with GO (R495, R496): the command is checked and passed on. -/
def Fab.mbxGo (f : Fab) (m cmd : Nat) (dbg : Bool) : Fab :=
  let f := f.modMbx m (fun x => { x with
    cmd := field cmd 0 3 + field cmd 4 3 * 16 + field cmd 8 14 * 256, valid := false, more := false, rlen := 0 })
  let x := f.mbxOf m
  let op := field cmd 0 3
  let len := field cmd 16 6
  let fail (f : Fab) (code : Nat) : Fab :=
    ((f.modMbx m (fun x => { x with prev := none })).beginMbx m
      ⟨false, ⟨.inst, 0, 0, 0, 0⟩, 0, 0, 0, 0, f.run0⟩).answer m code
  if f.mapHeld then f.modMbx m (fun x => { x with code := cAbsent, op := none })
  else if op = 0 ∨ 3 < op then fail f cDenied
  else if 32 < len then fail f cTooLong
  else match mbxTarget (op == 1) cmd x.obj x.elem with
    | none => fail f cNoObject
    | some (t, off) =>
      if op = 1 then f.cmdRead m dbg t off len
      else if op = 3 then f.cmdSeg m t off len
      else
        let g := f.guardOf m cmd t
        g.1.cmdWrite m dbg t off len g.2

/-- A write of MBX_CMD (R495, R497). -/
def Fab.wMbxCmd (f : Fab) (m cmd : Nat) (dbg : Bool) : Fab :=
  if (f.mbxOf m).op.isSome then (if m < 4 then f.mapRaise 2 (0x100 + 0x40 * m) true 2 cmd else f)
  else if bit cmd 31 then f.mbxGo m cmd dbg
  else f.modMbx m (fun x => { x with cmd := field cmd 0 3 + field cmd 4 3 * 16 + field cmd 8 14 * 256 })

/-- The word of a command: `op` in OP, and GO. -/
def goWord (op cmd : Nat) : Nat := setField cmd 0 3 op ||| 2 ^ 31

/-- MBX_READ (R496, R499): a write of MBX_CMD with OP READ and GO; `cmd` gives STYPE, SNUM and LEN. -/
def execMbxRead (m cmd : Nat) (s : State) : Host.Outcome State Fault Refusal :=
  .next (s.onFab (fun f => if m < 4 then f.wMbxCmd m (goWord 1 cmd) false else f))
/-- MBX_WRITE (R496, R498). -/
def execMbxWrite (m cmd : Nat) (s : State) : Host.Outcome State Fault Refusal :=
  .next (s.onFab (fun f => if m < 4 then f.wMbxCmd m (goWord 2 cmd) false else f))
/-- MBX_WRITE_SEG (R499). -/
def execMbxWriteSeg (m cmd : Nat) (s : State) : Host.Outcome State Fault Refusal :=
  .next (s.onFab (fun f => if m < 4 then f.wMbxCmd m (goWord 3 cmd) false else f))
/-- MBX_INVALID_OP (R496): OP is 0 or 4 to 7. -/
def execMbxInvalidOp (m cmd : Nat) (s : State) : Host.Outcome State Fault Refusal :=
  let op := field cmd 0 3
  .next (s.onFab (fun f => if m < 4 then f.wMbxCmd m (goWord (if 1 ≤ op ∧ op ≤ 3 then 0 else op) cmd) false else f))

/-! ## Registers of a mailbox (R495, R497) -/

/-- MBX_STAT. -/
def Mbx.stat (x : Mbx) : Nat :=
  b2n x.op.isSome + b2n x.valid * 2 + b2n x.more * 4 + x.code * 16 + x.rlen * 256

/-- A read of the mailbox register at an offset; none where it is unmapped. -/
def Mbx.reg (x : Mbx) (off : Nat) : Option Nat :=
  if off = 0x00 then some x.cmd
  else if off = 0x04 then some x.obj
  else if off = 0x08 then some x.elem
  else if off = 0x0C then some x.stat
  else if 0x10 ≤ off ∧ off < 0x30 then some (field x.data (8 * (off - 0x10)) 32)
  else none

/-- A 32-bit write of a mailbox register other than MBX_CMD, in an idle mailbox. -/
def Mbx.put (x : Mbx) (off v : Nat) : Mbx :=
  if off = 0x04 then { x with obj := v % 2 ^ 24 }
  else if off = 0x08 then { x with elem := v % 2 ^ 32 }
  else if 0x10 ≤ off ∧ off < 0x30 then { x with data := setField x.data (8 * (off - 0x10)) 32 v }
  else x

end Sys2Proof.Machine
end

