-- ==== Sys2Proof/Machine/Resets.lean ====
section
/-! DEFINITION. Resets: the reset scopes, what each keeps, and their ends (R584 to R590), the reset pins and straps (R585,
R615, R622, R624), MAP_RESET (R493), and the loss and return of VDD_AO (R623, R644, R645). -/

namespace Sys2Proof.Machine

/-! ## A tile enters a reset (R586 to R588) -/

/-- A tile in reset: everything at reset values but the levels that its surroundings drive. -/
def Tile.inReset (x : Tile) (off : Bool) : Tile :=
  { Tile.reset with
    st := if x.st = .unpowered then .unpowered else .reset
    ni := { Ni.reset with link := x.ni.link, eclk := x.ni.eclk }
    pw := { TilePow.reset with
      t3Req := x.pw.t3Req, tlReq := !off, tsReq := !off, tlAck := x.pw.tlAck, tsAck := x.pw.tsAck } }

/-- The units whose objects and families a reset of a tile includes: the tile and the unit in its slot 1 (R40, R586). -/
def tileUnits (t : Nat) : List (Scope × Nat) :=
  (Scope.tile, t)
    :: ((List.range 4).filter (fun d => spTile d == t)).map (fun d => (Scope.sp, d))
    ++ ((List.range 8).filter (fun n => skTile n == t)).map (fun n => (Scope.sk, n))
    ++ ((List.range 8).filter (fun n => cmnTile n == t)).map (fun n => (Scope.cmn, n))

/-- Objects of a unit return to their defaults and its family clears; STORES_LOST survives a warm reset (R290, R588). -/
def Fab.clearUnit (f : Fab) (u : Scope × Nat) (cold : Bool) : Fab :=
  let f := f.dropObjs (fun k => keyScope k == u.1.code && keyNum k == u.2
    && (cold || !(u.1 == .sp && keyIdx k == O.STORES_LOST)))
  f.setFam (famKey u.1 u.2) Fam.reset

/-- What the unit in slot 1 loses (R259, R290, R364, R586). -/
def Fab.resetUnit (f : Fab) (u : Scope × Nat) : Fab :=
  match u.1 with
  | .sp =>
    let f := f.bump .sp u.2 O.STORES_LOST 0 (f.spOf u.2).pwb.length
    f.modSp u.2 (fun n => { Sp.reset with rstN := n.rstN, ready := false, dnCred := 0, excReq := n.excReq, histAt := n.histAt })
  | .sk => f.modSk u.2 (fun k => { Sk.reset with memReady := k.memReady })
  | .cmn => f.modCmn u.2 (fun _ => Cmn.reset)
  | _ => f

/-- Port `q` of tile `u` faces a tile that enters reset (R121, R122): what it sent is abandoned, the rest of the packets in
passage is discarded, AWAKE is low, and packets that it loses the rest of are closed by filler flits. -/
def Fab.linkPeerReset (f : Fab) (u q : Nat) : Fab :=
  if f.tileOut u then f
  else
    let dead := (f.out u q).dead
    let f := f.cutOutput u q (fun f => f)
    let f := f.modOut u q (fun o => { OutPort.reset with cur := o.cur, rr := o.rr })
    let f := f.modTile u (fun x => { x with cret := x.cret.set (fun _ => []) q [] })
    let f := (f.openVCs u q).foldl (fun f vc => f.sendPhit u q [(vc, fillerFlit)]) f
    if dead && !(List.range 8).any (fun p => (f.out u p).dead) then f.endC (famKey .tile u) 5 else f

/-- The seam objects of one crossing of a side (R407, R519): their subindexes carry the crossing. -/
def crossObj (c k : Nat) : Bool :=
  let i := keyIdx k
  let sub := k % 256
  if i = O.SEAM_MARGIN ∨ i = O.SEAM_LANE_CORR ∨ i = O.SEAM_LANE_EQ then sub / 30 == c
  else sub == c && [O.SEAM_REPLAYS, O.SEAM_FEC_UE, O.SEAM_FEC_CE, O.SEAM_RETRAINS].contains i

/-- A crossing that enters reset with its unit has its reset values and is fenced no longer (R473, R588). -/
def Fab.unfence (f : Fab) (x : Cdc) : Fab :=
  f.modCdc x (fun c => { CdcSt.reset with peer := c.peer, ended := c.ended })

/-- The FIFO crossings of a crossing-side are fenced no longer; the cause of CDC_TIMEOUT ends with the last fence of the
seam-side. -/
def Fab.unfenceSeam (f : Fab) (ss c : Nat) : Fab :=
  let f := (f.unfence (.seamTx ss c)).unfence (.seamRx ss c)
  if (List.range 8).any (fun k => f.cdcFenced (.seamTx ss k) || f.cdcFenced (.seamRx ss k)) then f
  else f.endC (famKey .seam ss) 13

/-- A crossing-side enters reset (R404); its RST_ENTER is sent apart. -/
def Fab.enterCross (f : Fab) (ss c : Nat) (cold : Bool) : Fab :=
  ((f.resetCross ss c cold).unfenceSeam ss c).dropObjs (fun k =>
    keyScope k == Scope.seam.code && keyNum k == ss && crossObj c k)

/-- The crossings of a unit, which its reset includes (R587). -/
def unitCdc (u : Scope × Nat) : List Cdc :=
  match u.1 with
  | .tile => tileCdc u.2 | .sp => [.sp u.2] | .sk => [.sk u.2] | _ => []

/-- A tile and the unit in its slot 1 enter reset; `off` holds its domains off (R624). -/
def Fab.enterTile (f : Fab) (t : Nat) (cold off : Bool) : Fab :=
  let f := (tileUnits t).foldl (fun f u => (unitCdc u).foldl (fun f x => f.unfence x) ((f.resetUnit u).clearUnit u cold)) f
  let f := f.modTile t (fun x => x.inReset off)
  f.modGuy (fun g => { g with bypass := g.bypass.set (fun _ => false) t true })

/-- The tiles of a scope (R17, R586). -/
def scopeTiles (sc : Scope) (num : Nat) : List Nat :=
  match sc with
  | .tile => [num] | .quad => tilesOfQuad num | .die => tilesOfDie num | _ => List.range 256

/-- The tiles of a scope enter reset, and their neighbours outside it act (R121); their NIs owe no acknowledgement and no
drain report (R229, R241). -/
def Fab.enterTiles (f : Fab) (ts : List Nat) (cold : Bool) : Fab :=
  let f := ts.foldl (fun f t => f.enterTile t cold false) f
  let f := ts.foldl (fun f t =>
    let f := (List.range 6).foldl (fun f p => match neighbour t p with
      | some (u, q) => f.linkPeerReset u q
      | none => f) f
    (f.peerEnter (.station t)).peerEnter (.cell t)) f
  f.oweLess

/-- The crossing-sides of the edge tiles of a list enter reset, each with its own RST_ENTER (R404). -/
def Fab.enterCrossings (f : Fab) (ts : List Nat) (cold : Bool) : Fab :=
  ts.foldl (fun f t => (List.range 8).foldl (fun f p => match seamPort t p with
    | some (ss, c) => (f.enterCross ss c cold).sbSend ss (.rst c false 0)
    | none => f) f) f

/-- A whole seam-side enters reset with one RST_ENTER (R404). -/
def Fab.enterSide (f : Fab) (ss : Nat) (cold : Bool) : Fab :=
  let f := (List.range 8).foldl (fun f c => f.enterCross ss c cold) f
  (f.clearUnit (.seam, ss) cold).sbSend ss (.rst 0 true 0)

/-! ## Starts (R584, R585, R588) -/

/-- Quadrant objects return to their defaults; the PLL relocks within the reset (R586). -/
def Fab.enterQuad (f : Fab) (q : Nat) : Fab :=
  ((f.clearUnit (.quad, q) true).setO .quad q O.QPLL_STATE 0 2).setQp q true

/-- A die reset: what it adds to the reset of its tiles (R586, R588, R611). -/
def Fab.enterDie (f : Fab) (d : Nat) (cold : Bool) : Fab :=
  let f := f.modDie d (fun x => { x with rst := true })
  let f := (sidesOfDie d).foldl (fun f ss => f.enterSide ss cold) f
  let f := [4 * d, 4 * d + 1, 4 * d + 2, 4 * d + 3].foldl (fun f q => f.enterQuad q) f
  let f := f.dropObjs (fun k => keyScope k == Scope.die.code && keyNum k == d && keyIdx k / 256 != 0x32)
  let f := (f.setFam (famKey .die d) Fam.reset).setTrace d Quarter.reset
  f.peerEnter (.lantern d)

/-- INSTANCE objects that a warm instance reset keeps (R438, R544, R550, R588). -/
def keptWarm (idx : Nat) : Bool :=
  decide (idx / 256 = 0x32)
    || [O.SEAL_STATE, O.TICKET_COUNTER, O.TICKET_STATE, O.TICKET_RESULT, O.STORES_LOST].contains idx

/-- The Lanterns of a cold instance reset (R438). -/
def Fab.coldLanterns (f : Fab) : Fab :=
  { f with lan := (List.range 4).foldl (fun m d =>
      SMap.set (fun _ => Lantern.reset) m d { Lantern.reset with invalid := true }) [] }

/-- Every unit of the instance enters reset (R586, R588). `off` holds the domains off (R624). The reset messages that the two
sides of a seam exchange stay within the reset (R405, log 36). -/
def Fab.enterInstance (f : Fab) (cold off : Bool) : Fab :=
  let f := f.cutOtp
  let f := if cold then f else f.abortTicket
  let f := (List.range 4).foldl (fun f d => f.modDie d (fun x => { x with
    rst := true, qpReq := List.replicate 4 false, famReq := !off })) f
  let f := (List.range 8).foldl (fun f ss => f.enterSide ss cold) f
  let f := (List.range 8).foldl (fun f ss => f.modSide ss (fun x => { x with sb := [] })) f
  let f := (List.range 256).foldl (fun f t => f.enterTile t cold off) f
  let f := f.dropObjs (fun k => cold || !keptWarm (keyIdx k))
  let f := { f with
    flt := f.flt.filter (fun kv => !cold && kv.1 / 256 == 8)
    bind := Bind.reset, copy := [], quarter := [], answers := [], cdc := [], boot := false, modeDue := []
    guy := { Guy.reset with bypass := f.guy.bypass }
    mbx := [], map := { MapRegs.reset with strapErr := f.map.strapErr, present := f.map.present }
    xb := Xbar.reset, ve := Ve.reset, coll := Coll.reset
    wd := { Warden.reset with
      debugEnd := if cold then 0 else f.wd.debugEnd, ticket := none, measDue := true, measAt := f.run0 } }
  if cold then
    ({ f with nonce := 0 }.coldLanterns).modOtp (fun o => { o with slot := none, loaded := false })
  else f

/-- A reset starts (R584 to R588). An instance reset replaces any reset in progress; a warm one does not replace a cold
one. -/
def Fab.startReset (f : Fab) (sc : Scope) (num : Nat) (cold viaMap : Bool) : Fab :=
  let cold := cold || (sc == .inst && f.coldRuns)
  let f := if !cold && sc == .die && num == 0 then f.abortTicket else f
  let r : Rst := ⟨sc, num, cold, f.run0, viaMap⟩
  match sc with
  | .inst => { f.enterInstance cold f.coldLow with rsts := [r] }
  | .die =>
    let f := f.enterTiles (tilesOfDie num) cold
    { f.enterDie num cold with rsts := f.rsts ++ [r] }
  | .quad =>
    let ts := tilesOfQuad num
    let f := ((f.enterTiles ts cold).enterCrossings ts cold).enterQuad num
    { f with rsts := f.rsts ++ [r] }
  | .tile =>
    let f := (f.enterTiles [num] cold).enterCrossings [num] cold
    { f with rsts := f.rsts ++ [r] }
  | _ => f

/-! ## Ends (R364, R586, R587, R589) -/

/-- A unit in slot 1 leaves reset (R291, R364). -/
def Fab.leaveUnit (f : Fab) (u : Scope × Nat) (inst : Bool) : Fab :=
  match u.1 with
  | .sp =>
    (f.resetSched (.sp u.2)).spLeave u.2 inst
  | .sk =>
    let t := skTile u.2
    (tilesOfDie (dieOf t)).foldl (fun f v =>
      f.modTile t (fun x => { x with uout := x.uout ++ [mkEnvelope .abandon v 0 t 1 v 7 0 0 false []] })) f
  | _ => f

/-- RWT objects of a tile and of the unit in its slot 1 come from the die's shadow (R589). -/
def Fab.reloadRwt (f : Fab) (u : Scope × Nat) : Fab :=
  let from_ (f : Fab) (idx die : Nat) : Fab :=
    f.setO u.1 u.2 idx 0 ((f.copyOf die).shadow.get keyDefault (objKey u.1 u.2 idx 0))
  match u.1 with
  | .tile => from_ (from_ f O.EDGE_PROV (dieOf u.2)) O.BIND_PBR_REACH (dieOf u.2)
  | .sp => from_ (from_ f O.SP_BIND u.2) O.SP_PROV u.2
  | _ => f

/-- A tile leaves reset (R187, R231, R291, R333, R364, R589, R607). -/
def Fab.leaveTile (f : Fab) (t : Nat) (inst : Bool) : Fab :=
  if (f.tile t).st ≠ .reset then f
  else
    let run := f.runN t
    let f := if inst then f else (tileUnits t).foldl (fun f u => f.reloadRwt u) f
    let f := f.modTile t (fun x => { x with
      st := .t0, pw := { x.pw with since := run, idle2 := run, idle3 := run } })
    let f := f.modNi t (fun n => { n with
      lfsr := Config.lfsrSeed t (f.nonce % 2 ^ 32), pol := (n.pol.1, f.time t)
      noGrant := if inst then none else some (run + us (objDefault .tile t O.EDGE_REQ_TIMEOUT 0)) })
    let f := f.resetSched (.ni t)
    let f := (tileUnits t).foldl (fun f u => f.leaveUnit u inst) f
    let f := [2 * dieOf t, 2 * dieOf t + 1].foldl (fun f n => f.modNi t (fun x => { x with
      env := x.env ++ [mkEnvelope .abandon (skTile n) 1 t 0 t 7 0 0 false []] })) f
    let f := f.lensGreet t
    let f := ((f.peerEnd (.station t)).peerEnd (.cell t)).settleKnock t
    if f.cdcHeld (.station t) then f else f.openBypass t

/-- The crossing-sides of a tile leave reset. -/
def Fab.leaveCrossings (f : Fab) (t : Nat) : Fab :=
  (List.range 8).foldl (fun f p => match seamPort t p with
    | some (ss, c) => f.releaseCross ss c
    | none => f) f

/-- A die leaves a reset. -/
def Fab.leaveDie (f : Fab) (d : Nat) : Fab :=
  (f.modDie d (fun x => { x with rst := false })).peerEnd (.lantern d)

/-- A quadrant leaves a reset that is not an instance reset: its PLL has relocked. -/
def Fab.leaveQuad (f : Fab) (q : Nat) : Fab := (f.setO .quad q O.QPLL_STATE 0 0).startPass q

/-- The Lanterns at the end of a cold instance reset: time 0, D0 free, the others in ACQUIRE (R408, R417). -/
def Fab.startLanterns (f : Fab) : Fab :=
  (List.range 4).foldl (fun f d => f.modLan d (fun _ =>
    if d = 0 then { Lantern.reset with hops := 0 } else { Lantern.reset with st := .acquire })) f

/-- The end of an instance reset: the boot window opens (R646, R647); after a cold one the OTP has loaded (R560) and the
nonce draw is due (R542). -/
def Fab.leaveInstance (f : Fab) (cold : Bool) : Fab :=
  let f := if cold then
      (f.startLanterns.otpLoad).modVe (fun e => { e with op := some .draw })
    else f
  let f := (List.range 4).foldl (fun f d => if (f.die d).ao then f.leaveDie d else f) f
  let f := (List.range 256).foldl (fun f t => f.leaveTile t true) f
  let f := (List.range 256).foldl (fun f t => if (f.die (dieOf t)).ao then f.leaveCrossings t else f) f
  ({ f with boot := true, bootAt := f.run0, mbx := [], map := MapRegs.reset, answers := [] }).newPasses

/-- Duration of a reset in µs (R586); a cold instance reset lasts 130 µs from its release, at whose end fabric time
begins. -/
def resetLasts : Scope → Nat
  | .tile => 20 | .quad => 28 | _ => 30

/-- Whether the domains of every powered die are on (R624, R642). -/
def Fab.domainsOn (f : Fab) : Bool :=
  (f.die 0).uqAck && (List.range 4).all (fun d => !(f.die d).ao || ((f.die d).famAck
    && (tilesOfDie d).all (fun t => (f.tile t).pw.tlAck && (f.tile t).pw.tsAck)))

/-- Whether a reset may end. -/
def Fab.resetDue (f : Fab) (r : Rst) : Bool :=
  if r.sc = .inst then
    !f.coldLow && !f.warmLow && !f.map.strapErr && f.domainsOn && (r.cold || decide (r.at_ + us 30 ≤ f.run0))
  else decide (r.at_ + us (resetLasts r.sc) ≤ f.run0)

/-- RESET_END (R586 to R589): the duration of the reset of a scope is over. -/
def execResetEnd (sc : Scope) (num : Nat) (s : State) : Host.Outcome State Fault Refusal :=
  .next (s.onFab (fun f =>
    match f.rsts.find? (fun r => r.sc == sc && r.num == num) with
    | none => f
    | some r =>
      if !f.resetDue r then f
      else
        let f := { f with rsts := dropFirst (fun r => r.sc == sc && r.num == num) f.rsts }
        match sc with
        | .inst => f.leaveInstance r.cold
        | .die =>
          let f := ([4 * num, 4 * num + 1, 4 * num + 2, 4 * num + 3].foldl (fun f q => f.leaveQuad q) f).leaveDie num
          let f := (tilesOfDie num).foldl (fun f t => f.leaveTile t false) f
          (tilesOfDie num).foldl (fun f t => f.leaveCrossings t) (f.famResend num)
        | .quad =>
          let f := (tilesOfQuad num).foldl (fun f t => f.leaveTile t false) (f.leaveQuad num)
          (tilesOfQuad num).foldl (fun f t => f.leaveCrossings t) (f.famResend (num / 4))
        | _ => ((f.leaveTile num false).leaveCrossings num).famResend (dieOf num)))

/-! ## Pins (R584, R585, R615, R622, R624) -/

/-- RST_COLD_ASSERT (R585, R624): RST_COLD_N goes low; the domains of every die but UNIQUE go off. -/
def execRstColdAssert (s : State) : Host.Outcome State Fault Refusal :=
  .next (s.onFab (fun f =>
    if f.coldLow then f
    else
      let f := ({ f with coldLow := true }).modMap (fun m => { m with strapErr := false })
      (f.startReset .inst 0 true false).uqCheck))

/-- Whether the four straps, in clockwise ring order, are 0, 1, 3 and 2 (R615). -/
def strapsOk (straps : List Nat) : Bool := straps == [0, 1, 3, 2]

/-- RST_COLD_RELEASE (R615, R624): RST_COLD_N rises; `straps` are the DIE_ID inputs of the four slices in clockwise ring
order. The domains switch on, UNIQUE with them where a slice is strapped 0 (R33); a strap error holds the instance in cold
reset, and without a slice strapped 0 no MAP exists. -/
def execRstColdRelease (straps : List Nat) (s : State) : Host.Outcome State Fault Refusal :=
  .next (s.onFab (fun f =>
    if !f.coldLow then f
    else
      let f : Fab := { f with coldLow := false, rsts := f.rsts.map (fun r => { r with at_ := f.run0 }) }
      let f := (List.range 4).foldl (fun f d =>
        if (f.die d).ao then
          (tilesOfDie d).foldl (fun f t => f.modPw t (fun p => { p with tlReq := true, tsReq := true }))
            (f.modDie d (fun x => { x with famReq := true }))
        else f) f
      let f := f.modMap (fun m => { m with strapErr := !strapsOk straps, present := straps.contains 0 })
      f.modDie 0 (fun x => if straps.contains 0 then { x with uqReq := x.uqReq || !x.pcUqReq }
        else { x with uqReq := false, uqAck := false })))

/-- RST_WARM_ASSERT (R585): RST_WARM_N goes low; with RST_COLD_N low, or inside a cold reset, it merges into that. -/
def execRstWarmAssert (s : State) : Host.Outcome State Fault Refusal :=
  .next (s.onFab (fun f =>
    if f.warmLow then f
    else
      let f := { f with warmLow := true }
      if f.coldLow || f.coldRuns then f else f.startReset .inst 0 false false))

/-- RST_WARM_RELEASE (R585): RST_WARM_N rises; the duration of a warm reset runs from here. -/
def execRstWarmRelease (s : State) : Host.Outcome State Fault Refusal :=
  .next (s.onFab (fun f =>
    if !f.warmLow then f
    else { f with
      warmLow := false
      rsts := f.rsts.map (fun r => if r.sc = .inst ∧ ¬r.cold then { r with at_ := f.run0 } else r) }))

/-! ## VDD_AO (R623, R644, R645) -/

/-- A side loses its peer's sideband and lanes (R403, R644): a peer reset whose acknowledgement has been given. -/
def Fab.peerUnsupplied (f : Fab) (ss : Nat) : Fab :=
  let f := if f.sbLost ss then f
    else (f.modSide ss (fun x => { x with lock0 := false, lock1 := false, sb := [] })).raiseC (famKey .seam ss) 12
      (seamInfo 0 31 false) 0 0
  (List.range 8).foldl (fun f c => (f.peerReset ss c true (c == 0)).peerAck ss c) f

/-- VDD_AO_LOSS (R644, R645): a die loses VDD_AO. Outside a hold of RST_COLD_N while another die runs, the block's behaviour
is not defined. -/
def execVddAoLoss (d : Nat) (s : State) : Host.Outcome State Fault Refusal :=
  if 4 ≤ d ∨ (s.fab.die d).ao = false then .next s
  else if s.fab.coldLow = false ∧ (List.range 4).any (fun e => e != d && (s.fab.die e).ao) = true then
    .fault .vddAoRemoved
  else
    .next (s.onFab (fun f =>
      let f := (sidesOfDie d).foldl (fun f ss =>
        let f := (List.range 8).foldl (fun f c => f.enterCross ss c true) f
        f.modSide ss (fun x => { x with pll := false, lock0 := false, lock1 := false, sb := [], rd0 := false, rd1 := false })) f
      let f := (tilesOfDie d).foldl (fun f t =>
        (f.enterTile t true true).modTile t (fun x => { x with
          st := .unpowered, pw := { x.pw with tlAck := false, tsAck := false } })) f
      let f := f.modDie d (fun _ => { Die.reset d with
        rst := true, ao := false, famReq := false, famAck := false, uqReq := false, uqAck := false })
      let f := f.modLan d (fun _ => { Lantern.reset with invalid := true })
      ((sidesOfDie d).foldl (fun f ss =>
        if (f.die (sideDie (farSide ss))).ao then f.peerUnsupplied (farSide ss) else f) f).oweLess))

/-- VDD_AO_RETURN (R623, R624): VDD_AO returns to a die while RST_COLD_N is held low; AOCLK, the sidebands and the Lantern
run, and the other domains are held off but UNIQUE on D0. -/
def execVddAoReturn (d : Nat) (s : State) : Host.Outcome State Fault Refusal :=
  .next (s.onFab (fun f =>
    if 4 ≤ d ∨ (f.die d).ao = true ∨ f.coldLow = false then f
    else
      let f := f.modDie d (fun _ => { Die.reset d with
        rst := true, famReq := false, famAck := false, uqReq := d == 0, uqAck := false })
      (tilesOfDie d).foldl (fun f t => f.modTile t (fun x => { x with st := .reset })) f))

/-! ## MAP_RESET (R491, R493) -/

/-- MAP_RESET[IN_PROGRESS] (R493, R494, R615). -/
def Fab.inProgress (f : Fab) : Bool := f.rsts.any (·.viaMap) || f.mapHeld

/-- The scope of MAP_RESET[SCOPE]. -/
def resetScope : Nat → Scope
  | 0 => .tile | 1 => .quad | 2 => .die | _ => .inst

/-- The guard of a guarded MAP register (R491): refused with the lock closed, else the lock closes and `g` acts; the Bool
says whether the value was accepted. -/
def Fab.guardedWrite (f : Fab) (off size v : Nat) (g : Fab → Fab × Bool) : Fab :=
  if f.map.lock then
    let r := g (f.modMap (fun m => { m with lock := false }))
    r.1.modMap (fun m => m.guarded (if r.2 then 1 else 3))
  else (f.mapRaise 3 off true size v).modMap (fun m => m.guarded 2)

/-- An accepted or refused MAP_RESET (R493). -/
def Fab.mapReset (f : Fab) (v : Nat) : Fab × Bool :=
  let sc := resetScope (v % 4)
  let num := field v 16 8
  if sc.count ≤ num ∨ (f.inProgress = true ∧ sc ≠ .inst) then (f, false)
  else ((f.modMap (fun m => { m with rst := v % 8 + num * 2 ^ 16 })).startReset sc num (bit v 2) true, true)

/-- A write of MAP_RESET. -/
def Fab.wMapReset (f : Fab) (size v : Nat) : Fab := f.guardedWrite 0x60 size v (fun f => f.mapReset v)

/-- MAP_RESET_TILE (R493). -/
def execMapResetTile (num : Nat) (cold : Bool) (s : State) : Host.Outcome State Fault Refusal :=
  .next (s.onFab (fun f => f.wMapReset 2 (b2n cold * 4 + num % 256 * 2 ^ 16)))
/-- MAP_RESET_QUADRANT (R493). -/
def execMapResetQuadrant (num : Nat) (cold : Bool) (s : State) : Host.Outcome State Fault Refusal :=
  .next (s.onFab (fun f => f.wMapReset 2 (1 + b2n cold * 4 + num % 256 * 2 ^ 16)))
/-- MAP_RESET_DIE (R493). -/
def execMapResetDie (num : Nat) (cold : Bool) (s : State) : Host.Outcome State Fault Refusal :=
  .next (s.onFab (fun f => f.wMapReset 2 (2 + b2n cold * 4 + num % 256 * 2 ^ 16)))
/-- MAP_RESET_INSTANCE (R493). -/
def execMapResetInstance (num : Nat) (cold : Bool) (s : State) : Host.Outcome State Fault Refusal :=
  .next (s.onFab (fun f => f.wMapReset 2 (3 + b2n cold * 4 + num % 256 * 2 ^ 16)))

end Sys2Proof.Machine
end

