-- ==== Sys2Proof/Machine/Map.lean ====
section
/-! DEFINITION. Map: the register map of the MAP and its control bus (R487 to R494, R582, R626 to R628), and the scrubbers
(R503 to R507, R556, R557). -/

namespace Sys2Proof.Machine

/-! ## Registers (R487, R490 to R493) -/

/-- MAP_ID. -/
def mapId : Nat := 0x012BAF58
/-- MAP_REV. -/
def Fab.mapRev (f : Fab) : Nat :=
  0x00030142 + f.otp.slot.getD 0 * 2 ^ 24 + f.oI O.WARDEN_REMAP 1 * 2 ^ 26
/-- MAP_CRC_CTL. -/
def MapRegs.ctl (m : MapRegs) : Nat := b2n m.run + b2n m.compare * 2 + b2n m.fix * 4 + m.dieSel * 16
/-- MAP_CRC_STAT. -/
def MapRegs.stat (m : MapRegs) : Nat := m.mismatch + m.matched * 2 ^ 4 + b2n m.refValid * 2 ^ 8 + m.done * 2 ^ 9
/-- MAP_LOCK_STAT. -/
def MapRegs.lockStat (m : MapRegs) : Nat := b2n m.lock + m.last * 2 + m.refused * 2 ^ 8

/-- The mailbox and the offset within it of a MAP offset. -/
def mbxOffset (off : Nat) : Option (Nat × Nat) :=
  if 0x100 ≤ off ∧ off < 0x200 then some ((off - 0x100) / 0x40, (off - 0x100) % 0x40) else none

/-- The value of the register at an aligned offset; none where it is unmapped. -/
def Fab.mapReg (f : Fab) (off : Nat) : Option Nat :=
  let m := f.map
  let x := f.fam famMap
  match mbxOffset off with
  | some (k, o) => (f.mbxOf k).reg o
  | none =>
    if off = 0x00 then some mapId
    else if off = 0x04 then some f.mapRev
    else if off = 0x10 then some 0
    else if off = 0x14 then some m.lockStat
    else if off = 0x20 then some m.ctl
    else if off = 0x24 then some m.ref
    else if off = 0x28 then some (m.cur.getD m.dieSel 0)
    else if off = 0x2C then some m.stat
    else if off = 0x40 then some (x.first % 8 + field x.first 15 1 * 2 ^ 8 + b2n x.ovf * 2 ^ 9)
    else if off = 0x44 then some x.pend
    else if off = 0x48 then some 0
    else if off = 0x4C then some x.en
    else if 0x50 ≤ off ∧ off < 0x60 then some (x.info.getD ((off - 0x50) / 4) 0 % 2 ^ 32)
    else if off = 0x60 then some (m.rst + b2n f.inProgress * 2 ^ 24)
    else none

/-- Whether an aligned offset is mapped. -/
def mapMapped (off : Nat) : Bool :=
  match mbxOffset off with
  | some (_, o) => decide (o < 0x30)
  | none => [0x00, 0x04, 0x10, 0x14, 0x20, 0x24, 0x28, 0x2C, 0x40, 0x44, 0x48, 0x4C, 0x50, 0x54, 0x58, 0x5C, 0x60].contains off

/-- What a register reads during an instance reset (R494): its reset value, with IN_PROGRESS 1. -/
def heldReg (off : Nat) : Nat :=
  if off = 0x00 then mapId else if off = 0x04 then 0x00030142 else if off = 0x20 then 5
  else if off = 0x60 then 2 ^ 24 else 0

/-- A read of a mapped register, with its side effect: MAP_LOCK_STAT[REFUSED] clears (R26). -/
def Fab.readReg (f : Fab) (off : Nat) : Fab × Nat :=
  if f.mapHeld then (f, heldReg off)
  else
    let v := (f.mapReg off).getD 0
    (if off = 0x14 then f.modMap (fun m => { m with refused := 0 }) else f, v)

/-- A masked write (R489): bits [31:16] of `v` select which of bits [15:0] take its value. -/
def masked (old v : Nat) : Nat := clearBits old (old &&& field v 16 16) ||| (v % 2 ^ 16 &&& field v 16 16)
/-- The bits that a masked write selects and writes as one (R489). -/
def maskedOnes (v : Nat) : Nat := v % 2 ^ 16 &&& field v 16 16

/-- A write of MAP_KEY (R490). -/
def Fab.wKey (f : Fab) (size v : Nat) : Fab :=
  if v % 2 ^ 32 = 0xFFFF71C4 then f.modMap (fun m => { m with lock := true })
  else (f.mapRaise 4 0x10 true size v).modMap (fun m => { m with lock := false })

/-- A write of MAP_CRC_CTL (R506): RESTART, or RUN set anew, starts every pass afresh. -/
def Fab.wCrcCtl (f : Fab) (v : Nat) : Fab :=
  let old := f.map.ctl
  let x := masked old v
  let f' := f.modMap (fun m => { m with run := bit x 0, compare := bit x 1, fix := bit x 2, dieSel := field x 4 2 })
  if bit (maskedOnes v) 3 || (bit x 0 && !bit old 0) then f'.newPasses else f'

/-- A write of MAP_CRC_REF (R491, R507). -/
def Fab.wCrcRef (f : Fab) (size v : Nat) : Fab :=
  f.guardedWrite 0x24 size v (fun f => (f.modMap (fun m => { m.setValid true with ref := v % 2 ^ 32 }), true))

/-- A write of MAP_FLT_FIRST (R492, R575): a one clears VALID or OVF alone, and CODE keeps its value. -/
def Fab.wMapFirst (f : Fab) (v : Nat) : Fab :=
  let ones := maskedOnes v
  f.modFam famMap (fun x =>
    let x := if bit ones 8 then { x with first := x.first % 2 ^ 15 } else x
    if bit ones 9 then { x with ovf := false } else x)

/-- A 32-bit write of a mapped register at an aligned offset. During an instance reset only MAP_KEY and MAP_RESET take it,
and a mailbox operation started then ends at once (R494). `clk` says that both clocks of the fenced crossing of the MAP
run (R471). -/
def Fab.writeReg (f : Fab) (off size v : Nat) (clk : Bool) : Fab :=
  if f.mapHeld && off != 0x10 && off != 0x60 then
    match mbxOffset off with
    | some (k, o) => if o = 0 ∧ bit v 31 = true then f.wMbxCmd k v false else f
    | none => f
  else match mbxOffset off with
  | some (k, o) =>
    if (f.mbxOf k).op.isSome then f.mapRaise 2 off true size v
    else if o = 0 then f.wMbxCmd k v false
    else f.modMbx k (fun x => x.put o v)
  | none =>
    if off = 0x10 then f.wKey size v
    else if off = 0x20 then f.wCrcCtl v
    else if off = 0x24 then f.wCrcRef size v
    else if off = 0x2C then f.modMap (fun m => { m with mismatch := clearBits m.mismatch (m.mismatch &&& maskedOnes v) })
    else if off = 0x40 then f.wMapFirst v
    else if off = 0x44 then f.clearFam famMap (maskedOnes v) clk
    else if off = 0x48 then f.forceFam famMap (maskedOnes v % 256)
    else if off = 0x4C then f.modFam famMap (fun x => { x with en := masked x.en v % 256 })
    else if off = 0x60 then f.wMapReset size v
    else f

/-! ## Bus accesses (R487, R488, R626 to R628) -/

/-- Whether a byte range lies in one aligned word. -/
def oneWord (off bytes : Nat) : Bool := decide (off % 4 + bytes ≤ 4)
/-- Bytes of an access of MB_SIZE. -/
def busBytes (size : Nat) : Nat := if size = 0 then 1 else if size = 1 then 2 else 4

/-- A source that a bus access raises; a MAP in reset raises none (R577). -/
def Fab.busFault (f : Fab) (code off : Nat) (wr : Bool) (size v : Nat) : Fab :=
  if f.mapHeld then f else f.mapRaise code off wr size v

/-- A bus write (R488). -/
def Fab.busWrite (f : Fab) (off size v : Nat) (clk : Bool) : Fab :=
  if size < 2 ∨ off % 4 ≠ 0 then f.busFault 0 off true size v
  else if !mapMapped off then f.busFault 1 off true size v
  else f.writeReg off size v clk

/-- A bus read (R488, R627): the addressed bytes in their lanes. -/
def Fab.busRead (f : Fab) (off size : Nat) : Fab × Nat :=
  let n := busBytes size
  if !oneWord off n then (f.busFault 0 off false size 0, 0)
  else if !mapMapped (off / 4 * 4) then (f.busFault 1 off false size 0, 0)
  else
    let r := f.readReg (off / 4 * 4)
    (r.1, field r.2 (8 * (off % 4)) (8 * n) * 2 ^ (8 * (off % 4)))

/-- The size code under which an access is judged (R628): a second half that does not follow its first is a 32-bit access. -/
def Fab.busSize (f : Fab) (off size : Nat) (half : Bool) : Nat :=
  if size = 3 ∧ half = true ∧ ¬(f.map.half.isSome = true ∧ f.map.half.map (· + 4) = some off) then 2 else size

/-- MAP_BUS_WRITE (R488): a control-bus write; `half` is MB_HALF. -/
def execMapBusWrite (off size : Nat) (half : Bool) (v : Nat) (clk : Bool) (s : State) : Host.Outcome State Fault Refusal :=
  .next (s.onFab (fun f =>
    let off := off % 65536
    let sz := f.busSize off size half
    let f := f.modMap (fun m => { m with half := if size = 3 ∧ half = false then some off else none })
    f.busWrite off sz (v % 2 ^ 32) clk))

/-- MAP_BUS_ACCESS (R627): MB_SEL is captured, and MB_ACK completes the access with MB_RDATA. With the UNIQUE domain off there
is no MB_ACK (R643). -/
def execMapBusAccess (write : Bool) (off size : Nat) (half : Bool) (v : Nat) (clk : Bool) (s : State) :
    Host.Outcome State Fault Refusal :=
  .next (s.onFab (fun f =>
    if !(f.die 0).uqAck then f.modMap (fun m => { m with ack := false, rdata := 0 })
    else
      let off := off % 65536
      let sz := f.busSize off size half
      let f := f.modMap (fun m => { m with half := if size = 3 ∧ half = false then some off else none })
      let r := if write then (f.busWrite off sz (v % 2 ^ 32) clk, 0) else f.busRead off sz
      r.1.modMap (fun m => { m with ack := true, rdata := r.2 })))

/-- MAP_KEY_WRITE (R490). -/
def execMapKeyWrite (v : Nat) (s : State) : Host.Outcome State Fault Refusal :=
  .next (s.onFab (fun f => f.wKey 2 v))
/-- MAP_CRC_REF_WRITE (R507). -/
def execMapCrcRefWrite (v : Nat) (s : State) : Host.Outcome State Fault Refusal :=
  .next (s.onFab (fun f => if f.mapHeld then f else f.wCrcRef 2 v))
/-- MAP_CRC_RESTART (R506): a write of MAP_CRC_CTL with RESTART selected and one. -/
def execMapCrcRestart (v : Nat) (s : State) : Host.Outcome State Fault Refusal :=
  .next (s.onFab (fun f => if f.mapHeld then f else f.wCrcCtl (v ||| 0x00080008)))
/-- MAP_FLT_FIRST_CLEAR (R575). -/
def execMapFltFirstClear (v : Nat) (s : State) : Host.Outcome State Fault Refusal :=
  .next (s.onFab (fun f => if f.mapHeld then f else f.wMapFirst v))
/-- MAP_FLT_PEND_CLEAR (R574). -/
def execMapFltPendClear (v : Nat) (clk : Bool) (s : State) : Host.Outcome State Fault Refusal :=
  .next (s.onFab (fun f => if f.mapHeld then f else f.clearFam famMap (maskedOnes v) clk))
/-- MAP_FLT_FORCE (R573). -/
def execMapFltForce (v : Nat) (s : State) : Host.Outcome State Fault Refusal :=
  .next (s.onFab (fun f => if f.mapHeld then f else f.forceFam famMap (maskedOnes v % 256)))

/-! ## The scrubbers (R503 to R507) -/

/-- Little-endian bytes of a number, `n` of them. -/
def leBytes (v : Nat) : Nat → List Nat
  | 0 => []
  | n + 1 => v % 256 :: leBytes (v / 256) n

/-- The objects that the configuration shadow holds, in the order of R503: index, subindex, scope type, scope number. -/
def shadowRows : List (Nat × Nat × Scope) :=
  [(O.WARDEN_REMAP, 1, .inst), (O.GRANULE, 0, .inst), (O.VIOLATION_FLOOR, 0, .inst), (O.BIND_PBR_REACH, 0, .tile),
    (O.SP_BIND, 0, .sp), (O.SP_PROV, 0, .sp), (O.EDGE_PROV, 0, .tile)]

/-- The configuration shadow of a die as 2,048 bytes (R503). -/
def FamCopy.shadowBytes (c : FamCopy) : List Nat :=
  let l := shadowRows.flatMap (fun r => (List.range r.2.2.count).flatMap (fun n =>
    leBytes (c.shadow.get keyDefault (objKey r.2.2 n r.1 r.2.1)) (objSize r.2.2 r.1 r.2.1)))
  l ++ List.replicate (2048 - l.length) 0

/-- The configuration image of a die (R504). -/
def FamCopy.image (c : FamCopy) : List Nat :=
  (List.range 1048576).flatMap (fun e => leBytes (c.entry e) 8)
    ++ (List.range 4096).flatMap (fun e => leBytes (c.group e) 32)
    ++ (List.range 4096).flatMap (fun e => leBytes (c.route e) 2)
    ++ c.shadowBytes

/-- CRC-32C over a list of bytes (R505). -/
def crcOfBytes (l : List Nat) : Nat := (l.foldl (fun c b => crcByteR 0x82F63B78 c b) 0xFFFFFFFF) ^^^ 0xFFFFFFFF

/-- Duration of a pass (R506): 9,596,160 bytes at 4 GB/s at QCLK of 2.0 GHz, in proportion to QCLK. -/
def Fab.passTime (f : Fab) : Nat := ns (2399040 * 2000 / [2000, 1600, 1200, 800].getD (f.oI O.QCLK_FREQ) 2000)

/-- Uncorrectable bits that a pass reads (R506, R583): table, element or 64-bit word, and the value read. -/
def FamCopy.withErrors (c : FamCopy) (ue : List (Nat × Nat × Nat)) : FamCopy :=
  ue.foldl (fun c e => match e.1 with
    | 0 => { c with fam := c.fam.set (fun _ => 0) e.2.1 e.2.2 }
    | 1 => { c with share := c.share.set (fun _ => 0) e.2.1 e.2.2 }
    | 2 => { c with pbr := c.pbr.set (fun _ => 0) e.2.1 e.2.2 }
    | _ => c) c

/-- The preamble of the measurement (R556), 96 bytes. -/
def Fab.preamble (f : Fab) : List Nat :=
  leBytes f.identity 32 ++ leBytes f.otp.authHash 48 ++ [f.oI O.SEAL_STATE, f.otp.inUse 4 1]
    ++ leBytes (f.oI O.WARDEN_IMAGE) 4 ++ List.replicate 10 0

/-- The result of a pass of die `d` (R506): DONE, and under COMPARE with REF_VALID the comparison. -/
def Fab.passDone (f : Fab) (d crc : Nat) : Fab :=
  let m := f.map
  let f := f.modMap (fun m => { m with cur := modAt m.cur d (fun _ => crc), done := setBit m.done d })
  if !(m.compare && m.refValid) then f
  else if crc = m.ref then f.modMap (fun m => { m with matched := setBit m.matched d })
  else (f.modMap (fun m => { m with
    matched := clearBits m.matched (m.matched &&& mask d), mismatch := setBit m.mismatch d })).raise famMap 5 d crc m.ref

/-- SCRUB_PASS_COMPLETE (R506, R557): a pass of die `d` is complete; `ue` lists the uncorrectable words that it met, by
table, element and bits read, and `bad` says that the shadow has one, which makes the pass differ from the image (R583). -/
def execScrubPassComplete (d : Nat) (ue : List (Nat × Nat × Nat)) (bad : Option (Nat × Nat)) (s : State) :
    Host.Outcome State Fault Refusal :=
  .next (s.onFab (fun f =>
    let now := (f.lantern d).run.toNat
    let began := f.map.passAt.getD d 0
    if 4 ≤ d ∨ f.map.run = false ∨ f.dieLive d = false ∨ f.mapHeld = true ∨ f.qpll (4 * d) ≠ 0
        ∨ now < began + f.passTime then f
    else
      let f := ue.foldl (fun f e => f.raise (famKey .die d) 0 (e.1 % 8 + e.2.1 % 2 ^ 21 * 2 ^ 3 + 2 ^ 24) 0 0) f
      let f := match bad with
        | some (w, _) => f.raise (famKey .die d) 0 (3 + w % 2 ^ 21 * 2 ^ 3 + 2 ^ 24) 0 0
        | none => f
      let image := ((f.copyOf d).withErrors ue).image
      let image := match bad with
        | some (w, v) => image.take (8527872 + 8 * w) ++ leBytes v 8 ++ image.drop (8527872 + 8 * w + 8)
        | none => image
      let f : Fab := f.passDone d (crcOfBytes image)
      let f : Fab := if d = 0 ∧ f.wd.measDue = true ∧ f.wd.measAt ≤ began then
          f.modWd (fun w => { w with
            measDue := false, measure := Sha.digestLe (Sha.sha384 (f.preamble ++ image)) })
        else f
      f.modMap (fun m => { m with passAt := modAt m.passAt d (fun _ => now) })))

end Sys2Proof.Machine
end

