-- ==== Sys2Proof/Machine/Xbar.lean ====
section
/-! DEFINITION. Xbar: the management crossbar, its targets and its debug port (R511 to R515, R553, R555, R564 to R566, R629,
R630). -/

namespace Sys2Proof.Machine

/-- Changes the crossbar. -/
def Fab.modXb (f : Fab) (g : Xbar → Xbar) : Fab := { f with xb := g f.xb }

/-! ## Decoding (R512, R514) -/

/-- The target of a crossbar address and the offset in it; none outside the table. -/
def Fab.xDecode (f : Fab) (a : Nat) : Option (Nat × Nat) :=
  if a < 0x40000 then
    (if f.oI O.WARDEN_REMAP 1 ≠ 0 then some (1, a) else if a < 0x10000 then some (0, a) else none)
  else if 0x10000000 ≤ a ∧ a < 0x10010000 then some (0, a - 0x10000000)
  else if 0x20000000 ≤ a ∧ a < 0x20040000 then some (1, a - 0x20000000)
  else if 0x30000000 ≤ a ∧ a < 0x30004000 then some (2, a - 0x30000000)
  else if 0x40000000 ≤ a ∧ a < 0x40001000 then some (3, a - 0x40000000)
  else if 0x50000000 ≤ a ∧ a < 0x50000100 then some (4, a - 0x50000000)
  else if 0x60000000 ≤ a ∧ a < 0x60800000 then some (5, a - 0x60000000)
  else none

/-- Whether a master has a path to a target (R514): the subindexes of XBAR_PRIO. -/
def xPath (m n : Nat) : Bool := (objRow .inst O.XBAR_PRIO (16 * m + n)).isSome

/-- Whether a transfer is one that R511 allows. -/
def XReq.legal (r : XReq) : Bool :=
  [1, 2, 4].contains r.size && r.addr % r.size == 0 && decide (1 ≤ r.words) && decide (r.words ≤ 16)
    && (r.words == 1 || (r.size == 4 && decide (r.addr % 64 + 4 * r.words ≤ 64)))

/-! ## Registers of the targets -/

/-- OTP_STAT (R564). -/
def Fab.otpStat (f : Fab) : Nat :=
  b2n f.wd.programs + b2n f.otp.loaded * 2 + b2n f.otp.fail * 4 + f.otp.slot.getD 0 * 8 + b2n f.otp.slot.isNone * 32
    + f.oI O.SEAL_STATE * 64 + (List.range 4).foldl (fun a k => a + b2n (f.otp.blank k) * 2 ^ (7 + k)) 0

/-- A word register of the OTP controller at an aligned offset (R564); none where the table has none. -/
def Fab.otpReg (f : Fab) (o : Nat) : Option Nat :=
  if o < 0x2000 then some (f.otp.word (o / 4))
  else if o = 0x2000 then some 0
  else if o = 0x2004 then some (f.otp.addr * 4)
  else if o = 0x2008 then some f.otp.wdata
  else if o = 0x200C then some f.otpStat
  else none

/-- A write of a register of the OTP controller (R564); `miss` holds the bits that a PROGRAM does not take. -/
def Fab.otpPut (f : Fab) (o v miss : Nat) : Fab :=
  if o = 0x2000 then (if bit v 0 then f.otpCmd miss else f)
  else if o = 0x2004 then f.modOtp (fun x => { x with addr := field v 2 11 })
  else if o = 0x2008 then f.modOtp (fun x => { x with wdata := v % 2 ^ 32 })
  else if o = 0x200C then f.modOtp (fun x => { x with fail := x.fail && !bit v 2 })
  else f

/-- Word `k` of `n` words whose first byte is the highest: big-endian registers (R566). -/
def beWord (v n k : Nat) : Nat := field v (32 * (n - 1 - k)) 32

/-- A word register of the verify engine at an aligned offset (R566). -/
def Fab.veReg (f : Fab) (o : Nat) : Option Nat :=
  let e := f.ve
  if o = 0x000 then some 0
  else if o = 0x004 then some (b2n e.op.isSome + b2n e.sigOk * 2 + b2n e.err * 4 + b2n e.health * 8)
  else if o = 0x008 then some e.len
  else if o = 0x00C then some 0
  else if 0x040 ≤ o ∧ o < 0x070 then some (beWord e.digest 12 ((o - 0x040) / 4))
  else if 0x080 ≤ o ∧ o < 0x0E0 then some (beWord e.key 24 ((o - 0x080) / 4))
  else if 0x100 ≤ o ∧ o < 0x160 then some (beWord e.sig 24 ((o - 0x100) / 4))
  else if 0x200 ≤ o ∧ o < 0x220 then some (field f.nonce (8 * (o - 0x200)) 32)
  else none

/-- A write of a register of the verify engine (R566). -/
def Fab.vePut (f : Fab) (o v : Nat) : Fab :=
  if o = 0x000 then
    (match v % 8 with
    | 1 => f.veCmd Ve.start
    | 2 => f.veCmd Ve.finish
    | 3 => f.veCmd (fun e => { e with op := some .verify })
    | 4 => f.veCmd (fun e => { e with op := some .draw })
    | _ => f)
  else if o = 0x004 then f.modVe (fun e => { e with err := e.err && !bit v 2 })
  else if o = 0x008 then f.modVe (fun e => { e with len := v % 2 ^ 32 })
  else if o = 0x00C then f.modVe (fun e => e.feed (v % 2 ^ 32))
  else if 0x080 ≤ o ∧ o < 0x0E0 then
    f.modVe (fun e => { e with key := setField e.key (32 * (23 - (o - 0x080) / 4)) 32 (v % 2 ^ 32) })
  else if 0x100 ≤ o ∧ o < 0x160 then
    f.modVe (fun e => { e with sig := setField e.sig (32 * (23 - (o - 0x100) / 4)) 32 (v % 2 ^ 32) })
  else f

/-- A word register of target 2, 3 or 4 at an aligned offset. -/
def Fab.xReg (f : Fab) (n o : Nat) : Option Nat :=
  if n = 2 then f.otpReg o
  else if n = 3 then f.veReg o
  else (f.mbxOf (4 + o / 0x40)).reg (o % 0x40)

/-- A write of a word register of target 2, 3 or 4. -/
def Fab.xPut (f : Fab) (n o v miss : Nat) (dbg : Bool) : Fab :=
  if n = 2 then f.otpPut o v miss
  else if n = 3 then f.vePut o v
  else if (f.mbxOf (4 + o / 0x40)).op.isSome then f
  else if o % 0x40 = 0 then f.wMbxCmd (4 + o / 0x40) v dbg
  else f.modMbx (4 + o / 0x40) (fun x => x.put (o % 0x40) v)

/-! ## Accesses -/

/-- Bytes of the boot ROM, little-endian. -/
def romRead (a : Nat) : Nat → Nat
  | 0 => 0
  | n + 1 => Config.bootRom a % 256 + 256 * romRead (a + 1) n

/-- One word or narrower access of a transfer at offset `o` of target 0 to 4: the read data. A word that its target has no
register for reads a free value (log 15). -/
def Fab.xLoad (f : Fab) (n o size : Nat) : Fab × Nat :=
  if n = 0 then (f, romRead o size)
  else if n = 1 then (f, memRead f.wd.sram o size)
  else match f.xReg n (o / 4 * 4) with
    | some v => (f, field v (8 * (o % 4)) (8 * size))
    | none => ({ f with fresh := f.fresh + 1 }, Config.free f.fresh % 2 ^ (8 * size))

/-- The bits of a word register that a one clears (W1C of R26): OTP_STAT FAIL and VE_STAT ERR. -/
def w1cBits (n o : Nat) : Nat := if (n = 2 ∧ o = 0x200C) ∨ (n = 3 ∧ o = 0x004) then 4 else 0

/-- One word or narrower write of a transfer. A narrower write of a register keeps the other bytes as they read (log 15);
a bit that a one clears is cleared only by a one that is written (R26). -/
def Fab.xStore (f : Fab) (r : XReq) (n o v miss : Nat) : Fab :=
  if n = 1 then
    f.modWd (fun w => { w with
      sram := memWrite w.sram o v (2 ^ r.size - 1) r.size
      patch := match w.patch with
        | some (len, _) => if r.master ≠ 1 ∧ o < len then none else w.patch
        | none => none })
  else
    let old := clearBits ((f.xReg n (o / 4 * 4)).getD 0) (w1cBits n (o / 4 * 4))
    f.xPut n (o / 4 * 4) (setField old (8 * (o % 4)) (8 * r.size) (v % 2 ^ (8 * r.size))) miss (r.master == 2)

/-- A transfer is performed at its target 0 to 4: each word in order. -/
def Fab.xPerform (f : Fab) (r : XReq) (n o miss : Nat) : Fab × List Nat :=
  (List.range r.words).foldl (fun a k =>
    if r.write then (a.1.xStore r n (o + 4 * k) (r.data.getD k 0) miss, a.2 ++ [0])
    else
      let x := a.1.xLoad n (o + 4 * k) r.size
      (x.1, a.2 ++ [x.2])) (f, [])

/-- A remap that waited for the Warden's transfer (R510). -/
def Fab.remapIfDue (f : Fab) : Fab := if f.wd.remapDue && !f.wardenBusy then f.doRemap else f

/-- A transfer is answered; each ERROR counts (R513). -/
def Fab.xAnswer (f : Fab) (r : XReq) (err : Bool) (data : List Nat) : Fab :=
  let data := if err then List.replicate r.words 0 else data
  let f := f.modXb (fun x => { x with rsp := SMap.insert x.rsp r.master ⟨err, data⟩ })
  (if err then f.bump .inst 0 O.XBAR_ERRORS 0 else f).remapIfDue

/-- INFO1 of XBAR_DECERR and XBAR_TIMEOUT (R581): master and write. -/
def XReq.info (r : XReq) : Nat := r.master + b2n r.write * 4

/-- Whether a target answers a transfer with ERROR without performing it: writes of the boot ROM, of the OTP controller over
any path but M1 (R514, R564), a fenced crossing (R470), and the debug master at N5 while Sealed without a debug ticket
(R553). -/
def Fab.xRefused (f : Fab) (r : XReq) (n : Nat) : Bool :=
  (n == 0 && r.write) || (n == 2 && ((r.write && r.master != 1) || f.cdcShut .otp)) || (n == 4 && f.cdcShut .xbarGuy)
    || (r.master == 2 && n == 5 && f.sealed && f.oI O.DEBUG_TICKET == 0)

/-- What a transfer carries over the crossing of its target (R470). -/
def Fab.xCarry (f : Fab) (r : XReq) (n : Nat) : Fab :=
  if n = 2 then f.cdcCarry .otp r.addr else if n = 4 then f.cdcCarry .xbarGuy r.addr else f

/-! ## The Commons control window (R513) -/

/-- The service-port address of an offset of N5 (R260, R512). -/
def Fab.windowAddr (f : Fab) (o : Nat) : Nat :=
  if o < 0x400000 then 2 ^ 52 + o else (f.oI O.XBAR_FABRIC_BASE + (o - 0x400000)) % 2 ^ 52

/-- The data of a transfer as one number. -/
def XReq.bytes (r : XReq) : Nat := (List.range r.words).foldl (fun a k =>
  a + r.data.getD k 0 % 2 ^ (8 * r.size) * 2 ^ (32 * k)) 0

/-- A transfer to N5 becomes one access of the service port of D0 under stream tag 1,023 (R268), which SP_ACCESS_SEND sends.
While the port is in reset its path takes nothing. -/
def Fab.windowStart (f : Fab) (r : XReq) (o : Nat) : Fab :=
  if f.spInReset 0 then f
  else
    let a : SpAcc := ⟨none, b2n r.write, f.windowAddr o, if r.words = 1 then r.size else 4 * r.words, 1023, r.bytes,
      (f.spOf 0).seq, .waiting, none, false, none⟩
    (f.modSp 0 (fun n => { n with seq := n.seq + 1, warden := none })).spStand 0 a

/-- N5 answers when its access has ended: ERROR for any result but OK. -/
def Fab.windowEnd (f : Fab) : Fab :=
  match f.xb.busy.lookup 5, (f.spOf 0).warden with
  | some r, some (res, data) =>
    let f := f.modXb (fun x => { x with busy := SMap.erase x.busy 5 })
    let f := f.modSp 0 (fun n => { n with warden := none })
    f.xAnswer r (res != 0) ((List.range r.words).map (fun k => if r.write then 0 else field data (32 * k) (8 * r.size)))
  | _, _ => f

/-- Whether N5 still has an access of the Warden's path under way. -/
def Fab.windowBusy (f : Fab) : Bool := (f.spOf 0).acc.any (fun a => a.rid.isNone)

/-! ## Grants (R515) -/

/-- A transfer is decoded as its master presents it: one with no target or no path is answered at once (R512). -/
def Fab.xPresent (f : Fab) (r : XReq) : Fab :=
  if !r.legal || (f.xb.wait.lookup r.master).isSome || f.xb.busy.any (fun kv => kv.2.master == r.master) then f
  else
    match f.xDecode r.addr with
    | some (n, _) =>
      if xPath r.master n then
        f.modXb (fun x => { x with wait := SMap.insert x.wait r.master r, rsp := SMap.erase x.rsp r.master })
      else (f.raiseW 2 r.addr r.info).xAnswer r true []
    | none => (f.raiseW 2 r.addr r.info).xAnswer r true []

/-- 256 WCLK cycles at 400 MHz. -/
def xLong : Nat := ns 640

/-- The first of `l` in round robin after the master granted last. -/
def rrPick (last : Nat) (l : List Nat) : Option Nat :=
  ((List.range 4).map (fun k => (last + 1 + k) % 4)).find? (fun m => l.contains m)

/-- The master that target `n` grants (R515). -/
def Fab.xPick (f : Fab) (n : Nat) : Option Nat :=
  let ws := f.xb.wait.filter (fun kv => (f.xDecode kv.2.addr).map (·.1) == some n)
  let last := f.xb.rr.get (fun _ => 3) n
  let long := ws.filter (fun kv => decide (kv.2.at_ + xLong ≤ f.run0))
  let prio (m : Nat) : Nat := f.oI O.XBAR_PRIO (16 * m + n)
  let top := ws.foldl (fun a kv => max a (prio kv.1)) 0
  if long.isEmpty then rrPick last ((ws.filter (fun kv => prio kv.1 == top)).map (·.1))
  else rrPick last (long.map (·.1))

/-- An uncorrectable error of the boot ROM or the Warden SRAM (R508). -/
def Fab.memUe (f : Fab) (r : XReq) (n : Nat) : Fab :=
  ((f.raiseW 1 r.addr n).bump .inst 0 O.WARDEN_RESTARTS 0).wardenRestart

/-- Target `n` grants and answers, or keeps, a transfer. -/
def Fab.xGrant (f : Fab) (n : Nat) (ans : Bool) (ue : Option (List Nat)) (miss : Nat) : Fab :=
  if (f.xb.busy.lookup n).isSome || (n == 5 && f.windowBusy) then f
  else match f.xPick n with
    | none => f
    | some m =>
      match f.xb.wait.lookup m with
      | none => f
      | some r =>
        let o := (f.xDecode r.addr).elim 0 (·.2)
        let f := f.modXb (fun x => { x with wait := SMap.erase x.wait m, rr := x.rr.set (fun _ => 3) n m })
        let f := if m = 1 then f.wardenUp else f
        let refused := f.xRefused r n
        let f := f.xCarry r n
        if refused then f.xAnswer r true []
        else if n = 5 then
          (f.modXb (fun x => { x with busy := SMap.insert x.busy 5 { r with at_ := f.run0 } })).windowStart r o
        else if !ans then f.modXb (fun x => { x with busy := SMap.insert x.busy n { r with at_ := f.run0 } })
        else
          let x := f.xPerform r n o miss
          match ue with
          | some bits =>
            if n < 2 ∧ r.write = false then (x.1.xAnswer r false bits).memUe r n else x.1.xAnswer r false x.2
          | none => x.1.xAnswer r false x.2

/-- XBAR_TRANSFER (R511 to R515): masters present transfers, and target `n` grants one and answers it when `ans` is true.
`ue` holds the bits read with an uncorrectable error, `miss` the array bits that a PROGRAM does not take. Transfers of the
debug port come by DEBUG_ACCESS. -/
def execXbarTransfer (n : Nat) (offers : List XOffer) (ans : Bool) (ue : Option (List Nat)) (miss : Nat) (s : State) :
    Host.Outcome State Fault Refusal :=
  .next (s.onFab (fun f =>
    if f.mapHeld then f
    else
      let f := f.windowEnd
      let f := offers.foldl (fun f x =>
        if x.master = 2 ∨ 3 < x.master then f
        else f.xPresent ⟨x.master, x.write, x.addr, x.size, x.words, x.data, f.run0⟩) f
      f.xGrant n ans ue miss))

/-- XBAR_TIMEOUT (R513): target `n` has not answered the transfer that it holds. N5 is waited for as long as SP_REQ_TIMEOUT
of SP0 and 1 µs. -/
def execXbarTimeout (n : Nat) (s : State) : Host.Outcome State Fault Refusal :=
  .next (s.onFab (fun f =>
    let f := f.windowEnd
    match f.xb.busy.lookup n with
    | none => f
    | some r =>
      let limit := if n = 5 then us (f.o .sp 0 O.SP_REQ_TIMEOUT 0 + 1) else ns 10240
      if f.run0 < r.at_ + limit then f
      else
        let f := f.modXb (fun x => { x with busy := SMap.erase x.busy n })
        (f.raiseW 3 r.addr (r.info + n * 8)).xAnswer r true []))

/-! ## The debug port (R629, R630) -/

/-- The bytes of each access of a DBG_SIZE code. -/
def dbgBytes (size : Nat) : Nat := 2 ^ (size % 4)

/-- DEBUG_ACCESS (R630): a request of the debug port with its write words becomes a transfer of master 2, or is answered with
DBG_RERR. The attachment holds one transfer, and takes none during an instance reset. -/
def execDebugAccess (write : Bool) (addr size blen : Nat) (data : List Nat) (s : State) : Host.Outcome State Fault Refusal :=
  .next (s.onFab (fun f =>
    let words := blen % 16 + 1
    let r : XReq := ⟨2, write, addr % 2 ^ 32, dbgBytes size, words, data.take words, f.run0⟩
    if f.mapHeld || (f.xb.wait.lookup 2).isSome || f.xb.busy.any (fun kv => kv.2.master == 2) then f
    else if size % 4 = 3 ∨ r.legal = false ∨ f.cdcShut .debug = true then
      (f.cdcCarry .debug r.addr).modXb (fun x => { x with rsp := SMap.insert x.rsp 2 ⟨true, List.replicate words 0⟩ })
    else (f.cdcCarry .debug r.addr).xPresent r))

end Sys2Proof.Machine
end

