-- ==== Sys2Proof/Machine/Dispatch.lean ====
section
/-! DEFINITION. Dispatch: each command runs its meaning. -/

namespace Sys2Proof.Machine

/-- The effect of a command on everything but the queue. -/
def exec (i : Instr) (s : State) : Host.Outcome State Fault Refusal :=
  match i with
  | .routerFlitReceive t p ea eb => Sys2Proof.Machine.execRouterFlitReceive t p ea eb s
  | .creditReturn t snd => Sys2Proof.Machine.execCreditReturn t snd s
  | .switchAllocation x => Sys2Proof.Machine.execSwitchAllocation x s
  | .headAged t p vc => Sys2Proof.Machine.execHeadAged t p vc s
  | .knockReceived t p => Sys2Proof.Machine.execKnockReceived t p s
  | .awakeRise t p => Sys2Proof.Machine.execAwakeRise t p s
  | .outputDead t p => Sys2Proof.Machine.execOutputDead t p s
  | .eapIngressBeat t data mc first last psn par => Sys2Proof.Machine.execEapIngressBeat t data mc first last psn par s
  | .ingressPacketCheck t e ue => Sys2Proof.Machine.execIngressPacketCheck t e ue s
  | .famFetchReturn t bad => Sys2Proof.Machine.execFamFetchReturn t bad s
  | .violationQueueEnter sp n => Sys2Proof.Machine.execViolationQueueEnter sp n s
  | .violationAnswerRelease sp n => Sys2Proof.Machine.execViolationAnswerRelease sp n s
  | .holdQueueEnter sp n => Sys2Proof.Machine.execHoldQueueEnter sp n s
  | .injectionSelect sp n ue => Sys2Proof.Machine.execInjectionSelect sp n ue s
  | .egressPacketArrive t hck e => Sys2Proof.Machine.execEgressPacketArrive t hck e s
  | .egressSelect sp n ue => Sys2Proof.Machine.execEgressSelect sp n ue s
  | .responseArrive t => Sys2Proof.Machine.execResponseArrive t s
  | .eapCreditReturn t mask => Sys2Proof.Machine.execEapCreditReturn t mask s
  | .eapEpochBegin t => Sys2Proof.Machine.execEapEpochBegin t s
  | .tagGrant t k => Sys2Proof.Machine.execTagGrant t k s
  | .tagGrantResume t => Sys2Proof.Machine.execTagGrantResume t s
  | .edgeCreditLow t => Sys2Proof.Machine.execEdgeCreditLow t s
  | .tagExpiry sp n k ue => Sys2Proof.Machine.execTagExpiry sp n k ue s
  | .quarantineRelease t k => Sys2Proof.Machine.execQuarantineRelease t k s
  | .iLinkChange t code => Sys2Proof.Machine.execILinkChange t code s
  | .portGoneReceive t => Sys2Proof.Machine.execPortGoneReceive t s
  | .edgeFenceWrite who t v => Sys2Proof.Machine.execEdgeFenceWrite who t v s
  | .iKnock t => Sys2Proof.Machine.execIKnock t s
  | .granuleWrite who v => Sys2Proof.Machine.execGranuleWrite who v s
  | .tableElementWrite who dbg table elem v => Sys2Proof.Machine.execTableElementWrite who dbg table elem v s
  | .famCommitWrite who tm => Sys2Proof.Machine.execFamCommitWrite who tm s
  | .lensInvReceive t => Sys2Proof.Machine.execLensInvReceive t s
  | .lensAckReceive x => Sys2Proof.Machine.execLensAckReceive x s
  | .commitJudge => Sys2Proof.Machine.execCommitJudge s
  | .commitTakeEffect u x => Sys2Proof.Machine.execCommitTakeEffect u x s
  | .overlayDrainDone d => Sys2Proof.Machine.execOverlayDrainDone d s
  | .stageClearWrite who v => Sys2Proof.Machine.execStageClearWrite who v s
  | .drainWrite who d => Sys2Proof.Machine.execDrainWrite who d s
  | .drainMarkReceive t => Sys2Proof.Machine.execDrainMarkReceive t s
  | .drainReport sp n => Sys2Proof.Machine.execDrainReport sp n s
  | .drainDoneReceive x => Sys2Proof.Machine.execDrainDoneReceive x s
  | .violClearWrite who sc num v => Sys2Proof.Machine.execViolClearWrite who sc num v s
  | .spDownWord d head w par => Sys2Proof.Machine.execSpDownWord d head w par s
  | .spLd x => Sys2Proof.Machine.execSpLd x s
  | .spSt x => Sys2Proof.Machine.execSpSt x s
  | .spXld x => Sys2Proof.Machine.execSpXld x s
  | .spXst x => Sys2Proof.Machine.execSpXst x s
  | .spLb d => Sys2Proof.Machine.execSpLb d s
  | .spSb d => Sys2Proof.Machine.execSpSb d s
  | .spFb d => Sys2Proof.Machine.execSpFb d s
  | .spReservedOp d => Sys2Proof.Machine.execSpReservedOp d s
  | .spAccessSend x => Sys2Proof.Machine.execSpAccessSend x s
  | .pwbMergeHoldExpiry x => Sys2Proof.Machine.execPwbMergeHoldExpiry x s
  | .spResponseArrive d hck => Sys2Proof.Machine.execSpResponseArrive d hck s
  | .spBarrierAck d => Sys2Proof.Machine.execSpBarrierAck d s
  | .spResponseSend d => Sys2Proof.Machine.execSpResponseSend d s
  | .spUpCredit d => Sys2Proof.Machine.execSpUpCredit d s
  | .spExcReqRise d => Sys2Proof.Machine.execSpExcReqRise d s
  | .spExcAck d => Sys2Proof.Machine.execSpExcAck d s
  | .spExcReqFall d => Sys2Proof.Machine.execSpExcReqFall d s
  | .spReset d => Sys2Proof.Machine.execSpReset d s
  | .spRequestResume d => Sys2Proof.Machine.execSpRequestResume d s
  | .spPowerDownRequest d => Sys2Proof.Machine.execSpPowerDownRequest d s
  | .cmnRead n ce ue => Sys2Proof.Machine.execCmnRead n ce ue s
  | .cmnWrite n ce ue => Sys2Proof.Machine.execCmnWrite n ce ue s
  | .cmnXld n ce ue => Sys2Proof.Machine.execCmnXld n ce ue s
  | .cmnXst n ce ue => Sys2Proof.Machine.execCmnXst n ce ue s
  | .cmnUnsupported n => Sys2Proof.Machine.execCmnUnsupported n s
  | .cmnResvGranWrite who n v => Sys2Proof.Machine.execCmnResvGranWrite who n v s
  | .cmnResvClearWrite who n v => Sys2Proof.Machine.execCmnResvClearWrite who n v s
  | .schedWeightWrite who sp n sub v => Sys2Proof.Machine.execSchedWeightWrite who sp n sub v s
  | .shaperRateWrite who sp n sub v => Sys2Proof.Machine.execShaperRateWrite who sp n sub v s
  | .shaperBurstWrite who sp n sub v => Sys2Proof.Machine.execShaperBurstWrite who sp n sub v s
  | .shaperClearWrite who sp n sub v => Sys2Proof.Machine.execShaperClearWrite who sp n sub v s
  | .policeCirWrite who t v => Sys2Proof.Machine.execPoliceCirWrite who t v s
  | .policeCbsWrite who t v => Sys2Proof.Machine.execPoliceCbsWrite who t v s
  | .gateApplyWrite who sp n sub v => Sys2Proof.Machine.execGateApplyWrite who sp n sub v s
  | .gateScheduleStart sp n sub => Sys2Proof.Machine.execGateScheduleStart sp n sub s
  | .gateBoundary sp n sub => Sys2Proof.Machine.execGateBoundary sp n sub s
  | .gateEnWrite who sp n sub v => Sys2Proof.Machine.execGateEnWrite who sp n sub v s
  | .histSample sp n => Sys2Proof.Machine.execHistSample sp n s
  | .stallConditionRise t => Sys2Proof.Machine.execStallConditionRise t s
  | .spillStart t q => Sys2Proof.Machine.execSpillStart t q s
  | .spillEnd t q => Sys2Proof.Machine.execSpillEnd t q s
  | .spillAsk n => Sys2Proof.Machine.execSpillAsk n s
  | .spillGrant t => Sys2Proof.Machine.execSpillGrant t s
  | .spillReask t q => Sys2Proof.Machine.execSpillReask t q s
  | .spillSend t q => Sys2Proof.Machine.execSpillSend t q s
  | .spillReceive n e => Sys2Proof.Machine.execSpillReceive n e s
  | .spillPullSend t q => Sys2Proof.Machine.execSpillPullSend t q s
  | .spillPull n => Sys2Proof.Machine.execSpillPull n s
  | .spillReturn t hck => Sys2Proof.Machine.execSpillReturn t hck s
  | .spillNone t => Sys2Proof.Machine.execSpillNone t s
  | .spillAbandonReceive sk n => Sys2Proof.Machine.execSpillAbandonReceive sk n s
  | .spillTimeout t q => Sys2Proof.Machine.execSpillTimeout t q s
  | .skCommand n => Sys2Proof.Machine.execSkCommand n s
  | .skOutCredit n => Sys2Proof.Machine.execSkOutCredit n s
  | .skReadBeat n q data par err ue => Sys2Proof.Machine.execSkReadBeat n q data par err ue s
  | .skWriteDone n q => Sys2Proof.Machine.execSkWriteDone n q s
  | .skWriteFailed n q => Sys2Proof.Machine.execSkWriteFailed n q s
  | .skRspTimeout n => Sys2Proof.Machine.execSkRspTimeout n s
  | .skMemreadyChange n level => Sys2Proof.Machine.execSkMemreadyChange n level s
  | .skRecoverWrite who n v => Sys2Proof.Machine.execSkRecoverWrite who n v s
  | .skRecoverDone n => Sys2Proof.Machine.execSkRecoverDone n s
  | .skEnableWrite who n v => Sys2Proof.Machine.execSkEnableWrite who n v s
  | .seamFrameReceive ss c e => Sys2Proof.Machine.execSeamFrameReceive ss c e s
  | .seamTrainingPhaseEnd ss c pll los lol bad eqs => Sys2Proof.Machine.execSeamTrainingPhaseEnd ss c pll los lol bad eqs s
  | .seamMarginScan ss c tog => Sys2Proof.Machine.execSeamMarginScan ss c tog s
  | .seamLaneLoss ss c los lol => Sys2Proof.Machine.execSeamLaneLoss ss c los lol s
  | .seamRepairReq ss c => Sys2Proof.Machine.execSeamRepairReq ss c s
  | .seamSpareTrained ss c ok => Sys2Proof.Machine.execSeamSpareTrained ss c ok s
  | .seamRepairReady ss c => Sys2Proof.Machine.execSeamRepairReady ss c s
  | .seamRepairAt ss c => Sys2Proof.Machine.execSeamRepairAt ss c s
  | .seamRetrainCmd ss c => Sys2Proof.Machine.execSeamRetrainCmd ss c s
  | .seamRepairLaneWrite who ss c v => Sys2Proof.Machine.execSeamRepairLaneWrite who ss c v s
  | .seamRetrainWrite who ss c v => Sys2Proof.Machine.execSeamRetrainWrite who ss c v s
  | .seamPllLoss ss => Sys2Proof.Machine.execSeamPllLoss ss s
  | .seamSleepRequest ss c => Sys2Proof.Machine.execSeamSleepRequest ss c s
  | .seamSleepReceive ss => Sys2Proof.Machine.execSeamSleepReceive ss s
  | .seamSleptReceive ss => Sys2Proof.Machine.execSeamSleptReceive ss s
  | .seamDeepEntry ss c => Sys2Proof.Machine.execSeamDeepEntry ss c s
  | .seamKnock ss c => Sys2Proof.Machine.execSeamKnock ss c s
  | .seamKnockReceive ss => Sys2Proof.Machine.execSeamKnockReceive ss s
  | .seamAwakeMessage ss => Sys2Proof.Machine.execSeamAwakeMessage ss s
  | .seamStateMessage ss => Sys2Proof.Machine.execSeamStateMessage ss s
  | .seamStateSend ss c => Sys2Proof.Machine.execSeamStateSend ss c s
  | .sidebandLockLoss ss lane => Sys2Proof.Machine.execSidebandLockLoss ss lane s
  | .sidebandLockRegain ss x => Sys2Proof.Machine.execSidebandLockRegain ss x s
  | .rstEnterReceive ss => Sys2Proof.Machine.execRstEnterReceive ss s
  | .rstSeenReceive ss => Sys2Proof.Machine.execRstSeenReceive ss s
  | .rstAckReceive ss => Sys2Proof.Machine.execRstAckReceive ss s
  | .lanternSpineCheck d l => Sys2Proof.Machine.execLanternSpineCheck d l s
  | .lanternExchange d => Sys2Proof.Machine.execLanternExchange d s
  | .timeReqReceive ss turn => Sys2Proof.Machine.execTimeReqReceive ss turn s
  | .timeRspReceive ss => Sys2Proof.Machine.execTimeRspReceive ss s
  | .ppsInEdge d => Sys2Proof.Machine.execPpsInEdge d s
  | .ppsTimeout => Sys2Proof.Machine.execPpsTimeout s
  | .lrefclkLoss d => Sys2Proof.Machine.execLrefclkLoss d s
  | .lrefclkReturn d => Sys2Proof.Machine.execLrefclkReturn d s
  | .timeSample g w => Sys2Proof.Machine.execTimeSample g w s
  | .timeCmdReceive ss => Sys2Proof.Machine.execTimeCmdReceive ss s
  | .upTimeout => Sys2Proof.Machine.execUpTimeout s
  | .lanternStepWrite who v => Sys2Proof.Machine.execLanternStepWrite who v s
  | .lanternSetWrite who v => Sys2Proof.Machine.execLanternSetWrite who v s
  | .stepApply d => Sys2Proof.Machine.execStepApply d s
  | .ppsOutEdge d => Sys2Proof.Machine.execPpsOutEdge d s
  | .ppsOutFall d => Sys2Proof.Machine.execPpsOutFall d s
  | .timeFrame g => Sys2Proof.Machine.execTimeFrame g s
  | .lanternSourceWrite who v => Sys2Proof.Machine.execLanternSourceWrite who v s
  | .qclkFreqWrite who v => Sys2Proof.Machine.execQclkFreqWrite who v s
  | .tileDozeEntry t => Sys2Proof.Machine.execTileDozeEntry t s
  | .tileNapEntry t => Sys2Proof.Machine.execTileNapEntry t s
  | .tileOffEntry t => Sys2Proof.Machine.execTileOffEntry t s
  | .tileWake t => Sys2Proof.Machine.execTileWake t s
  | .tileWakeDone t => Sys2Proof.Machine.execTileWakeDone t s
  | .pdAckChange k => Sys2Proof.Machine.execPdAckChange k s
  | .pcT3Req t level => Sys2Proof.Machine.execPcT3Req t level s
  | .pcUqReq level => Sys2Proof.Machine.execPcUqReq level s
  | .tileHoldWrite who t v => Sys2Proof.Machine.execTileHoldWrite who t v s
  | .tileDeepestWrite who t v => Sys2Proof.Machine.execTileDeepestWrite who t v s
  | .fabricModeWrite who v => Sys2Proof.Machine.execFabricModeWrite who v s
  | .qpllPark q => Sys2Proof.Machine.execQpllPark q s
  | .qpllRelockDone q => Sys2Proof.Machine.execQpllRelockDone q s
  | .qpllHoldWrite who q v => Sys2Proof.Machine.execQpllHoldWrite who q v s
  | .cdcIdleEvent x acked => Sys2Proof.Machine.execCdcIdleEvent x acked s
  | .cdcTimeout x => Sys2Proof.Machine.execCdcTimeout x s
  | .cdcReleaseDone x => Sys2Proof.Machine.execCdcReleaseDone x s
  | .peerResetReceive x => Sys2Proof.Machine.execPeerResetReceive x s
  | .resetAckReceive x => Sys2Proof.Machine.execResetAckReceive x s
  | .guyFrameClaim tag ue clk => Sys2Proof.Machine.execGuyFrameClaim tag ue clk s
  | .guyBcast tag d clk => Sys2Proof.Machine.execGuyBcast tag d clk s
  | .guyRespReturn tag ok => Sys2Proof.Machine.execGuyRespReturn tag ok s
  | .guyTimeout tag => Sys2Proof.Machine.execGuyTimeout tag s
  | .guyBreak ss => Sys2Proof.Machine.execGuyBreak ss s
  | .stationBypassChange t => Sys2Proof.Machine.execStationBypassChange t s
  | .mapBusWrite off size half v clk => Sys2Proof.Machine.execMapBusWrite off size half v clk s
  | .mapKeyWrite v => Sys2Proof.Machine.execMapKeyWrite v s
  | .mapCrcRefWrite v => Sys2Proof.Machine.execMapCrcRefWrite v s
  | .mapCrcRestart v => Sys2Proof.Machine.execMapCrcRestart v s
  | .mapResetTile num cold => Sys2Proof.Machine.execMapResetTile num cold s
  | .mapResetQuadrant num cold => Sys2Proof.Machine.execMapResetQuadrant num cold s
  | .mapResetDie num cold => Sys2Proof.Machine.execMapResetDie num cold s
  | .mapResetInstance num cold => Sys2Proof.Machine.execMapResetInstance num cold s
  | .mapFltFirstClear v => Sys2Proof.Machine.execMapFltFirstClear v s
  | .mapFltPendClear v clk => Sys2Proof.Machine.execMapFltPendClear v clk s
  | .mapFltForce v => Sys2Proof.Machine.execMapFltForce v s
  | .mbxRead m cmd => Sys2Proof.Machine.execMbxRead m cmd s
  | .mbxWrite m cmd => Sys2Proof.Machine.execMbxWrite m cmd s
  | .mbxWriteSeg m cmd => Sys2Proof.Machine.execMbxWriteSeg m cmd s
  | .mbxInvalidOp m cmd => Sys2Proof.Machine.execMbxInvalidOp m cmd s
  | .mbxComplete m => Sys2Proof.Machine.execMbxComplete m s
  | .mbxTimeout m => Sys2Proof.Machine.execMbxTimeout m s
  | .scrubPassComplete d ue bad => Sys2Proof.Machine.execScrubPassComplete d ue bad s
  | .wardenWdog addr => Sys2Proof.Machine.execWardenWdog addr s
  | .wardenRemapWrite who v => Sys2Proof.Machine.execWardenRemapWrite who v s
  | .xbarTransfer n offers ans ue miss => Sys2Proof.Machine.execXbarTransfer n offers ans ue miss s
  | .xbarTimeout n => Sys2Proof.Machine.execXbarTimeout n s
  | .ticketSubmit who v => Sys2Proof.Machine.execTicketSubmit who v s
  | .ticketVerifyDone => Sys2Proof.Machine.execTicketVerifyDone s
  | .debugTicketExpiry => Sys2Proof.Machine.execDebugTicketExpiry s
  | .sealBurnWrite who v => Sys2Proof.Machine.execSealBurnWrite who v s
  | .sealBurnDone miss => Sys2Proof.Machine.execSealBurnDone miss s
  | .otpProgramWrite who record => Sys2Proof.Machine.execOtpProgramWrite who record s
  | .otpProgramDone fails => Sys2Proof.Machine.execOtpProgramDone fails s
  | .otpCmdProgram miss => Sys2Proof.Machine.execOtpCmdProgram miss s
  | .veHashStart => Sys2Proof.Machine.execVeHashStart s
  | .veHashFinish => Sys2Proof.Machine.execVeHashFinish s
  | .veVerify => Sys2Proof.Machine.execVeVerify s
  | .veNonceDraw => Sys2Proof.Machine.execVeNonceDraw s
  | .veDataWrite w => Sys2Proof.Machine.execVeDataWrite w s
  | .veOpComplete samples fail => Sys2Proof.Machine.execVeOpComplete samples fail s
  | .bootDefaultMode => Sys2Proof.Machine.execBootDefaultMode s
  | .faultFirstClear who sc num lantern v => Sys2Proof.Machine.execFaultFirstClear who sc num lantern v s
  | .faultPendClear who sc num lantern ones clk => Sys2Proof.Machine.execFaultPendClear who sc num lantern ones clk s
  | .faultOvfClear who sc num lantern v => Sys2Proof.Machine.execFaultOvfClear who sc num lantern v s
  | .faultForce who sc num lantern v => Sys2Proof.Machine.execFaultForce who sc num lantern v s
  | .rstColdAssert => Sys2Proof.Machine.execRstColdAssert s
  | .rstColdRelease straps => Sys2Proof.Machine.execRstColdRelease straps s
  | .rstWarmAssert => Sys2Proof.Machine.execRstWarmAssert s
  | .rstWarmRelease => Sys2Proof.Machine.execRstWarmRelease s
  | .resetEnd sc num => Sys2Proof.Machine.execResetEnd sc num s
  | .vddAoLoss d => Sys2Proof.Machine.execVddAoLoss d s
  | .cntEventWrite who t k v => Sys2Proof.Machine.execCntEventWrite who t k v s
  | .cntValueWrite who t k v => Sys2Proof.Machine.execCntValueWrite who t k v s
  | .snapshotAtWrite who tm => Sys2Proof.Machine.execSnapshotAtWrite who tm s
  | .snapshotTake => Sys2Proof.Machine.execSnapshotTake s
  | .snapshotTaken => Sys2Proof.Machine.execSnapshotTaken s
  | .collectStart => Sys2Proof.Machine.execCollectStart s
  | .collectComplete => Sys2Proof.Machine.execCollectComplete s
  | .collectPeriodWrite who v => Sys2Proof.Machine.execCollectPeriodWrite who v s
  | .traceRecordWrite t => Sys2Proof.Machine.execTraceRecordWrite t s
  | .traceClearWrite who v => Sys2Proof.Machine.execTraceClearWrite who v s
  | .mapBusAccess write off size half v clk => Sys2Proof.Machine.execMapBusAccess write off size half v clk s
  | .debugAccess write addr size blen data => Sys2Proof.Machine.execDebugAccess write addr size blen data s
  | .spResetRelease d => Sys2Proof.Machine.execSpResetRelease d s
  | .rxlosFall ss c lanes => Sys2Proof.Machine.execRxlosFall ss c lanes s
  | .seamTrainMessage ss => Sys2Proof.Machine.execSeamTrainMessage ss s
  | .vddAoReturn d => Sys2Proof.Machine.execVddAoReturn d s

end Sys2Proof.Machine
end

