-- ==== Sys2Proof/WellFormed.lean ====
section
/-! DEFINITION. WellFormed: which commands the block can be given: each operand within the range that the spec gives the
unit, port, class or register that it names (R13 to R17, R40, R481). -/

namespace Sys2Proof

/-- A crossing between clock domains exists (R470). -/
def Cdc.wf : Cdc → Bool
  | .eapIn t | .eapOut t | .station t | .cell t => decide (t < 256)
  | .sp d | .lantern d => decide (d < 4)
  | .sk n => decide (n < 8)
  | .seamTx ss c | .seamRx ss c => decide (ss < 8) && decide (c < 8)
  | .mapXbar | .xbarGuy | .debug | .otp => true

/-- A power-domain handshake exists (R638). -/
def Pd.wf : Pd → Bool
  | .tl t | .ts t | .ret t => decide (t < 256)
  | .qp q => decide (q < 16)
  | .fam d | .uq d => decide (d < 4)

/-- A scope number exists (R17). -/
def scopeWf (sc : Scope) (num : Nat) : Bool := decide (num < sc.count)

/-- A holder of schedulers exists: a service port, or an edge NI. -/
def holderWf (sp : Bool) (n : Nat) : Bool := if sp then decide (n < 4) else decide (n < 256)

/-- A transfer that a master can present (R511). -/
def XOffer.wf (x : XOffer) : Bool :=
  decide (x.master < 4) && x.master != 2 && decide (x.addr < 2 ^ 32) && [1, 2, 4].contains x.size && decide (1 ≤ x.words)
    && decide (x.words ≤ 16)

/-- A command is well formed: every operand that names something names something that exists. -/
def Instr.wf : Instr → Bool
  | .routerFlitReceive t p _ _ => decide (t < 256) && decide (p < 8)
  | .creditReturn t snd => decide (t < 256) && decide (snd < 10)
  | .switchAllocation (t, links) => decide (t < 256) && links.all (fun l => decide (l.1 < 16))
  | .headAged t p vc => decide (t < 256) && decide (p < 8) && decide (vc < 16)
  | .knockReceived t p => decide (t < 256) && decide (p < 8)
  | .awakeRise t p => decide (t < 256) && decide (p < 10)
  | .outputDead t p => decide (t < 256) && decide (p < 8)
  | .eapIngressBeat t _ mc _ _ _ _ => decide (t < 256) && decide (mc < 8)
  | .ingressPacketCheck t _ _ => decide (t < 256)
  | .famFetchReturn t _ => decide (t < 256)
  | .violationQueueEnter sp n => holderWf sp n
  | .violationAnswerRelease sp n => holderWf sp n
  | .holdQueueEnter sp n => holderWf sp n
  | .injectionSelect sp n _ => holderWf sp n
  | .egressPacketArrive t _ _ => decide (t < 256)
  | .egressSelect sp n _ => holderWf sp n
  | .responseArrive t => decide (t < 256)
  | .eapCreditReturn t mask => decide (t < 256) && decide (mask < 256)
  | .eapEpochBegin t => decide (t < 256)
  | .tagGrant t k => decide (t < 256) && decide (k < 2032)
  | .tagGrantResume t => decide (t < 256)
  | .edgeCreditLow t => decide (t < 256)
  | .tagExpiry sp n k _ => holderWf sp n && decide (k < 2032)
  | .quarantineRelease t k => decide (t < 256) && decide (k < 2032)
  | .iLinkChange t code => decide (t < 256) && decide (code < 4)
  | .portGoneReceive t => decide (t < 256)
  | .edgeFenceWrite who t _ => decide (who < 13) && decide (t < 256)
  | .iKnock t => decide (t < 256)
  | .granuleWrite who _ => decide (who < 13)
  | .tableElementWrite who _ _ _ _ => decide (who < 13)
  | .famCommitWrite who tm => decide (who < 13) && decide (tm < 2 ^ 80)
  | .lensInvReceive t => decide (t < 256)
  | .lensAckReceive (d, _) => decide (d < 4)
  | .commitJudge => true
  | .commitTakeEffect u (_, _) => decide (u < 256)
  | .overlayDrainDone d => decide (d < 4)
  | .stageClearWrite who _ => decide (who < 13)
  | .drainWrite who d => decide (who < 13) && decide (d < 2 ^ 64)
  | .drainMarkReceive t => decide (t < 256)
  | .drainReport sp n => holderWf sp n
  | .drainDoneReceive (d, _) => decide (d < 4)
  | .violClearWrite who sc num _ => decide (who < 13) && scopeWf sc num
  | .spDownWord d _ _ _ => decide (d < 4)
  | .spLd (d, _) => decide (d < 4)
  | .spSt (d, _) => decide (d < 4)
  | .spXld (d, _) => decide (d < 4)
  | .spXst (d, _) => decide (d < 4)
  | .spLb d => decide (d < 4)
  | .spSb d => decide (d < 4)
  | .spFb d => decide (d < 4)
  | .spReservedOp d => decide (d < 4)
  | .spAccessSend (d, _) => decide (d < 4)
  | .pwbMergeHoldExpiry (d, _) => decide (d < 4)
  | .spResponseArrive d _ => decide (d < 4)
  | .spBarrierAck d => decide (d < 4)
  | .spResponseSend d => decide (d < 4)
  | .spUpCredit d => decide (d < 4)
  | .spExcReqRise d => decide (d < 4)
  | .spExcAck d => decide (d < 4)
  | .spExcReqFall d => decide (d < 4)
  | .spReset d => decide (d < 4)
  | .spRequestResume d => decide (d < 4)
  | .spPowerDownRequest d => decide (d < 4)
  | .cmnRead n _ _ => decide (n < 8)
  | .cmnWrite n _ _ => decide (n < 8)
  | .cmnXld n _ _ => decide (n < 8)
  | .cmnXst n _ _ => decide (n < 8)
  | .cmnUnsupported n => decide (n < 8)
  | .cmnResvGranWrite who n _ => decide (who < 13) && decide (n < 8)
  | .cmnResvClearWrite who n _ => decide (who < 13) && decide (n < 8)
  | .schedWeightWrite who sp n sub _ => decide (who < 13) && holderWf sp n && decide (sub < 256)
  | .shaperRateWrite who sp n sub _ => decide (who < 13) && holderWf sp n && decide (sub < 256)
  | .shaperBurstWrite who sp n sub _ => decide (who < 13) && holderWf sp n && decide (sub < 256)
  | .shaperClearWrite who sp n sub _ => decide (who < 13) && holderWf sp n && decide (sub < 256)
  | .policeCirWrite who t _ => decide (who < 13) && decide (t < 256)
  | .policeCbsWrite who t _ => decide (who < 13) && decide (t < 256)
  | .gateApplyWrite who sp n sub _ => decide (who < 13) && holderWf sp n && decide (sub < 256)
  | .gateScheduleStart sp n sub => holderWf sp n && decide (sub < 256)
  | .gateBoundary sp n sub => holderWf sp n && decide (sub < 256)
  | .gateEnWrite who sp n sub _ => decide (who < 13) && holderWf sp n && decide (sub < 256)
  | .histSample sp n => holderWf sp n
  | .stallConditionRise t => decide (t < 256)
  | .spillStart t i => decide (t < 256) && decide (i < 5)
  | .spillEnd t i => decide (t < 256) && decide (i < 5)
  | .spillAsk n => decide (n < 8)
  | .spillGrant t => decide (t < 256)
  | .spillReask t i => decide (t < 256) && decide (i < 5)
  | .spillSend t i => decide (t < 256) && decide (i < 5)
  | .spillReceive n _ => decide (n < 8)
  | .spillPullSend t i => decide (t < 256) && decide (i < 5)
  | .spillPull n => decide (n < 8)
  | .spillReturn t _ => decide (t < 256)
  | .spillNone t => decide (t < 256)
  | .spillAbandonReceive sk n => (if sk then decide (n < 8) else decide (n < 256))
  | .spillTimeout t i => decide (t < 256) && decide (i < 5)
  | .skCommand n => decide (n < 8)
  | .skOutCredit n => decide (n < 8)
  | .skReadBeat n q _ _ _ _ => decide (n < 8) && decide (q < 320)
  | .skWriteDone n q => decide (n < 8) && decide (q < 320)
  | .skWriteFailed n q => decide (n < 8) && decide (q < 320)
  | .skRspTimeout n => decide (n < 8)
  | .skMemreadyChange n _ => decide (n < 8)
  | .skRecoverWrite who n _ => decide (who < 13) && decide (n < 8)
  | .skRecoverDone n => decide (n < 8)
  | .skEnableWrite who n _ => decide (who < 13) && decide (n < 8)
  | .seamFrameReceive ss c _ => decide (ss < 8) && decide (c < 8)
  | .seamTrainingPhaseEnd ss c _ _ _ _ _ => decide (ss < 8) && decide (c < 8)
  | .seamMarginScan ss c _ => decide (ss < 8) && decide (c < 8)
  | .seamLaneLoss ss c _ _ => decide (ss < 8) && decide (c < 8)
  | .seamRepairReq ss c => decide (ss < 8) && decide (c < 8)
  | .seamSpareTrained ss c _ => decide (ss < 8) && decide (c < 8)
  | .seamRepairReady ss c => decide (ss < 8) && decide (c < 8)
  | .seamRepairAt ss c => decide (ss < 8) && decide (c < 8)
  | .seamRetrainCmd ss c => decide (ss < 8) && decide (c < 8)
  | .seamRepairLaneWrite who ss c _ => decide (who < 13) && decide (ss < 8) && decide (c < 8)
  | .seamRetrainWrite who ss c _ => decide (who < 13) && decide (ss < 8) && decide (c < 8)
  | .seamPllLoss ss => decide (ss < 8)
  | .seamSleepRequest ss c => decide (ss < 8) && decide (c < 8)
  | .seamSleepReceive ss => decide (ss < 8)
  | .seamSleptReceive ss => decide (ss < 8)
  | .seamDeepEntry ss c => decide (ss < 8) && decide (c < 8)
  | .seamKnock ss c => decide (ss < 8) && decide (c < 8)
  | .seamKnockReceive ss => decide (ss < 8)
  | .seamAwakeMessage ss => decide (ss < 8)
  | .seamStateMessage ss => decide (ss < 8)
  | .seamStateSend ss c => decide (ss < 8) && decide (c < 8)
  | .sidebandLockLoss ss lane => decide (ss < 8) && decide (lane < 2)
  | .sidebandLockRegain ss (lane, _) => decide (ss < 8) && decide (lane < 2)
  | .rstEnterReceive ss => decide (ss < 8)
  | .rstSeenReceive ss => decide (ss < 8)
  | .rstAckReceive ss => decide (ss < 8)
  | .lanternSpineCheck d _ => decide (d < 4)
  | .lanternExchange d => decide (d < 4)
  | .timeReqReceive ss _ => decide (ss < 8)
  | .timeRspReceive ss => decide (ss < 8)
  | .ppsInEdge d => decide (d < 4)
  | .ppsTimeout => true
  | .lrefclkLoss d => decide (d < 4)
  | .lrefclkReturn d => decide (d < 4)
  | .timeSample g _ => decide (g < 16)
  | .timeCmdReceive ss => decide (ss < 8)
  | .upTimeout => true
  | .lanternStepWrite who _ => decide (who < 13)
  | .lanternSetWrite who _ => decide (who < 13)
  | .stepApply d => decide (d < 4)
  | .ppsOutEdge d => decide (d < 4)
  | .ppsOutFall d => decide (d < 4)
  | .timeFrame g => decide (g < 64)
  | .lanternSourceWrite who _ => decide (who < 13)
  | .qclkFreqWrite who _ => decide (who < 13)
  | .tileDozeEntry t => decide (t < 256)
  | .tileNapEntry t => decide (t < 256)
  | .tileOffEntry t => decide (t < 256)
  | .tileWake t => decide (t < 256)
  | .tileWakeDone t => decide (t < 256)
  | .pdAckChange k => k.wf
  | .pcT3Req t _ => decide (t < 256)
  | .pcUqReq _ => true
  | .tileHoldWrite who t _ => decide (who < 13) && decide (t < 256)
  | .tileDeepestWrite who t _ => decide (who < 13) && decide (t < 256)
  | .fabricModeWrite who _ => decide (who < 13)
  | .qpllPark q => decide (q < 16)
  | .qpllRelockDone q => decide (q < 16)
  | .qpllHoldWrite who q _ => decide (who < 13) && decide (q < 16)
  | .cdcIdleEvent x _ => x.wf
  | .cdcTimeout (x, _) => x.wf
  | .cdcReleaseDone x => x.wf
  | .peerResetReceive x => x.wf
  | .resetAckReceive x => x.wf
  | .guyFrameClaim tag _ _ => decide (tag < 13)
  | .guyBcast tag d _ => decide (tag < 13) && decide (d < 4)
  | .guyRespReturn tag _ => decide (tag < 13)
  | .guyTimeout tag => decide (tag < 13)
  | .guyBreak ss => decide (ss < 8)
  | .stationBypassChange t => decide (t < 256)
  | .mapBusWrite off size _ _ _ => decide (off < 2 ^ 16) && decide (size < 4)
  | .mapKeyWrite _ => true
  | .mapCrcRefWrite _ => true
  | .mapCrcRestart _ => true
  | .mapResetTile num _ => decide (num < 256)
  | .mapResetQuadrant num _ => decide (num < 16)
  | .mapResetDie num _ => decide (num < 4)
  | .mapResetInstance num _ => decide (num < 1)
  | .mapFltFirstClear _ => true
  | .mapFltPendClear _ _ => true
  | .mapFltForce _ => true
  | .mbxRead m cmd => decide (m < 4) && decide (cmd < 2 ^ 32)
  | .mbxWrite m cmd => decide (m < 4) && decide (cmd < 2 ^ 32)
  | .mbxWriteSeg m cmd => decide (m < 4) && decide (cmd < 2 ^ 32)
  | .mbxInvalidOp m cmd => decide (m < 4) && decide (cmd < 2 ^ 32)
  | .mbxComplete m => decide (m < 8)
  | .mbxTimeout m => decide (m < 8)
  | .scrubPassComplete d _ _ => decide (d < 4)
  | .wardenWdog addr => decide (addr < 2 ^ 32)
  | .wardenRemapWrite who _ => decide (who < 13)
  | .xbarTransfer n offers _ _ _ => decide (n < 6) && offers.all XOffer.wf
  | .xbarTimeout n => decide (n < 6)
  | .ticketSubmit who _ => decide (who < 13)
  | .ticketVerifyDone => true
  | .debugTicketExpiry => true
  | .sealBurnWrite who _ => decide (who < 13)
  | .sealBurnDone _ => true
  | .otpProgramWrite who _ => decide (who < 13)
  | .otpProgramDone _ => true
  | .otpCmdProgram _ => true
  | .veHashStart => true
  | .veHashFinish => true
  | .veVerify => true
  | .veNonceDraw => true
  | .veDataWrite _ => true
  | .veOpComplete _ _ => true
  | .bootDefaultMode => true
  | .faultFirstClear who sc num _ _ => decide (who < 13) && scopeWf sc num
  | .faultPendClear who sc num _ _ _ => decide (who < 13) && scopeWf sc num
  | .faultOvfClear who sc num _ _ => decide (who < 13) && scopeWf sc num
  | .faultForce who sc num _ _ => decide (who < 13) && scopeWf sc num
  | .rstColdAssert => true
  | .rstColdRelease _ => true
  | .rstWarmAssert => true
  | .rstWarmRelease => true
  | .resetEnd sc num => scopeWf sc num
  | .vddAoLoss d => decide (d < 4)
  | .cntEventWrite who t k _ => decide (who < 13) && decide (t < 256) && decide (k < 8)
  | .cntValueWrite who t k _ => decide (who < 13) && decide (t < 256) && decide (k < 8)
  | .snapshotAtWrite who tm => decide (who < 13) && decide (tm < 2 ^ 80)
  | .snapshotTake => true
  | .snapshotTaken => true
  | .collectStart => true
  | .collectComplete => true
  | .collectPeriodWrite who _ => decide (who < 13)
  | .traceRecordWrite t => decide (t < 256)
  | .traceClearWrite who _ => decide (who < 13)
  | .mapBusAccess _ off size _ _ _ => decide (off < 2 ^ 16) && decide (size < 4)
  | .debugAccess _ addr size blen _ => decide (addr < 2 ^ 32) && decide (size < 4) && decide (blen < 16)
  | .spResetRelease d => decide (d < 4)
  | .rxlosFall ss c _ => decide (ss < 8) && decide (c < 8)
  | .seamTrainMessage ss => decide (ss < 8)
  | .vddAoReturn d => decide (d < 4)

end Sys2Proof
end

