-- ==== Sys2Proof/Machine/Pins.lean ====
section
/-! DEFINITION. Pins: the levels of the output pins that the state decides (R432, R576, R614, R615, R625, R629 to R633, R641 to
R644). The pins of the power handshakes, of the ports and of the seams are the fields of the units that drive them. -/

namespace Sys2Proof.Machine

/-- RST_ACTIVE_N of a die (R625): low while a reset of DIE or INSTANCE scope that includes the die is in progress. -/
def Fab.rstActiveN (f : Fab) (d : Nat) : Bool := !f.rsts.any (fun r => r.sc == .inst || (r.sc == .die && r.num == d))
/-- XN_STRAP_ERR of a die (R613 to R615). -/
def Fab.xnStrapErr (f : Fab) (d : Nat) : Bool := d == 0 && f.map.strapErr

/-- Die whose pins carry the line of a family (R631). -/
def lineDie (key : Nat) : Nat :=
  let n := key % 256
  match key / 256 with
  | 1 => n | 8 => n | 3 => dieOf n | 4 => sideDie n | 5 => dieOf (skTile n) | 6 => dieOf (spTile n) | 7 => dieOf (cmnTile n)
  | _ => 0
/-- The interrupt line of a family (R576, R631, R632): low on a die without VDD_AO (R644). -/
def Fab.intLine (f : Fab) (key : Nat) : Bool := (f.fam key).line && (f.die (lineDie key)).ao

/-! ## The EAP (R134, R138, R148, R156) -/

/-- E_ICRED in the last ECLK cycle that returned a credit; zero while the edge NI is in reset. -/
def Fab.eIcredPin (f : Fab) (t : Nat) : Nat := if f.tileOut t then 0 else (f.ni t).eICred
/-- E_TGNT_V, E_TGNT_P and E_TGNT: the tag that the last TAG_GRANT granted, and whether it is of the snoop pool (R155). -/
def Fab.eTgntPins (f : Fab) (t : Nat) : Bool × Bool × Nat :=
  match (f.ni t).tgnt with
  | some k => if f.tileOut t then (false, false, 0) else (true, decide (2000 ≤ k), k)
  | none => (false, false, 0)
/-- The egress signals of an EAP in one ECLK cycle. -/
structure EgressBeat where
  /-- E_VALID -/
  valid : Bool
  /-- E_DATA -/
  data : Nat
  /-- E_MC -/
  mc : Nat
  /-- E_FIRST -/
  first : Bool
  /-- E_LAST -/
  last : Bool
  /-- E_PSN -/
  psn : Bool
  /-- E_PAR -/
  par : Nat
  deriving DecidableEq, Repr
/-- The egress signals in the `k`-th ECLK cycle after the head beat of the packet delivered last: its beats stand on
consecutive cycles (R140), each with its parity (R138); otherwise, and in reset, every signal has its reset value. -/
def Fab.eBeat (f : Fab) (t k : Nat) : EgressBeat :=
  let p := (f.ni t).eOut
  match p[k]? with
  | some x =>
    if f.tileOut t then ⟨false, 0, 0, false, false, false, 0⟩
    else ⟨true, x.data.toNat, mcOf p, k == 0, k + 1 == p.length, x.psn, parity640 x.data.toNat⟩
  | none => ⟨false, 0, 0, false, false, false, 0⟩

/-! ## Service ports (R256, R257) -/

/-- SPd_UP_V, SPd_UP_HEAD, SPd_UP_W and SPd_UP_PAR in the `k`-th SPCLK cycle after the head word of the response message
sent last. -/
def Fab.spUpPins (f : Fab) (d k : Nat) : Bool × Bool × Nat × Nat :=
  match (f.spOf d).upOut[k]? with
  | some w => if f.spInReset d then (false, false, 0, 0) else (true, k == 0, w % 2 ^ 144, spParity w)
  | none => (false, false, 0, 0)

/-! ## Sidebands (R480, R636) -/

/-- The characters on SBs_TXC_1 that carry a message of seam-side `ss`, at the running disparity of the lane. -/
def Fab.sbTx (f : Fab) (ss : Nat) (m : SbMsg) : List Nat := (encodeChars (f.sideOf ss).rd1 m.chars).1
/-- The characters on SBs_TXC_0 that carry a Guyline frame: K28.7, its bytes, and K29.7 (R480). -/
def Fab.sbGuyline (f : Fab) (ss tag : Nat) (x : GFrame) : List Nat :=
  (encodeChars (f.sideOf ss).rd0 (kChar 28 7 :: dataChars (x.wire tag) (x.wireLen) ++ [kChar 29 7])).1
/-- The character on lane `j` of an idle sideband: the comma (R401). -/
def Fab.sbIdle (f : Fab) (ss j : Nat) : Nat :=
  (encode10 (if j = 0 then (f.sideOf ss).rd0 else (f.sideOf ss).rd1) comma).1

/-! ## Other pins -/

/-- PPS_OUT of a die (R432, R433, R633): low in a cold reset and without VDD_AO (R644). -/
def Fab.ppsOutPin (f : Fab) (d : Nat) : Bool := (f.lantern d).ppsOut.isSome && (f.die d).ao && !f.coldRuns

/-- DBG_AREADY (R630, R643): low during an instance reset, while a transfer of the port is outstanding or its response has
not transferred, and with the UNIQUE domain off. -/
def Fab.dbgReady (f : Fab) : Bool :=
  !f.mapHeld && (f.die 0).uqAck && (f.xb.wait.lookup 2).isNone && !f.xb.busy.any (fun kv => kv.2.master == 2)

end Sys2Proof.Machine
end

