-- ==== Sys2Proof/Safety.lean ====
section
/-! DEFINITION. Safety: the properties of states in which claims are stated: canonical memories, one-time storage that only
gains bits (R539), and the shape of a queue. -/

namespace Sys2Proof.Machine

/-- The byte memories of the block are in canonical form: every Commons bank, and the Warden SRAM. -/
def Fab.memoriesWf (f : Fab) : Bool :=
  f.cmn.all (fun kv => SMap.wf emptyByte kv.2.mem) && SMap.wf emptyByte f.wd.sram

/-- Every bit of one-time storage that reads 1 in `a` reads 1 in `b` (R539). -/
def Otp.keepsBits (a b : Otp) : Prop := ∀ w k, (a.word w).testBit k = true → (b.word w).testBit k = true

/-- Every word of one-time storage is a word of 32 bits (R558, R564). -/
def Otp.wordsOk (o : Otp) : Prop := ∀ w, o.word w < 2 ^ 32

/-- Every command that waits is well formed. -/
def State.queueWf (s : State) : Bool := s.pending.all Instr.wf

end Sys2Proof.Machine
end

