-- ==== Sys2Proof/Certificates/Slice0/Obligations.lean ====
section
/-! DEFINITION. Obligations: the statements about the model. -/

open Sys2Proof Sys2Proof.Machine

/-- A step with a command waiting runs the front command on the state with the rest of the queue. -/
def Obligations.StepRunsFront : Prop :=
  ∀ (c : Instr) (s : State), step { s with pending := c :: s.pending } = exec c s

/-- The queue is first in, first out: no command changes the rest of the queue, so that a step that goes on leaves
exactly the commands behind the front one; with nothing waiting one LCLK cycle of 2 ns passes (the model's choice, log
22), which changes nothing but the Lanterns. Every command of the table completes, in every state and on all operands,
but VDD_AO_LOSS: that one completes when its die has no VDD_AO left to lose, when RST_COLD_N is low, or when no other
die has VDD_AO (R644, R645). -/
def Obligations.QueueFirstInFirstOut : Prop :=
  (∀ (c : Instr) (s : State), (∀ d, c = .vddAoLoss d → d < 4 → (s.fab.die d).ao = true → s.fab.coldLow = false →
    ∀ e, e < 4 → e ≠ d → (s.fab.die e).ao = false) → ∃ t, exec c s = .next t ∧ t.pending = s.pending) ∧
  (∀ (c : Instr) (s t : State), exec c s = .next t → t.pending = s.pending) ∧
  (∀ (c : Instr) (rest : List Instr) (f : Fab) (t : State), step ⟨c :: rest, f⟩ = .next t → t.pending = rest) ∧
  (∀ (f : Fab), ∃ g : Fab, step ⟨[], f⟩ = .next ⟨[], g⟩ ∧ g = { f with lan := g.lan })

/-- R126, R187, R223, R232, R408, R417, R438, R490, R493, R506, R507, R526, R544, R550, R646: what the model's reset
state holds, the moment at which a cold instance reset has ended (the model's choice, log 20): no command waits, no
table has an entry, nothing is staged, every tile runs, D0's Lantern is free and the others acquire, the lock of the
MAP is closed and its scrubbers run with FIX, no reference is valid, no mailbox is busy, no ticket has been accepted,
and the boot window is open. The memories and one-time storage are in the form that every step keeps. -/
def Obligations.ResetState : Prop :=
  State.reset.pending = [] ∧ (∀ d e, (State.reset.fab.copyOf d).entry e = 0 ∧ (State.reset.fab.copyOf d).route e = 0) ∧
  State.reset.fab.bind.stage = [] ∧ (∀ t, t < 256 → (State.reset.fab.tile t).st = .t0) ∧
  (State.reset.fab.lantern 0).st = .free ∧ (∀ d, 0 < d → d < 4 → (State.reset.fab.lantern d).st = .acquire) ∧
  (∀ d, d < 4 → State.reset.fab.dieTime d = 0 ∧ State.reset.fab.dieLive d = true) ∧
  State.reset.fab.map.lock = false ∧ State.reset.fab.map.run = true ∧ State.reset.fab.map.fix = true ∧
  State.reset.fab.map.refValid = false ∧ (∀ m, (State.reset.fab.mbxOf m).op = none) ∧
  State.reset.fab.oI O.TICKET_COUNTER = 0 ∧ State.reset.fab.oI O.TICKET_STATE = 0 ∧ State.reset.fab.boot = true ∧
  State.reset.fab.otp.valid 0 = true ∧ State.reset.fab.otp.isSealed = false ∧
  State.reset.fab.memoriesWf = true ∧ State.reset.fab.otp.wordsOk

/-- R539, R565: no step clears a bit of one-time storage, whatever the command and whatever the state, and its words
stay words of 32 bits. No operation and no reset can therefore remove the seal. -/
def Obligations.OneTimeStorageOnlyGains : Prop :=
  ∀ (s t : State), step s = .next t →
    Otp.keepsBits s.fab.otp t.fab.otp ∧ (s.fab.otp.wordsOk → t.fab.otp.wordsOk)

/-- Every step keeps the byte memories, the Commons banks and the Warden SRAM, in canonical form: addresses strictly
rising, and no entry that equals what an unlisted address reads as. -/
def Obligations.MemoriesKeepForm : Prop :=
  ∀ (s t : State), step s = .next t → s.fab.memoriesWf = true → t.fab.memoriesWf = true

/-- R58, R93: the oldest phit on the way to an input of a tile in T0 whose input VCs have room leaves the wire, and
each of its flits is taken by the rule of R58: a clean or corrected flit joins its input VC as it came, an
uncorrectable continuation flit joins it poisoned and raises nothing, an uncorrectable head is discarded. R97, R99: behind
a seam a flit that leaves the landing buffer starts its credit return, but for one that a reset of the peer left there
without a credit, and a VC without room holds back its own flits alone. R57, R111, R114, R115, R118: what the events at a
router's links do. A credit return adds one credit to its VC (at a seam port it frees one entry, and a shared one returns
to the pool); a head that lost allocation for AGE_LIMIT cycles becomes aged; a rise of AWAKE ends KNOCK and loads the
credits that are owed; an output that has knocked for KNOCK_LIMIT is DEAD, loses its packets in passage and raises
OUTPUT_DEAD, whether or not another output is DEAD (the clock of KNOCK_LIMIT is the model's choice, log 68); a knock wakes
a tile that sleeps. -/
def Obligations.RouterArrival : Prop :=
  ((∀ (s : State) (t p vc : Nat) (x : Flit) (rest : List (List (Nat × Flit))) (ea eb : Lchk), seamPort t p = none →
    s.fab.wireOf t p = [(vc, x)] :: rest → (s.fab.tile t).st = .t0 → (s.fab.invc t p vc).fifo.length < 4 →
    exec (.routerFlitReceive t p ea eb) s = .next (s.onFab (fun f =>
      (f.setWire t p rest).takeSlot t p 0 (vc, x) ea))) ∧
  (∀ (s : State) (t p va vb : Nat) (x y : Flit) (rest : List (List (Nat × Flit))) (ea eb : Lchk), seamPort t p = none →
    s.fab.wireOf t p = [(va, x), (vb, y)] :: rest → (s.fab.tile t).st = .t0 →
    (s.fab.invc t p va).fifo.length < (if va = vb then 3 else 4) → (s.fab.invc t p vb).fifo.length < 4 →
    exec (.routerFlitReceive t p ea eb) s = .next (s.onFab (fun f =>
      ((f.setWire t p rest).takeSlot t p 0 (va, x) ea).takeSlot t p 1 (vb, y) eb))) ∧
  (∀ (s : State) (t p ss c vc : Nat) (x : Flit) (ea eb : Lchk), seamPort t p = some (ss, c) →
    s.fab.wireOf t p = [[(vc, x)]] → (s.fab.tile t).st = .t0 → (s.fab.invc t p vc).fifo.length < 4 → ∃ old,
    old = (s.fab.xs ss c).stale ∧
    exec (.routerFlitReceive t p ea eb) s = .next (s.onFab (fun f =>
      let g := ((f.setWire t p []).takeSlot t p 0 (vc, x) ea).modX ss c (fun x => { x with
        stale := x.stale - if 0 < old then 1 else 0 })
      if 0 < old then g else g.seamCredit ss c vc))) ∧
  (∀ (room : Nat → Nat) (pre post : List (Nat × Flit)) (vc : Nat) (x : Flit), (∀ y ∈ pre, room y.1 = 0) → 0 < room vc →
    (landingPick 2 room [] 0 (pre ++ (vc, x) :: post)).1.head? = some (pre.length, vc, x)) ∧
  (∀ (f : Fab) (t p slot vc : Nat) (x : Flit), ((f.invc t p vc).drop = false ∨ x.first = true) →
    ((f.takeSlot t p slot (vc, x) .clean).invc t p vc).fifo = (f.invc t p vc).fifo ++ [x] ∧
    ((f.takeSlot t p slot (vc, x) .corrected).invc t p vc).fifo = (f.invc t p vc).fifo ++ [x] ∧
    ∀ syn, ((f.takeSlot t p slot (vc, x) (.uncorrectable syn)).invc t p vc).fifo =
      (f.invc t p vc).fifo ++ if x.first then [] else [{ x with psn := true }]) ∧
  (∀ (f : Fab) (t p slot vc syn key : Nat) (x : Flit), x.first = false →
    (f.takeSlot t p slot (vc, x) (.uncorrectable syn)).fam key = f.fam key)) ∧
  ((∀ (s : State) (t snd vc : Nat) (rest : List Nat),
    (s.fab.tile t).cret.get (fun _ => []) snd = vc :: rest → (s.fab.out t snd).owed = false →
    exec (.creditReturn t snd) s = .next (s.onFab (fun f =>
      (f.modTile t (fun x => { x with cret := x.cret.set (fun _ => []) snd rest })).modOut t snd (fun o =>
        if snd < 8 ∧ isSeam t snd = true then
          { o with pool := if 1 < o.cred.getD vc 0 then o.pool + 1 else o.pool, cred := modAt o.cred vc (· - 1) }
        else { o with cred := modAt o.cred vc (fun c => min 4 (c + 1)) })))) ∧
  (∀ (s : State) (t p vc : Nat), (s.fab.invc t p vc).route = none → (s.fab.invc t p vc).fifo ≠ [] →
    s.fab.oD (dieOf t) O.AGE_LIMIT ≤ (s.fab.invc t p vc).lost →
    exec (.headAged t p vc) s = .next (s.onFab (fun f => f.modIn t p vc (fun v => { v with aged := true })))) ∧
  (∀ (s : State) (t p : Nat), (s.fab.out t p).awake = false → s.fab.receiverAwake t p = true →
    s.fab.qclkRuns t = true → (s.fab.tile t).st = .t0 → (s.fab.out t p).dead = false →
    exec (.awakeRise t p) s = .next (s.onFab (fun f => f.modOut t p (fun o =>
      if o.owed then
        { o with awake := true, knock := none, dead := false, owed := false,
                 cred := List.replicate 16 (if p < 8 ∧ isSeam t p = true then 0 else 4),
                 pool := if p < 8 ∧ isSeam t p = true then 80 else 0 }
      else { o with awake := true, knock := none, dead := false })))) ∧
  (∀ (s : State) (t p k : Nat), p < 8 → (s.fab.out t p).knock = some k → (s.fab.out t p).dead = false →
    (s.fab.out t p).awake = false → k + us (s.fab.oD (dieOf t) O.KNOCK_LIMIT) ≤ s.fab.time t →
    exec (.outputDead t p) s = .next (s.onFab (fun f =>
      ((f.modOut t p (fun o => { o with dead := true })).cutOutput t p (fun f => f.bumpT t O.KNOCK_DISCARD)).raiseMore
        (famKey .tile t) 5 p (k / 65536) 0))) ∧
  (∀ (s : State) (t p : Nat), s.fab.knocked t p = true →
    ((s.fab.tile t).asleep = true ∨ ((s.fab.tile t).st = .t0 ∧ s.fab.qclkRuns t = false)) →
    exec (.knockReceived t p) s = .next (s.onFab (fun f => f.startWake t))))

/-- R109, R301, R307, R593: a QCLK cycle of a tile in T0 is one pass of injection, ejection, route selection and
allocation, after which every scheduler of the tile may select again; in T1 only the counters run. Either way the router's
cycle ends with CYC one higher, modulo 2^64, and with no event left over for the next cycle; a tile whose quadrant has no
QCLK has no cycle. -/
def Obligations.SwitchCycle : Prop :=
  (∀ (s : State) (t : Nat) (links : List (Nat × Lchk)), s.fab.qclkRuns t = true → (s.fab.tile t).st = .t0 →
    exec (.switchAllocation (t, links)) s = .next (s.onFab (fun f => (f.routerCycle t links).schedCycle t))) ∧
  (∀ (s : State) (t : Nat) (links : List (Nat × Lchk)), s.fab.qclkRuns t = true → (s.fab.tile t).st = .t1 → ∃ g : Fab,
    exec (.switchAllocation (t, links)) s = .next (s.onFab (fun _ => g)) ∧ g = s.fab.endCycle t ∧
    (g.tile t).cyc = ((s.fab.tile t).cyc + 1) % 2 ^ 64 ∧ (g.tile t).ev = []) ∧
  (∀ (s : State) (t : Nat) (links : List (Nat × Lchk)), s.fab.qclkRuns t = false →
    exec (.switchAllocation (t, links)) s = .next s) ∧
  (∀ (f : Fab) (t : Nat), ((f.schedCycle t).ni t).inj.picked = false ∧ ((f.schedCycle t).ni t).egr.picked = false) ∧
  (∀ (f : Fab) (t : Nat), ((f.endCycle t).tile t).cyc = ((f.tile t).cyc + 1) % 2 ^ 64 ∧
    ((f.endCycle t).tile t).ev = [])

/-- R109: in one cycle each router output grants at most two flits, and each router input supplies at most two,
whatever the state of the router and whatever the requests. -/
def Obligations.AllocationLimits : Prop :=
  ∀ (f : Fab) (t : Nat) (rs : List Req),
    (∀ p, ((f.allocate t rs).2.phits.getD p []).length ≤ 2) ∧ (∀ i, (f.allocate t rs).2.used.getD i 0 ≤ 2)

/-- R112: the smooth weighted round robin picks an eligible SC whose count, after every eligible SC has gained its
weight, is the largest; the pick then loses the sum of the weights, so that the counts keep their sum; the count of an
SC that is not eligible stays. -/
def Obligations.SmoothRoundRobin : Prop :=
  ∀ (w : Nat → Nat) (cur cur' : List Int) (elig : List Nat) (pick : Nat),
    elig.Nodup → (∀ s ∈ elig, s < cur.length) → smoothPick w cur elig = some (pick, cur') →
    pick ∈ elig ∧ cur'.sum = cur.sum ∧ cur'.length = cur.length ∧
    (∀ s ∈ elig, cur.getD s 0 + w s ≤ cur.getD pick 0 + w pick) ∧
    (∀ s, s ∉ elig → cur'.getD s 0 = cur.getD s 0) ∧
    (∀ s ∈ elig, s ≠ pick → cur'.getD s 0 = cur.getD s 0 + w s)

/-- R100, R108, R124: at every router the escape output of a packet for another tile is a connected port; the tile at
which it lands is nearer to the destination by 1 or by 4; and the escape channel that the packet takes there has a
higher rank. At the destination's tile the escape output is the destination's slot. Escape channels therefore form no
cycle. -/
def Obligations.EscapeRoutesRise : Prop :=
  ∀ (r dt ds : Nat), r < 256 → dt < 256 → ds < 2 →
    (r = dt → routeEscape r dt ds = pSlot0 + ds) ∧
    (r ≠ dt →
      let p := routeEscape r dt ds
      let n := tileAt (landing r p).1 (landing r p).2
      let far (a : Nat) : Nat := (delta (gxOf a) (gxOf dt)).natAbs + (delta (gyOf a) (gyOf dt)).natAbs
      p < 6 ∧ connected r p = true ∧ n < 256 ∧ (far n + 1 = far r ∨ far n + 4 = far r) ∧
        escapeRank r p < escapeRank n (routeEscape n dt ds))

/-- R138, R139, R146, R173, R184: a beat with good parity, of a class that has a credit, presented to an edge NI that
is awake in an epoch, takes one credit; a FIRST beat that is not LAST opens a packet, and one that is LAST as well
makes a whole packet that waits for its checks. A head beat whose parity fails drops its packet, counts it and raises
EDGE_PARITY. While E_FENCE is high a beat is ignored, and a FIRST beat counts one discarded packet. R148 to R152,
R154, R167 to R169, R171, R173, R174, R181: what the port controller's signals and the fence do. In an epoch each bit
of I_ECRED returns one egress credit of its class, up to 1,023, beyond which EDGE_CREDIT_OVF is raised; an epoch
begins with the staging shares of EDGE_ICRED as ingress credits and no egress credit; a change of I_LINK is counted,
and DOWN makes the port gone; a write of EDGE_FENCE sets or clears the latch, and setting it makes the port gone;
I_KNOCK on a sleeping tile wakes it; PORT_GONE ends the tags towards the gone port. -/
def Obligations.EdgeInterface : Prop :=
  ((∀ (s : State) (t mc : Nat) (data : BitVec 640) (psn : Bool), mc < 8 →
    s.fab.eFence t = false → (s.fab.ni t).epoch = true → s.fab.eAwake t = true → (s.fab.ni t).rx = none →
    0 < (s.fab.ni t).iCred.getD mc 0 →
    exec (.eapIngressBeat t data mc true false psn (parity640 data.toNat)) s = .next (s.onFab (fun f =>
      (f.modNi t (fun n => { n with iCred := modAt n.iCred mc (· - 1) })).modNi t (fun n =>
        { n with rx := some ⟨[⟨data, true, false, psn, 0⟩], mc, [], false, 1⟩ }))) ∧
    exec (.eapIngressBeat t data mc true true psn (parity640 data.toNat)) s = .next (s.onFab (fun f =>
      let q := (f.modNi t (fun n => { n with iCred := modAt n.iCred mc (· - 1) })).takeSeq (.ni t) 0
      q.1.modNi t (fun n => { n with
        rx := none, staged := n.staged ++ [⟨[⟨data, true, true, psn, 0⟩], mc, [], 0, q.2, true, []⟩] })))) ∧
  (∀ (s : State) (t mc par : Nat) (data : BitVec 640) (last psn : Bool), mc < 8 →
    s.fab.eFence t = false → (s.fab.ni t).epoch = true → s.fab.eAwake t = true → (s.fab.ni t).rx = none →
    0 < (s.fab.ni t).iCred.getD mc 0 → parityFails data.toNat par ≠ 0 →
    exec (.eapIngressBeat t data mc true last psn par) s = .next (s.onFab (fun f =>
      (((f.bumpT t O.EDGE_PARITY_CNT).raiseT t 7 (parityFails data.toNat par) (data.toNat % 2 ^ 64) 0).modNi t (fun n =>
        { n with iCred := modAt n.iCred mc (· - 1) })).dropRx t
        ⟨[⟨data, true, last, psn, 0⟩], mc, [], false, 1⟩ last))) ∧
  (∀ (s : State) (t mc par : Nat) (data : BitVec 640) (first last psn : Bool),
    s.fab.eFence t = true → s.fab.tileOut t = false →
    exec (.eapIngressBeat t data mc first last psn par) s =
      .next (s.onFab (fun f => if first then f.bumpT t O.EDGE_DOWN_DISCARD else f)))) ∧
  ((∀ (s : State) (t mask : Nat), (s.fab.ni t).epoch = true →
    exec (.eapCreditReturn t mask) s = .next (s.onFab (fun f =>
      (List.range 8).foldl (fun f mc =>
        if mask.testBit mc then
          (if 1023 ≤ (f.ni t).eCred.getD mc 0 then f.raiseT t 10 mc 0 0
           else f.modNi t (fun n => { n with
             eCred := modAt n.eCred mc (· + 1)
             eMax := modAt n.eMax mc (fun m => max m ((f.ni t).eCred.getD mc 0 + 1)) }))
        else f) f))) ∧
  (∀ (s : State) (t : Nat), (s.fab.ni t).epoch = false → s.fab.eReady t = true → (s.fab.ni t).link ≠ .down →
    ∃ g, exec (.eapEpochBegin t) s = .next ⟨s.pending, g⟩ ∧ g = { s.fab with tiles := g.tiles } ∧
      (g.ni t).epoch = true ∧ (g.ni t).gone = false ∧ (g.ni t).grantPos = 0 ∧
      (g.ni t).eCred = List.replicate 8 0 ∧
      (∀ mc, mc < 8 → (g.ni t).iCred.getD mc 0 = s.fab.oT t O.EDGE_ICRED (mc + 1) - (s.fab.ni t).stagingBusy mc) ∧
      (g.ni t).tags = (s.fab.ni t).tags ∧ ∀ u, u ≠ t → g.tile u = s.fab.tile u) ∧
  (∀ (s : State) (t code : Nat), (s.fab.ni t).link ≠ Link.ofCode (code % 4) → s.fab.tileOut t = false →
    exec (.iLinkChange t code) s = .next (s.onFab (fun f =>
      let g := (f.modNi t (fun n => { n with link := Link.ofCode (code % 4) })).bumpT t O.EDGE_LINK_CHANGES
      if code % 4 = 1 ∨ code % 4 = 2 then g else g.portBecomesGone t 0))) ∧
  (∀ (s : State) (who t v : Nat),
    exec (.edgeFenceWrite who t v) s = .next (s.onFab (fun f =>
      (if v = 0 then f.setO .tile t O.EDGE_FENCE 0 0
       else (f.setO .tile t O.EDGE_FENCE 0 1).portBecomesGone t 1).answer who 0))) ∧
  (∀ (s : State) (t : Nat), (s.fab.tile t).asleep = true →
    exec (.iKnock t) s = .next (s.onFab (fun f => (f.modNi t (fun n => { n with knock := true })).startWake t))) ∧
  (∀ (s : State) (t : Nat) (p : Packet), (s.fab.ni t).firstCtl opcPortEvent = some p → hdr p 128 8 = 1 →
    exec (.portGoneReceive t) s = .next (s.onFab (fun f => (f.takeCtl t opcPortEvent).portGoneAt t (hdr p 136 8)))))

/-- R91, R141, R142, R144, R158, R159, R183, R200, R205 to R210, R247, R297: the oldest staged packet of a class with no
fetch under way leaves staging's list and is checked. One that meets a condition of R91 or R183 is dropped as malformed;
one that meets none takes PROV from EDGE_PROV and its place in the order of joining, a request uses its grant, and the
packet goes the way of its opcode: a response to the tile and slot it names, a FAM-routed packet to its lens lookup, any
other to the Port Route Table. The oldest fetch that returns is decided by what it found, and installed only when the lens
is enabled and no commit has taken effect since the lookup; one that met an uncorrectable word raises FAM_UE and is
answered as poisoned. -/
def Obligations.IngressChecks : Prop :=
  (∀ (s : State) (t : Nat) (ue : Bool) (x : Staged), (s.fab.ni t).nextStaged = some x → (s.fab.tile t).st = .t0 →
    let f1 := s.fab.modNi t (fun n => { n with staged := dropFirst (fun y => y.seq == x.seq) n.staged })
    (∀ code, f1.badForm t x = some code →
      exec (.ingressPacketCheck t .clean ue) s = .next { s with
        fab := (f1.malformed t (headOf x.pkt) x.pkt.length code).dropStaged t x }) ∧
    (∀ (r : OpRow) (sx : Fab × Staged), f1.badForm t x = none →
      sx = f1.stamp t { x with
        pkt := mapHead (fun h => h.put 64 12 (f1.oT t O.EDGE_PROV)) x.pkt, look := f1.time t } →
      opRow (mcOf sx.2.pkt) (opcOf sx.2.pkt) = some r → ∃ g : Fab, g = sx.1.claimTag t sx.2.pkt ∧
      exec (.ingressPacketCheck t .clean ue) s = .next { s with
        fab := if r.route = .response then g.responseReady t sx.2
          else if r.route = .fam ∨ (r.route = .famOrPbr ∧ hdr sx.2.pkt 17 1 ≠ 1) then g.famLookup t sx.2 ue
          else g.pbrDecide t sx.2 ue })) ∧
  (∀ (s : State) (t : Nat) (bad : List (Nat × Nat)) (x : Staged) (rest : List Staged) (sx : Fab × Staged),
    (s.fab.ni t).fetch = x :: rest →
    sx = (s.fab.modNi t (fun n => { n.lensSettle (s.fab.time t) with fetch := rest })).stamp t x →
    (famBad bad x.res = none → exec (.famFetchReturn t bad) s = .next { s with
      fab := (if (sx.1.ni t).lensOn = true ∧ (sx.1.ni t).commitT ≤ x.look then
          sx.1.modNi t (fun n => (x.res.filter (fun l => decide (l.idx < 2 ^ 20))).foldl (fun n l => n.lensInstall l) n)
        else sx.1).famDecide t sx.2 (some x.mc) x.res }) ∧
    (∀ info, famBad bad x.res = some info → exec (.famFetchReturn t bad) s = .next { s with
      fab := ((sx.1.famUe (dieOf t) info).bumpT t O.ABSENT_CNT).poisonAnswer t sx.2 (some x.mc) (answerSc x.pkt) }))

/-- R151, R212, R213, R234: the oldest violating request that waits enters a violation queue that has room, its
flits freed if they are in staging and its floor counted from its lookup; the oldest answer whose floor has passed leaves the
violation queue and goes to the front of its egress FIFO; the oldest request held in staging enters a hold queue that
has room. In a service-port NI the same queues hold accesses in place of packets. -/
def Obligations.EdgeQueues : Prop :=
  (∀ (s : State) (t : Nat) (x : Staged) (rest : List Staged), (s.fab.ni t).waitV = x :: rest →
    (s.fab.ni t).violQ.length < 32 →
    let parts := answerParts .violation x.pkt
    exec (.violationQueueEnter false t) s = .next (s.onFab (fun f =>
      (if x.inStg = true then f.stgFree t x.mc x.pkt.length else f).modNi t (fun n => { n with
        waitV := rest
        violQ := n.violQ ++ [⟨answerPackets parts x.pkt (t, 0) (scOf x.pkt) 0 0 parts.length false,
          x.look + ns (f.oD (dieOf t) O.VIOLATION_FLOOR), tagOf x.pkt⟩] })))) ∧
  (∀ (s : State) (d : Nat) (x) (rest), (s.fab.spOf d).violW = x :: rest → (s.fab.spOf d).violQ.length < 32 →
    exec (.violationQueueEnter true d) s = .next (s.onFab (fun f =>
      f.modSp d (fun n => { n with violW := rest, violQ := n.violQ ++ [x] })))) ∧
  (∀ (s : State) (t : Nat) (v : ViolEnt),
    (s.fab.ni t).violQ.find? (fun v => decide (v.due ≤ s.fab.time t)) = some v →
    exec (.violationAnswerRelease false t) s = .next (s.onFab (fun f =>
      (f.modNi t (fun n => { n with violQ := dropFirst (fun x => x == v) n.violQ })).answerFront t v.parts))) ∧
  (∀ (s : State) (d : Nat) (v), (s.fab.spOf d).violQ.find? (fun v => decide (v.2 ≤ s.fab.time (spTile d))) = some v →
    exec (.violationAnswerRelease true d) s = .next (s.onFab (fun f => f.spComplete d v.1 0 false))) ∧
  (∀ (s : State) (t : Nat) (x : Staged) (rest : List Staged), (s.fab.ni t).waitH = x :: rest →
    (s.fab.ni t).holdRoom x = true →
    exec (.holdQueueEnter false t) s = .next (s.onFab (fun f =>
      let g := ((f.modNi t (fun n => { n with waitH := rest })).stgFree t x.mc x.pkt.length).modNi t (fun n =>
        { n with holdQ := n.holdQ ++ [{ x with inStg := false }] })
      g.peak .tile t O.HOLD_PEAK (g.ni t).holdQ.length))) ∧
  (∀ (s : State) (d k : Nat) (rest : List Nat), (s.fab.spOf d).holdW = k :: rest → s.fab.spHoldRoom d k = true →
    exec (.holdQueueEnter true d) s = .next (s.onFab (fun f =>
      let g := f.modSp d (fun n => { n with holdW := rest, holdQ := n.holdQ ++ [k] })
      g.peak .sp d O.HOLD_PEAK (g.spOf d).holdQ.length)))

/-- R69, R82, R122, R140, R297, R299, R301: an injection or egress scheduler that finds an eligible head takes it: an
edge NI's injection of a packet on its VC, a service-port NI's injection, a delivery on the EAP against the packet's
credits, a service-port NI's message for its up stream; a scheduler that has selected in this cycle selects nothing more.
R88, R248: another SC queue than SC4 offers nothing while it holds a packet for a FLUSH, nor a packet that R88 guards while
a FLUSH to its tile is on its way. A complete packet in egress storage whose length agrees with
LEN and whose HCHK is clean is handled by its kind; one whose length disagrees is discarded, counted and raises
PKT_TRUNCATED. A response is accepted against an outstanding tag that awaits a part from its sender. -/
def Obligations.EdgeSelections : Prop :=
  (∀ (s : State) (t : Nat) (f1 f2 : Fab) (e : QPkt), f1 = s.fab.beginFlush t → (f1.tile t).st = .t0 →
    supply (f1.ni t).prog (f1.out t sndNi) < 2 → f1.selectPkt (.ni t) 0 (f1.injectOk t) = (f2, some e) →
    ∃ r, r = f2.injected t e ∧
    exec (.injectionSelect false t none) s = .next { s with
      fab := r.1.modNi t (fun n => { n with
        prog := SMap.insert n.prog (vcOf (mcOf r.2) (isPinned r.2 || f1.oD (dieOf t) O.ROUTE_MODE == 1))
          ⟨r.2, e.stg, false, scOf r.2⟩ }) }) ∧
  (∀ (f : Fab) (t sc mc : Nat) (e : QPkt), sc ≠ 4 → f.fenceOk t sc mc e = true →
    (f.ni t).holdAt sc = none ∧
      (isGuarded e.pkt = true → e.flushed = false → ∀ h ∈ (f.ni t).flush, h.dest.1 ≠ destTile e.pkt)) ∧
  (∀ (s : State) (d : Nat) (f2 : Fab) (e : QPkt), (s.fab.tile (spTile d)).st = .t0 →
    supply (s.fab.tile (spTile d)).uprog (s.fab.out (spTile d) sndUnit) < 2 →
    s.fab.selectPkt (.sp d) 0 (fun _ _ e => s.fab.injectOkSp d e) = (f2, some e) →
    exec (.injectionSelect true d none) s = .next { s with
      fab := f2.modTile (spTile d) (fun x => { x with
        uprog := SMap.insert x.uprog (vcOf (mcOf e.pkt) (isPinned e.pkt || s.fab.oD d O.ROUTE_MODE == 1))
          ⟨e.pkt, none, false, scOf e.pkt⟩ }) }) ∧
  (∀ (s : State) (t : Nat) (f2 : Fab) (e : QPkt), (s.fab.tile t).st = .t0 → (s.fab.ni t).eRest = 0 →
    s.fab.selectPkt (.ni t) 1 (fun _ mc e => isFlush e.pkt || ((s.fab.ni t).epoch && (s.fab.ni t).link != .down
      && decide (e.pkt.length ≤ (s.fab.ni t).eCred.getD mc 0))) = (f2, some e) →
    exec (.egressSelect false t none) s = .next { s with
      fab := if isFlush e.pkt then f2.flushDone t e.pkt else f2.eapDeliver t e.pkt }) ∧
  (∀ (s : State) (d k : Nat) (f2 : Fab) (e : QPkt) (m), (s.fab.tile (spTile d)).st = .t0 → (s.fab.spOf d).up = [] →
    s.fab.selectPkt (.sp d) 1 (fun _ _ e => match (s.fab.spOf d).msgs.find? (fun kv => kv.1 == tagOf e.pkt) with
      | some (_, m) => decide (m.2.size ≤ (s.fab.spOf d).upCred)
      | none => true) = (f2, some e) →
    (s.fab.spOf d).msgs.find? (fun kv => kv.1 == tagOf e.pkt) = some (k, m) →
    exec (.egressSelect true d none) s = .next { s with
      fab := f2.modSp d (fun n => { n with
        up := n.up ++ [m.2], msgs := SMap.erase n.msgs k, tags := n.tags.set (fun _ => Tag.reset) k Tag.reset }) }) ∧
  (∀ (f : Fab) (w : Who) (dir : Nat) (ok : Nat → Nat → QPkt → Bool), (f.sched w dir).picked = true →
    (f.selectPkt w dir ok).2 = none) ∧
  (∀ (s : State) (t vc : Nat) (p : Packet) (rest : List (Nat × Packet)), (s.fab.tile t).ej0.arr = (vc, p) :: rest →
    let f1 := s.fab.modTile t (fun x => { x with ej0 := { x.ej0 with arr := rest } })
    (p.length ≠ lenOf p → ∀ h e, exec (.egressPacketArrive t h e) s = .next { s with
      fab := ((f1.bumpT t O.TRUNCATED).raiseT t 4 (header p % 2 ^ 64) (lenOf p + p.length * 64) 0).hopRecord
        t 3 6 0 false 0 0 p }) ∧
    (p.length = lenOf p → exec (.egressPacketArrive t .clean .clean) s = .next { s with fab := f1.arrived t p })) ∧
  (∀ (s : State) (t : Nat) (p : Packet) (rest : List Packet), (s.fab.ni t).rspIn = p :: rest →
    (s.fab.tag t (tagOf p)).awaits = true → (s.fab.tag t (tagOf p)).tgt = some (srcTile p, srcSlot p) →
    isFlushDone p = false →
    exec (.responseArrive t) s = .next (s.onFab (fun f =>
      let f1 := f.modNi t (fun n => { n with rspIn := rest })
      (f1.setTag t (tagOf p) { f.tag t (tagOf p) with
        parts := some (partsOf p), got := (f.tag t (tagOf p)).got ++ [(mcOf p, opcOf p)] }).egressJoin t p)))

/-- R153, R156, R157, R163, R164, R172, R187, R270: in an epoch the next free tag of the opening sequence is granted,
the snoop pool first, and after the sequence any free grantable tag; grants resume when their time has come; a tag
that can expire and is past its deadline, or whose entry has an error, expires at its visit, in an edge NI and in a
service-port NI; a quarantined tag past its deadline is free at its visit; too few egress credits 4,096 ECLK cycles
into an epoch raise EDGE_CREDIT_LOW. -/
def Obligations.TransactionTags : Prop :=
  (∀ (s : State) (t k pos : Nat), (s.fab.ni t).epoch = true → (s.fab.ni t).noGrant = none → (s.fab.tile t).st = .t0 →
    (s.fab.ni t).nextOpening 2032 (s.fab.ni t).grantPos = some pos →
    ∃ g, exec (.tagGrant t k) s = .next ⟨s.pending, g⟩ ∧ g = { s.fab with tiles := g.tiles } ∧
      (g.tag t (openingTag pos)).st = .granted ∧ (g.ni t).tgnt = some (openingTag pos) ∧
      (g.ni t).grantPos = pos + 1 ∧ (∀ j, j ≠ openingTag pos → g.tag t j = s.fab.tag t j) ∧
      ∀ u, u ≠ t → g.tile u = s.fab.tile u) ∧
  (∀ (s : State) (t k : Nat), (s.fab.ni t).epoch = true → (s.fab.ni t).noGrant = none → (s.fab.tile t).st = .t0 →
    (s.fab.ni t).nextOpening 2032 (s.fab.ni t).grantPos = none → k < 2032 → (s.fab.tag t k).st = .free →
    ∃ g, exec (.tagGrant t k) s = .next ⟨s.pending, g⟩ ∧ g = { s.fab with tiles := g.tiles } ∧
      (g.tag t k).st = .granted ∧ (g.ni t).tgnt = some k ∧ (∀ j, j ≠ k → g.tag t j = s.fab.tag t j) ∧
      ∀ u, u ≠ t → g.tile u = s.fab.tile u) ∧
  (∀ (s : State) (t due : Nat), (s.fab.ni t).noGrant = some due → due ≤ s.fab.runN t →
    exec (.tagGrantResume t) s = .next (s.onFab (fun f => f.modNi t (fun n => { n with noGrant := none })))) ∧
  (∀ (s : State) (t k : Nat), (s.fab.tile t).st = .t0 → (s.fab.tag t k).expirable = true →
    (exec (.tagExpiry false t k true) s = .next (s.onFab (fun f =>
      (f.raiseT t 17 (4 + (k % 2 ^ 20) * 8) 0 0).expire t k))) ∧
    ((s.fab.tag t k).deadline ≤ s.fab.runN t →
      exec (.tagExpiry false t k false) s = .next (s.onFab (fun f => f.expire t k))) ∧
    (s.fab.runN t < (s.fab.tag t k).deadline → exec (.tagExpiry false t k false) s = .next s)) ∧
  (∀ (s : State) (d k : Nat), (s.fab.tile (spTile d)).st = .t0 → (s.fab.spTag d k).awaits = true →
    (exec (.tagExpiry true d k true) s = .next (s.onFab (fun f =>
      (f.raiseT (spTile d) 17 (4 + (k % 2 ^ 20) * 8) 0 0).spExpire d k))) ∧
    ((s.fab.spTag d k).deadline ≤ s.fab.runN (spTile d) →
      exec (.tagExpiry true d k false) s = .next (s.onFab (fun f => f.spExpire d k)))) ∧
  (∀ (s : State) (t k : Nat), (s.fab.tag t k).st = .quar → (s.fab.tile t).st = .t0 →
    (s.fab.tag t k).deadline ≤ s.fab.runN t →
    exec (.quarantineRelease t k) s = .next (s.onFab (fun f => f.setTag t k Tag.reset))) ∧
  (∀ (s : State) (t : Nat), (s.fab.ni t).epoch = true → (s.fab.ni t).lowJudged = false →
    let m := fun mc => (s.fab.ni t).eMax.getD mc 0
    exec (.edgeCreditLow t) s = .next (s.onFab (fun f =>
      let g := f.modNi t (fun n => { n with lowJudged := true })
      if m 1 < 52 ∨ m 3 < 52 ∨ m 6 < 52 ∨ m 7 < 52 then
        g.raiseT t 9 (m 1 + m 3 * 2 ^ 16 + m 6 * 2 ^ 32 + m 7 * 2 ^ 48) 0 0
      else g)))

/-- R190, R191, R196, R215, R217 to R223, R225, R226, R233: an unlocked GRANULE takes its value once and locks; a
write of a table element with no bar against it appends its records to the stage and to the overlay of every die and
answers OK; a write of a locked element by the debug master is recorded as a violation and answered DENIED, and any
other write of a locked element is denied; STAGE_CLEAR empties the stage and the overlays unless a commit is armed;
VIOL_CLEAR clears a violation record. -/
def Obligations.TableWrites : Prop :=
  (∀ (s : State) (who v : Nat), s.fab.bind.granLocked = false → v < 3 →
    exec (.granuleWrite who v) s = .next (s.onFab (fun f =>
      (((f.setO .inst 0 O.GRANULE 0 v).modBind (fun b => { b with granLocked := true })).shadowAll .inst 0 O.GRANULE 0
        v).answer who 0))) ∧
  (∀ (s : State) (who v : Nat), s.fab.bind.granLocked = true →
    exec (.granuleWrite who v) s = .next (s.onFab (fun f => f.answer who 2))) ∧
  (∀ (s : State) (who table elem v : Nat) (dbg : Bool), table < 3 →
    elem < (if table = 0 then 1048576 else 4096) → (∀ d, d < 4 → s.fab.bcastUp d = true) →
    (s.fab.locked table elem = false → s.fab.sealed = false → s.fab.bind.cst ≠ .armed →
      s.fab.bind.stage.length + (recordsOf table elem v).length ≤ 4096 → (table = 0 → s.fab.badEntry v = false) →
      exec (.tableElementWrite who dbg table elem v) s = .next (s.onFab (fun f =>
        (f.stageRecords (recordsOf table elem v)).answer who 0))) ∧
    (s.fab.locked table elem = true →
      exec (.tableElementWrite who false table elem v) s = .next (s.onFab (fun f => f.answer who 2)) ∧
      exec (.tableElementWrite who true table elem v) s = .next (s.onFab (fun f =>
        (f.violation .die 0 3 0 (1 + 8 * 5) 2 (elem + table * 2 ^ 24)).answer who 2)))) ∧
  (∀ (s : State) (who v : Nat), s.fab.sealed = false → s.fab.bind.cst ≠ .armed → v ≠ 0 →
    exec (.stageClearWrite who v) s = .next (s.onFab (fun f =>
      ((List.range 4).foldl (fun f d => f.modCopy d (fun c => { c with ovl := [] }))
        (f.modBind (fun b => { b with stage := [], cst := .idle }))).answer who 0))) ∧
  (∀ (s : State) (who v : Nat), s.fab.bind.cst = .armed →
    exec (.stageClearWrite who v) s = .next (s.onFab (fun f => f.answer who 2))) ∧
  (∀ (s : State) (who num v : Nat) (sc : Scope), (sc = .tile ∨ sc = .sp ∨ sc = .die) → num < sc.count → v ≠ 0 →
    exec (.violClearWrite who sc num v) s = .next (s.onFab (fun f =>
      (((((f.setO sc num O.VIOL_ADDR 1 0).setO sc num O.VIOL_KIND 2 0).setO sc num O.VIOL_MASTER 3 0).setO sc num
        O.VIOL_REGION 4 0).setO sc num O.VIOL_FLAGS 5 0).answer who 0)))

/-- R227 to R231: an accepted FAM_COMMIT arms the commit of a non-empty stage; a refused one is answered DENIED and
changes nothing else. LENS_INV loads T, enables the lens and is acknowledged; T of zero only withdraws. An
acknowledgement that is not the last is counted; at T minus 5 us a commit that some die has not loaded is abandoned,
any other proceeds with the NIs that have not acknowledged fenced. R430: each copy and each NI takes the commit at its own
Lantern time T, not before: from then on the copy's overlay is what lookups see first, the NI's lens is clear, and its
parked requests are looked up again; when all have taken it the commit is over and GRANULE is locked. R69: a LENS_ACK whose
header is uncorrectable is not counted. -/
def Obligations.Commits : Prop :=
  (∀ (s : State) (who tm : Nat),
    (s.fab.sealed = false → s.fab.bind.stage ≠ [] → s.fab.bind.cst ≠ .armed → s.fab.bind.dst ≠ .running →
      s.fab.dieTime 0 + us 20 ≤ tm → tm ≤ s.fab.dieTime 0 + ms 10000 →
      exec (.famCommitWrite who tm) s = .next (s.onFab (fun f => f.arm tm (some who)))) ∧
    ((s.fab.sealed = true ∨ s.fab.bind.stage = [] ∨ s.fab.bind.cst = .armed ∨ s.fab.bind.dst = .running ∨
      tm < s.fab.dieTime 0 + us 20 ∨ s.fab.dieTime 0 + ms 10000 < tm) →
      exec (.famCommitWrite who tm) s = .next (s.onFab (fun f => f.answer who 2)))) ∧
  (∀ (s : State) (t : Nat) (p : Packet), (s.fab.ni t).firstCtl opcLensInv = some p →
    exec (.lensInvReceive t) s = .next (s.onFab (fun f =>
      let g := (f.takeCtl t opcLensInv).modNi t (fun n => { n with
        lensOn := true, lensT := if hdr p 128 80 = 0 then none else some (hdr p 128 80),
        acked := decide (hdr p 128 80 ≠ 0) })
      if hdr p 128 80 = 0 then g
      else g.niSend t (drainDone t 1 0 (hdr p 208 8) 0 0 (g.oT t O.EDGE_PROV))))) ∧
  (∀ (s : State) (d : Nat) (f1 : Fab) (p : Packet), s.fab.takeDone d 1 = (f1, some p) → p.length = lenOf p →
    f1.bind.cst = .armed → hdr p 137 8 = (f1.bind.seq + 1) % 256 →
    exec (.lensAckReceive (d, .clean)) s = .next (s.onFab (fun _ =>
      let g := f1.modCopy d (fun c => { c with
        acks := if c.acks.contains (srcTile p) then c.acks else srcTile p :: c.acks })
      if (List.range 4).all (fun e => (g.copyOf e).t == some g.bind.t && (g.missing e).isEmpty) then g.endCommitOp 0
      else g))) ∧
  (∀ (s : State) (d syn : Nat) (f1 : Fab) (p : Packet), s.fab.takeDone d 1 = (f1, some p) → p.length = lenOf p →
    exec (.lensAckReceive (d, (.uncorrectable syn))) s = .next (s.onFab (fun _ =>
      (f1.raise (famKey .sp d) 4 (header p % 2 ^ 64) (header p / 2 ^ 64) (syn % 256)).hopRecord (spTile d) 3 7 0 false 0 0
        p))) ∧
  (∀ (s : State), s.fab.bind.cst = .armed → s.fab.bind.judged = false → s.fab.bind.t ≤ s.fab.dieTime 0 + us 5 →
    exec .commitJudge s = .next (s.onFab (fun f =>
      if (List.range 4).any (fun d => (f.copyOf d).t != some f.bind.t) then f.abandonCommit
      else (((List.range 4).foldl (fun f d => f.fenceMissing d) f).endCommitOp 0).modBind (fun b =>
        { b with judged := true })))) ∧
  (∀ (s : State) (u : Nat) (e : Ecc) (bad : List (Nat × Nat × Nat)), s.fab.bind.cst = .armed →
    s.fab.bind.judged = true → ∃ f1 f2 f3 f4 : Fab,
    f1 = (List.range 4).foldl (fun f d => f.takeCopy d s.fab.bind.t) s.fab ∧
    f2 = (if f1.niTook u s.fab.bind.t = true ∨ f1.time u < s.fab.bind.t then f1 else f1.holdError u e) ∧
    f3 = (List.range 256).foldl (fun f t => f.takeNi t s.fab.bind.t (badOf bad (dieOf t))) f2 ∧
    f4 = (List.range 4).foldl (fun f d => f.takeSp d s.fab.bind.t (badOf bad d)) f3 ∧
    (f4.commitTook s.fab.bind.t = false → exec (.commitTakeEffect u (e, bad)) s = .next (s.onFab (fun _ => f4))) ∧
    (f4.commitTook s.fab.bind.t = true → exec (.commitTakeEffect u (e, bad)) s = .next (s.onFab (fun _ =>
      (f4.modBind (fun b => { b with
        cst := .idle, stage := [], judged := false, tkt := none, last := s.fab.bind.t, seq := (b.seq + 1) % 256
        granLocked := true })).configChange)))) ∧
  (∀ (f : Fab) (d tm : Nat),
    ((f.copyOf d).t = some tm → tm ≤ f.dieTime d → f.takeCopy d tm = f.modCopy d (fun c =>
      { c.drain.foldl FamCopy.apply c with
        drain := (c.drain.foldl FamCopy.apply c).ovl, ovl := [], t := none, acks := [] })) ∧
    (f.dieTime d < tm → f.dieLive d = true → f.takeCopy d tm = f)) ∧
  (∀ (f : Fab) (t tm : Nat) (bad : List (Nat × Nat)),
    (f.time t < tm → f.takeNi t tm bad = f) ∧
    ((f.tile t).st = .t0 → tm ≤ f.time t → (f.ni t).commitT < tm → f.takeNi t tm bad =
      (f.modNi t (fun n => { n with lens := [], commitT := tm, lensT := none })).relook t tm bad))

/-- R238 to R241: a DRAIN write that nothing bars starts a drain of its tile: a mark for every edge NI waits in the
service ports, and each service-port NI marks its own tags; a second DRAIN write while one runs is denied. An edge NI
that receives a mark marks its tags outstanding towards the tile and reports at once when there are none; an NI whose
marked tags are all gone reports; a report with the drain's number is counted. -/
def Obligations.Drains : Prop :=
  (∀ (s : State) (who d : Nat), s.fab.bind.dst ≠ .running → s.fab.bind.cst ≠ .armed → d < 256 →
    exec (.drainWrite who d) s = .next (s.onFab (fun f =>
      let f := (f.modBind (fun b => { b with
        dst := .running, dtile := d, dseq := (b.dseq + 1) % 256, rep := [], exp := 0 })).drainJudge
      let f := (List.range 256).foldl (fun f t =>
        f.joinLast (.sp (dieOf t)) 0 (mkControl t 0 (spTile (dieOf t)) 1 opcDrainMark (f.o .sp (dieOf t) O.SP_PROV 0)
          (f.bind.dtile + f.bind.dseq * 2 ^ 8))) f
      let f := (List.range 4).foldl (fun f e =>
        let n := (tagsTowards (f.spOf e).tags d).length
        let f := f.modSp e (fun x => { x with tags := markTags x.tags d, drain := some ⟨d, f.bind.dseq, n, 0⟩ })
        if n = 0 then (f.modSp e (fun x => { x with drain := none })).drainReported (256 + e) 0 else f) f
      f.answer who 0))) ∧
  (∀ (s : State) (who d : Nat), (s.fab.bind.dst = .running ∨ s.fab.bind.cst = .armed) →
    exec (.drainWrite who d) s = .next (s.onFab (fun f => f.answer who 2))) ∧
  (∀ (s : State) (t : Nat) (p : Packet), (s.fab.ni t).firstCtl opcDrainMark = some p →
    (∀ m, (s.fab.ni t).drain = some m → m.seq ≠ hdr p 136 8) →
    exec (.drainMarkReceive t) s = .next (s.onFab (fun f =>
      let d := hdr p 128 8
      let g := f.takeCtl t opcDrainMark
      let n := (tagsTowards (g.ni t).tags d).length
      let h := g.modNi t (fun x => { x with tags := markTags x.tags d, drain := some ⟨d, hdr p 136 8, n, 0⟩ })
      if n = 0 then h.sendReport t ⟨d, hdr p 136 8, 0, 0⟩ else h))) ∧
  (∀ (s : State) (t : Nat) (m : DrainMark), (s.fab.ni t).drain = some m → markedOut (s.fab.ni t).tags = 0 →
    exec (.drainReport false t) s = .next (s.onFab (fun f =>
      (f.modNi t (fun n => { n with drain := none })).niSend t
        (drainDone t 0 m.tile m.seq m.marked m.expired (f.oT t O.EDGE_PROV))))) ∧
  (∀ (s : State) (d : Nat) (m : DrainMark), (s.fab.spOf d).drain = some m → markedOut (s.fab.spOf d).tags = 0 →
    exec (.drainReport true d) s = .next (s.onFab (fun f =>
      (f.modSp d (fun x => { x with drain := none })).drainReported (256 + d) m.expired))) ∧
  (∀ (s : State) (d : Nat) (f1 : Fab) (p : Packet), s.fab.takeDone d 0 = (f1, some p) → p.length = lenOf p →
    hdr p 137 8 = f1.bind.dseq →
    exec (.drainDoneReceive (d, .clean)) s = .next { s with fab := f1.drainReported (srcTile p) (hdr p 157 12) })

/-- R197, R198, R201, R203, R204: `check` answers a route only for an access that lies in one granule, whose index is
in the window, whose entry is VALID, whose group has the requester as a member and which grants it every right of its
opcode, with a TYPE and COH that the opcode may use; an access into a Commons bank lies within the bank's 512 KiB; and
TYPE is neither HELD nor ABSENT. -/
def Obligations.RoutedRequestsPassed : Prop :=
  ∀ (n : Need) (have_ g a z : Nat) (ls : List LensLine) (e i : Nat),
    ls.map (·.idx) = granules g a z → checkAll n have_ g a z ls = .route e i →
    ∃ l, ls = [l] ∧ l.entry = e ∧ l.idx = i ∧ i = a / 2 ^ g ∧ i = z / 2 ^ g ∧ i < 2 ^ 20 ∧ eValid e = true ∧
      l.member = true ∧ n.rights &&& (eRights e &&& have_) = n.rights ∧ (n.dev = true ∨ eType e = 0) ∧
      eCoh e ∈ n.coh ∧ (eType e = 0 ∨ eType e = 1) ∧
      (eSlot e = 1 → a % 2 ^ g ≤ 0x7FFFF ∧ z % 2 ^ g ≤ 0x7FFFF)

/-- R221, R223, R230: the end of the drain of a committed overlay into the banks of a die changes no FAM entry and no
Port Route Table element that a lookup on that die sees; the overlay is then empty, and the other dies' copies stay.
Among the records of an element the later one prevails. -/
def Obligations.OverlayDrainInvisible : Prop :=
  ∀ (s : State) (d : Nat), (∀ r ∈ (s.fab.copyOf d).drain, r.table < 3 ∧ (r.table ≠ tblShare → r.part = 0)) →
    ∃ g, exec (.overlayDrainDone d) s = .next ⟨s.pending, g⟩ ∧ g = { s.fab with copy := g.copy } ∧
      (g.copyOf d).drain = [] ∧ (∀ i, (g.copyOf d).entry i = (s.fab.copyOf d).entry i) ∧
      (∀ i, (g.copyOf d).route i = (s.fab.copyOf d).route i) ∧ ∀ e, e ≠ d → g.copyOf e = s.fab.copyOf e

/-- R257, R259, R261, R263: a down word presented against a credit enters the down buffer, a head word always and a
data word when it belongs to a message there; a data word that belongs to no message is dropped and raises
SP_MALFORMED; an up credit returns; the oldest response message goes out whole when credits cover its words; a message
with a reserved OP is refused with RESULT ERROR. -/
def Obligations.ServicePortStreams : Prop :=
  (∀ (s : State) (d w par : Nat), (s.fab.spOf d).ready = true → 0 < (s.fab.spOf d).dnCred →
    exec (.spDownWord d true w par) s = .next (s.onFab (fun f => f.modSp d (fun n => { n with
      dn := n.dn ++ [⟨true, w % 2 ^ 144, spParityOk (w % 2 ^ 144) par⟩], skip := false, dnCred := n.dnCred - 1 }))) ∧
    ((s.fab.spOf d).skip = false → (s.fab.spOf d).dn ≠ [] →
      exec (.spDownWord d false w par) s = .next (s.onFab (fun f => f.modSp d (fun n => { n with
        dn := n.dn ++ [⟨false, w % 2 ^ 144, spParityOk (w % 2 ^ 144) par⟩], dnCred := n.dnCred - 1 })))) ∧
    ((s.fab.spOf d).skip = false → (s.fab.spOf d).dn = [] →
      exec (.spDownWord d false w par) s = .next (s.onFab (fun f =>
        (f.modSp d (fun n => { n with skip := true })).spMalformed d 0 0 7 0)))) ∧
  (∀ (s : State) (d : Nat), (s.fab.spOf d).ready = true →
    exec (.spUpCredit d) s = .next (s.onFab (fun f => f.modSp d (fun n => { n with upCred := n.upCred + 1 })))) ∧
  (∀ (s : State) (d : Nat) (m : SpMsg) (rest : List SpMsg), (s.fab.spOf d).up = m :: rest →
    m.size ≤ (s.fab.spOf d).upCred →
    exec (.spResponseSend d) s = .next (s.onFab (fun f => f.modSp d (fun n => { n with
      upCred := n.upCred - m.size, upOut := m.toWords,
      rids := n.rids.erase m.rid, up := rest ++ n.dup.filter (fun x => x.rid == m.rid)
      dup := n.dup.filter (fun x => x.rid != m.rid) })))) ∧
  (∀ (s : State) (d : Nat) (hw : SpWord) (data more : List SpWord) (whole : Bool),
    spFront (s.fab.spOf d).dn = some (hw, data, more, whole) → (s.fab.spOf d).ready = true →
    (s.fab.spOf d).hold = false → 7 ≤ (SpHead.ofWord hw.w).op →
    exec (.spReservedOp d) s = .next (s.onFab (fun f =>
      (f.modSp d (fun n => { n with dn := more, dnCred := n.dnCred + 1 + data.length, skip := more.isEmpty })).spRefuse d
        (SpHead.ofWord hw.w) 0)))

/-- R260 to R263, R271, R275, R281: a whole message at the front of the down buffer that R261 does not refuse is
taken: its words leave the buffer and return their credits, its RID is in use, and it stands next in program order: a
load, store or exclusive as an access, a barrier as a barrier, which for SB and FB makes the entries of its identifier
eligible. A store waits in the down buffer while it cannot be taken. A message that R261 refuses is answered and is no
access. -/
def Obligations.ServicePortMessages : Prop :=
  ∀ (s : State) (d : Nat) (bad : List (Nat × Nat)) (hw : SpWord) (data more : List SpWord),
    spFront (s.fab.spOf d).dn = some (hw, data, more, true) → (s.fab.spOf d).ready = true →
    (s.fab.spOf d).hold = false →
    let h := SpHead.ofWord hw.w
    let v := spWriteData h.addr h.bytes data
    let q := (s.fab.spOf d).seq
    let took := fun (skip : Bool) => s.fab.modSp d (fun n => { n with
      dn := more, dnCred := n.dnCred + 1 + data.length, skip := skip })
    let f1 := (took false).modSp d (fun n => { n with rids := h.rid :: n.rids, seq := n.seq + 1 })
    (spRefusal (s.fab.spOf d).rids hw data = none →
      (h.op = 0 → exec (.spLd (d, bad)) s = .next { s with
        fab := f1.spAccess d bad (some h.rid) 0 h.addr h.bytes h.stream v q }) ∧
      (h.op = 1 → s.fab.storeMay d h v = true →
        exec (.spSt (d, bad)) s = .next { s with fab := f1.spAccess d bad (some h.rid) 1 h.addr h.bytes h.stream v q }) ∧
      (h.op = 1 → s.fab.storeMay d h v = false → exec (.spSt (d, bad)) s = .next s) ∧
      (h.op = 2 → exec (.spXld (d, bad)) s = .next { s with
        fab := f1.spAccess d bad (some h.rid) 2 h.addr h.bytes h.stream v q }) ∧
      (h.op = 3 → exec (.spXst (d, bad)) s = .next { s with
        fab := f1.spAccess d bad (some h.rid) 3 h.addr h.bytes h.stream v q }) ∧
      (h.op = 4 → exec (.spLb d) s = .next { s with
        fab := f1.modSp d (fun n => { n with bar := n.bar ++ [⟨h.rid, 4, h.stream, q⟩] }) }) ∧
      (h.op = 5 → exec (.spSb d) s = .next { s with
        fab := (f1.modSp d (fun n => { n with bar := n.bar ++ [⟨h.rid, 5, h.stream, q⟩] })).makeEligible d
          (fun e => e.stream == h.stream) }) ∧
      (h.op = 6 → exec (.spFb d) s = .next { s with
        fab := (f1.modSp d (fun n => { n with bar := n.bar ++ [⟨h.rid, 6, h.stream, q⟩] })).makeEligible d
          (fun e => e.stream == h.stream) })) ∧
    (∀ reason, spRefusal (s.fab.spOf d).rids hw data = some reason →
      let no := Host.Outcome.next { s with fab := (took more.isEmpty).spRefuse d h reason }
      (h.op = 0 → exec (.spLd (d, bad)) s = no) ∧ (h.op = 1 → exec (.spSt (d, bad)) s = no) ∧ (h.op = 2 → exec (.spXld (d, bad)) s = no) ∧
      (h.op = 3 → exec (.spXst (d, bad)) s = no) ∧ (h.op = 4 → exec (.spLb d) s = no) ∧ (h.op = 5 → exec (.spSb d) s = no) ∧
      (h.op = 6 → exec (.spFb d) s = no))

/-- R69, R82, R122, R265, R267, R270, R271, R277, R281: the oldest access or eligible entry whose conditions hold
goes; the oldest entry that waits out SP_MERGE_HOLD becomes eligible and is sent when it can be; the oldest response
packet at the NI is accepted when an outstanding tag awaits it from its sender, and is stray otherwise; a packet whose
length disagrees with LEN is discarded; the oldest barrier whose condition holds is acknowledged with RESULT OK and
counted. R258, R289 to R292: a rise of SPd_EXC_REQ holds the down stream, records the stores that are buffered and
makes every entry eligible; SPd_EXC_ACK rises once they are complete; a fall of SPd_EXC_REQ ends the handshake,
counted when it was acknowledged; a NI in reset samples SPd_EXC_REQ as it leaves reset. SPd_RST_N low resets the NI and
the slot that the tile has for it; after its rise the NI waits SP_REQ_TIMEOUT, and then is ready with 32 down credits. A
request to power the tile down holds the down stream and makes every entry eligible. R237, R280: an entry is sent in the
order of its identifier, and not while a parked access of its identifier stands before it. -/
def Obligations.ServicePortProgress : Prop :=
  ((∀ (s : State) (d : Nat) (bad : List (Nat × Nat)) (a : SpAcc) (g : Fab),
    let f := s.fab.wakeEntries d
    a ∈ (f.spOf d).acc → a.st.waits = true → f.tryAcc d bad a = some g →
    (∀ b ∈ (f.spOf d).acc, b ≠ a → b.st.waits = true → b.seq ≤ a.seq → f.tryAcc d bad b = none) →
    (∀ e ∈ (f.spOf d).pwb, e.seq ≤ a.seq → f.tryEnt d bad e = none) →
    exec (.spAccessSend (d, bad)) s = .next { s with fab := g }) ∧
  (∀ (s : State) (d : Nat) (bad : List (Nat × Nat)) (e : PwbEnt) (g : Fab),
    let f := s.fab.wakeEntries d
    e ∈ (f.spOf d).pwb → f.tryEnt d bad e = some g →
    (∀ b ∈ (f.spOf d).acc, b.st.waits = true → b.seq ≤ e.seq → f.tryAcc d bad b = none) →
    (∀ x ∈ (f.spOf d).pwb, x ≠ e → x.seq ≤ e.seq → f.tryEnt d bad x = none) →
    exec (.spAccessSend (d, bad)) s = .next { s with fab := g }) ∧
  (∀ (f g : Fab) (d : Nat) (bad : List (Nat × Nat)) (e : PwbEnt), f.tryEnt d bad e = some g →
    e.elig = true ∧ f.spBlocked d e.stream e.seq true = false ∧
      ∀ x ∈ (f.spOf d).entriesBefore e.stream e.seq, x.tag.isSome = true ∧ x.parked = false) ∧
  (∀ (s : State) (d : Nat) (bad : List (Nat × Nat)) (e : PwbEnt),
    (s.fab.spOf d).pwb.find? (fun e => !e.elig && e.tag.isNone) = some e →
    exec (.pwbMergeHoldExpiry (d, bad)) s = .next (s.onFab (fun f =>
      let g := f.setEnt d { e with elig := true }
      (g.tryEnt d bad { e with elig := true }).getD g))) ∧
  (∀ (s : State) (d : Nat) (f1 : Fab) (p : Packet), s.fab.spInReset d = false → s.fab.spTakeRsp d = (f1, some p) →
    (p.length ≠ lenOf p → ∀ hck, exec (.spResponseArrive d hck) s = .next { s with
      fab := ((f1.bumpT (spTile d) O.TRUNCATED).raiseT (spTile d) 4 (header p % 2 ^ 64) (lenOf p + p.length * 64) 0).hopRecord
        (spTile d) 3 7 0 false 0 0 p }) ∧
    (p.length = lenOf p → tagOf p < 256 → (f1.spTag d (tagOf p)).awaits = true →
      (f1.spTag d (tagOf p)).tgt = some (srcTile p, srcSlot p) →
      exec (.spResponseArrive d .clean) s = .next { s with
        fab := (f1.spAccept d (tagOf p) (f1.spTag d (tagOf p)) p).hopRecord (spTile d) 2 7 7 false 0 0 p }) ∧
    (p.length = lenOf p → (256 ≤ tagOf p ∨ (f1.spTag d (tagOf p)).awaits = false) →
      exec (.spResponseArrive d .clean) s = .next { s with
        fab := (f1.bumpT (spTile d) O.EDGE_STRAY_CNT).raise (famKey .sp d) 3 (header p % 2 ^ 64) (header p / 2 ^ 64) 0 }) ∧
    (p.length = lenOf p → tagOf p < 256 → (f1.spTag d (tagOf p)).awaits = true →
      (f1.spTag d (tagOf p)).tgt ≠ some (srcTile p, srcSlot p) →
      exec (.spResponseArrive d .clean) s = .next { s with
        fab := (f1.bumpT (spTile d) O.EDGE_STRAY_CNT).raise (famKey .sp d) 3 (header p % 2 ^ 64) (header p / 2 ^ 64) 1 })) ∧
  (∀ (s : State) (d : Nat) (b : SpBar), (s.fab.spOf d).bar.find? (fun b => (s.fab.spOf d).barrierHolds b) = some b →
    exec (.spBarrierAck d) s = .next (s.onFab (fun f =>
      ((f.modSp d (fun n => { n with bar := n.bar.filter (fun x => x.seq != b.seq) })).spAnswer d
        ⟨b.rid, 1, 0, [], false⟩).bump .sp d O.SP_BARRIER_CNT 0)))) ∧
  ((∀ (s : State) (d : Nat), (s.fab.spOf d).excReq = false →
    (s.fab.spInReset d = false → exec (.spExcReqRise d) s = .next (s.onFab (fun f =>
      ((f.modSp d (fun n => { n with excReq := true })).modSp d (fun n => { n with
        exc := .draining, excWait := n.pwb.map (·.seq) })).makeEligible d (fun _ => true)))) ∧
    (s.fab.spInReset d = true → exec (.spExcReqRise d) s = .next (s.onFab (fun f =>
      f.modSp d (fun n => { n with excReq := true }))))) ∧
  (∀ (s : State) (d : Nat), (s.fab.spOf d).exc = .draining → (s.fab.spOf d).excReq = true →
    (∀ e ∈ (s.fab.spOf d).pwb, e.seq ∉ (s.fab.spOf d).excWait) →
    exec (.spExcAck d) s = .next (s.onFab (fun f => f.modSp d (fun n => { n with exc := .acked, excWait := [] })))) ∧
  (∀ (s : State) (d : Nat), (s.fab.spOf d).excReq = true →
    exec (.spExcReqFall d) s = .next (s.onFab (fun f =>
      (if (f.spOf d).exc = .acked then f.bump .sp d O.SP_EXC_DRAINS 0 else f).modSp d (fun n =>
        { n with excReq := false, exc := .idle, excWait := [] })))) ∧
  (∀ (s : State) (d : Nat), (s.fab.spOf d).rstN = true → s.fab.tileOut (spTile d) = false →
    exec (.spReset d) s = .next (s.onFab (fun f =>
      ((f.spReset d).slotReset (spTile d)).modSp d (fun n => { n with rstN := false })))) ∧
  (∀ (f : Fab) (d : Nat), ((f.spReset d).spOf d).pwb = [] ∧ ((f.spReset d).spOf d).dn = [] ∧
    ((f.spReset d).spOf d).acc = [] ∧ ((f.spReset d).spOf d).bar = [] ∧ ((f.spReset d).spOf d).ready = false ∧
    ((f.spReset d).spOf d).dnCred = 0 ∧ ((f.spReset d).spOf d).up = [] ∧ ∀ e, e ≠ d → (f.spReset d).spOf e = f.spOf e) ∧
  (∀ (s : State) (d : Nat), (s.fab.spOf d).rstN = false → s.fab.tileOut (spTile d) = false →
    ((s.fab.spOf d).excReq = false → exec (.spResetRelease d) s = .next (s.onFab (fun f =>
      (f.modSp d (fun n => { n with rstN := true })).spWait d))) ∧
    ((s.fab.spOf d).excReq = true → exec (.spResetRelease d) s = .next (s.onFab (fun f =>
      ((f.modSp d (fun n => { n with rstN := true })).spWait d).excStart d)))) ∧
  (∀ (s : State) (d due : Nat), (s.fab.spOf d).noReq = some due → due ≤ s.fab.runN (spTile d) →
    s.fab.spInReset d = false →
    exec (.spRequestResume d) s = .next (s.onFab (fun f => f.modSp d (fun n => { n with
      noReq := none, ready := true, dnCred := 32, upCred := 0 })))) ∧
  (∀ (s : State) (d : Nat), s.fab.spInReset d = false → exec (.spPowerDownRequest d) s = .next (s.onFab (fun f =>
    (f.modSp d (fun n => { n with pdReq := true })).makeEligible d (fun _ => true)))))

/-- R252, R264, R283 to R288, R664: a bank whose tile runs performs the oldest packet at its input when its answer
fits: a read answers the bytes of its range, a write stores exactly its enabled bytes and clears the reservations it
touches, an exclusive load reads and sets its identifier's reservation, an exclusive store is performed when that
reservation contains every byte and fails with XFAIL otherwise, a request outside the table is answered UNSUPPORTED. A
word with an uncorrectable error poisons a read, and a write that must read it first is not performed. -/
def Obligations.CommonsAccesses : Prop :=
  (∀ (s : State) (n ce : Nat) (ue : Option Nat) (p : Packet), s.fab.cmnFront n = some p → p.length = lenOf p →
    s.fab.cmnRoom n (cmnFlits p) (if (cmnPart p).isSome then 1 else 0) = true →
    let f1 := s.fab.cmnBegin n p ce
    let data := memRead (f1.cmnOf n).mem (cmnOffset p) (cmnBytes p)
    (cmnOp p = .read → exec (.cmnRead n ce ue) s = .next { s with
      fab := match cmnPart p, ue with
        | none, none => f1
        | none, some off => f1.cmnUe n p off false
        | some a, none => f1.cmnAnswer n p 0 false data [a]
        | some a, some off => (f1.cmnUe n p off false).cmnAnswer n p 1 true data [a] }) ∧
    (cmnOp p = .write → exec (.cmnWrite n ce ue) s = .next { s with
      fab := match ue, needsRmw p with
        | some off, true => (f1.cmnUe n p off true).cmnAnswer n p 1 true 0 (cmnPart p).toList
        | _, _ => (f1.cmnStore n p).cmnAnswer n p 0 false 0 (cmnPart p).toList }) ∧
    (cmnOp p = .xld → exec (.cmnXld n ce ue) s = .next { s with fab := (f1.setResv n p).cmnReadAnswer n p ue }) ∧
    (cmnOp p = .xst →
      let mine := fun (r : Resv) => r.mine p
      let held := (f1.cmnOf n).resv.any (fun r => mine r && decide (r.gran ≤ cmnOffset p)
        && decide (cmnOffset p + cmnBytes p ≤ r.gran + f1.resvGran n))
      let f2 := f1.modCmn n (fun c => { c with resv := c.resv.filter (fun r => !mine r) })
      (held = true → exec (.cmnXst n ce none) s = .next { s with
        fab := (f2.cmnWrite n p none).bump .cmn n O.CMN_XST_OK 0 }) ∧
      (held = false → exec (.cmnXst n ce ue) s = .next { s with
        fab := ((f2.bump .cmn n O.CMN_XST_FAIL 0).event (cmnTile n) 0x41 0).cmnAnswer n p 4 false 0
          (cmnPart p).toList }))) ∧
  (∀ (s : State) (n : Nat) (p : Packet), s.fab.cmnFront n = some p → p.length = lenOf p → cmnOp p = .unsupported →
    let parts := if mcOf p ≤ 1 then answerParts .poison p else []
    s.fab.cmnRoom n (parts.foldl (fun a x => a + lenFor x.size) 0) parts.length = true →
    exec (.cmnUnsupported n) s = .next (s.onFab (fun f =>
      ((f.cmnTake n).raise (famKey .cmn n) 1 (header p % 2 ^ 64) (header p / 2 ^ 64) 0).cmnAnswer n p 2 false 0 parts))) ∧
  (∀ (s : State) (who n v : Nat), v < 7 → exec (.cmnResvGranWrite who n v) s = .next (s.onFab (fun f =>
    ((f.setO .cmn n O.CMN_RESV_GRAN 0 v).modCmn n (fun c => { c with resv := [] })).answer who 0))) ∧
  (∀ (s : State) (who n v : Nat), v ≠ 0 → exec (.cmnResvClearWrite who n v) s = .next (s.onFab (fun f =>
    (f.modCmn n (fun c => { c with resv := [] })).answer who 0)))

/-- R252, R283, R288: a store at a Commons bank writes exactly the enabled bytes of its range, each with its byte of
the data; every other byte of the bank reads as before, no other bank changes, and no other state of the block does.
-/
def Obligations.CommonsStoreBytes : Prop :=
  ∀ (f : Fab) (n : Nat) (p : Packet),
    (∀ a, SMap.get emptyByte ((f.cmnStore n p).cmnOf n).mem a =
      if cmnOffset p ≤ a ∧ a < cmnOffset p + cmnBytes p ∧ (writeMask p).testBit (a - cmnOffset p) = true then
        BitVec.ofNat 8 (writeData p / 256 ^ (a - cmnOffset p))
      else SMap.get emptyByte (f.cmnOf n).mem a) ∧
    (∀ k, k ≠ n → (f.cmnStore n p).cmnOf k = f.cmnOf k) ∧ f.cmnStore n p = { f with cmn := (f.cmnStore n p).cmn } ∧
    (∀ r, r ∈ ((f.cmnStore n p).cmnOf n).resv → r ∈ (f.cmnOf n).resv ∧
      (r.gran + f.resvGran n ≤ cmnOffset p ∨ cmnOffset p + cmnBytes p ≤ r.gran))

/-- R286: an exclusive load at a bank reads its bytes and sets the reservation of its identifier on the granule of its
address, and no other of that identifier stays; in a bank that holds 256 of other identifiers the oldest goes, which
counts in CMN_RESV_EVICT. -/
def Obligations.ExclusiveLoads : Prop :=
  (∀ (s : State) (n ce : Nat) (p : Packet), s.fab.cmnFront n = some p → p.length = lenOf p → cmnOp p = .xld →
    s.fab.cmnRoom n (cmnFlits p) (if (cmnPart p).isSome then 1 else 0) = true →
    exec (.cmnXld n ce none) s = .next (s.onFab (fun f =>
      ((f.cmnBegin n p ce).setResv n p).cmnAnswer n p 0 false
        (memRead (f.cmnOf n).mem (cmnOffset p) (cmnBytes p)) (cmnPart p).toList))) ∧
  (∀ (f : Fab) (n : Nat) (p : Packet),
    let r : Resv := ⟨srcTile p, srcSlot p, oidOf p, cmnOffset p - cmnOffset p % f.resvGran n⟩
    let others := (f.cmnOf n).resv.filter (fun x => !x.mine p)
    ((f.setResv n p).cmnOf n).mem = (f.cmnOf n).mem ∧
    (others.length < 256 → ((f.setResv n p).cmnOf n).resv = others ++ [r] ∧ (f.setResv n p).objs = f.objs) ∧
    (256 ≤ others.length → ((f.setResv n p).cmnOf n).resv = others.drop 1 ++ [r] ∧
      (f.setResv n p).o .cmn n O.CMN_RESV_EVICT = min (2 ^ 64 - 1) (f.o .cmn n O.CMN_RESV_EVICT + 1)) ∧
    (∀ x ∈ ((f.setResv n p).cmnOf n).resv, x.mine p = true → x = r))

/-- R303, R309, R311, R313 to R316, R336: a write of SCHED_WEIGHT for one of SC2 to SC5 of a direction stores the
value clipped to 1 to 255 and touches no tag; for the shapers of SC1 to SC5, a write of SHAPER_RATE first brings the
bucket up to date at the old rate, then stores the new rate, and a zero is DENIED and leaves the rate; a write of
SHAPER_BURST brings the bucket up to date and caps the count at the new depth; SHAPER_CLEAR sets the count to zero.
R318, R320 to R324, R329 to R332: a write of POLICE_CIR brings the policer up to date at the old rate, then stores the
rate; a write of POLICE_CBS also lowers the count to the new burst. GATE_APPLY captures the list with its base unless
R323 refuses it, when nothing changes; at its base a pending schedule becomes the running one; a boundary sets what
the window of the class is; GATE_EN is DENIED to a class with no schedule applied; a sample of an NI adds one to a
bucket of each histogram of both its schedulers, with the buckets by R331. -/
def Obligations.SchedulerSettings : Prop :=
  (∀ (s : State) (who : Nat) (sp : Bool) (n dir c v : Nat), n < (whoOf sp n).scope.count → dir < 2 → 1 ≤ c → c ≤ 5 →
    (2 ≤ c → exec (.schedWeightWrite who sp n (16 * dir + c) v) s = .next (s.onFab (fun f =>
      (f.setO (whoOf sp n).scope n O.SCHED_WEIGHT (16 * dir + c) (max 1 (min v 255))).answer who
        (if 1 ≤ v ∧ v ≤ 255 then 0 else 4)))) ∧
    (1 ≤ v → v ≤ 64000 → exec (.shaperRateWrite who sp n (16 * dir + c) v) s = .next (s.onFab (fun f =>
      ((f.refill (whoOf sp n) dir c).setO (whoOf sp n).scope n O.SHAPER_RATE (16 * dir + c) v).answer who 0))) ∧
    exec (.shaperRateWrite who sp n (16 * dir + c) 0) s = .next (s.onFab (fun f =>
      (f.refill (whoOf sp n) dir c).answer who 2)) ∧
    (v ≤ 4194304 → exec (.shaperBurstWrite who sp n (16 * dir + c) v) s = .next (s.onFab (fun f =>
      (((f.refill (whoOf sp n) dir c).setO (whoOf sp n).scope n O.SHAPER_BURST (16 * dir + c) v).modCl (whoOf sp n)
        dir c (fun x => if (1024 * v : Int) < x.tok then { x with tok := 1024 * v, frac := 0 } else x)).answer who
        0))) ∧
    (v ≠ 0 → exec (.shaperClearWrite who sp n (16 * dir + c) v) s = .next (s.onFab (fun f =>
      ((f.refill (whoOf sp n) dir c).modCl (whoOf sp n) dir c (fun x => { x with tok := 0, frac := 0 })).answer who 0)))) ∧
  ((∀ (s : State) (who t v : Nat), t < 256 → v ≤ 64000 →
    exec (.policeCirWrite who t v) s = .next (s.onFab (fun f =>
      ((f.refillPolicer t).setO .tile t O.POLICE_CIR 0 v).answer who 0))) ∧
  (∀ (s : State) (who t v : Nat), t < 256 → v ≤ 1048576 →
    exec (.policeCbsWrite who t v) s = .next (s.onFab (fun f =>
      (((f.refillPolicer t).setO .tile t O.POLICE_CBS 0 v).modNi t (fun n => { n with
        pol := (min n.pol.1 (v * 65536000), n.pol.2) })).answer who 0))) ∧
  (∀ (s : State) (who : Nat) (sp : Bool) (n dir c v : Nat), n < (whoOf sp n).scope.count → dir < 2 → 1 ≤ c → c ≤ 5 →
    (gateRefused (s.fab.gateList (whoOf sp n) dir c) (s.fab.time (whoOf sp n).tile) v = false →
      exec (.gateApplyWrite who sp n (16 * dir + c) v) s = .next (s.onFab (fun f =>
        (f.modCl (whoOf sp n) dir c (fun x => { x with pend := some ⟨f.gateList (whoOf sp n) dir c, v⟩ })).answer who
          0))) ∧
    (gateRefused (s.fab.gateList (whoOf sp n) dir c) (s.fab.time (whoOf sp n).tile) v = true →
      exec (.gateApplyWrite who sp n (16 * dir + c) v) s = .next (s.onFab (fun f => f.answer who 2))) ∧
    (((s.fab.sched (whoOf sp n) dir).cl c).run = none → ((s.fab.sched (whoOf sp n) dir).cl c).pend = none → v ≠ 0 →
      exec (.gateEnWrite who sp n (16 * dir + c) v) s = .next (s.onFab (fun f => f.answer who 2))) ∧
    (((s.fab.sched (whoOf sp n) dir).cl c).run ≠ none ∨ ((s.fab.sched (whoOf sp n) dir).cl c).pend ≠ none ∨ v = 0 →
      exec (.gateEnWrite who sp n (16 * dir + c) v) s = .next (s.onFab (fun f =>
        (f.setO (whoOf sp n).scope n O.GATE_EN (16 * dir + c) (if v = 0 then 0 else 1)).answer who 0)))) ∧
  (∀ (s : State) (sp : Bool) (n dir c : Nat), dir < 2 → 1 ≤ c → c ≤ 5 →
    exec (.gateScheduleStart sp n (16 * dir + c)) s = .next (s.onFab (fun f =>
      f.modCl (whoOf sp n) dir c (fun x =>
        match x.pend with
        | some g => if g.base ≤ f.time (whoOf sp n).tile then { x with run := some g, pend := none } else x
        | none => x))) ∧
    exec (.gateBoundary sp n (16 * dir + c)) s = .next (s.onFab (fun f =>
      f.modCl (whoOf sp n) dir c (fun x =>
        let y := x.start (f.time (whoOf sp n).tile)
        { y with opened := y.window (f.time (whoOf sp n).tile) != .closed })))) ∧
  (∀ (s : State) (sp : Bool) (n : Nat), (s.fab.tile (whoOf sp n).tile).st = .t0 → s.fab.histDue (whoOf sp n) = true →
    exec (.histSample sp n) s = .next (s.onFab (fun f =>
      ((f.histSample (whoOf sp n) 0).histSample (whoOf sp n) 1).setHistAt (f.tile (whoOf sp n).tile).cyc (whoOf sp n)))) ∧
  (∀ (s : State) (sp : Bool) (n : Nat), s.fab.histDue (whoOf sp n) = false → exec (.histSample sp n) s = .next s) ∧
  (bucketOf 0 = 0 ∧ (∀ x b, 1 ≤ b → b ≤ 14 → 2 ^ (b - 1) ≤ x → x < 2 ^ b → bucketOf x = b) ∧
    ∀ x, 16384 ≤ x → bucketOf x = 15))

/-- R302, R306: among the weighted queues offered in rising order of SC, the one chosen has the smallest start tag,
and on a tie is the lowest; among eligible FIFOs of a queue, the one served is the first in cyclic order after the MC
last served. -/
def Obligations.FairQueueOrder : Prop :=
  (∀ (x : Sched) (l : List Nat), l.Pairwise (· < ·) → l ≠ [] → ∃ k, smallestTag x l = some k ∧ k ∈ l ∧
    ∀ j ∈ l, (x.cl k).tag ≤ (x.cl j).tag ∧ ((x.cl j).tag = (x.cl k).tag → k ≤ j)) ∧
  (∀ (rr : Nat) (l : List Nat) (mc : Nat), rr < 8 → (∀ a ∈ l, a < 8) → nextMc rr l = some mc →
    mc ∈ l ∧ ∀ a ∈ l, (mc + 7 - rr) % 8 ≤ (a + 7 - rr) % 8)

/-- R340 to R345, R348, R353, R362, R364: when the stall condition rises every resident SC5 packet leaves its queue; a
queue that meets the five conditions of R342 enters SPILLING with SEQ 0 and an ASK, and one with nothing outbound,
spilled or pulled returns to RESIDENT; NONE ends the pull and releases its reservation; an ASK or PULL unanswered for
SPILL_TIMEOUT, or an ABANDON, abandons the queue: a resident queue with nothing spilled then keeps no outbound packet,
grant or reservation, and its NI tells the spill port when the queue had an ASK or a grant; the ABANDON with QMC 7 is for
all five queues. -/
def Obligations.SpillQueueStates : Prop :=
  (∀ (s : State) (t : Nat), s.fab.stall t = true →
    exec (.stallConditionRise t) s = .next (s.onFab (fun f =>
      (((f.ni t).egr.q.filter (fun kv => kv.1 / 8 == 5)).flatMap (fun kv => kv.2.map (·.pkt))).foldl
        (fun f p => (f.bumpT t O.SC5_STALL_DROP).hopRecord t 3 6 0 false 0 0 p)
        (f.modSched (.ni t) 1 (fun x => { x with q := x.q.filter (fun kv => kv.1 / 8 != 5) }))))) ∧
  (∀ (s : State) (t : Nat), s.fab.stall t = true → ((s.fab.ni t).egr.q.filter (fun kv => kv.1 / 8 == 5)) = [] →
    exec (.stallConditionRise t) s = .next (s.onFab (fun f =>
      f.modSched (.ni t) 1 (fun x => { x with q := x.q.filter (fun kv => kv.1 / 8 != 5) })))) ∧
  (∀ (s : State) (t k : Nat) (e : QPkt), s.fab.stall t = true →
    (s.fab.ni t).egr.q.filter (fun kv => kv.1 / 8 == 5) = [(k, [e])] →
    exec (.stallConditionRise t) s = .next (s.onFab (fun f =>
      ((f.modSched (.ni t) 1 (fun x => { x with q := x.q.filter (fun kv => kv.1 / 8 != 5) })).bumpT t
        O.SC5_STALL_DROP).hopRecord t 3 6 0 false 0 0 e.pkt))) ∧
  (∀ (s : State) (t i : Nat), (s.fab.tile t).st = .t0 → i < 5 → (s.fab.spq t i).st = .resident →
    s.fab.stall t = true → s.fab.oT t O.SPILL_EN = 1 → s.fab.skRuns t = true →
    s.fab.oT t O.SPILL_QMIN ≤ (s.fab.ni t).queueFlits i → s.fab.abandonedLately t i = false →
    (s.fab.spq t i).ask = none →
    exec (.spillStart t i) s = .next (s.onFab (fun f =>
      ((f.modSpq t i (fun q => { q with st := .spilling, seq := 0, exp := 0, spilled := 0 })).modSpq t i (fun q =>
        { q with ask := some (f.runN t) })).toSk t .ask i 128 0 []))) ∧
  (∀ (s : State) (t i a : Nat), (s.fab.tile t).st = .t0 → i < 5 → (s.fab.spq t i).st = .resident →
    s.fab.stall t = true → s.fab.oT t O.SPILL_EN = 1 → s.fab.skRuns t = true →
    s.fab.oT t O.SPILL_QMIN ≤ (s.fab.ni t).queueFlits i → s.fab.abandonedLately t i = false →
    (s.fab.spq t i).ask = some a →
    exec (.spillStart t i) s = .next (s.onFab (fun f =>
      f.modSpq t i (fun q => { q with st := .spilling, seq := 0, exp := 0, spilled := 0 })))) ∧
  (∀ (s : State) (t i : Nat), (s.fab.spq t i).st ≠ .resident → (s.fab.spq t i).outb = [] →
    (s.fab.spq t i).spilled = 0 → (s.fab.spq t i).pull = none →
    exec (.spillEnd t i) s = .next (s.onFab (fun f => f.modSpq t i (fun q => { q with st := .resident })))) ∧
  (∀ (s : State) (t i : Nat) (g : Fab) (p : Packet), s.fab.takeEnv t .none = (g, some (i, p)) →
    exec (.spillNone t) s = .next (s.onFab (fun _ => g.modSpq t i (fun q => { q with pull := none, rsv := 0 })))) ∧
  (∀ (s : State) (t i a : Nat), (s.fab.spq t i).ask = some a ∨ (s.fab.spq t i).pull = some a →
    a + us (s.fab.oT t O.SPILL_TIMEOUT) ≤ s.fab.runN t →
    exec (.spillTimeout t i) s = .next (s.onFab (fun f => f.abandonNi t i true))) ∧
  (∀ (s : State) (t : Nat) (p : Packet), (s.fab.ni t).ctlIn = [p] → isEnvelope p = true → envKind p = some .abandon →
    (envMc p = 7 → exec (.spillAbandonReceive false t) s = .next (s.onFab (fun f =>
      (List.range 5).foldl (fun f i => f.abandonNi t i false) (f.modNi t (fun n => { n with ctlIn := [] }))))) ∧
    (∀ i, i < 5 → envMc p = spillMc i → exec (.spillAbandonReceive false t) s = .next (s.onFab (fun f =>
      (f.modNi t (fun n => { n with ctlIn := [] })).abandonNi t i false)))) ∧
  (∀ (s : State) (n : Nat) (g : Fab) (p : Packet), s.fab.skTake n .abandon = (g, some p) →
    (envMc p = 7 → exec (.spillAbandonReceive true n) s = .next (s.onFab (fun _ =>
      (List.range 5).foldl (fun f i => f.skAbandon n (qidOf (envTile p) i) false) g))) ∧
    (∀ i, i < 5 → envMc p = spillMc i → exec (.spillAbandonReceive true n) s = .next (s.onFab (fun _ =>
      g.skAbandon n (qidOf (envTile p) i) false)))) ∧
  (∀ (f : Fab) (t i : Nat), (f.spq t i).spilled = 0 → (f.spq t i).outb = [] → (f.spq t i).st = .resident →
    ((f.spq t i).ask = none → (f.spq t i).grant = 0 →
      f.abandonNi t i true = f.modSpq t i (fun q => { SpillQ.reset with abandoned := q.abandoned })) ∧
    ((f.spq t i).ask ≠ none ∨ (f.spq t i).grant ≠ 0 → f.abandonNi t i true =
      (f.modSpq t i (fun q => { SpillQ.reset with abandoned := q.abandoned })).toSk t .abandon i 0 0 []))

/-- R339, R343, R347 to R350, R352: a GRANT of some flits to a queue that asked adds to its unused grant and ends
BLOCKED, and the queue asks again below 64; a GRANT of zero blocks it, and 1 us later it asks again; the oldest
outbound packet leaves as a SPILL with the next SEQ when the grant covers LEN + 1; a PULL asks for what is missing to
PULL_WATER and reserves it; a RETURN with the expected SEQ makes its packet resident, and one with another SEQ
abandons the queue. -/
def Obligations.SpillTransfers : Prop :=
  (∀ (s : State) (t i : Nat) (g : Fab) (p : Packet), s.fab.takeEnv t .grant = (g, some (i, p)) →
    (g.spq t i).ask ≠ none → (g.spq t i).st ≠ .resident →
    (envFlits p = 0 → exec (.spillGrant t) s = .next (s.onFab (fun _ =>
      (g.bumpT t O.SPILL_REFUSED).modSpq t i (fun q => { q with
        ask := none, zeroAt := g.runN t, st := if q.st = .resident then .resident else .blocked })))) ∧
    (envFlits p ≠ 0 → ∃ h, h = g.modSpq t i (fun q => { q with
        ask := none, grant := q.grant + envFlits p, st := if q.st = .resident then .resident else .spilling }) ∧
      exec (.spillGrant t) s = .next (s.onFab (fun _ =>
        if (h.spq t i).st = .spilling ∧ (h.spq t i).grant < 64 then h.ask t i else h)))) ∧
  (∀ (s : State) (t i : Nat), (s.fab.spq t i).st = .blocked → (s.fab.spq t i).ask = none →
    (s.fab.spq t i).zeroAt + us 1 ≤ s.fab.runN t →
    exec (.spillReask t i) s = .next (s.onFab (fun f => f.ask t i))) ∧
  (∀ (s : State) (t i : Nat) (p : Packet) (l : List Packet), (s.fab.spq t i).outb = p :: l →
    (s.fab.spq t i).st ≠ .resident → p.length + 1 ≤ (s.fab.spq t i).grant → ∃ h,
    h = (((s.fab.toSk t .spill i 0 (s.fab.spq t i).seq p).modSpq t i (fun q => { q with
      outb := l, grant := q.grant - (p.length + 1), seq := (q.seq + 1) % 65536, spilled := q.spilled + 1 })).bumpT t
      O.SPILL_PKTS).event t 0x2C (spillMc i) ∧
    exec (.spillSend t i) s = .next (s.onFab (fun _ =>
      if (h.spq t i).grant < 64 ∧ (h.spq t i).ask = none ∧ (h.spq t i).st = .spilling then h.ask t i else h))) ∧
  (∀ (s : State) (t i : Nat), i < 5 → (s.fab.spq t i).st ≠ .resident → (s.fab.spq t i).pull = none →
    (s.fab.ni t).queueFlits i + (s.fab.spq t i).rsv + 53 ≤ s.fab.oT t O.PULL_WATER →
    exec (.spillPullSend t i) s = .next (s.onFab (fun f =>
      let n := f.oT t O.PULL_WATER - ((f.ni t).queueFlits i + (f.spq t i).rsv)
      (f.modSpq t i (fun q => { q with pull := some (f.runN t), rsv := q.rsv + n })).toSk t .pull i n 0 []))) ∧
  (∀ (s : State) (t i : Nat) (g : Fab) (e : Packet) (hck : Lchk), s.fab.takeEnv t .ret = (g, some (i, e)) →
    (g.spq t i).pull ≠ none →
    (envSeq e ≠ (g.spq t i).exp → exec (.spillReturn t hck) s = .next (s.onFab (fun _ =>
      (g.raiseT t 15 (i + (g.spq t i).exp * 2 ^ 3 + envSeq e * 2 ^ 19) 0 0).abandonNi t i true))) ∧
    (envSeq e = (g.spq t i).exp → exec (.spillReturn t .clean) s = .next (s.onFab (fun _ =>
      (((g.modSpq t i (fun q => { q with
        exp := (q.exp + 1) % 65536, spilled := q.spilled - 1, pull := if envLast e then none else q.pull
        rsv := if envLast e then 0 else q.rsv - (unwrap e).length })).bumpT t O.RETURN_PKTS).event t 0x2D
        (spillMc i)).niDeliver t (unwrap e)))))

/-- R348, R351, R355, R361 to R363: an ASK to a running spill port is answered with one GRANT of what R351 allows, at
most 128, and to a FAILED one with ABANDON; a SPILL spends the grant and is stored behind the queue's last packet; a
PULL to a running port starts a pull of its FLITS, which is answered with NONE when the port holds no packet of the queue
and with RETURNs otherwise, the last with PLAST; nothing is granted at the quota. R357 to R361, R363, R366, R367: the
oldest command of a running port with memory ready that may be presented leaves with its head and beats when credits cover
them, and counts what it writes; fewer than 32 of its kind are then unanswered, a read has room in read staging, and one
that may not go holds back its own QID alone; a credit counts while memory is ready and the port is not in reset; a packet's beat that is not its last joins the beats read; a write
answer ends the oldest write of its QID, and a failed one abandons the queue; a late answer, or memory that stops
being ready while the port runs, fails the port; SK_RECOVER is DENIED unless the port is FAILED with memory ready and
the end of the clearing puts it in RUN; SK_ENABLE is DENIED without memory or chunks and starts the port otherwise. -/
def Obligations.SpillPortMemory : Prop :=
  ((∀ (s : State) (n q : Nat) (g : Fab) (p : Packet), s.fab.skTake n .ask = (g, some p) → envQid p = some q →
    ((g.skOf n).st = .failed → exec (.spillAsk n) s = .next (s.onFab (fun _ => g.skSend n q .abandon 0 0 false []))) ∧
    ((g.skOf n).st ≠ .failed → exec (.spillAsk n) s = .next (s.onFab (fun _ =>
      ((g.skGrant n q (envFlits p)).1.modSkQ n q (fun x => { x with
        grant := x.grant + min (g.skGrant n q (envFlits p)).2 128 })).skSend n q .grant
        (min (g.skGrant n q (envFlits p)).2 128) 0 false [])))) ∧
  (∀ (f : Fab) (n q want : Nat), (f.skOf n).st ≠ .run ∨ f.oT (qidTile n q) O.SPILL_QUOTA ≤ ((f.skOf n).q q).held ∨
    768 ≤ (f.skOf n).staged → f.skGrant n q want = (f, 0)) ∧
  (∀ (s : State) (n q : Nat) (g : Fab) (p : Packet) (e : StageErr), s.fab.skTake n .spill = (g, some p) →
    envQid p = some q → (g.skOf n).st = .run →
    (e = .clean → exec (.spillReceive n e) s = .next (s.onFab (fun _ =>
      ((g.modSkQ n q (fun x => { x with grant := x.grant - p.length })).skStore n q (envSeq p) (unwrap p)).skPump n q))) ∧
    (∀ a, e = .queue a → exec (.spillReceive n e) s = .next (s.onFab (fun _ =>
      ((g.modSkQ n q (fun x => { x with grant := x.grant - p.length })).raise (famKey .sk n) 7 (a % 2 ^ 20) 1
        0).skAbandon n q true)))) ∧
  (∀ (s : State) (n q : Nat) (g : Fab) (p : Packet), s.fab.skTake n .pull = (g, some p) → envQid p = some q →
    ((g.skOf n).st ≠ .run → exec (.spillPull n) s = .next (s.onFab (fun _ => g.skSend n q .none 0 0 false []))) ∧
    ((g.skOf n).st = .run → exec (.spillPull n) s = .next (s.onFab (fun _ =>
      (g.modSkQ n q (fun x => { x with pull := some (envFlits p) })).skPump n q)))) ∧
  (∀ (f : Fab) (n q k left : Nat), ((f.skOf n).q q).pull = some left → ((f.skOf n).q q).ready = [] →
    ((f.skOf n).q q).unread = 0 → f.skServe (k + 1) n q =
      (f.skSend n q .none 0 0 false []).modSkQ n q (fun x => { x with
        pull := none, ansAt := some (f.runN (skTile n)) })) ∧
  (∀ (f : Fab) (n q k left seq : Nat) (p : Packet), ((f.skOf n).q q).pull = some left →
    ((f.skOf n).q q).ready = [(p, seq)] → ((f.skOf n).q q).unread = 0 → f.skServe (k + 1) n q =
      (f.skSend n q .ret 0 seq true p).modSkQ n q (fun x => { x with
        ready := [], pull := none, ansAt := some (f.runN (skTile n)) }))) ∧
  ((∀ (s : State) (n : Nat) (c : SkCmd), (s.fab.skOf n).pickCmd [] (s.fab.skOf n).cmdQ = some c →
    (s.fab.skOf n).st = .run → (s.fab.skOf n).memReady = true → 1 + c.data.length ≤ (s.fab.skOf n).cred → ∃ h,
    h = s.fab.modSk n (fun k => { k with
      cmdQ := k.cmdQ.erase c, cred := k.cred - (1 + c.data.length), outW := cmdHead c :: c.data
      outs := k.outs ++ [{ c with data := [], sentAt := s.fab.runN (skTile n) }] }) ∧
    exec (.skCommand n) s = .next (s.onFab (fun _ =>
      if c.write then (h.bump .sk n O.SK_WR_BEATS 0 c.n).event (skTile n) 0x42 0 c.n else h))) ∧
  (∀ (k : Sk) (a b : SkCmd) (l : List SkCmd), k.mayPresent b = true →
    k.pickCmd [] (b :: l) = some b ∧
    (k.mayPresent a = false → a.qid ≠ b.qid → k.pickCmd [] (a :: b :: l) = some b) ∧
    (k.mayPresent a = false → a.qid = b.qid → k.pickCmd [] [a, b] = none) ∧
    (k.outs.filter (fun x => x.write == b.write)).length < 32 ∧ (b.write = false → k.readBusy + b.n ≤ 640)) ∧
  (∀ (s : State) (n : Nat), (s.fab.skOf n).memReady = true → s.fab.skInReset n = false →
    exec (.skOutCredit n) s = .next (s.onFab (fun f => f.modSk n (fun k => { k with cred := k.cred + 1 })))) ∧
  (∀ (s : State) (n q data d : Nat) (c : SkCmd) (beats : List (Nat × Bool)) (g : Fab), data < 2 ^ 640 →
    (s.fab.skOf n).outs.find? (fun c => c.qid == q && !c.write) = some c → c.why = .packet →
    g = ((s.fab.skBeatTaken n q c).bump .sk n O.SK_RD_BEATS 0).event (skTile n) 0x43 0 →
    ((g.skOf n).q q).read = .packet d beats → beats.length + 1 ≠ d % 64 →
    exec (.skReadBeat n q data (parity640 data) false none) s = .next (s.onFab (fun _ =>
      g.modSkQ n q (fun x => { x with read := .packet d (beats ++ [(data, false)]) })))) ∧
  (∀ (s : State) (n q : Nat), exec (.skWriteDone n q) s = .next (s.onFab (fun f =>
    f.modSk n (fun k => { k with outs := dropFirst (fun c => c.qid == q && c.write == true) k.outs })))) ∧
  (∀ (s : State) (n q : Nat) (c : SkCmd) (g : Fab), s.fab.skAnswered n q true = (g, some c) →
    exec (.skWriteFailed n q) s = .next (s.onFab (fun _ =>
      (g.raise (famKey .sk n) 3 (c.addr + q * 2 ^ 30 + 2 ^ 39) 0 0).skAbandon n q true))) ∧
  (∀ (s : State) (n : Nat) (c : SkCmd) (l : List SkCmd), (s.fab.skOf n).outs = c :: l → (s.fab.skOf n).st = .run →
    c.sentAt + us (s.fab.oK n O.SK_RSP_TIMEOUT) ≤ s.fab.runN (skTile n) →
    exec (.skRspTimeout n) s = .next (s.onFab (fun f =>
      (f.raiseC (famKey .sk n) 4 (skInfo c.addr c.qid c.write) 0 0).skFail n))) ∧
  (∀ (s : State) (n : Nat),
    exec (.skMemreadyChange n true) s = .next (s.onFab (fun f =>
      (f.modSk n (fun k => { k with memReady := true, cred := if (f.skOf n).memReady then k.cred else 0 })).endC
        (famKey .sk n) 5)) ∧
    ∃ h, h = s.fab.modSk n (fun k => { k with memReady := false, cred := 0 }) ∧
      exec (.skMemreadyChange n false) s = .next (s.onFab (fun f =>
        if (f.skOf n).memReady ∧ (h.skOf n).st = .run then (h.raiseC (famKey .sk n) 5 0 0 0).skFail n else h))) ∧
  (∀ (s : State) (who n v : Nat), n < 8 →
    ((s.fab.skOf n).st = .failed → (s.fab.skOf n).memReady = true → v ≠ 0 →
      exec (.skRecoverWrite who n v) s = .next (s.onFab (fun f =>
        (f.modSk n (fun k => { k with recover := true })).answer who 0))) ∧
    ((s.fab.skOf n).st ≠ .failed ∨ (s.fab.skOf n).memReady = false →
      exec (.skRecoverWrite who n v) s = .next (s.onFab (fun f => f.answer who 2))) ∧
    (v ≠ 0 → (s.fab.skOf n).memReady = true → s.fab.oK n O.SK_CHUNKS ≠ 0 →
      exec (.skEnableWrite who n v) s = .next (s.onFab (fun f =>
        ((f.setO .sk n O.SK_ENABLE 0 1).modSk n (fun k => { k with
          st := if k.st = .off then .run else k.st })).answer who 0))) ∧
    (v ≠ 0 → (s.fab.skOf n).memReady = false ∨ s.fab.oK n O.SK_CHUNKS = 0 →
      exec (.skEnableWrite who n v) s = .next (s.onFab (fun f => f.answer who 2)))) ∧
  (∀ (s : State) (n : Nat), (s.fab.skOf n).recover = true →
    exec (.skRecoverDone n) s = .next (s.onFab (fun f =>
      (f.modSk n (fun k => { k with recover := false, st := .run, used := [], qs := [] })).endC (famKey .sk n) 4))))

/-- R370, R374, R376 to R378, R394: the next frame in flight leaves the air; a direction in no running state drops it.
In a running one, a run of framing bits whose lane numbers disagree with the lane map raises SEAM_MAP_MISMATCH and
retrains, and alignment lost on two lanes retrains. A frame with up to nine wrong symbols is received as it was sent and
its corrected symbols are counted; beyond that what the code finds is a free value (log 84), and a frame for which it finds
no codeword counts in SEAM_FEC_UE and is refused with NAK. A good non-null frame with the expected FSEQ is accepted and any
other non-null one refused, after its ACKSEQ and NAK are handled. -/
def Obligations.SeamFrames : Prop :=
  ∀ (s : State) (ss c : Nat) (fr : Frame) (l : List Frame) (g : Fab), (s.fab.xs ss c).air = fr :: l →
    g = s.fab.modX ss c (fun x => { x with air := l }) →
    ((g.xs ss c).rx.runs = false → ∀ e, exec (.seamFrameReceive ss c e) s = .next (s.onFab (fun _ => g))) ∧
    ((g.xs ss c).rx.runs = true →
      (∀ flips, (wrongSymbols (flipWord flips)).length ≤ 9 →
        exec (.seamFrameReceive ss c ⟨flips, []⟩) s = .next (s.onFab (fun _ =>
          (g.frameCorr ss c (wrongSymbols (flipWord flips))).goodFrame ss c fr))) ∧
      (∀ flips, 9 < (wrongSymbols (flipWord flips)).length → ∃ w, w = codewordOf fr.message ^^^ flipWord flips ∧
        exec (.seamFrameReceive ss c ⟨flips, []⟩) s = .next (s.onFab (fun _ =>
          match Config.rsBeyond w with
          | none => (g.bump .seam ss O.SEAM_FEC_UE c).refuseFrame ss c fr
          | some m => (g.frameCorr ss c (wrongSymbols (w ^^^ codewordOf m))).goodFrame ss c
              (Frame.ofMessage m fr.gen fr.seen)))) ∧
      (∀ lane k skew log phys flips, (g.xs ss c).rxUsed.findIdx? (· == lane) = some k → skew ≤ 2 → log < 32 → phys < 32 →
        log ≠ k ∨ phys ≠ lane →
        exec (.seamFrameReceive ss c ⟨flips, [⟨lane, skew, framingWord log phys⟩]⟩) s = .next (s.onFab (fun _ =>
          (g.seamRaise ss c lane false 7 (k + log * 32 + phys * 1024)).retrain ss c false))) ∧
      (∀ a b wa wb sa sb flips, (g.xs ss c).rxUsed.contains a = true → (g.xs ss c).rxUsed.contains b = true →
        a ≠ b → 2 < sa → 2 < sb → exec (.seamFrameReceive ss c ⟨flips, [⟨a, sa, wa⟩, ⟨b, sb, wb⟩]⟩) s =
          .next (s.onFab (fun _ => g.retrain ss c false))) ∧
      (fr.awake = (g.xs ss c).awakeIn →
        (fr.fseq = none → exec (.seamFrameReceive ss c .clean) s = .next (s.onFab (fun _ => g.takeAck ss c fr))) ∧
        (fr.fseq = some ((g.takeAck ss c fr).xs ss c).exp →
          exec (.seamFrameReceive ss c .clean) s = .next (s.onFab (fun _ => (g.takeAck ss c fr).acceptFrame ss c fr))) ∧
        (∀ n, fr.fseq = some n → n ≠ ((g.takeAck ss c fr).xs ss c).exp →
          exec (.seamFrameReceive ss c .clean) s = .next (s.onFab (fun _ => (g.takeAck ss c fr).refuseFrame ss c fr)))))

/-- R376: a sender never holds more than 48 unacknowledged frames, however many frames it is asked to send; what it
holds grows only at the end, and 48 unacknowledged frames hold back every further non-null frame. -/
def Obligations.SeamReplayBound : Prop :=
  (∀ (f : Fab) (ss c n : Nat), (f.xs ss c).replay.length ≤ 48 →
    ((f.emit ss c n).xs ss c).replay.length ≤ 48 ∧
    (f.xs ss c).replay <+: ((f.emit ss c n).xs ss c).replay) ∧
  (∀ (f : Fab) (ss c n : Nat), (f.xs ss c).replay.length = 48 → f.emit ss c n = f)

/-- R380 to R382, R387, R394: at the end of phase 1 a locked PLL moves training to phase 3 and an unlocked one fails
it; phases 3 and 4 exclude the lanes without signal or lock and those with too small an eye; phase 5 fails with more
than 16 lanes excluded, counting those the peer excludes; the last phase ends training with all of them. A TRAIN
message adds the lanes its sender excludes. A RETRAIN command starts the training its ARG names, and a write of
SEAM_RETRAIN trains both directions; a value above 2 is clipped to 2. -/
def Obligations.SeamTraining : Prop :=
  (∀ (s : State) (ss c los lol bad eqs : Nat) (tr : Training) (tx : Training), (s.fab.xs ss c).rxTr = some tr →
    (s.fab.xs (farSide ss) c).txTr = some tx → los < 2 ^ 30 →
    lol < 2 ^ 30 → bad < 2 ^ 30 → ∃ go : Fab → Training → Fab,
      (∀ f u, go f u = (f.modX ss c (fun x => { x with rxTr := some u })).modX (farSide ss) c (fun x =>
        { x with txTr := x.txTr.map (fun y => { y with phase := u.phase }) })) ∧
      (tr.phase = 1 → exec (.seamTrainingPhaseEnd ss c false los lol bad eqs) s = .next (s.onFab (fun f =>
        f.failTraining ss c tr tr.excl true))) ∧
      (tr.phase = 1 → exec (.seamTrainingPhaseEnd ss c true los lol bad eqs) s = .next (s.onFab (fun f =>
        go ((f.modSide (farSide ss) (fun x => { x with pll := true })).endC (famKey .seam (farSide ss)) 10)
          { tr with phase := 3 }))) ∧
      (tr.phase = 3 → ∀ pll, exec (.seamTrainingPhaseEnd ss c pll los lol bad eqs) s = .next (s.onFab (fun f =>
        go (f.modX ss c (fun x => { x with los := los, lol := lol }))
          { tr with phase := 4, excl := tr.excl ||| ((los ||| lol) &&& (2 ^ 30 - 1)) }))) ∧
      (tr.phase = 4 → ∀ pll, exec (.seamTrainingPhaseEnd ss c pll los lol bad eqs) s = .next (s.onFab (fun f =>
        go f { tr with phase := 5, excl := tr.excl ||| bad, eq := if tr.full then eqs else 0 }))) ∧
      (tr.phase = 5 → ∀ pll, 16 < exclCount (tr.excl ||| bad ||| tr.peer ||| (tx.excl ||| tx.peer)) →
        exec (.seamTrainingPhaseEnd ss c pll los lol bad eqs) s = .next (s.onFab (fun f =>
          f.failTraining ss c tr (tr.excl ||| bad ||| tr.peer ||| (tx.excl ||| tx.peer)) false))) ∧
      (tr.phase = 6 → ∀ pll, exec (.seamTrainingPhaseEnd ss c pll los lol bad eqs) s = .next (s.onFab (fun f =>
        f.endTraining ss c tr (tr.excl ||| tr.peer ||| (tx.excl ||| tx.peer)))))) ∧
  (∀ (s : State) (ss c k excl : Nat) (l : List SbMsg), (s.fab.sideOf ss).sb = .train c k excl :: l →
    exec (.seamTrainMessage ss) s = .next (s.onFab (fun f =>
      (f.modSide ss (fun x => { x with sb := l })).modX ss c (fun x => { x with
        txTr := x.txTr.map (fun y => { y with peer := y.peer ||| excl }) })))) ∧
  (∀ (s : State) (ss c arg : Nat) (l : List (LaneCmd × Nat)) (g : Fab), (s.fab.xs ss c).cmdIn = (.retrain, arg) :: l →
    g = s.fab.modX ss c (fun x => { x with cmdIn := l }) → (g.xs (farSide ss) c).rx.runs = true →
    (arg = 1 → exec (.seamRetrainCmd ss c) s = .next (s.onFab (fun _ =>
      g.startTraining (farSide ss) c false true true))) ∧
    (arg ≠ 1 → exec (.seamRetrainCmd ss c) s = .next (s.onFab (fun _ =>
      g.retrain (farSide ss) c (arg == 2))))) ∧
  (∀ (s : State) (who ss c v : Nat), ss < 8 → c < 8 → v = 1 ∨ v = 2 → s.fab.routeState ss c ≠ 2 →
    exec (.seamRetrainWrite who ss c v) s = .next (s.onFab (fun f =>
      ((f.retrainDir ss c (v == 2)).retrainDir (farSide ss) c (v == 2)).answer who 0))) ∧
  (∀ (s : State) (who ss c v : Nat), ss < 8 → c < 8 → 2 < v → v < 256 → s.fab.routeState ss c ≠ 2 →
    exec (.seamRetrainWrite who ss c v) s = .next (s.onFab (fun f =>
      ((f.retrainDir ss c true).retrainDir (farSide ss) c true).answer who 4)))

/-- R385 to R389, R393: a due scan clears SEAM_MARGIN of the lanes not in use and judges the lanes in use, and each of its
searches finds the largest value that passes; loss of
signal on one lane in use raises SEAM_LOS and requests its repair; the transmit side begins the repair of REPAIR_REQ
with its lowest spare or holds it during another; a trained spare sends REPAIR_READY, which makes the transmit side
send REPAIR_AT and exclude the lane; REPAIR_AT excludes it at the receive side and raises SEAM_REPAIRED;
SEAM_REPAIR_LANE is DENIED for a lane not in use. -/
def Obligations.SeamRepairs : Prop :=
  (∀ (s : State) (ss c : Nat) (tog : List ScanPoint), (s.fab.xs ss c).rx.runs = true →
    (s.fab.xs ss c).scanAt + ms (s.fab.o .seam ss O.SEAM_SCAN_PERIOD) ≤ s.fab.sideTime ss →
    exec (.seamMarginScan ss c tog) s = .next (s.onFab (fun f =>
      let used := (f.xs ss c).rxUsed
      let g := (List.range 30).foldl (fun f l => if used.contains l then f else f.setO .seam ss O.SEAM_MARGIN (30 * c + l) 0)
        (f.modX ss c (fun x => { x with scanAt := f.sideTime ss }))
      used.foldl (fun f l => f.laneScan ss c l tog) g))) ∧
  (∀ (pass : Nat → Bool) (n lo hi : Nat), lo ≤ hi → (∀ a b, lo < a → a ≤ b → b ≤ hi → pass b = true → pass a = true) →
    hi - lo < 2 ^ n → lo ≤ searchMax pass n lo hi ∧ searchMax pass n lo hi ≤ hi ∧
      (∀ a, lo < a → a ≤ searchMax pass n lo hi → pass a = true) ∧
      ∀ a, searchMax pass n lo hi < a → a ≤ hi → pass a = false) ∧
  (∀ (s : State) (ss c l los : Nat), (s.fab.xs ss c).rx.runs = true → s.fab.sbLost ss = false →
    (s.fab.xs ss c).rxUsed.filter (fun k => bit los k && !bit (s.fab.xs ss c).los k) = [l] →
    exec (.seamLaneLoss ss c los 0) s = .next (s.onFab (fun f =>
      ((f.modX ss c (fun x => { x with los := (x.los ||| los) % 2 ^ 30, lol := x.lol % 2 ^ 30 })).seamRaise ss c l false 0
        0).autoRepair ss c l))) ∧
  (∀ (s : State) (ss c lane : Nat) (l : List (LaneCmd × Nat)) (g : Fab),
    (s.fab.xs ss c).cmdIn = (.repairReq, lane) :: l → g = s.fab.modX ss c (fun x => { x with cmdIn := l }) →
    ((g.xs ss c).txRep ≠ none → exec (.seamRepairReq ss c) s = .next (s.onFab (fun _ =>
      g.modX ss c (fun x => { x with held := x.held ++ [lane] })))) ∧
    ((g.xs ss c).txRep = none → exec (.seamRepairReq ss c) s = .next (s.onFab (fun _ => g.beginRepair ss c lane)))) ∧
  (∀ (s : State) (ss c : Nat) (r q : Repair), (s.fab.xs ss c).rxRep = some r → r.ready = false →
    (s.fab.xs (farSide ss) c).txRep = some q → q.lane = r.lane →
    exec (.seamSpareTrained ss c true) s = .next (s.onFab (fun f =>
      (f.modX ss c (fun x => { x with rxRep := some { r with ready := true } })).seamCmd ss c .repairReady r.lane))) ∧
  (∀ (s : State) (ss c lane : Nat) (q : Repair) (l : List (LaneCmd × Nat)) (g : Fab),
    (s.fab.xs ss c).cmdIn = (.repairReady, lane) :: l → g = s.fab.modX ss c (fun x => { x with cmdIn := l }) →
    (g.xs ss c).txRep = some q → q.lane = lane → ∃ h,
    h = (g.seamCmd ss c .repairAt lane).modX ss c (fun x => { x with txExcl := setBit x.txExcl lane, txRep := none }) ∧
    exec (.seamRepairReady ss c) s = .next (s.onFab (fun _ => h.heldRepair ss c (h.xs ss c).held))) ∧
  (∀ (s : State) (ss c lane : Nat) (r : Repair) (l : List (LaneCmd × Nat)) (g : Fab),
    (s.fab.xs ss c).cmdIn = (.repairAt, lane) :: l → g = s.fab.modX ss c (fun x => { x with cmdIn := l }) →
    (g.xs ss c).rxRep = some r → r.lane = lane → ∃ h,
    h = (g.modX ss c (fun x => { x with rxExcl := setBit x.rxExcl lane, rxRep := none })).seamRaise ss c lane false 3
      r.spare ∧
    ((h.xs ss c).rxSpares ≠ [] → exec (.seamRepairAt ss c) s = .next (s.onFab (fun _ =>
      h.nextRepair ss c (h.xs ss c).want)))) ∧
  (∀ (s : State) (who ss c v : Nat), ss < 8 → c < 8 → v < 30 →
    ((s.fab.xs ss c).rx.runs = true → v ∈ (s.fab.xs ss c).rxUsed →
      exec (.seamRepairLaneWrite who ss c v) s = .next (s.onFab (fun f => (f.requestRepair ss c v).answer who 0))) ∧
    (v ∉ (s.fab.xs ss c).rxUsed →
      exec (.seamRepairLaneWrite who ss c v) s = .next (s.onFab (fun f => f.answer who 2))))

/-- R396 to R399, R403: an idle direction lowers AWAKE and sends SLEEP; the transmit side answers SLEPT and sleeps
when it holds nothing for the direction, and KNOCK otherwise; on SLEPT the receive side sleeps; after SEAM_DEEP_IDLE
in SLEEP both halves go DEEP, and a transmit PLL with no lane left stops; the lanes in use are IDLE in SLEEP and OFF in DEEP
until a KNOCK sets them ON; a knock, or a credit, an acknowledgement or a command owed, sends KNOCK on a sleeping
direction; KNOCK wakes
the direction: from SLEEP it carries frames again at its width, from DEEP it takes short training; an AWAKE message
sets AWAKE; with both sideband lanes lost, returning signal on a sleeping direction is a KNOCK. -/
def Obligations.SeamSleep : Prop :=
  (∀ (s : State) (ss c : Nat), (s.fab.xs ss c).rx.runs = true → (s.fab.xs ss c).sleepReq = false →
    s.fab.o .seam ss O.SEAM_SLEEP_IDLE ≠ 0 →
    (s.fab.xs ss c).lastFlit + ns (s.fab.o .seam ss O.SEAM_SLEEP_IDLE) ≤ s.fab.sideTime ss →
    s.fab.wireOf (sideTile ss c).1 (sideTile ss c).2 = [] → s.fab.oI O.FABRIC_MODE ≠ 0 → s.fab.sbLost ss = false →
    s.fab.sbLost (farSide ss) = false →
    exec (.seamSleepRequest ss c) s = .next (s.onFab (fun f =>
      ((f.driveAwake ss c false).modX ss c (fun x => { x with sleepReq := true })).sbSend ss (.sleep c)))) ∧
  (∀ (s : State) (ss c : Nat) (l : List SbMsg) (g : Fab), (s.fab.sideOf ss).sb = .sleep c :: l →
    g = s.fab.modSide ss (fun x => { x with sb := l }) → (g.xs ss c).tx.runs = true →
    ((g.xs ss c).replay = [] ∧ (g.xs ss c).fifo = [] ∧ (g.xs ss c).creds = [] ∧ (g.xs ss c).cmds = [] ∧
      (g.seamOut ss c).knock = none → exec (.seamSleepReceive ss) s = .next (s.onFab (fun _ =>
        ((g.takeAwake ss c false).modRoute ss c (fun x => { x with tx := .sleep })).sbSend ss (.slept c)))) ∧
    ((g.xs ss c).replay ≠ [] ∨ (g.xs ss c).creds ≠ [] ∨ (g.xs ss c).cmds ≠ [] ∨ (g.seamOut ss c).knock ≠ none →
      exec (.seamSleepReceive ss) s = .next (s.onFab (fun _ => g.sbSend ss (.knock c))))) ∧
  (∀ (s : State) (ss c : Nat) (l : List SbMsg) (g : Fab), (s.fab.sideOf ss).sb = .slept c :: l →
    g = s.fab.modSide ss (fun x => { x with sb := l }) → (g.xs ss c).rx.runs = true → (g.xs ss c).sleepReq = true →
    (g.xs ss c).air = [] →
    exec (.seamSleptReceive ss) s = .next (s.onFab (fun _ => (g.modRoute ss c (fun x => { x with
      rx := .sleep, sleepReq := false, sleptAt := g.sideTime ss, air := [] })).seamSettle ss))) ∧
  (∀ (s : State) (ss c : Nat), (s.fab.xs ss c).rx = .sleep → (s.fab.xs (farSide ss) c).tx = .sleep →
    s.fab.o .seam ss O.SEAM_DEEP_IDLE ≠ 0 →
    (s.fab.xs ss c).sleptAt + us (s.fab.o .seam ss O.SEAM_DEEP_IDLE) ≤ s.fab.sideTime ss → s.fab.sbLost ss = false →
    s.fab.sbLost (farSide ss) = false → ∃ h,
    h = (s.fab.modRoute ss c (fun x => { x with rx := .deep })).modRoute (farSide ss) c (fun x => { x with
      tx := .deep, txOn := false }) ∧
    exec (.seamDeepEntry ss c) s = .next (s.onFab (fun _ => h.pllSettle (farSide ss)))) ∧
  (∀ (f : Fab) (ss : Nat), (f.sideOf ss).pll = true →
    ((∀ k, k < 8 → (f.xs ss k).tx.dead = true ∨ ((f.xs ss k).tx = .deep ∧ (f.xs ss k).txOn = false)) →
      f.pllSettle ss = f.modSide ss (fun x => { x with pll := false })) ∧
    (∀ k, k < 8 → (f.xs ss k).tx.dead = false → (f.xs ss k).tx ≠ .deep → f.pllSettle ss = f)) ∧
  (∀ (x : CrossSide) (l : Nat), l ∈ lanesUsed x.txExcl x.txHalf →
    (x.tx = .sleep → x.txPower l = if x.txOn then 2 else 1) ∧ (x.tx = .deep → x.txPower l = if x.txOn then 2 else 0)) ∧
  (∀ (s : State) (ss c : Nat), (s.fab.xs ss c).awakeIn = false →
    (s.fab.xs ss c).tx = .sleep ∨ (s.fab.xs ss c).tx = .deep →
    (s.fab.seamOut ss c).knock ≠ none ∨ (s.fab.xs ss c).creds ≠ [] ∨ (s.fab.xs ss c).ackOwed = true ∨
      (s.fab.xs ss c).cmds ≠ [] →
    exec (.seamKnock ss c) s = .next (s.onFab (fun f =>
      (f.modX ss c (fun x => { x with txOn := !(f.xs ss c).tx.runs })).sbSend ss (.knock c)))) ∧
  (∀ (s : State) (ss c : Nat) (l : List SbMsg), (s.fab.sideOf ss).sb = .knock c :: l →
    exec (.seamKnockReceive ss) s = .next (s.onFab (fun f =>
      ((f.modSide ss (fun x => { x with sb := l })).modX ss c (fun x => { x with knockIn := !x.awakeOut })).wakeDir ss
        c))) ∧
  (∀ (f : Fab) (ss c : Nat) (g : Fab), g = f.askWake (sideTile ss c).1 →
    ((f.xs ss c).rx = .deep → f.wakeDir ss c = g.startTraining ss c false (f.xs ss c).rxHalf true) ∧
    ((f.xs ss c).rx = .sleep → f.wakeDir ss c = (((((g.modRoute ss c (fun x => { x with
      rx := if x.rxHalf then .half else .run, sleepReq := false, lastFlit := f.sideTime ss, air := [] })).modRoute
      (farSide ss) c (fun x => { x with tx := if x.txHalf then .half else .run, txOn := false })).seamSettle ss).raiseAwake
      ss c).emit
      (farSide ss) c emitAll).emitNull (farSide ss) c)) ∧
  (∀ (s : State) (ss c : Nat) (b : Bool) (l : List SbMsg), (s.fab.sideOf ss).sb = .awake c b :: l →
    exec (.seamAwakeMessage ss) s = .next (s.onFab (fun f =>
      (f.modSide ss (fun x => { x with sb := l })).takeAwake ss c b))) ∧
  (∀ (s : State) (ss c lanes : Nat), (s.fab.xs ss c).los &&& lanes ≠ 0 → s.fab.sbLost ss = true →
    (s.fab.xs ss c).rx = .sleep ∨ (s.fab.xs ss c).rx = .deep →
    exec (.rxlosFall ss c lanes) s = .next (s.onFab (fun f =>
      (f.modX ss c (fun x => { x with los := clearBits x.los lanes })).wakeDir ss c)))

/-- R392, R395, R402 to R405: STATE updates what its side knows of the peer; STATE leaves on a change or 1 ms after
the last; loss of the last sideband lane raises SEAM_SB_LOSS and wakes every direction of the seam, and lock regained
ends it, the lane having locked to the comma in the words received; loss of the transmit PLL in service raises SEAM_PLL,
whichever other crossing-sides are in reset, and takes all eight crossings DOWN; RST_ENTER takes the
crossing or all eight DOWN and is answered with RST_SEEN, RST_SEEN with RST_ACK, and RST_ACK gives the crossing values
their reset values. -/
def Obligations.SeamMessages : Prop :=
  (∀ (s : State) (ss c k : Nat) (st : DirSt) (h : Bool) (l : List SbMsg), (s.fab.sideOf ss).sb = .state c st k h :: l →
    exec (.seamStateMessage ss) s = .next (s.onFab (fun f =>
      ((f.modSide ss (fun x => { x with sb := l })).modRoute ss c (fun x => { x with
        peerRx := st, peerSpares := k, peerHalf := h })).raiseAwake ss c))) ∧
  (∀ (s : State) (ss c : Nat), (s.fab.xs ss c).stSent ≠ (s.fab.xs ss c).stateMsg ∨
    (s.fab.xs ss c).stAt + ms 1 ≤ s.fab.sideTime ss →
    exec (.seamStateSend ss c) s = .next (s.onFab (fun f =>
      (f.modX ss c (fun x => { x with stSent := (f.xs ss c).stateMsg, stAt := f.sideTime ss })).sbSend ss
        (.state c (f.xs ss c).rx (min 3 (f.xs ss c).rxSpares.length) (f.xs ss c).rxHalf)))) ∧
  (∀ (s : State) (ss c : Nat), (s.fab.xs ss c).stSent = (s.fab.xs ss c).stateMsg →
    s.fab.sideTime ss < (s.fab.xs ss c).stAt + ms 1 → exec (.seamStateSend ss c) s = .next s) ∧
  (∀ (s : State) (ss lane : Nat), lane < 2 → (s.fab.sideOf ss).lock0 = true → (s.fab.sideOf ss).lock1 = true →
    exec (.sidebandLockLoss ss lane) s = .next (s.onFab (fun f =>
      f.modSide ss (fun x => { x with lock0 := lane != 0, lock1 := lane != 1 })))) ∧
  (∀ (s : State) (ss : Nat), (s.fab.sideOf ss).lock0 = false → (s.fab.sideOf ss).lock1 = true →
    exec (.sidebandLockLoss ss 1) s = .next (s.onFab (fun f =>
      (List.range 8).foldl (fun f c => (f.wakeDir ss c).wakeDir (farSide ss) c)
        (((f.modSide ss (fun x => { x with lock0 := false, lock1 := false })).modSide ss (fun x => { x with
          sb := [] })).raiseC (famKey .seam ss) 12 (31 * 8) 0 0)))) ∧
  (∀ (s : State) (ss a : Nat) (words : List Nat), commaAlign words = some a →
    bit s.fab.guyBreaks (breakBit ss) = false →
    exec (.sidebandLockRegain ss (0, words)) s = .next (s.onFab (fun f =>
      (f.modSide ss (fun x => { x with lock0 := true, align0 := a })).endC (famKey .seam ss) 12)) ∧
    exec (.sidebandLockRegain ss (1, words)) s = .next (s.onFab (fun f =>
      (f.modSide ss (fun x => { x with lock1 := true, align1 := a })).endC (famKey .seam ss) 12))) ∧
  (∀ (s : State) (ss lane : Nat) (words : List Nat), commaAlign words = none → s.fab.sbLost ss = true →
    exec (.sidebandLockRegain ss (lane, words)) s = .next s) ∧
  (∀ (s : State) (ss c : Nat), (s.fab.sideOf ss).pll = true → c < 8 → (s.fab.xs ss c).tx = .run →
    (s.fab.xs ss c).inRst = false →
    exec (.seamPllLoss ss) s = .next (s.onFab (fun f =>
      (List.range 8).foldl (fun f c => f.crossDown ss c 3)
        ((f.modSide ss (fun x => { x with pll := false })).raiseMore (famKey .seam ss) 10 (31 * 8 + 256) 0 0)))) ∧
  (∀ (s : State) (ss c : Nat) (b : Bool) (l : List SbMsg), (s.fab.sideOf ss).sb = .rst c b 0 :: l →
    exec (.rstEnterReceive ss) s = .next (s.onFab (fun f =>
      ((if b then List.range 8 else [c]).foldl (fun f k => f.peerReset ss k b (k == if b then 0 else c))
        (f.modSide ss (fun x => { x with sb := l }))).sbSend ss (.rst c b 1)))) ∧
  (∀ (s : State) (ss c : Nat) (b : Bool) (l : List SbMsg), (s.fab.sideOf ss).sb = .rst c b 1 :: l →
    exec (.rstSeenReceive ss) s = .next (s.onFab (fun f =>
      (f.modSide ss (fun x => { x with sb := l })).sbSend ss (.rst c b 2)))) ∧
  (∀ (s : State) (ss c : Nat) (b : Bool) (l : List SbMsg), (s.fab.sideOf ss).sb = .rst c b 2 :: l →
    exec (.rstAckReceive ss) s = .next (s.onFab (fun f =>
      (if b then List.range 8 else [c]).foldl (fun f k => f.peerAck ss k)
        (f.modSide ss (fun x => { x with sb := l })))))

/-- R410 to R412, R427, R430 to R435: a spine check that finds every tile register in step changes nothing, and one
that finds a tile's register disturbed raises LT_TILE_SYNC for it and leaves no register apart from the die time; at
the apply time a step moves the die time and the step sum together and counts in LANTERN_STEPS; PPS_OUT rises at a
whole second not yet marked and falls after its width; each frame of an enabled port group carries the group's frame,
and a disabled group's data is low. -/
def Obligations.FabricTime : Prop :=
  (∀ (s : State) (d : Nat), (s.fab.lantern d).dev = [] →
    exec (.lanternSpineCheck d []) s = .next (s.onFab (fun f => (f.modLan d id).modLan d (fun l => { l with dev := [] })))) ∧
  (∀ (s : State) (d t : Nat) (x : Int), (s.fab.lantern d).dev = [] → dieOf t = d → x ≠ 0 → ∃ h,
    h = s.fab.modLan d (fun l => { l with dev := [(t, x)] }) ∧
    exec (.lanternSpineCheck d [(t, x)]) s = .next (s.onFab (fun _ =>
      (h.raise (famLantern d) 0 t ((h.lantern d).tileTime t / 65536) 0).modLan d (fun l => { l with dev := [] })))) ∧
  (∀ (s : State) (d a : Nat) (amount : Int), (s.fab.lantern d).step = some (a, amount) →
    (a ≤ s.fab.dieTime d → exec (.stepApply d) s = .next (s.onFab (fun f =>
      let g := (holdersOf d).foldl (fun f w => f.beforeStep w) f
      let g := (g.modLan d (fun l => { l.advance (amount * 2 ^ 24) with step := none, stepSum := l.stepSum + amount })).bump
        .die d O.LANTERN_STEPS 0
      (holdersOf d).foldl (fun f w => f.afterStep w) g))) ∧
    (s.fab.dieTime d < a → exec (.stepApply d) s = .next s)) ∧
  (∀ (s : State) (d : Nat), (s.fab.coldRuns = true ∨ s.fab.ppsIndex d ≤ (s.fab.lantern d).ppsSec) →
    exec (.ppsOutEdge d) s = .next s) ∧
  (∀ (s : State) (d : Nat), s.fab.coldRuns = false → (s.fab.lantern d).ppsSec < s.fab.ppsIndex d →
    exec (.ppsOutEdge d) s = .next (s.onFab (fun f => f.modLan d (fun l => { l with
      ppsSec := f.ppsIndex d
      ppsOut := if f.oD d O.LANTERN_PPS_OUT_WIDTH = 0 then none else some (l.run).toNat })))) ∧
  (∀ (s : State) (d t : Nat), (s.fab.lantern d).ppsOut = some t →
    ((t + us (s.fab.oD d O.LANTERN_PPS_OUT_WIDTH) : Nat) : Int) ≤ (s.fab.lantern d).run →
    exec (.ppsOutFall d) s = .next (s.onFab (fun f => f.modLan d (fun l => { l with ppsOut := none })))) ∧
  (∀ (s : State) (g : Nat), g < 64 → exec (.timeFrame g) s = .next (s.onFab (fun f =>
    f.modLan (g / 16) (fun l =>
      let v := if bit (f.o .die (g / 16) O.LANTERN_TB_EN) (g % 16) then l.frame g else 0
      { l with frames := SMap.set (fun _ => 0) l.frames g v })))) ∧
  (∀ (l : Lantern) (g : Nat), field (l.frame g) 0 80 = (l.advance (256 * (l.inc : Int))).tileTime (4 * g) ∧
    field (l.frame g) 112 2 = l.busState ∧ field (l.frame g) 120 8 = crc8 (field (l.frame g) 0 120) 120)

/-- R429: a step that die time can hold moves the die time by its amount and leaves the run time, by which the
deadlines of tags, spills and references are kept, exactly where it was, on the die and on every tile whose register
is in step. -/
def Obligations.StepKeepsRunTime : Prop :=
  ∀ (s t : State) (d a : Nat) (amount : Int), (s.fab.lantern d).step = some (a, amount) → a ≤ s.fab.dieTime d →
    0 ≤ ((s.fab.lantern d).acc : Int) + amount * 2 ^ 24 →
    ((s.fab.lantern d).acc : Int) + amount * 2 ^ 24 < 2 ^ 104 → (s.fab.lantern d).acc < 2 ^ 104 →
    exec (.stepApply d) s = .next t →
    (t.fab.dieTime d : Int) = s.fab.dieTime d + amount ∧ (t.fab.lantern d).run = (s.fab.lantern d).run ∧
    ∀ n, dieOf n = d → (s.fab.lantern d).dev = [] → t.fab.run n = s.fab.run n

/-- R414 to R417, R425, R427: an exchange of a follower with an upstream sends TIME_REQ with the next sequence and
records t1; TIME_REQ is answered with t2, t3 - t2, state and hops; a TIME_RSP of the sequence asked for, along the
upstream in use and with a path, gives theta by R416, which the follower acts on by R417, and any other TIME_RSP gives
no offset; a STEP of the upstream is armed and sent on, and an UP_OFFSET goes on towards D0. R420 to R428, R442, R634:
a counted PPS_IN edge of D0 in PPS runs the servo on its folded offset, and edges of other dies or less than 500 ms
after the last are ignored; without an edge for LANTERN_PPS_TIMEOUT, or a good sample for LANTERN_UP_TIMEOUT, the lead
Lantern enters HOLDOVER with its fault; so does a die that loses LREFCLK, which acquires when it returns; a sample of
LANTERN_UP_PORT with a good CRC and a new sequence gives the lead Lantern its offset; a write of LANTERN_SOURCE
returns it to ACQUIRE or FREE; LANTERN_STEP and LANTERN_SET are refused by R428 and otherwise set a step 50 us ahead.
-/
def Obligations.LanternExchanges : Prop :=
  ((∀ (s : State) (d seam : Nat) (g : Fab), 0 < d → d < 4 → (s.fab.lantern d).req = none →
    g = (s.fab.modLan d Lantern.endRemoval).chooseUpstream d → (g.lantern d).upstream = some seam →
    exec (.lanternExchange d) s = .next (s.onFab (fun _ =>
      (g.modLan d (fun l => { l with req := some (l.seq, stamp l.time), seq := (l.seq + 1) % 256 })).sbSend
        (sideOn d seam) (.timeReq (g.lantern d).seq)))) ∧
  (∀ (s : State) (ss turn k : Nat) (l : List SbMsg) (g : Fab), (s.fab.sideOf ss).sb = .timeReq k :: l →
    g = s.fab.modSide ss (fun x => { x with sb := l }) →
    exec (.timeReqReceive ss turn) s = .next (s.onFab (fun _ =>
      g.sbSend ss (.timeRsp k (stamp (g.dieTime (sideDie ss))) (stamp turn % 2 ^ 32) (g.lantern (sideDie ss)).st.rspCode
        (g.lantern (sideDie ss)).hops)))) ∧
  (∀ (s : State) (ss seq t2 dt st hops t1 n d : Nat) (l : List SbMsg) (g : Fab),
    (s.fab.sideOf ss).sb = .timeRsp seq t2 dt st hops :: l → g = s.fab.modSide ss (fun x => { x with sb := l }) →
    d = sideDie ss → (g.lantern d).req = some (n, t1) →
    (n ≠ seq ∨ hops = 3 ∨ (g.lantern d).upstream ≠ some (sideSeam ss) →
      exec (.timeRspReceive ss) s = .next (s.onFab (fun _ => g.missed d))) ∧
    (n = seq → hops ≠ 3 → (g.lantern d).upstream = some (sideSeam ss) →
      ∃ t4 asym : Int, t4 = stamp (g.dieTime d) ∧ asym = psUnits (toSigned (g.oD d O.LANTERN_ASYM (sideSeam ss)) 64) ∧
      ∃ theta delta : Int, theta = (((t2 : Int) - t1) - (t4 - (t2 + dt)) - asym) / 2 ∧ delta = ((t4 - t1) - dt) / 2 ∧
      exec (.timeRspReceive ss) s = .next (s.onFab (fun _ => (g.modLan d (fun l => { l with
        req := none, miss := 0, offset := theta, delay := (delta * 1000 / 65536).toNat % 2 ^ 32 })).follow d theta)))) ∧
  (∀ (f : Fab) (d : Nat) (theta : Int), (f.lantern d).st = .acquire → (f.lantern d).stepped = false →
    6553600 < theta.natAbs → f.follow d theta = f.modLan d (fun l => l.ownStep theta)) ∧
  (∀ (s : State) (ss a : Nat) (amount : Int) (l : List SbMsg) (g : Fab), (s.fab.sideOf ss).sb = .timeStep a amount :: l →
    g = s.fab.modSide ss (fun x => { x with sb := l }) → (g.lantern (sideDie ss)).upstream = some (sideSeam ss) →
    exec (.timeCmdReceive ss) s = .next (s.onFab (fun _ =>
      (g.modLan (sideDie ss) (fun l => { l with step := some (a, amount) })).sendStep (sideDie ss) a amount))) ∧
  (∀ (s : State) (ss k : Nat) (e : Int) (l : List SbMsg) (g : Fab), (s.fab.sideOf ss).sb = .timeOffset e k :: l →
    g = s.fab.modSide ss (fun x => { x with sb := l }) →
    (sideDie ss ≠ 0 → exec (.timeCmdReceive ss) s = .next (s.onFab (fun _ => g.sendOffset (sideDie ss) e k))) ∧
    (sideDie ss = 0 → g.oI O.LANTERN_SOURCE = 2 →
      exec (.timeCmdReceive ss) s = .next (s.onFab (fun _ => g.useUpstream e))))) ∧
  ((∀ (s : State) (d : Nat), d ≠ 0 → exec (.ppsInEdge d) s = .next s) ∧
  (∀ (s : State) (e : Nat), (s.fab.lantern 0).edgeAt = some e → ((s.fab.lantern 0).run).toNat < e + ms 500 →
    exec (.ppsInEdge 0) s = .next s) ∧
  (∀ (s : State) (g : Fab), (s.fab.lantern 0).edgeAt = none → s.fab.oI O.LANTERN_SOURCE = 1 →
    g = (s.fab.bump .inst 0 O.PPS_IN_COUNT 0).modLan 0 (fun l => { l with
      ppsAt := ((s.fab.lantern 0).run).toNat, edgeAt := some ((s.fab.lantern 0).run).toNat
      ppsNs := stamp (s.fab.dieTime 0) / 65536 }) → g.oI O.LANTERN_SOURCE = 1 →
    ((g.endC (famLantern 0) 4).leadReturns.lantern 0).st ≠ .holdover →
    exec (.ppsInEdge 0) s = .next (s.onFab (fun _ => (g.endC (famLantern 0) 4).leadReturns.servo
      (foldSecond ((stamp (s.fab.dieTime 0) : Int)
        - psUnits ((g.endC (famLantern 0) 4).leadReturns.oSigned O.PPS_DELAY))))) ) ∧
  (∀ (s : State), s.fab.oI O.LANTERN_SOURCE = 1 →
    (((s.fab.lantern 0).ppsAt + ms (s.fab.oI O.LANTERN_PPS_TIMEOUT) : Nat) : Int) ≤ (s.fab.lantern 0).run →
    exec .ppsTimeout s = .next (s.onFab (fun f =>
      (f.raiseC (famLantern 0) 4 0 (f.lantern 0).ppsNs 0).holdover 0 1))) ∧
  (∀ (s : State), s.fab.oI O.LANTERN_SOURCE = 2 →
    (((s.fab.lantern 0).upAt + ms (s.fab.oI O.LANTERN_UP_TIMEOUT) : Nat) : Int) ≤ (s.fab.lantern 0).run →
    exec .upTimeout s = .next (s.onFab (fun f =>
      (f.raiseC (famLantern 0) 5 (b2n (f.lantern (f.oI O.LANTERN_UP_PORT / 64)).upBad) (f.lantern 0).upNs 0).holdover 0 2))) ∧
  (∀ (s : State) (d : Nat),
    ((s.fab.lantern d).refOk = true → exec (.lrefclkLoss d) s = .next (s.onFab (fun f =>
      ((f.modLan d (fun l => { l with refOk := false })).raiseC (famLantern d) 6 0 0 0).holdover d 3))) ∧
    ((s.fab.lantern d).refOk = false → d ≠ 0 → exec (.lrefclkReturn d) s = .next (s.onFab (fun f =>
      ((f.modLan d (fun l => { l with refOk := true })).endC (famLantern d) 6).acquire d)))) ∧
  (∀ (s : State) (g w : Nat), g < 16 → s.fab.oI O.LANTERN_SOURCE = 2 →
    bit (s.fab.o .die 0 O.LANTERN_TB_EN) g = true → 4 * g + field w 0 2 = s.fab.oI O.LANTERN_UP_PORT →
    (field w 168 8 ≠ crc8 w 168 → exec (.timeSample g w) s = .next (s.onFab (fun f =>
      f.modLan 0 (fun l => { l with upBad := true })))) ∧
    (field w 168 8 = crc8 w 168 → (s.fab.lantern 0).upSeq ≠ some (field w 162 6) →
      exec (.timeSample g w) s = .next (s.onFab (fun f =>
        (f.modLan 0 (fun l => { l with upSeq := some (field w 162 6), upBad := false })).useUpstream
          ((field w 2 80 : Int) - (field w 82 80 : Int)))))) ∧
  (∀ (s : State) (who v : Nat), v < 3 → exec (.lanternSourceWrite who v) s = .next (s.onFab (fun f =>
    let g := (f.setO .inst 0 O.LANTERN_SOURCE 0 v).acquire 0
    (g.modLan 0 (fun l => { l with
      integ := 0, ppsAt := ((g.lantern 0).run).toNat, upAt := ((g.lantern 0).run).toNat
      st := if v = 0 then .free else .acquire })).answer who 0))) ∧
  (∀ (s : State) (who v : Nat),
    (s.fab.stepRefused (toSigned v 64 * 65536) = true →
      exec (.lanternStepWrite who v) s = .next (s.onFab (fun f => f.answer who 2))) ∧
    (s.fab.stepRefused (toSigned v 64 * 65536) = false →
      exec (.lanternStepWrite who v) s = .next (s.onFab (fun f =>
        ((f.modLan 0 (fun l => { l with step := some (f.dieTime 0 + us 50, toSigned v 64 * 65536) })).sendStep 0
          (f.dieTime 0 + us 50) (toSigned v 64 * 65536)).answer who 0)))) ∧
  (∀ (s : State) (who v : Nat) (x : Int), x = ((v % 2 ^ 80 : Nat) : Int) - (s.fab.dieTime 0 + us 50 : Nat) →
    (s.fab.stepRefused x = true →
      exec (.lanternSetWrite who v) s = .next (s.onFab (fun f => f.answer who 2))) ∧
    (s.fab.stepRefused x = false →
      exec (.lanternSetWrite who v) s = .next (s.onFab (fun f =>
        ((f.modLan 0 (fun l => { l with step := some (f.dieTime 0 + us 50, x) })).sendStep 0 (f.dieTime 0 + us 50)
          x).answer who 0)))))

/-- R115, R117, R447 to R458, R463: a tile in T0 whose idle timer and conditions allow it goes to T1 in one step, and
begins its entry to T2 from T0 or T1, or to T3, with SRAM retention asked for and TILE_LOGIC given up for T2; an idle
timer of zero never expires. A wanted sleeping tile begins its wake; a wake is over only when its domains and its
clock are ready, and then the tile is in T0 with no wake wanted. TILE_HOLD wakes a sleeping tile, and a lower
TILE_DEEPEST wakes one that is deeper. -/
def Obligations.TileSleep : Prop :=
  (∀ (s : State) (t : Nat), (s.fab.tile t).st = .t0 → (s.fab.tile t).pw.waking = false → s.fab.qclkRuns t = true →
    s.fab.oT t O.TILE_DOZE_IDLE ≠ 0 → s.fab.oT t O.TILE_DOZE_IDLE ≤ (s.fab.tile t).pw.idle1 →
    s.fab.sleepOk t 1 = true → (s.fab.tile t).pw.wakeReq = false → s.fab.cellFenced t = false →
    exec (.tileDozeEntry t) s = .next (s.onFab (fun f =>
      ((f.accTime t).modTile t (fun x => { x with st := .t1 })).dropAwake t))) ∧
  (∀ (s : State) (t : Nat), (s.fab.tile t).st = .t0 ∨ (s.fab.tile t).st = .t1 → (s.fab.tile t).pw.waking = false →
    s.fab.oT t O.TILE_NAP_IDLE ≠ 0 →
    (s.fab.tile t).pw.idle2 + ns (s.fab.oT t O.TILE_NAP_IDLE) ≤ (s.fab.run t).toNat →
    s.fab.sleepOk t 2 = true → (s.fab.tile t).pw.wakeReq = false → s.fab.cellFenced t = false →
    exec (.tileNapEntry t) s = .next (s.onFab (fun f =>
      let g := ((f.cdcEvent (.cell t)).accTime t).modTile t (fun x => { x with
        st := .t2
        pw := { x.pw with
          entering := true, before := x.st, retReq := true, tlReq := false, deepAt := (f.run t).toNat } })
      let h := if isSpTile t then g.spPowerDown (dieOf t) else g
      ((h.enterDeep t).dropAwake t).oweLess))) ∧
  (∀ (s : State) (t : Nat), (s.fab.oT t O.TILE_DOZE_IDLE = 0 → exec (.tileDozeEntry t) s = .next s) ∧
    (s.fab.oT t O.TILE_NAP_IDLE = 0 → exec (.tileNapEntry t) s = .next s)) ∧
  (∀ (s : State) (t : Nat), s.fab.mayOff t = true →
    exec (.tileOffEntry t) s = .next (s.onFab (fun f => f.beginOff t))) ∧
  (∀ (s : State) (t : Nat) (g : Fab),
    (g = s.fab.modPw t (fun p => { p with t3Req := true, t3Gnt := p.t3Gnt && true }) →
      (isSpTile t = true → g.spInReset (dieOf t) = false →
        exec (.pcT3Req t true) s = .next (s.onFab (fun _ => g.spPowerDown (dieOf t)))) ∧
      (isSpTile t = false → g.mayOff t = true → exec (.pcT3Req t true) s = .next (s.onFab (fun _ => g.beginOff t))) ∧
      (isSpTile t = false → g.mayOff t = false → exec (.pcT3Req t true) s = .next (s.onFab (fun _ => g)))) ∧
    (g = s.fab.modPw t (fun p => { p with t3Req := false, t3Gnt := p.t3Gnt && false }) →
      exec (.pcT3Req t false) s = .next (s.onFab (fun _ =>
        if isSpTile t && (g.spOf (dieOf t)).pdReq && !g.pdStands t then
          g.modSp (dieOf t) (fun n => { n with pdReq := false })
        else g)))) ∧
  (∀ (f : Fab) (d : Nat), (f.spPowerDown d) = (f.modSp d (fun n => { n with pdReq := true })).makeEligible d (fun _ => true)) ∧
  (∀ (s : State) (t : Nat), (s.fab.tile t).asleep = true → s.fab.wakeWanted t = true →
    exec (.tileWake t) s = .next (s.onFab (fun f => f.startWake t))) ∧
  (∀ (s : State) (t : Nat), s.fab.wakeReady t = false → exec (.tileWakeDone t) s = .next s) ∧
  (∀ (s : State) (t : Nat), s.fab.wakeReady t = true → (s.fab.tile t).st = .t1 → (s.fab.tile t).pw.entering = false →
    ∃ g h : Fab, g = ((((s.fab.accTime t).bumpT t O.TILE_WAKES).event t 0x50 0).toRun t).queuesWake t ∧
    h = (if g.eAwake t then g.modNi t (fun n => { n with knock := false }) else g) ∧
    exec (.tileWakeDone t) s = .next (s.onFab (fun f =>
      ((if isSpTile t then h.modSp (dieOf t) (fun n => { n with pdReq := n.pdReq && (f.tile t).pw.t3Req }) else h).loadOwed
        t).raiseSeams t))) ∧
  (∀ (f : Fab) (t : Nat), ((f.toRun t).tile t).st = .t0 ∧ ((f.toRun t).tile t).pw.waking = false ∧
    ((f.toRun t).tile t).pw.wakeReq = false) ∧
  (∀ (s : State) (who t v : Nat), t < 256 →
    (v ≠ 0 → (s.fab.tile t).asleep = true → exec (.tileHoldWrite who t v) s = .next (s.onFab (fun f =>
      (((f.idleSettle t 0).setO .tile t O.TILE_HOLD 0 1).startWake t).answer who 0))) ∧
    (v < 3 → exec (.tileDeepestWrite who t v) s = .next (s.onFab (fun f =>
      (((f.idleSettle t 0).setO .tile t O.TILE_DEEPEST 0 v).obeyDeepest t).answer who 0))))

/-- R132, R400, R446, R458 to R463, R638 to R642, R647: an acknowledgement change sets a domain's ACK to its REQ;
UNIQUE is given up only while RST_COLD_N is low and every other domain of D0 is off; a PLL whose tiles have slept long
enough parks, but quadrant 4*die never does; a relocked PLL runs and its crossings raise AWAKE; QPLL_HOLD relocks a
Parked PLL; QCLK_FREQ is DENIED unless every PLL is Parked; FABRIC_MODE loads its table on every die the broadcast
reaches and closes the boot window, and 1 ms into that window the boot ROM does so with DEFAULT_MODE. -/
def Obligations.PowerAndClocks : Prop :=
  (∀ (s : State) (t d q : Nat),
    exec (.pdAckChange (.tl t)) s = .next (s.onFab (fun f =>
      ((f.accTime t).modTile t (fun x => { x with pw := { x.pw with tlAck := x.pw.tlReq }.proceed x.st })).uqCheck)) ∧
    exec (.pdAckChange (.ts t)) s = .next (s.onFab (fun f =>
      ((f.accTime t).modTile t (fun x => { x with pw := { x.pw with tsAck := x.pw.tsReq }.proceed x.st })).uqCheck)) ∧
    exec (.pdAckChange (.ret t)) s = .next (s.onFab (fun f =>
      (f.accTime t).modTile t (fun x => { x with pw := { x.pw with retAck := x.pw.retReq }.proceed x.st }))) ∧
    exec (.pdAckChange (.qp q)) s = .next (s.onFab (fun f => (f.modDie (q / 4) (fun d => { d with
      qpAck := modAt d.qpAck (q % 4) (fun _ => d.qpReq.getD (q % 4) false) })).uqCheck)) ∧
    exec (.pdAckChange (.fam d)) s = .next (s.onFab (fun f =>
      (f.modDie d (fun x => { x with famAck := x.famReq })).uqCheck))) ∧
  (∀ (f : Fab), (f.coldLow = false ∨ (f.die 0).pcUqReq = false → f.uqCheck = f) ∧
    ((f.die 0).pcUqReq = true → (f.die 0).uqReq = true → f.coldLow = true → f.domainsOff 0 = true →
      f.uqCheck = f.modDie 0 (fun d => { d with uqReq := false }))) ∧
  (∀ (s : State), s.fab.coldLow = false → exec (.pcUqReq true) s = .next (s.onFab (fun f =>
    (f.modDie 0 (fun d => { d with pcUqReq := true })).modDie 0 Die.uqProceed))) ∧
  (∀ (s : State) (g : Fab), g = s.fab.modDie 0 (fun d => { d with pcUqReq := false }) →
    (s.fab.map.present = true → exec (.pcUqReq false) s = .next (s.onFab (fun _ =>
      (g.modDie 0 (fun d => { d with uqReq := true })).modDie 0 Die.uqProceed))) ∧
    (s.fab.map.present = false → exec (.pcUqReq false) s = .next (s.onFab (fun _ => g.modDie 0 Die.uqProceed)))) ∧
  (∀ (s : State) (q : Nat), q < 16 →
    (q % 4 = 0 → exec (.qpllPark q) s = .next s) ∧
    (q % 4 ≠ 0 → s.fab.qpll q = 0 → s.fab.o .quad q O.QPLL_PARK_IDLE ≠ 0 → s.fab.o .quad q O.QPLL_HOLD = 0 →
      (∀ t ∈ tilesOfQuad q, ((s.fab.tile t).st = .t2 ∨ (s.fab.tile t).st = .t3) ∧ (s.fab.tile t).pw.waking = false ∧
        (s.fab.tile t).pw.entering = false ∧
        (s.fab.tile t).pw.deepAt + us (s.fab.o .quad q O.QPLL_PARK_IDLE) ≤ (s.fab.run t).toNat) →
      exec (.qpllPark q) s = .next (s.onFab (fun f => (f.setO .quad q O.QPLL_STATE 0 1).setQp q false))) ∧
    (s.fab.qpll q = 2 → (s.fab.die (q / 4)).qpAck.getD (q % 4) false = true →
      exec (.qpllRelockDone q) s = .next (s.onFab (fun f =>
        (tilesOfQuad q).foldl (fun f t => (f.raiseSeams t).settleKnock t)
          ((f.setO .quad q O.QPLL_STATE 0 0).startPass q)))) ∧
    (∀ who, exec (.qpllHoldWrite who q 1) s = .next (s.onFab (fun f =>
      ((f.setO .quad q O.QPLL_HOLD 0 1).relock q).answer who 0)))) ∧
  (∀ (s : State) (who v : Nat), v < 4 →
    ((∀ q, q < 16 → s.fab.qpll q = 1) → exec (.qclkFreqWrite who v) s = .next (s.onFab (fun f =>
      (f.setO .inst 0 O.QCLK_FREQ 0 v).answer who 0))) ∧
    ((∃ q, q < 16 ∧ s.fab.qpll q ≠ 1) → exec (.qclkFreqWrite who v) s = .next (s.onFab (fun f => f.answer who 2)))) ∧
  (∀ (s : State) (who v : Nat), v < 3 → (∀ d, d < 4 → (s.fab.endLatency.setO .inst 0 O.FABRIC_MODE 0 v).bcastUp d = true) →
    exec (.fabricModeWrite who v) s = .next (s.onFab (fun f =>
      let g := [0, 1, 2, 3].foldl (fun f d => f.applyMode v d) (f.endLatency.setO .inst 0 O.FABRIC_MODE 0 v)
      { g with boot := false, modeDue := [] }.answer who 0)) ∧
    (s.fab.boot = true → s.fab.bootAt + ms 1 ≤ (s.fab.run 0).toNat → s.fab.defaultMode = v →
      exec .bootDefaultMode s = .next (s.onFab (fun f =>
        let g := [0, 1, 2, 3].foldl (fun f d => f.applyMode v d) (f.endLatency.setO .inst 0 O.FABRIC_MODE 0 v)
        { g with boot := false, modeDue := [] })))) ∧
  (∀ (s : State), s.fab.boot = false → exec .bootDefaultMode s = .next s)

/-- R466, R467, R469 to R473, R475: events that arrive while a handshake is in flight merge into one, and a value that
changes meanwhile makes the crossing DIRTY; the acknowledgement starts the one handshake that waits, with the value that
stands. An idle event on a crossing that is neither fenced nor held begins a handshake, or acknowledges the one in
flight. A handshake unacknowledged for the CDC_TIMEOUT that stood when it began fences the crossing, raises CDC_TIMEOUT
anew in its owner's family, counts it for the die and has the crossing's effect, also in the middle of a release; a
shorter one, one already fenced and one held have no timeout. A release that completes lifts the fence; a peer reset is
seen, abandoning what waits and is in flight, then acknowledged, reverting every value, and the crossing resumes once
the reset has ended. -/
def Obligations.ClockCrossings : Prop :=
  (∀ (c : CdcSt) (limit v : Nat), c.busy = true →
    c.event limit = { c with pending := true } ∧ c.value limit v = { c with src := v, dirty := true } ∧
    (c.pending = true ∨ c.dirty = true → c.acked limit = { c with
      pending := false, dirty := false, ack := c.req, rx := c.h, h := c.src, req := !c.req, limit := limit }) ∧
    (c.pending = false → c.dirty = false → c.acked limit = { c with ack := c.req, rx := c.h })) ∧
  (∀ (c : CdcSt) (limit v : Nat), c.busy = false →
    (c.event limit).rx = c.src ∧ (c.value limit v).rx = v ∧ (c.event limit).busy = false ∧
    (c.value limit v).busy = false) ∧
  (∀ (s : State) (x : Cdc), s.fab.cdcFenced x = false → (s.fab.cdcOf x).peer = 0 →
    ((s.fab.cdcOf x).busy = false →
      exec (.cdcIdleEvent x false) s = .next (s.onFab (fun f => f.modCdc x (fun c => c.start f.cdcLimit))) ∧
      exec (.cdcIdleEvent x true) s = .next (s.onFab (fun f => f.modCdc x (fun c => (c.start f.cdcLimit).taken)))) ∧
    ((s.fab.cdcOf x).busy = true →
      exec (.cdcIdleEvent x true) s = .next (s.onFab (fun f => f.modCdc x (fun c => c.acked f.cdcLimit))))) ∧
  (∀ (s : State) (x : Cdc) (b : Bool), s.fab.cdcFenced x = true ∨ (s.fab.cdcOf x).peer ≠ 0 →
    exec (.cdcIdleEvent x b) s = .next s) ∧
  (∀ (s : State) (x : Cdc) (cycles : Nat), (s.fab.cdcOf x).fenced = false ∨ (s.fab.cdcOf x).releasing = true →
    (s.fab.cdcOf x).peer = 0 →
    (if (s.fab.cdcOf x).busy then (s.fab.cdcOf x).limit else s.fab.oI O.CDC_TIMEOUT) ≤ cycles →
    exec (.cdcTimeout (x, cycles)) s = .next (s.onFab (fun f =>
      let o := cdcOwner x
      (((f.modCdc x (fun c => { c with fenced := true, releasing := false })).raiseMore o.1 o.2.1 o.2.2.1 0 0).bump .die
        o.2.2.2 O.CDC_TIMEOUTS 0).cdcEffect x))) ∧
  (∀ (s : State) (x : Cdc) (cycles : Nat), (s.fab.cdcOf x).peer ≠ 0 ∨
    ((s.fab.cdcOf x).busy = true ∧ cycles < (s.fab.cdcOf x).limit) ∨
    ((s.fab.cdcOf x).fenced = true ∧ (s.fab.cdcOf x).releasing = false) →
    exec (.cdcTimeout (x, cycles)) s = .next s) ∧
  (∀ (s : State) (x : Cdc), (s.fab.cdcOf x).fenced = true → (s.fab.cdcOf x).releasing = false →
    exec (.cdcReleaseDone x) s = .next s) ∧
  (∀ (s : State) (x : Cdc) (g : Fab), (s.fab.cdcOf x).fenced = true → (s.fab.cdcOf x).releasing = true →
    g = (s.fab.modCdc x (fun _ => CdcSt.reset)).cdcLift x →
    (allCdc.any (fun y => (cdcOwner y).1 == (cdcOwner x).1 && g.cdcFenced y) = true →
      exec (.cdcReleaseDone x) s = .next (s.onFab (fun _ => g))) ∧
    (allCdc.any (fun y => (cdcOwner y).1 == (cdcOwner x).1 && g.cdcFenced y) = false →
      exec (.cdcReleaseDone x) s = .next (s.onFab (fun _ => g.modFam (cdcOwner x).1 (fun y => { y with
        cond := clearBits y.cond (mask (cdcOwner x).2.1), pend := clearBits y.pend (mask (cdcOwner x).2.1) }))))) ∧
  (∀ (s : State) (x : Cdc),
    ((s.fab.cdcOf x).peer = 1 → exec (.peerResetReceive x) s = .next (s.onFab (fun f =>
      f.modCdc x (fun c => { c with peer := 2, pending := false, ack := c.req, releasing := false })))) ∧
    ((s.fab.cdcOf x).peer = 2 → (s.fab.cdcOf x).ended = true → exec (.resetAckReceive x) s = .next (s.onFab (fun f =>
      f.modCdc x (fun c => { CdcSt.reset with fenced := c.fenced })))) ∧
    ((s.fab.cdcOf x).peer = 2 → (s.fab.cdcOf x).ended = false → exec (.resetAckReceive x) s = .next (s.onFab (fun f =>
      f.modCdc x (fun c => { CdcSt.reset with fenced := c.fenced, peer := 3 })))) ∧
    ((s.fab.cdcOf x).peer = 0 → exec (.peerResetReceive x) s = .next s ∧ exec (.resetAckReceive x) s = .next s))

/-- R456, R482 to R485: the station that holds the object performs a READ or WRITE once; a frame that repeats the SEQ
kept for its tag is answered with the stored RESP and not performed again; an object in the logic of a sleeping tile
first asks for its wake. A die station applies a BCAST and is counted in COUNT; a repeated one is counted only. A RESP
ends its operation, an unclaimed frame of a whole ring ends with STATION_ABSENT, and a frame that fails its check is
sent once more with its SEQ. R484 to R486, R660: a frame that has not returned within GUY_TIMEOUT raises GUY_TIMEOUT
and is sent once more with its SEQ, counted in GUY_RETRIES, and its second failure ends the operation with TIMEOUT; a
hop that has lost both sideband lanes becomes a break and raises GUY_BREAK; the by-pass of a tile station closes in T3
and in reset and opens when the tile is back. -/
def Obligations.GuylineFrames : Prop :=
  ((∀ (s : State) (tag st : Nat) (ue clk : Bool) (x : GFrame), s.fab.guy.ring.lookup tag = some x → x.kind < 2 →
    s.fab.claimer x.sc x.num x.idx = some st → s.fab.claimable x.ccw st = true →
    (∀ k, s.fab.guy.stored.lookup (16 * st + tag) = some k → k.seq = x.seq →
      exec (.guyFrameClaim tag ue clk) s = .next (s.onFab (fun f => f.respond tag st x k.status k.data))) ∧
    ((∀ k, s.fab.guy.stored.lookup (16 * st + tag) = some k → k.seq ≠ x.seq) →
      (256 ≤ st ∨ inLogic x.sc x.idx x.sub = false ∨ ((s.fab.tile st).st = .t0 ∧ s.fab.qclkRuns st = true) →
        exec (.guyFrameClaim tag ue clk) s = .next (s.onFab (fun f => f.access tag st x ue clk))) ∧
      (st < 256 → inLogic x.sc x.idx x.sub = true → (s.fab.tile st).st ≠ .t0 → s.fab.cdcFenced (.station st) = false →
        exec (.guyFrameClaim tag ue clk) s = .next (s.onFab (fun f => (f.askWake st).cdcEvent (.station st)))))) ∧
  (∀ (f : Fab) (tag st : Nat) (x : GFrame) (ue clk : Bool), st < 256 → inLogic x.sc x.idx x.sub = true →
    f.cdcShut (.station st) = true → f.access tag st x ue clk =
      (f.cdcCarry (.station st) (if x.kind = 0 then x.idx else x.data)).respond tag st x 5 0) ∧
  (∀ (f : Fab) (tag st status data : Nat) (x : GFrame),
    (f.respond tag st x status data).guy.ring.lookup tag = some { x with kind := 3, status := status, data := data } ∧
    (f.respond tag st x status data).guy.stored.lookup (16 * st + tag) = some ⟨x.seq, status, data⟩ ∧
    (f.respond tag st x status data).objs = f.objs) ∧
  (∀ (s : State) (tag d : Nat) (clk : Bool) (x : GFrame), s.fab.guy.ring.lookup tag = some x → x.kind = 2 → d < 4 →
    x.count.contains d = false → s.fab.bcastUp d = true → d = 0 ∨ x.count.contains 0 = true →
    ((∀ k, s.fab.guy.stored.lookup (16 * (256 + d) + tag) = some k → k.seq ≠ x.seq) →
      exec (.guyBcast tag d clk) s = .next (s.onFab (fun f =>
        let r := f.bcastApply d x clk
        (r.1.modGuy (fun g => { g with
          stored := SMap.insert g.stored (16 * (256 + d) + tag) ⟨x.seq, r.2, 0⟩ })).modGuy (fun g => { g with
          ring := SMap.insert g.ring tag { x with
            count := x.count ++ [d], status := if d = 0 then r.2 else x.status } })))) ∧
    (∀ k, s.fab.guy.stored.lookup (16 * (256 + d) + tag) = some k → k.seq = x.seq →
      exec (.guyBcast tag d clk) s = .next (s.onFab (fun f => f.modGuy (fun g => { g with
        ring := SMap.insert g.ring tag { x with
          count := x.count ++ [d], status := if d = 0 then k.status else x.status } }))))) ∧
  (∀ (s : State) (tag : Nat) (x : GFrame), s.fab.guy.ring.lookup tag = some x → s.fab.ringReturns x.ccw = true →
    (x.kind = 3 → exec (.guyRespReturn tag true) s = .next (s.onFab (fun f => f.guyEnd tag x x.status x.data))) ∧
    (x.kind = 2 → s.fab.bcastThrough x = true → x.count.length = 4 →
      exec (.guyRespReturn tag true) s = .next (s.onFab (fun f => f.guyEnd tag x x.status 0))) ∧
    (x.kind < 2 → s.fab.unclaimed x = true → s.fab.ringHops x.ccw = 4 →
      exec (.guyRespReturn tag true) s = .next (s.onFab (fun f => f.guyEnd tag x 6 0))) ∧
    (x.kind < 2 → s.fab.unclaimed x = true → s.fab.ringHops x.ccw ≠ 4 → x.turned = false →
      ∀ y, s.fab.guy.sent.lookup tag = some y → exec (.guyRespReturn tag true) s = .next (s.onFab (fun f =>
        f.launchFrame tag { y with ccw := !y.ccw, turned := true, resent := x.resent, late := x.late })))) ∧
  (∀ (s : State) (tag : Nat) (x : GFrame), s.fab.guy.ring.lookup tag = some x → s.fab.ringReturns x.ccw = true →
    x.kind = 3 → exec (.guyRespReturn tag false) s = .next (s.onFab (fun f =>
      (f.raiseW 4 ({ x with loop := f.ringHops x.ccw != 4 }.info tag) (x.low tag)).again tag x)))) ∧
  ((∀ (s : State) (tag : Nat) (x y : GFrame), s.fab.guy.ring.lookup tag = some x → s.fab.guy.sent.lookup tag = some y →
    x.sentAt + us (s.fab.oI O.GUY_TIMEOUT) ≤ s.fab.run0 →
    (x.resent = false → exec (.guyTimeout tag) s = .next (s.onFab (fun f =>
      (((f.raiseW 5 (y.info tag) (y.low tag)).launchFrame tag { y with resent := true, late := x.late }).bump .inst 0
        O.GUY_RETRIES 0)))) ∧
    (x.resent = true → exec (.guyTimeout tag) s = .next (s.onFab (fun f =>
      (f.raiseW 5 (y.info tag) (y.low tag)).guyEnd tag x 5 0)))) ∧
  (∀ (s : State) (tag : Nat) (x : GFrame), s.fab.guy.ring.lookup tag = some x →
    s.fab.run0 < x.sentAt + us (s.fab.oI O.GUY_TIMEOUT) → exec (.guyTimeout tag) s = .next s) ∧
  (∀ (s : State) (ss : Nat), ss < 8 → s.fab.sbLost ss = true → bit s.fab.guyBreaks (breakBit ss) = false →
    exec (.guyBreak ss) s = .next (s.onFab (fun f =>
      ((({ f with guyBreaks := setBit f.guyBreaks (breakBit ss) }).raise (famKey .inst 0) 6 (breakBit ss) 0 0).modFam
        (famKey .inst 0) (fun y => { y with cond := setBit y.cond 6 })).modeAgain)))
      ∧
  (∀ (s : State) (t : Nat), (s.fab.tile t).st = .reset ∨ ((s.fab.tile t).st = .t3 ∧ (s.fab.tile t).pw.entering = false) →
    exec (.stationBypassChange t) s = .next (s.onFab (fun f =>
      f.modGuy (fun g => { g with bypass := g.bypass.set (fun _ => false) t true })))) ∧
  (∀ (s : State) (t : Nat), (s.fab.tile t).st = .t0 → s.fab.bypassed t = true → s.fab.cdcHeld (.station t) = false →
    exec (.stationBypassChange t) s = .next (s.onFab (fun f => f.openBypass t)) ∧
    (s.fab.openBypass t).bypassed t = false))

/-- R495 to R502, R527, R528: a command written to a BUSY mailbox is ignored and raises MBX_BUSY_WRITE; a reserved OP
ends with DENIED, LEN above 32 with TOO_LONG and an object that does not exist with NO_OBJECT; a READ and a WRITE of
an object that another station holds send one frame. The answer ends the operation: a read that ends with OK takes the
bytes of its segment, with CLIPPED when LEN cut it and MORE when bytes remain. An operation that is BUSY past
MBX_TIMEOUT ends with TIMEOUT, and its mailbox accepts the next. -/
def Obligations.Mailboxes : Prop :=
  (∀ (s : State) (m cmd : Nat), m < 4 → (s.fab.mbxOf m).op.isSome = true →
    exec (.mbxRead m cmd) s = .next (s.onFab (fun f => f.mapRaise 2 (0x100 + 0x40 * m) true 2 (goWord 1 cmd))) ∧
    exec (.mbxWrite m cmd) s = .next (s.onFab (fun f => f.mapRaise 2 (0x100 + 0x40 * m) true 2 (goWord 2 cmd)))) ∧
  (∀ (s : State) (m cmd : Nat), m < 4 → (s.fab.mbxOf m).op = none →
    exec (.mbxRead m cmd) s = .next (s.onFab (fun f => f.mbxGo m (goWord 1 cmd) false))) ∧
  (∀ (s : State) (m cmd : Nat), m < 4 → (s.fab.mbxOf m).op = none →
    exec (.mbxWrite m cmd) s = .next (s.onFab (fun f => f.mbxGo m (goWord 2 cmd) false))) ∧
  (∀ (s : State) (m cmd : Nat), m < 4 → (s.fab.mbxOf m).op = none →
    exec (.mbxWriteSeg m cmd) s = .next (s.onFab (fun f => f.mbxGo m (goWord 3 cmd) false))) ∧
  (∀ (s : State) (m cmd op : Nat), m < 4 → (s.fab.mbxOf m).op = none → field cmd 0 3 = op → op = 0 ∨ 3 < op →
    exec (.mbxInvalidOp m cmd) s = .next (s.onFab (fun f => f.mbxGo m (goWord op cmd) false))) ∧
  (∀ (f : Fab) (m cmd : Nat) (dbg : Bool), f.mapHeld = false → ∃ (g h : Fab),
    g = f.modMbx m (fun x => { x with
      cmd := field cmd 0 3 + field cmd 4 3 * 16 + field cmd 8 14 * 256, valid := false, more := false, rlen := 0 }) ∧
    h = (g.modMbx m (fun x => { x with prev := none })).beginMbx m ⟨false, ⟨.inst, 0, 0, 0, 0⟩, 0, 0, 0, 0, g.run0⟩ ∧
    (field cmd 0 3 = 0 ∨ 3 < field cmd 0 3 → f.mbxGo m cmd dbg = h.answer m 2) ∧
    (1 ≤ field cmd 0 3 ∧ field cmd 0 3 ≤ 3 → 32 < field cmd 16 6 → f.mbxGo m cmd dbg = h.answer m 3) ∧
    (1 ≤ field cmd 0 3 ∧ field cmd 0 3 ≤ 3 → field cmd 16 6 ≤ 32 →
      mbxTarget (field cmd 0 3 == 1) cmd (g.mbxOf m).obj (g.mbxOf m).elem = none → f.mbxGo m cmd dbg = h.answer m 1)) ∧
  (∀ (f : Fab) (m : Nat) (dbg : Bool) (t : MbxTarget), isLocal t = false → isWarden t = false →
    f.cdcShut .mapXbar = false → f.cdcShut .xbarGuy = false →
    f.serveRead m dbg t = f.sendFrame m (GFrame.make 0 t.sc t.num t.idx t.sub t.elem 0 0 false dbg) ∧
    ∀ len v guard, t.idx ≠ O.FAM_COMMIT → t.sc ≠ .inst → tableOf t.idx = none →
      f.serveWrite m dbg t len v guard = f.sendFrame m (GFrame.make 1 t.sc t.num t.idx t.sub t.elem len v guard dbg)) ∧
  (∀ (f : Fab) (m : Nat) (dbg : Bool) (t : MbxTarget), m < 4 → f.cdcShut .mapXbar = true →
    f.serveRead m dbg t = f.answer m 5 ∧ ∀ len v guard, f.serveWrite m dbg t len v guard = f.answer m 5) ∧
  (∀ (s : State) (m : Nat) (a : Ans) (op : MbxOp), s.fab.answers.find? (fun x => x.who == m) = some a →
    (s.fab.mbxOf m).op = some op → exec (.mbxComplete m) s = .next (s.onFab (fun f =>
      { f with answers := dropFirst (fun x => x.who == m) f.answers }.endMbx m op a.code a.data))) ∧
  (∀ (x : Mbx) (op : MbxOp) (data : Nat), op.read = true → op.len ≤ 32 →
    (x.complete op 0 data).op = none ∧ (x.complete op 0 data).valid = true ∧
    (x.complete op 0 data).rlen ≤ 32 ∧
    (x.complete op 0 data).data = field data (8 * op.off) (8 * (x.complete op 0 data).rlen) ∧
    ((x.complete op 0 data).more = true ↔ op.off + (x.complete op 0 data).rlen < op.size) ∧
    ((x.complete op 0 data).code = 4 ↔ 0 < op.len ∧ op.len < min 32 (op.size - op.off)) ∧
    ((x.complete op 0 data).code ≠ 4 → (x.complete op 0 data).code = 0)) ∧
  (∀ (x : Mbx) (op : MbxOp) (code data : Nat), code ≠ 0 →
    x.complete op code data = { x with op := none, code := code }) ∧
  (∀ (s : State) (m : Nat) (op : MbxOp), m < 4 → (s.fab.mbxOf m).op = some op →
    op.goAt + ms (s.fab.oI O.MBX_TIMEOUT) ≤ s.fab.run0 → ∃ g : Fab,
    g = (s.fab.forget m).endMbx m op 5 0 ∧ exec (.mbxTimeout m) s = .next (s.onFab (fun _ =>
      g.raise famMap 6 m (s.fab.mbxOf m).obj (s.fab.mbxOf m).cmd)) ∧ (g.mbxOf m).op = none ∧ (g.mbxOf m).code = 5) ∧
  (∀ (s : State) (m : Nat) (op : MbxOp), (s.fab.mbxOf m).op = some op →
    s.fab.run0 < op.goAt + ms (s.fab.oI O.MBX_TIMEOUT) → exec (.mbxTimeout m) s = .next s)

/-- R487 to R491, R506, R507, R573 to R575, R582, R627: a control-bus write that is narrow or not aligned raises
MAP_BAD_ACCESS, one of an unmapped offset MAP_UNMAPPED, and any other writes its register; a bus access is
acknowledged with its data. MAP_KEY opens the lock with 0xFFFF71C4 alone; any other value closes it and raises
KEY_BAD. A write of MAP_CRC_REF with the lock open takes effect, sets REF_VALID, clears MATCH and DONE when REF_VALID
was 0, and closes the lock; with the lock closed it raises GUARD_REFUSED and is counted. RESTART starts every pass
anew, and the fault registers of the MAP act on its family. R489: in a masked write, bits [31:16] of the value select
which of bits [15:0] change; every other bit of the register stays. -/
def Obligations.MapRegisters : Prop :=
  ((∀ (s : State) (off size v : Nat) (half clk : Bool) (g : Fab), off < 65536 → size < 3 → s.fab.mapHeld = false →
    g = s.fab.modMap (fun m => { m with half := none }) →
    (size < 2 ∨ off % 4 ≠ 0 → exec (.mapBusWrite off size half v clk) s = .next (s.onFab (fun _ =>
      g.mapRaise 0 off true size (v % 2 ^ 32)))) ∧
    (size = 2 → off % 4 = 0 → mapMapped off = false → exec (.mapBusWrite off size half v clk) s = .next (s.onFab (fun _ =>
      g.mapRaise 1 off true 2 (v % 2 ^ 32)))) ∧
    (size = 2 → off % 4 = 0 → mapMapped off = true → exec (.mapBusWrite off size half v clk) s = .next (s.onFab (fun _ =>
      g.writeReg off 2 (v % 2 ^ 32) clk)))) ∧
  (∀ (s : State) (off v : Nat) (clk : Bool) (g : Fab), off < 65536 → off % 4 = 0 → mapMapped off = true →
    (s.fab.die 0).uqAck = true → g = s.fab.modMap (fun m => { m with half := none }) →
    exec (.mapBusAccess false off 2 false v clk) s = .next (s.onFab (fun _ =>
      (g.readReg off).1.modMap (fun m => { m with ack := true, rdata := field (g.readReg off).2 0 32 }))) ∧
    exec (.mapBusAccess true off 2 false v clk) s = .next (s.onFab (fun _ =>
      (g.writeReg off 2 (v % 2 ^ 32) clk).modMap (fun m => { m with ack := true, rdata := 0 })))) ∧
  (∀ (s : State) (off size v : Nat) (w half clk : Bool), (s.fab.die 0).uqAck = false →
    exec (.mapBusAccess w off size half v clk) s = .next (s.onFab (fun f =>
      f.modMap (fun m => { m with ack := false, rdata := 0 })))) ∧
  (∀ (s : State), exec (.mapKeyWrite 0xFFFF71C4) s = .next (s.onFab (fun f =>
      f.modMap (fun m => { m with lock := true }))) ∧
    ∀ v, v < 2 ^ 32 → v ≠ 0xFFFF71C4 → exec (.mapKeyWrite v) s = .next (s.onFab (fun f =>
      (f.mapRaise 4 0x10 true 2 v).modMap (fun m => { m with lock := false })))) ∧
  (∀ (s : State) (v : Nat), v < 2 ^ 32 → s.fab.mapHeld = false →
    (s.fab.map.lock = false → exec (.mapCrcRefWrite v) s = .next (s.onFab (fun f =>
      (f.mapRaise 3 0x24 true 2 v).modMap (fun m => { m with last := 2, refused := min 255 (m.refused + 1) })))) ∧
    (s.fab.map.lock = true → s.fab.map.refValid = true → exec (.mapCrcRefWrite v) s = .next (s.onFab (fun f =>
      f.modMap (fun m => { m with lock := false, last := 1, ref := v })))) ∧
    (s.fab.map.lock = true → s.fab.map.refValid = false → exec (.mapCrcRefWrite v) s = .next (s.onFab (fun f =>
      f.modMap (fun m => { m with
        lock := false, last := 1, ref := v, refValid := true, matched := 0, done := 0 }))))) ∧
  (∀ (s : State), s.fab.mapHeld = false →
    exec (.mapCrcRestart 0x00080008) s = .next (s.onFab (fun f => f.newPasses)) ∧
    exec (.mapFltFirstClear 0x01000100) s = .next (s.onFab (fun f => f.modFam famMap (fun x => { x with first := x.first % 2 ^ 15 }))) ∧
    exec (.mapFltFirstClear 0x02000200) s = .next (s.onFab (fun f => f.modFam famMap (fun x => { x with ovf := false }))) ∧
    (∀ k, k < 7 → exec (.mapFltPendClear (2 ^ k + 2 ^ (16 + k)) true) s = .next (s.onFab (fun f =>
      f.modFam famMap (fun x => x.clearPend (2 ^ k))))) ∧
    (∀ k, k < 8 → exec (.mapFltForce (2 ^ k + 2 ^ (16 + k))) s = .next (s.onFab (fun f =>
      f.modFam famMap (fun x => x.force k (f.famNs famMap))))))) ∧
  (∀ old v k : Nat, old < 2 ^ 16 → v < 2 ^ 32 → k < 16 →
    (masked old v).testBit k = (if v.testBit (16 + k) then v.testBit k else old.testBit k) ∧ masked old v < 2 ^ 16)

/-- R504 to R507, R556, R557: the configuration image has the 8,529,920 bytes of R504; a pass of a die that is over
makes the CRC of its image the current value of the die and sets DONE, and under COMPARE with REF_VALID sets MATCH
when it equals REF and otherwise sets MISMATCH, clears MATCH and raises CRC_MISMATCH; a pass does not end before its
time, nor while RUN is 0. -/
def Obligations.Scrubbing : Prop :=
  (∀ (s : State) (d : Nat), d < 4 → s.fab.map.run = true → s.fab.dieLive d = true → s.fab.mapHeld = false →
    s.fab.wd.measDue = false → s.fab.qpll (4 * d) = 0 →
    s.fab.map.passAt.getD d 0 + s.fab.passTime ≤ (s.fab.lantern d).run.toNat →
    exec (.scrubPassComplete d [] none) s = .next (s.onFab (fun f =>
      (f.passDone d (crcOfBytes (f.copyOf d).image)).modMap (fun m => { m with
        passAt := modAt m.passAt d (fun _ => (f.lantern d).run.toNat) })))) ∧
  (∀ (f : Fab) (d crc : Nat),
    (f.map.compare = false ∨ f.map.refValid = false → f.passDone d crc = f.modMap (fun m => { m with
      cur := modAt m.cur d (fun _ => crc), done := setBit m.done d })) ∧
    (f.map.compare = true → f.map.refValid = true → crc = f.map.ref → f.passDone d crc = f.modMap (fun m => { m with
      cur := modAt m.cur d (fun _ => crc), done := setBit m.done d, matched := setBit m.matched d })) ∧
    (f.map.compare = true → f.map.refValid = true → crc ≠ f.map.ref → f.passDone d crc = (f.modMap (fun m => { m with
      cur := modAt m.cur d (fun _ => crc)
      done := setBit m.done d
      matched := clearBits m.matched (m.matched &&& mask d)
      mismatch := setBit m.mismatch d })).raise famMap 5 d crc f.map.ref)) ∧
  (∀ (s : State) (d : Nat) (ue : List (Nat × Nat × Nat)) (bad : Option (Nat × Nat)),
    s.fab.map.run = false ∨ (s.fab.lantern d).run.toNat < s.fab.map.passAt.getD d 0 + s.fab.passTime →
    exec (.scrubPassComplete d ue bad) s = .next s) ∧
  (∀ (c : FamCopy), c.image.length = 8529920)

/-- R511 to R515, R553, R630: the one transfer that waits at a target is granted, performed and answered; a transfer
outside the address map, or of a master with no path, is answered with ERROR, counts in XBAR_ERRORS and raises
XBAR_DECERR; a target that keeps a transfer past its limit is answered for with ERROR and XBAR_TIMEOUT. A request of
the debug port becomes a transfer of its own master, and none while an earlier one waits. Each target grants the first
in round robin among its waiting masters of highest priority. -/
def Obligations.Crossbar : Prop :=
  (∀ (s : State) (n m o miss : Nat) (r : XReq), s.fab.mapHeld = false → s.fab.xb.busy = [] → s.fab.xb.wait = [(m, r)] →
    m < 4 → r.master = m → s.fab.wd.wait = [] → s.fab.wd.restarting = false → n < 5 → s.fab.xDecode r.addr = some (n, o) → s.fab.xRefused r n = false →
    r.at_ ≤ s.fab.run0 → s.fab.run0 < r.at_ + ns 640 → ∃ g : Fab,
    g = (s.fab.modXb (fun x => { x with wait := [], rr := x.rr.set (fun _ => 3) n m })).xCarry r n ∧
    exec (.xbarTransfer n [] true none miss) s = .next (s.onFab (fun _ =>
      (g.xPerform r n o miss).1.xAnswer r false (g.xPerform r n o miss).2))) ∧
  (∀ (f : Fab) (r : XReq), r.legal = true → f.xb.wait.lookup r.master = none →
    f.xb.busy.any (fun kv => kv.2.master == r.master) = false →
    (f.xDecode r.addr = none ∨ (∃ n o, f.xDecode r.addr = some (n, o) ∧ xPath r.master n = false) →
      f.xPresent r = (f.raiseW 2 r.addr (r.master + b2n r.write * 4)).xAnswer r true []) ∧
    (∀ n o, f.xDecode r.addr = some (n, o) → xPath r.master n = true → f.xPresent r =
      f.modXb (fun x => { x with wait := SMap.insert x.wait r.master r, rsp := SMap.erase x.rsp r.master }))) ∧
  (∀ (s : State) (n : Nat) (r : XReq), n < 5 → s.fab.xb.busy.lookup 5 = none → s.fab.xb.busy.lookup n = some r →
    r.at_ + ns 10240 ≤ s.fab.run0 → exec (.xbarTimeout n) s = .next (s.onFab (fun f =>
      ((f.modXb (fun x => { x with busy := SMap.erase x.busy n })).raiseW 3 r.addr (r.info + n * 8)).xAnswer r true []))) ∧
  (∀ (s : State) (w : Bool) (addr size blen : Nat) (data : List Nat), s.fab.mapHeld = false → blen < 16 →
    addr < 2 ^ 32 → s.fab.xb.wait.lookup 2 = none → s.fab.xb.busy.any (fun kv => kv.2.master == 2) = false →
    s.fab.cdcShut .debug = false → size < 3 →
    (XReq.legal ⟨2, w, addr, 2 ^ size, blen + 1, data.take (blen + 1), s.fab.run0⟩ = true →
      exec (.debugAccess w addr size blen data) s = .next (s.onFab (fun f =>
        (f.cdcCarry .debug addr).xPresent ⟨2, w, addr, 2 ^ size, blen + 1, data.take (blen + 1), f.run0⟩))) ∧
    (XReq.legal ⟨2, w, addr, 2 ^ size, blen + 1, data.take (blen + 1), s.fab.run0⟩ = false →
      exec (.debugAccess w addr size blen data) s = .next (s.onFab (fun f => (f.cdcCarry .debug addr).modXb (fun x =>
        { x with rsp := SMap.insert x.rsp 2 ⟨true, List.replicate (blen + 1) 0⟩ }))))) ∧
  (∀ (s : State) (w : Bool) (addr size blen : Nat) (data : List Nat), s.fab.mapHeld = false → blen < 16 →
    addr < 2 ^ 32 → s.fab.xb.wait.lookup 2 = none → s.fab.xb.busy.any (fun kv => kv.2.master == 2) = false →
    s.fab.cdcShut .debug = true → exec (.debugAccess w addr size blen data) s = .next (s.onFab (fun f =>
      (f.cdcCarry .debug addr).modXb (fun x =>
        { x with rsp := SMap.insert x.rsp 2 ⟨true, List.replicate (blen + 1) 0⟩ })))) ∧
  (∀ (s : State) (w : Bool) (addr size blen : Nat) (data : List Nat), (s.fab.xb.wait.lookup 2).isSome = true →
    exec (.debugAccess w addr size blen data) s = .next s) ∧
  (∀ (last m : Nat) (l : List Nat), m < 4 → rrPick last l = some m → m ∈ l ∧
    ∀ k, k < (m + 7 - last % 4) % 4 → (last + 1 + k) % 4 ∉ l)

/-- R508 to R510, R555: a watchdog period without a clear raises WARDEN_WDOG, counts in WARDEN_RESTARTS and restarts
the Warden, and a period of 0 disables it; a restart keeps the Warden SRAM and WARDEN_REMAP's lock. The first write of
WARDEN_REMAP with 0 locks it at 0, the first with 1 maps the SRAM at address zero once no transfer of the Warden is
outstanding; a locked object, and a 1 while Sealed without a patch approval, end with DENIED. -/
def Obligations.WardenRestartsAndRemap : Prop :=
  (∀ (s : State) (addr : Nat),
    (s.fab.oI O.WARDEN_WDOG = 0 → exec (.wardenWdog addr) s = .next s) ∧
    (s.fab.oI O.WARDEN_WDOG ≠ 0 → exec (.wardenWdog addr) s = .next (s.onFab (fun f =>
      ((f.raiseW 0 addr 0).bump .inst 0 O.WARDEN_RESTARTS 0).wardenRestart)))) ∧
  (∀ (f : Fab), f.wardenRestart.wd.sram = f.wd.sram ∧ f.wardenRestart.wd.remapLocked = f.wd.remapLocked ∧
    f.wardenRestart.wd.ticket = none ∧ f.wardenRestart.wd.burn = none ∧ f.wardenRestart.wd.prog = none) ∧
  (∀ (s : State) (who v : Nat), s.fab.wd.remapLocked = false → s.fab.wd.remapDue = false →
    (v = 0 → exec (.wardenRemapWrite who v) s = .next (s.onFab (fun f =>
      ((f.modWd (fun w => { w with remapLocked := true })).shadowAll .inst 0 O.WARDEN_REMAP 1 0).answer who 0))) ∧
    (v ≠ 0 → s.fab.sealed = false ∨ s.fab.wd.patch.isSome = true → s.fab.wardenBusy = false →
      exec (.wardenRemapWrite who v) s = .next (s.onFab (fun f => f.doRemap.answer who 0))) ∧
    (v ≠ 0 → s.fab.sealed = false ∨ s.fab.wd.patch.isSome = true → s.fab.wardenBusy = true →
      exec (.wardenRemapWrite who v) s = .next (s.onFab (fun f =>
        (f.modWd (fun w => { w with remapDue := true })).answer who 0))) ∧
    (v ≠ 0 → s.fab.sealed = true → s.fab.wd.patch = none →
      exec (.wardenRemapWrite who v) s = .next (s.onFab (fun f => f.answer who 2)))) ∧
  (∀ (s : State) (who v : Nat), s.fab.wd.remapLocked = true →
    exec (.wardenRemapWrite who v) s = .next (s.onFab (fun f => f.answer who 2)))

/-- R547 to R552: a ticket is taken into verification unless one is in it; it is rejected with the reason of the first
check that fails, which changes no binding and no counter; a DEBUG ticket that passes every check sets DEBUG_TICKET,
its end time and TICKET_COUNTER; a PATCH ticket sets the patch approval; a debug ticket ends when its time is reached.
An operation that reaches the Warden while it restarts or before the nonce has been drawn waits.
-/
def Obligations.Tickets : Prop :=
  (∀ (s : State) (who v : Nat), s.fab.wd.restarting = true ∨ s.fab.ve.op = some .draw →
    exec (.ticketSubmit who v) s = .next (s.onFab (fun f =>
      f.modWd (fun w => { w with wait := w.wait ++ [(who, O.TICKET_SUBMIT, v)] }))) ∧
    exec (.sealBurnWrite who v) s = .next (s.onFab (fun f =>
      f.modWd (fun w => { w with wait := w.wait ++ [(who, O.SEAL_BURN, v)] }))) ∧
    exec (.otpProgramWrite who v) s = .next (s.onFab (fun f =>
      f.modWd (fun w => { w with wait := w.wait ++ [(who, O.OTP_PROGRAM, v)] })))) ∧
  (∀ (s : State) (who v : Nat), s.fab.wd.restarting = false → s.fab.ve.op ≠ some .draw →
    (s.fab.oI O.TICKET_STATE = 1 → exec (.ticketSubmit who v) s = .next (s.onFab (fun f => f.answer who 2))) ∧
    (s.fab.oI O.TICKET_STATE ≠ 1 → exec (.ticketSubmit who v) s = .next (s.onFab (fun f =>
      ((f.modWd (fun w => { w with ticket := some (v % 2 ^ 32768) })).setO .inst 0 O.TICKET_STATE 0 1).answer who 0)))) ∧
  (∀ (s : State) (tk : Nat) (f : Fab), s.fab.wd.ticket = some tk → f = s.fab.modWd (fun w => { w with ticket := none }) →
    exec .ticketVerifyDone s = .next (s.onFab (fun _ =>
      if f.tkEarly tk = 0 then f.tkEnd tk (f.tkLate tk)
      else f.ticketRejected (f.tkEarly tk) (tkKind tk) (tkCounter tk)))) ∧
  (∀ (f : Fab) (tk : Nat),
    (tkKind tk = 2 → tkTime tk < f.dieTime 0 + ms 1 ∨ f.dieTime 0 + ms 86400000 < tkTime tk →
      f.tkEnd tk (f.tkLate tk) = f.ticketRejected 6 2 (tkCounter tk)) ∧
    (tkKind tk = 2 → f.dieTime 0 + ms 1 ≤ tkTime tk → tkTime tk ≤ f.dieTime 0 + ms 86400000 →
      f.tkEnd tk (f.tkLate tk) = ((f.setO .inst 0 O.DEBUG_TICKET 0 1).modWd (fun w => { w with
        debugEnd := f.run0 + (tkTime tk - f.dieTime 0) })).ticketAccepted (tkCounter tk)) ∧
    (tkKind tk = 3 → f.imageOk tk = true → f.tkEnd tk (f.tkLate tk) =
      (f.modWd (fun w => { w with patch := some (tkField tk 208 4, tkField tk 212 4) })).ticketAccepted (tkCounter tk)) ∧
    (tkKind tk = 3 → f.imageOk tk = false → f.tkEnd tk (f.tkLate tk) = f.ticketRejected 9 3 (tkCounter tk)) ∧
    (tkKind tk = 1 → tkTime tk = 0 → ∀ g, f.tkApply (tkOps tk) = some g →
      f.tkEnd tk (f.tkLate tk) = g.ticketAccepted (tkCounter tk)) ∧
    (tkKind tk = 1 → tkTime tk = 0 → f.tkApply (tkOps tk) = none →
      f.tkEnd tk (f.tkLate tk) = f.ticketRejected 8 1 (tkCounter tk))) ∧
  (∀ (f : Fab) (tk : Nat),
    (tkFormatOk tk = false → f.tkEarly tk = 1) ∧
    (tkFormatOk tk = true → f.otp.authHash = 0 → f.tkEarly tk = 2) ∧
    (f.nonce = 0 ∨ tkField tk 8 32 ≠ f.nonce ∨ tkCounter tk ≤ f.oI O.TICKET_COUNTER ∨ tkSignatureOk tk = false →
      f.tkEarly tk ≠ 0)) ∧
  (∀ (f : Fab) (r kind counter : Nat), r ≠ 0 → (f.ticketRejected r kind counter).bind = f.bind ∧
    (f.ticketRejected r kind counter).copy = f.copy ∧ (f.ticketRejected r kind counter).oI O.TICKET_COUNTER =
      f.oI O.TICKET_COUNTER ∧ (f.ticketRejected r kind counter).oI O.TICKET_STATE = 3) ∧
  (∀ (s : State), s.fab.oI O.DEBUG_TICKET = 1 →
    (s.fab.wd.debugEnd ≤ s.fab.run0 → exec .debugTicketExpiry s = .next (s.onFab (fun f =>
      f.setO .inst 0 O.DEBUG_TICKET 0 0))) ∧
    (s.fab.run0 < s.fab.wd.debugEnd → exec .debugTicketExpiry s = .next s))

/-- R539 to R541, R558 to R565: SEAL_BURN with its value and its preconditions starts a burn, and ends with DENIED and
programs nothing otherwise; the burn that programs every seal bit ends with OK and leaves the block Sealed;
OTP_PROGRAM takes a valid record of a higher generation into the lowest blank slot, in the order of R562, and ends
with OK when it reads back, else with DENIED and OTP_PROGRAM_FAIL; the controller refuses to program a completed
record except for its seal bits. -/
def Obligations.SealAndOneTimeStorage : Prop :=
  (∀ (s : State) (who v : Nat), s.fab.wd.programs = false → s.fab.wd.restarting = false → s.fab.ve.op ≠ some .draw →
    (s.fab.burnRefused v = true → exec (.sealBurnWrite who v) s = .next (s.onFab (fun f => f.answer who 2))) ∧
    (s.fab.burnRefused v = false → exec (.sealBurnWrite who v) s = .next (s.onFab (fun f =>
      f.modWd (fun w => { w with burn := some who })))) ∧
    (v ≠ 0x5EA15EA1 ∨ s.fab.otp.authHash = 0 ∨ s.fab.bind.cst ≠ .idle ∨ s.fab.bind.dst = .running ∨
      s.fab.oI O.TICKET_STATE = 1 ∨ s.fab.sealed = true → s.fab.burnRefused v = true)) ∧
  (∀ (s : State) (who : Nat), s.fab.wd.burn = some who → s.fab.otp.wordsOk → ∃ g : Fab,
    g = (s.fab.modOtp (fun o => o.burnSeal (2 ^ 64 - 1))).modWd (fun w => { w with burn := none }) ∧
    exec (.sealBurnDone 0) s = .next (s.onFab (fun _ => (g.readSeal.measured.answer who 0).wardenNext)) ∧
    g.otp.isSealed = true ∧ g.readSeal.oI O.SEAL_STATE = 1) ∧
  (∀ (s : State) (who rec : Nat), s.fab.wd.programs = false → s.fab.wd.restarting = false → s.fab.ve.op ≠ some .draw →
    (s.fab.programRefused rec = true → exec (.otpProgramWrite who rec) s = .next (s.onFab (fun f => f.answer who 2))) ∧
    (s.fab.programRefused rec = false → ∃ j, j.who = who ∧
      (List.range 4).find? (fun k => s.fab.otp.blank k) = some j.slot ∧ exec (.otpProgramWrite who rec) s = .next (s.onFab (fun f =>
        f.modWd (fun w => { w with prog := some j }))))) ∧
  (∀ (s : State) (j : OtpJob) (fails : List (Nat × Nat)) (g : Fab), s.fab.wd.prog = some j →
    g = (s.fab.modOtp (fun o => o.programRecord j.slot j.record 512 fails)).modWd (fun w => { w with prog := none }) →
    ((∀ w, w ∈ programOrder → g.otp.word (512 * j.slot + w) = field j.record (32 * w) 32) →
      exec (.otpProgramDone fails) s = .next (s.onFab (fun _ => (g.answer j.who 0).wardenNext))) ∧
    (∀ w, programOrder.find? (fun w => g.otp.word (512 * j.slot + w) != field j.record (32 * w) 32) = some w →
      exec (.otpProgramDone fails) s = .next (s.onFab (fun _ =>
        ((g.raiseW 12 (j.slot + (512 * j.slot + w) * 4) 0).answer j.who 2).wardenNext)))) ∧
  (∀ (s : State) (miss : Nat),
    (s.fab.otp.refuses s.fab.otp.addr s.fab.otp.wdata = true →
      exec (.otpCmdProgram miss) s = .next (s.onFab (fun f => f.modOtp (fun o => { o with fail := true })))) ∧
    (s.fab.otp.refuses s.fab.otp.addr s.fab.otp.wdata = false → s.fab.otp.wdata < 2 ^ 32 →
      exec (.otpCmdProgram 0) s = .next (s.onFab (fun f =>
        (f.modOtp (fun o => { o.program o.addr o.wdata with fail := false })).readSeal)))) ∧
  (∀ (o : Otp) (w v : Nat), o.word (512 * (w / 512) + 510) = 0xA5C35A3C → w % 512 ≠ 1 → o.refuses w v = false →
    (o.program w v).word w = o.word w)

/-- R565: a PROGRAM that would set a bit of a slot whose DONE word reads its value, other than a seal bit of its word
1, is refused and sets FAIL; no PROGRAM alters a completed record but its seal field. -/
def Obligations.CompletedRecords : Prop :=
  (∀ (s : State) (miss k : Nat), s.fab.otp.word (512 * (s.fab.otp.addr / 512) + 510) = 0xA5C35A3C → k < 32 →
    s.fab.otp.wdata.testBit k = true → (s.fab.otp.word s.fab.otp.addr).testBit k = false →
    (s.fab.otp.addr % 512 = 1 → k < 16) →
    exec (.otpCmdProgram miss) s = .next (s.onFab (fun f => f.modOtp (fun o => { o with fail := true })))) ∧
  (∀ (s : State) (miss w : Nat) (t : State), exec (.otpCmdProgram miss) s = .next t →
    s.fab.otp.word (512 * (w / 512) + 510) = 0xA5C35A3C →
    (w % 512 ≠ 1 → t.fab.otp.word w = s.fab.otp.word w) ∧
    (w % 512 = 1 → t.fab.otp.word w % 2 ^ 16 = s.fab.otp.word w % 2 ^ 16)) ∧
  (∀ (s : State) (k : Nat), s.fab.otp.addr % 512 = 1 → 16 ≤ k → k < 32 → s.fab.otp.wdata = 2 ^ k →
    ∃ t, exec (.otpCmdProgram 0) s = .next t ∧ (t.fab.otp.word s.fab.otp.addr).testBit k = true ∧ t.fab.otp.fail = false)

/-- R542, R543, R566: a command while the engine is BUSY only sets ERR; HASH_START empties the message, VE_DATA adds
four bytes, byte 0 in [7:0], HASH_FINISH runs when VE_LEN bytes have been fed and else sets ERR; its digest is SHA-384
of those bytes; a draw whose samples pass sets the nonce to the first 32 bytes of their SHA-384, and one that fails
sets the nonce to zero, HEALTH_FAIL and ENTROPY_FAIL; either way the operations that waited for the draw are then served.
-/
def Obligations.VerifyEngine : Prop :=
  (∀ (s : State) (op : VeOp), s.fab.ve.op = some op →
    exec .veHashStart s = .next (s.onFab (fun f => f.modVe (fun e => { e with err := true }))) ∧
    exec .veHashFinish s = .next (s.onFab (fun f => f.modVe (fun e => { e with err := true }))) ∧
    exec .veVerify s = .next (s.onFab (fun f => f.modVe (fun e => { e with err := true }))) ∧
    exec .veNonceDraw s = .next (s.onFab (fun f => f.modVe (fun e => { e with err := true })))) ∧
  (∀ (s : State), s.fab.ve.op = none →
    exec .veHashStart s = .next (s.onFab (fun f => f.modVe (fun e => { e with msg := [] }))) ∧
    (s.fab.ve.len ≤ s.fab.ve.msg.length →
      exec .veHashFinish s = .next (s.onFab (fun f => f.modVe (fun e => { e with op := some .finish })))) ∧
    (s.fab.ve.msg.length < s.fab.ve.len →
      exec .veHashFinish s = .next (s.onFab (fun f => f.modVe (fun e => { e with err := true })))) ∧
    exec .veVerify s = .next (s.onFab (fun f => f.modVe (fun e => { e with op := some .verify }))) ∧
    exec .veNonceDraw s = .next (s.onFab (fun f => f.modVe (fun e => { e with op := some .draw })))) ∧
  (∀ (s : State) (b0 b1 b2 b3 : Nat), b0 < 256 → b1 < 256 → b2 < 256 → b3 < 256 →
    exec (.veDataWrite (b0 + b1 * 2 ^ 8 + b2 * 2 ^ 16 + b3 * 2 ^ 24)) s = .next (s.onFab (fun f =>
      f.modVe (fun e => { e with msg := e.msg ++ [b0, b1, b2, b3] })))) ∧
  (∀ (s : State) (samples : List Nat) (k : Nat),
    (s.fab.ve.op = some .finish → exec (.veOpComplete samples none) s = .next (s.onFab (fun f =>
      f.modVe (fun e => { e with op := none, digest := Sha.sha384 (e.msg.take e.len) })))) ∧
    (s.fab.ve.op = some .verify → exec (.veOpComplete samples none) s = .next (s.onFab (fun f =>
      f.modVe (fun e => { e with
        op := none
        sigOk := Ecdsa.verify e.digest (e.key / 2 ^ 384) (e.key % 2 ^ 384) (e.sig / 2 ^ 384) (e.sig % 2 ^ 384) })))) ∧
    (s.fab.ve.op = some .draw → exec (.veOpComplete samples none) s = .next (s.onFab (fun f =>
      ({ f with nonce := Sha.digestLe (Sha.sha384 samples) % 2 ^ 256 }.modVe (fun e => { e with
        op := none, health := false })).wardenNext))) ∧
    (s.fab.ve.op = some .draw → exec (.veOpComplete samples (some k)) s = .next (s.onFab (fun f =>
      (({ f with nonce := 0 }.modVe (fun e => { e with op := none, health := true })).raiseW 9 k 0).wardenNext))) ∧
    (s.fab.ve.op = none → exec (.veOpComplete samples none) s = .next s))

/-- R535, R570, R574, R575: a source raised with the latch free is latched with its INFO, and with the latch held sets
OVF; a write of 0 to FIRST frees the latch and of any other value is DENIED; ones written to PEND clear events and
forced bits at once and leave a condition whose cause holds; a 0 written to OVF clears it; an object that no unit of
the scope has ends with NO_OBJECT. The interrupt line of a family is high while a bit of PEND AND EN is 1. -/
def Obligations.FaultFamilies : Prop :=
  (∀ (s : State) (who num v : Nat) (sc : Scope) (l : Bool), objExists sc num (famIdx l) 1 = true →
    (v = 0 → exec (.faultFirstClear who sc num l v) s = .next (s.onFab (fun f =>
      (f.modFam (famOf sc num (famIdx l)) (fun x => { x with first := 0 })).answer who 0))) ∧
    (v ≠ 0 → exec (.faultFirstClear who sc num l v) s = .next (s.onFab (fun f => f.answer who 2)))) ∧
  (∀ (s : State) (who num ones : Nat) (sc : Scope) (l : Bool), objExists sc num (famIdx l) 2 = true →
    exec (.faultPendClear who sc num l ones false) s = .next (s.onFab (fun f =>
      (f.modFam (famOf sc num (famIdx l)) (fun x => x.clearPend ones)).answer who 0)) ∧
    (∀ k, famCdc (famOf sc num (famIdx l)) = some k → bit ones k = true →
      exec (.faultPendClear who sc num l ones true) s = .next (s.onFab (fun f =>
        ((f.cdcClear (famOf sc num (famIdx l))).modFam (famOf sc num (famIdx l)) (fun x => x.clearPend ones)).answer who
          0)))) ∧
  (∀ (s : State) (who num v : Nat) (sc : Scope) (l : Bool), objExists sc num (famIdx l) 3 = true →
    (v = 0 → exec (.faultOvfClear who sc num l v) s = .next (s.onFab (fun f =>
      (f.modFam (famOf sc num (famIdx l)) (fun x => { x with ovf := false })).answer who 0))) ∧
    (v ≠ 0 → exec (.faultOvfClear who sc num l v) s = .next (s.onFab (fun f => f.answer who 2)))) ∧
  (∀ (f : Fab) (key : Nat), f.intLine key = true ↔
    (f.die (lineDie key)).ao = true ∧ ∃ k, (f.fam key).pend.testBit k = true ∧ (f.fam key).en.testBit k = true) ∧
  (∀ (s : State) (who num v : Nat) (sc : Scope) (l : Bool), objExists sc num (famIdx l) 1 = false →
    exec (.faultFirstClear who sc num l v) s = .next (s.onFab (fun f => f.answer who 1))) ∧
  (∀ (x : Fam) (k : Nat) (info : List Nat), k < 64 →
    (x.raise k info).pend.testBit k = true ∧
    (x.first.testBit 15 = false → (x.raise k info).first = k + 2 ^ 15 ∧ (x.raise k info).info = info ∧
      (x.raise k info).ovf = x.ovf) ∧
    (x.first.testBit 15 = true → (x.raise k info).first = x.first ∧ (x.raise k info).info = x.info ∧
      (x.raise k info).ovf = true)) ∧
  (∀ (x : Fam) (ones k : Nat), (x.clearPend ones).pend.testBit k =
    (x.pend.testBit k && (!ones.testBit k || (x.cond.testBit k && !x.forced.testBit k))))

/-- R573: a write of 1 to FORCE[k] raises source k of the family: PEND[k] sets, a free latch takes the code with INFO0
to INFO2 zero and INFO3 the time, a held latch sets OVF; FORCE reads zero. -/
def Obligations.ForcedFaults : Prop :=
  (∀ (s : State) (who num k : Nat) (sc : Scope) (l : Bool) (key : Nat), objExists sc num (famIdx l) 4 = true →
    key = famOf sc num (famIdx l) → k < famSources key → s.fab.famInReset key = false →
    exec (.faultForce who sc num l (2 ^ k)) s = .next (s.onFab (fun f =>
      (f.modFam key (fun x => x.force k (f.famNs key))).answer who 0))) ∧
  (∀ (x : Fam) (k ns : Nat), k < 64 →
    (x.force k ns).pend.testBit k = true ∧ (∀ j, j ≠ k → (x.force k ns).pend.testBit j = x.pend.testBit j) ∧
    (x.first.testBit 15 = false → (x.force k ns).first = k + 2 ^ 15 ∧ (x.force k ns).info = [0, 0, 0, ns] ∧
      (x.force k ns).ovf = x.ovf) ∧
    (x.first.testBit 15 = true → (x.force k ns).first = x.first ∧ (x.force k ns).info = x.info ∧
      (x.force k ns).ovf = true)) ∧
  (∀ (f : Fab) (sc : Scope) (num elem : Nat) (l : Bool), f.readObj sc num (famIdx l) 4 elem = 0)

/-- R33, R584 to R589, R615, R624, R644, R645: RST_COLD_N low starts a cold instance reset and RST_WARM_N low a warm one,
unless a cold one runs; the release of a pin starts the duration of its reset, straps out of order raise XN_STRAP_ERR, and
the UNIQUE domain of D0 is switched on only with a slice strapped 0. RST_ACTIVE_N of every die is low in an instance reset, and the end of a tile reset does not move it. The end
of a reset that is over takes its scope out of reset, and nothing ends early. VDD_AO may go off
and return only while RST_COLD_N is low: what the block does when one die loses it otherwise, while another keeps it,
R645 does not define. -/
def Obligations.ResetPins : Prop :=
  (∀ (s : State), s.fab.coldLow = false → exec .rstColdAssert s = .next (s.onFab (fun f =>
    ({ (({ f with coldLow := true }.modMap (fun m => { m with strapErr := false })).enterInstance true true) with
      rsts := [⟨.inst, 0, true, f.run0, false⟩] } : Fab).uqCheck))) ∧
  (∀ (s : State), s.fab.coldLow = true → exec .rstColdAssert s = .next s ∧
    ((s.fab.die 0).ao = false → (s.fab.die 1).ao = false → (s.fab.die 2).ao = false → (s.fab.die 3).ao = false →
      ∀ straps, exec (.rstColdRelease straps) s = .next (s.onFab (fun f =>
        (({ f with coldLow := false, rsts := f.rsts.map (fun (r : Rst) => { r with at_ := f.run0 }) } : Fab).modMap (fun m =>
          { m with strapErr := straps != [0, 1, 3, 2], present := straps.contains 0 })).modDie 0 (fun x =>
            if straps.contains 0 then { x with uqReq := x.uqReq || !x.pcUqReq }
            else { x with uqReq := false, uqAck := false })))) ∧
    ∀ straps, ∃ t, exec (.rstColdRelease straps) s = .next t ∧ t.fab.coldLow = false ∧
      (t.fab.map.strapErr = true ↔ straps ≠ [0, 1, 3, 2]) ∧ t.fab.rsts = s.fab.rsts.map (fun r => { r with
        at_ := s.fab.run0 }) ∧ t.fab.objs = s.fab.objs ∧ t.fab.lan = s.fab.lan) ∧
  (∀ (s : State), s.fab.warmLow = false →
    (s.fab.coldLow = true ∨ s.fab.coldRuns = true → exec .rstWarmAssert s = .next (s.onFab (fun f =>
      { f with warmLow := true }))) ∧
    (s.fab.coldLow = false → s.fab.coldRuns = false → exec .rstWarmAssert s = .next (s.onFab (fun f =>
      { ({ f with warmLow := true }.enterInstance false false) with rsts := [⟨.inst, 0, false, f.run0, false⟩] })))) ∧
  (∀ (s : State), s.fab.warmLow = true → exec .rstWarmRelease s = .next (s.onFab (fun f => { f with
    warmLow := false
    rsts := f.rsts.map (fun r => if r.sc = .inst ∧ ¬r.cold then { r with at_ := f.run0 } else r) }))) ∧
  (∀ (s : State) (d : Nat), s.fab.coldLow = false →
    (∃ t, exec .rstColdAssert s = .next t ∧ t.fab.rstActiveN d = false) ∧
    (∀ n, ∃ t, exec (.resetEnd .tile n) s = .next t ∧ t.fab.rstActiveN d = s.fab.rstActiveN d)) ∧
  (∀ (s : State) (t : Nat) (r : Rst) (g : Fab), s.fab.rsts.find? (fun r => r.sc == .tile && r.num == t) = some r →
    r.sc = .tile → g = { s.fab with rsts := dropFirst (fun r => r.sc == .tile && r.num == t) s.fab.rsts } →
    (r.at_ + us 20 ≤ s.fab.run0 → exec (.resetEnd .tile t) s = .next (s.onFab (fun _ =>
      ((g.leaveTile t false).leaveCrossings t).famResend (dieOf t)))) ∧
    (s.fab.run0 < r.at_ + us 20 → exec (.resetEnd .tile t) s = .next s)) ∧
  (∀ (s : State) (r : Rst) (g : Fab), s.fab.rsts.find? (fun r => r.sc == .inst && r.num == 0) = some r → r.sc = .inst →
    g = { s.fab with rsts := dropFirst (fun r => r.sc == .inst && r.num == 0) s.fab.rsts } → s.fab.coldLow = false →
    s.fab.warmLow = false → s.fab.map.strapErr = false → s.fab.domainsOn = true →
    r.cold = true ∨ r.at_ + us 30 ≤ s.fab.run0 →
    exec (.resetEnd .inst 0) s = .next (s.onFab (fun _ => g.leaveInstance r.cold))) ∧
  (∀ (s : State) (d : Nat), d < 4 → (s.fab.die d).ao = true →
    (s.fab.coldLow = true → ∃ t, exec (.vddAoLoss d) s = .next t ∧ (t.fab.die d).ao = false ∧ t.pending = s.pending) ∧
    (∀ e, e < 4 → e ≠ d → (s.fab.die e).ao = true → s.fab.coldLow = false →
      exec (.vddAoLoss d) s = .fault .vddAoRemoved)) ∧
  (∀ (s : State) (d : Nat), d < 4 → (s.fab.die d).ao = false → exec (.vddAoLoss d) s = .next s ∧
    (s.fab.coldLow = true → exec (.vddAoReturn d) s = .next (s.onFab (fun f =>
      (tilesOfDie d).foldl (fun f t => f.modTile t (fun x => { x with st := .reset }))
        (f.modDie d (fun _ => { Die.reset d with
          rst := true, famReq := false, famAck := false, uqReq := d == 0, uqAck := false }))))))

/-- R491, R493: MAP_RESET with the lock closed raises GUARD_REFUSED and is counted; with it open, a reset of a scope
that exists starts and LAST reads 1, while a reset of a scope number that does not exist, or one but of the instance
during another, sets LAST to 3 and is counted; either closes the lock. -/
def Obligations.ResetWrites : Prop :=
  (∀ (s : State) (num : Nat) (cold : Bool), s.fab.map.lock = true → s.fab.inProgress = false →
    (num < 256 → exec (.mapResetTile num cold) s = .next (s.onFab (fun f =>
      ((f.modMap (fun m => { m with lock := false, rst := b2n cold * 4 + num * 2 ^ 16 })).startReset .tile num cold
        true).modMap (fun m => m.guarded 1)))) ∧
    (num < 16 → exec (.mapResetQuadrant num cold) s = .next (s.onFab (fun f =>
      ((f.modMap (fun m => { m with lock := false, rst := 1 + b2n cold * 4 + num * 2 ^ 16 })).startReset .quad num cold
        true).modMap (fun m => m.guarded 1)))) ∧
    (num < 4 → exec (.mapResetDie num cold) s = .next (s.onFab (fun f =>
      ((f.modMap (fun m => { m with lock := false, rst := 2 + b2n cold * 4 + num * 2 ^ 16 })).startReset .die num cold
        true).modMap (fun m => m.guarded 1)))) ∧
    (16 ≤ num → num < 256 → exec (.mapResetQuadrant num cold) s = .next (s.onFab (fun f =>
      f.modMap (fun m => { m with lock := false, last := 3, refused := min 255 (m.refused + 1) }))))) ∧
  (∀ (s : State) (cold : Bool), s.fab.map.lock = true → exec (.mapResetInstance 0 cold) s = .next (s.onFab (fun f =>
    ((f.modMap (fun m => { m with lock := false, rst := 3 + b2n cold * 4 })).startReset .inst 0 cold true).modMap
      (fun m => m.guarded 1)))) ∧
  (∀ (s : State) (num : Nat) (cold : Bool), s.fab.map.lock = true → s.fab.inProgress = true → num < 4 → ∃ g : Fab,
    g = s.fab.modMap (fun m => { m with lock := false, last := 3, refused := min 255 (m.refused + 1) }) ∧
    exec (.mapResetTile num cold) s = .next (s.onFab (fun _ => g)) ∧
    exec (.mapResetQuadrant num cold) s = .next (s.onFab (fun _ => g)) ∧
    exec (.mapResetDie num cold) s = .next (s.onFab (fun _ => g))) ∧
  (∀ (s : State) (num : Nat) (cold : Bool), s.fab.map.lock = false → num < 256 →
    exec (.mapResetTile num cold) s = .next (s.onFab (fun f =>
      (f.mapRaise 3 0x60 true 2 (b2n cold * 4 + num * 2 ^ 16)).modMap (fun m => { m with
        last := 2, refused := min 255 (m.refused + 1) }))) ∧
    exec (.mapResetInstance num cold) s = .next (s.onFab (fun f =>
      (f.mapRaise 3 0x60 true 2 (3 + b2n cold * 4 + num * 2 ^ 16)).modMap (fun m => { m with
        last := 2, refused := min 255 (m.refused + 1) })))) ∧
  (∀ (f : Fab) (t : Nat) (cold viaMap : Bool), f.startReset .tile t cold viaMap =
    { (f.enterTiles [t] cold).enterCrossings [t] cold with
      rsts := ((f.enterTiles [t] cold).enterCrossings [t] cold).rsts ++ [⟨.tile, t, cold, f.run0, viaMap⟩] })

/-- R438, R544, R588: a warm instance reset keeps the nonce, TICKET_COUNTER, SEAL_STATE, the Lanterns, and one-time
storage when nothing is being programmed; a cold one clears the nonce and unloads one-time storage. -/
def Obligations.WarmResetKeeps : Prop :=
  (∀ (f : Fab), f.coldRuns = false → ∃ g : Fab, g = f.startReset .inst 0 false true ∧ g.nonce = f.nonce ∧ g.lan = f.lan ∧
    g.oI O.TICKET_COUNTER = f.oI O.TICKET_COUNTER ∧ g.oI O.SEAL_STATE = f.oI O.SEAL_STATE ∧
    (f.wd.burn = none → f.wd.prog = none → g.otp = f.otp) ∧ g.wd.ticket = none ∧ g.bind = Bind.reset ∧
    g.rsts = [⟨.inst, 0, false, f.run0, true⟩]) ∧
  (∀ (f : Fab) (viaMap : Bool), ∃ g : Fab, g = f.startReset .inst 0 true viaMap ∧ g.nonce = 0 ∧ g.otp.loaded = false ∧
    g.otp.slot = none ∧ g.oI O.TICKET_COUNTER = 0 ∧ (∀ d, d < 4 → (g.lantern d).invalid = true) ∧
    g.rsts = [⟨.inst, 0, true, f.run0, viaMap⟩])

/-- R594, R595, R609, R611: CNT_EVENT accepts the codes and qualifiers of the event table alone; CNT_VALUE stores a
value, clipped to 48 bits; the trace tree takes the oldest record of a tile's queue into its die's quarter with the
next SEQ, a full quarter under STOP counts it in TRACE_LOST and keeps its records, and under WRAP overwrites its
oldest; TRACE_CLEAR empties the quarters. -/
def Obligations.CountersAndTrace : Prop :=
  (∀ (s : State) (who t k v : Nat), t < 256 → k < 8 →
    (cntEventOk v = true → v < 2 ^ 11 → exec (.cntEventWrite who t k v) s = .next (s.onFab (fun f =>
      ((f.settleCounters t).setO .tile t O.CNT_EVENT k v).answer who 0))) ∧
    (cntEventOk v = false → exec (.cntEventWrite who t k v) s = .next (s.onFab (fun f => f.answer who 2)))) ∧
  (cntEventOk 0x00 = true ∧ cntEventOk 0x702 = true ∧ cntEventOk 0x721 = false ∧ cntEventOk 0x521 = true ∧
    cntEventOk 0x02F = false ∧ cntEventOk 0x12F = true ∧ cntEventOk 0x52F = true ∧ cntEventOk 0x62F = false ∧
    cntEventOk 0x63 = false) ∧
  (∀ (s : State) (who t k v : Nat), t < 256 → k < 8 →
    (v < 2 ^ 48 → exec (.cntValueWrite who t k v) s = .next (s.onFab (fun f =>
      (f.modTile t (fun x => { x with cnt := modAt x.cnt k (fun _ => v) })).answer who 0))) ∧
    (2 ^ 48 ≤ v → exec (.cntValueWrite who t k v) s = .next (s.onFab (fun f =>
      (f.modTile t (fun x => { x with cnt := modAt x.cnt k (fun _ => 2 ^ 48 - 1) })).answer who 4)))) ∧
  (∀ (s : State) (t r : Nat) (rest : List Nat) (g : Fab), (s.fab.tile t).hop = r :: rest →
    g = s.fab.modTile t (fun x => { x with hop := rest }) →
    (∀ q, (g.traceOf (dieOf t)).put (dieOf t) r (g.oD (dieOf t) O.TRACE_MODE == 1) = some q →
      exec (.traceRecordWrite t) s = .next (s.onFab (fun _ => g.setTrace (dieOf t) q))) ∧
    ((g.traceOf (dieOf t)).put (dieOf t) r (g.oD (dieOf t) O.TRACE_MODE == 1) = none →
      exec (.traceRecordWrite t) s = .next (s.onFab (fun _ => g.bump .inst 0 O.TRACE_LOST 0)))) ∧
  (∀ (q : Quarter) (d r : Nat) (stop : Bool), q.count ≤ 12288 → q.nextE < 12288 →
    (q.put d r stop = none ↔ q.count = 12288 ∧ stop = true) ∧
    ∀ p, q.put d r stop = some p → p.count = min 12288 (q.count + 1) ∧ p.seq = (q.seq + 1) % 2 ^ 32 ∧
      p.nextE = (q.nextE + 1) % 12288 ∧ p.recs.get (fun _ => 0) q.nextE = r + q.seq * 2 ^ 256 + d * 2 ^ 288 ∧
      (∀ e, e ≠ q.nextE → p.recs.get (fun _ => 0) e = q.recs.get (fun _ => 0) e) ∧ p.nextE < 12288) ∧
  (∀ (s : State) (t : Nat), (s.fab.tile t).hop = [] → exec (.traceRecordWrite t) s = .next s) ∧
  (∀ (s : State) (who v : Nat), v ≠ 0 → (∀ d, d < 4 → s.fab.bcastUp d = true) → ∃ g : Fab,
    exec (.traceClearWrite who v) s = .next (s.onFab (fun _ => g.answer who 0)) ∧
    (∀ d, d < 4 → g.traceOf d = Quarter.reset) ∧ g.tiles = s.fab.tiles ∧ g.objs = s.fab.objs)

/-- R599 to R606: a snapshot time less than 10 µs or more than 10 s ahead, a second one while one is armed, and one
beside a collection are DENIED; an accepted one arms every tile station that it reaches; a tile takes CYC and its
counters into the shadow when its time has reached T, and not before; 1 µs past T SNAPSHOT_STATE is TAKEN. A
collection arms its snapshot at the next multiple of COLLECT_PERIOD at least 10 µs ahead; when its frames have ended
it writes 72 bytes for each tile at COLLECT_ADDR and COLLECT_DONE takes its time, unless it would overwrite an
approved or running image. -/
def Obligations.Snapshots : Prop :=
  (∀ (s : State) (who tm : Nat),
    (tm < s.fab.dieTime 0 + us 10 ∨ s.fab.dieTime 0 + ms 10000 < tm ∨ s.fab.oI O.SNAPSHOT_STATE = 1 ∨
      s.fab.oI O.COLLECT_PERIOD ≠ 0 → exec (.snapshotAtWrite who tm) s = .next (s.onFab (fun f => f.answer who 2))) ∧
    (s.fab.dieTime 0 + us 10 ≤ tm → tm ≤ s.fab.dieTime 0 + ms 10000 → s.fab.oI O.SNAPSHOT_STATE ≠ 1 →
      s.fab.oI O.COLLECT_PERIOD = 0 → (∀ d, d < 4 → s.fab.bcastUp d = true) →
      exec (.snapshotAtWrite who tm) s = .next (s.onFab (fun f => (f.armSnapshot tm).answer who 0)))) ∧
  (∀ (f : Fab) (t tm : Nat), t < 256 → f.bcastUp (dieOf t) = true → f.bypassed t = false →
    ((f.armSnapshot tm).tile t).snap = some tm ∧ (f.armSnapshot tm).oI O.SNAPSHOT_STATE = 1 ∧
    (f.armSnapshot tm).oI O.SNAPSHOT_AT = tm) ∧
  (∀ (s : State) (t tm : Nat), t < 256 → (s.fab.tile t).snap = some tm → ∃ g : Fab,
    exec .snapshotTake s = .next (s.onFab (fun _ => g)) ∧
    (tm ≤ s.fab.time t → (s.fab.tile t).st = .t0 → (g.tile t).snap = none ∧
      (g.tile t).shadow = (s.fab.tile t).cyc :: (s.fab.tile t).cnt) ∧
    (s.fab.time t < tm → g.tile t = s.fab.tile t) ∧ g.objs = s.fab.objs) ∧
  (∀ (s : State), s.fab.oI O.SNAPSHOT_STATE = 1 → s.fab.coll.armed = none →
    (s.fab.oI O.SNAPSHOT_AT + us 1 ≤ s.fab.dieTime 0 → exec .snapshotTaken s = .next (s.onFab (fun f =>
      (((List.range 256).foldl (fun f t => f.takeSnapshot t) f).setO .inst 0 O.SNAPSHOT_STATE 0 2).setO .inst 0
        O.SNAPSHOT_TIME 0 (f.oI O.SNAPSHOT_AT)))) ∧
    (s.fab.dieTime 0 < s.fab.oI O.SNAPSHOT_AT + us 1 → exec .snapshotTaken s = .next s)) ∧
  (∀ (s : State) (p tm : Nat), p = us (s.fab.oI O.COLLECT_PERIOD) → p ≠ 0 → s.fab.coll.armed = none →
    s.fab.coll.reading = none → s.fab.oI O.SNAPSHOT_STATE ≠ 1 → tm % p = 0 → s.fab.dieTime 0 + us 10 ≤ tm →
    tm < s.fab.dieTime 0 + us 10 + p → exec .collectStart s = .next (s.onFab (fun f =>
      (f.armSnapshot tm).modColl (fun c => { c with armed := some tm })))) ∧
  (∀ (s : State) (tm : Nat), s.fab.coll.reading = some tm → s.fab.coll.next = 768 →
    (∀ tag, 8 ≤ tag → tag < 12 → s.fab.guy.ring.lookup tag = none) → ∃ g : Fab,
    g = s.fab.modColl (fun c => { c with reading := none, got := [], next := 0 }) ∧
    (s.fab.collMayWrite = false → exec .collectComplete s = .next (s.onFab (fun _ => g))) ∧
    (s.fab.collMayWrite = true → exec .collectComplete s = .next (s.onFab (fun f =>
      let put := fun (m : List Host.Cell) (t : Nat) =>
        memWrite m (f.oI O.COLLECT_ADDR - 0x20000000 + 72 * t) (f.coll.got.get (fun _ => 0) t) (2 ^ 72 - 1) 72
      (g.modWd (fun w => { w with sram := (List.range 256).foldl put w.sram })).setO .inst 0 O.COLLECT_DONE 0 tm)))) ∧
  (∀ (s : State) (who v : Nat),
    (s.fab.oI O.SNAPSHOT_STATE = 1 → s.fab.coll.armed = none →
      exec (.collectPeriodWrite who v) s = .next (s.onFab (fun f => f.answer who 2))) ∧
    (s.fab.oI O.SNAPSHOT_STATE ≠ 1 → judgeWrite .inst O.COLLECT_PERIOD 0 v = some (v, 0) →
      exec (.collectPeriodWrite who v) s = .next (s.onFab (fun f =>
        (f.setO .inst 0 O.COLLECT_PERIOD 0 v).answer who 0)))) ∧
  judgeWrite .inst O.COLLECT_PERIOD 0 0 = some (0, 0)
end

