-- ==== Sys2Proof/Laws/Exec.lean ====
section
/-! SUPPORT. Laws/Exec: exec of each command is that command's meaning, one lemma per constructor, so that no proof unfolds
the whole dispatch. -/

namespace Sys2Proof.Machine

@[simp] theorem exec_routerFlitReceive t p ea eb (s : State) :
    exec (.routerFlitReceive t p ea eb) s = execRouterFlitReceive t p ea eb s := rfl
@[simp] theorem exec_creditReturn t snd (s : State) :
    exec (.creditReturn t snd) s = execCreditReturn t snd s := rfl
@[simp] theorem exec_switchAllocation x (s : State) :
    exec (.switchAllocation x) s = execSwitchAllocation x s := rfl
@[simp] theorem exec_headAged t p vc (s : State) :
    exec (.headAged t p vc) s = execHeadAged t p vc s := rfl
@[simp] theorem exec_knockReceived t p (s : State) :
    exec (.knockReceived t p) s = execKnockReceived t p s := rfl
@[simp] theorem exec_awakeRise t p (s : State) :
    exec (.awakeRise t p) s = execAwakeRise t p s := rfl
@[simp] theorem exec_outputDead t p (s : State) :
    exec (.outputDead t p) s = execOutputDead t p s := rfl
@[simp] theorem exec_eapIngressBeat t data mc first last psn par (s : State) :
    exec (.eapIngressBeat t data mc first last psn par) s = execEapIngressBeat t data mc first last psn par s := rfl
@[simp] theorem exec_ingressPacketCheck t e ue (s : State) :
    exec (.ingressPacketCheck t e ue) s = execIngressPacketCheck t e ue s := rfl
@[simp] theorem exec_famFetchReturn t bad (s : State) :
    exec (.famFetchReturn t bad) s = execFamFetchReturn t bad s := rfl
@[simp] theorem exec_violationQueueEnter sp n (s : State) :
    exec (.violationQueueEnter sp n) s = execViolationQueueEnter sp n s := rfl
@[simp] theorem exec_violationAnswerRelease sp n (s : State) :
    exec (.violationAnswerRelease sp n) s = execViolationAnswerRelease sp n s := rfl
@[simp] theorem exec_holdQueueEnter sp n (s : State) :
    exec (.holdQueueEnter sp n) s = execHoldQueueEnter sp n s := rfl
@[simp] theorem exec_injectionSelect sp n ue (s : State) :
    exec (.injectionSelect sp n ue) s = execInjectionSelect sp n ue s := rfl
@[simp] theorem exec_egressPacketArrive t hck e (s : State) :
    exec (.egressPacketArrive t hck e) s = execEgressPacketArrive t hck e s := rfl
@[simp] theorem exec_egressSelect sp n ue (s : State) :
    exec (.egressSelect sp n ue) s = execEgressSelect sp n ue s := rfl
@[simp] theorem exec_responseArrive t (s : State) :
    exec (.responseArrive t) s = execResponseArrive t s := rfl
@[simp] theorem exec_eapCreditReturn t mask (s : State) :
    exec (.eapCreditReturn t mask) s = execEapCreditReturn t mask s := rfl
@[simp] theorem exec_eapEpochBegin t (s : State) :
    exec (.eapEpochBegin t) s = execEapEpochBegin t s := rfl
@[simp] theorem exec_tagGrant t k (s : State) :
    exec (.tagGrant t k) s = execTagGrant t k s := rfl
@[simp] theorem exec_tagGrantResume t (s : State) :
    exec (.tagGrantResume t) s = execTagGrantResume t s := rfl
@[simp] theorem exec_edgeCreditLow t (s : State) :
    exec (.edgeCreditLow t) s = execEdgeCreditLow t s := rfl
@[simp] theorem exec_tagExpiry sp n k ue (s : State) :
    exec (.tagExpiry sp n k ue) s = execTagExpiry sp n k ue s := rfl
@[simp] theorem exec_quarantineRelease t k (s : State) :
    exec (.quarantineRelease t k) s = execQuarantineRelease t k s := rfl
@[simp] theorem exec_iLinkChange t code (s : State) :
    exec (.iLinkChange t code) s = execILinkChange t code s := rfl
@[simp] theorem exec_portGoneReceive t (s : State) :
    exec (.portGoneReceive t) s = execPortGoneReceive t s := rfl
@[simp] theorem exec_edgeFenceWrite who t v (s : State) :
    exec (.edgeFenceWrite who t v) s = execEdgeFenceWrite who t v s := rfl
@[simp] theorem exec_iKnock t (s : State) :
    exec (.iKnock t) s = execIKnock t s := rfl
@[simp] theorem exec_granuleWrite who v (s : State) :
    exec (.granuleWrite who v) s = execGranuleWrite who v s := rfl
@[simp] theorem exec_tableElementWrite who dbg table elem v (s : State) :
    exec (.tableElementWrite who dbg table elem v) s = execTableElementWrite who dbg table elem v s := rfl
@[simp] theorem exec_famCommitWrite who tm (s : State) :
    exec (.famCommitWrite who tm) s = execFamCommitWrite who tm s := rfl
@[simp] theorem exec_lensInvReceive t (s : State) :
    exec (.lensInvReceive t) s = execLensInvReceive t s := rfl
@[simp] theorem exec_lensAckReceive x (s : State) :
    exec (.lensAckReceive x) s = execLensAckReceive x s := rfl
@[simp] theorem exec_commitJudge (s : State) :
    exec .commitJudge s = execCommitJudge s := rfl
@[simp] theorem exec_commitTakeEffect u x (s : State) :
    exec (.commitTakeEffect u x) s = execCommitTakeEffect u x s := rfl
@[simp] theorem exec_overlayDrainDone d (s : State) :
    exec (.overlayDrainDone d) s = execOverlayDrainDone d s := rfl
@[simp] theorem exec_stageClearWrite who v (s : State) :
    exec (.stageClearWrite who v) s = execStageClearWrite who v s := rfl
@[simp] theorem exec_drainWrite who d (s : State) :
    exec (.drainWrite who d) s = execDrainWrite who d s := rfl
@[simp] theorem exec_drainMarkReceive t (s : State) :
    exec (.drainMarkReceive t) s = execDrainMarkReceive t s := rfl
@[simp] theorem exec_drainReport sp n (s : State) :
    exec (.drainReport sp n) s = execDrainReport sp n s := rfl
@[simp] theorem exec_drainDoneReceive x (s : State) :
    exec (.drainDoneReceive x) s = execDrainDoneReceive x s := rfl
@[simp] theorem exec_violClearWrite who sc num v (s : State) :
    exec (.violClearWrite who sc num v) s = execViolClearWrite who sc num v s := rfl
@[simp] theorem exec_spDownWord d head w par (s : State) :
    exec (.spDownWord d head w par) s = execSpDownWord d head w par s := rfl
@[simp] theorem exec_spLd x (s : State) :
    exec (.spLd x) s = execSpLd x s := rfl
@[simp] theorem exec_spSt x (s : State) :
    exec (.spSt x) s = execSpSt x s := rfl
@[simp] theorem exec_spXld x (s : State) :
    exec (.spXld x) s = execSpXld x s := rfl
@[simp] theorem exec_spXst x (s : State) :
    exec (.spXst x) s = execSpXst x s := rfl
@[simp] theorem exec_spLb d (s : State) :
    exec (.spLb d) s = execSpLb d s := rfl
@[simp] theorem exec_spSb d (s : State) :
    exec (.spSb d) s = execSpSb d s := rfl
@[simp] theorem exec_spFb d (s : State) :
    exec (.spFb d) s = execSpFb d s := rfl
@[simp] theorem exec_spReservedOp d (s : State) :
    exec (.spReservedOp d) s = execSpReservedOp d s := rfl
@[simp] theorem exec_spAccessSend x (s : State) :
    exec (.spAccessSend x) s = execSpAccessSend x s := rfl
@[simp] theorem exec_pwbMergeHoldExpiry x (s : State) :
    exec (.pwbMergeHoldExpiry x) s = execPwbMergeHoldExpiry x s := rfl
@[simp] theorem exec_spResponseArrive d hck (s : State) :
    exec (.spResponseArrive d hck) s = execSpResponseArrive d hck s := rfl
@[simp] theorem exec_spBarrierAck d (s : State) :
    exec (.spBarrierAck d) s = execSpBarrierAck d s := rfl
@[simp] theorem exec_spResponseSend d (s : State) :
    exec (.spResponseSend d) s = execSpResponseSend d s := rfl
@[simp] theorem exec_spUpCredit d (s : State) :
    exec (.spUpCredit d) s = execSpUpCredit d s := rfl
@[simp] theorem exec_spExcReqRise d (s : State) :
    exec (.spExcReqRise d) s = execSpExcReqRise d s := rfl
@[simp] theorem exec_spExcAck d (s : State) :
    exec (.spExcAck d) s = execSpExcAck d s := rfl
@[simp] theorem exec_spExcReqFall d (s : State) :
    exec (.spExcReqFall d) s = execSpExcReqFall d s := rfl
@[simp] theorem exec_spReset d (s : State) :
    exec (.spReset d) s = execSpReset d s := rfl
@[simp] theorem exec_spRequestResume d (s : State) :
    exec (.spRequestResume d) s = execSpRequestResume d s := rfl
@[simp] theorem exec_spPowerDownRequest d (s : State) :
    exec (.spPowerDownRequest d) s = execSpPowerDownRequest d s := rfl
@[simp] theorem exec_cmnRead n ce ue (s : State) :
    exec (.cmnRead n ce ue) s = execCmnRead n ce ue s := rfl
@[simp] theorem exec_cmnWrite n ce ue (s : State) :
    exec (.cmnWrite n ce ue) s = execCmnWrite n ce ue s := rfl
@[simp] theorem exec_cmnXld n ce ue (s : State) :
    exec (.cmnXld n ce ue) s = execCmnXld n ce ue s := rfl
@[simp] theorem exec_cmnXst n ce ue (s : State) :
    exec (.cmnXst n ce ue) s = execCmnXst n ce ue s := rfl
@[simp] theorem exec_cmnUnsupported n (s : State) :
    exec (.cmnUnsupported n) s = execCmnUnsupported n s := rfl
@[simp] theorem exec_cmnResvGranWrite who n v (s : State) :
    exec (.cmnResvGranWrite who n v) s = execCmnResvGranWrite who n v s := rfl
@[simp] theorem exec_cmnResvClearWrite who n v (s : State) :
    exec (.cmnResvClearWrite who n v) s = execCmnResvClearWrite who n v s := rfl
@[simp] theorem exec_schedWeightWrite who sp n sub v (s : State) :
    exec (.schedWeightWrite who sp n sub v) s = execSchedWeightWrite who sp n sub v s := rfl
@[simp] theorem exec_shaperRateWrite who sp n sub v (s : State) :
    exec (.shaperRateWrite who sp n sub v) s = execShaperRateWrite who sp n sub v s := rfl
@[simp] theorem exec_shaperBurstWrite who sp n sub v (s : State) :
    exec (.shaperBurstWrite who sp n sub v) s = execShaperBurstWrite who sp n sub v s := rfl
@[simp] theorem exec_shaperClearWrite who sp n sub v (s : State) :
    exec (.shaperClearWrite who sp n sub v) s = execShaperClearWrite who sp n sub v s := rfl
@[simp] theorem exec_policeCirWrite who t v (s : State) :
    exec (.policeCirWrite who t v) s = execPoliceCirWrite who t v s := rfl
@[simp] theorem exec_policeCbsWrite who t v (s : State) :
    exec (.policeCbsWrite who t v) s = execPoliceCbsWrite who t v s := rfl
@[simp] theorem exec_gateApplyWrite who sp n sub v (s : State) :
    exec (.gateApplyWrite who sp n sub v) s = execGateApplyWrite who sp n sub v s := rfl
@[simp] theorem exec_gateScheduleStart sp n sub (s : State) :
    exec (.gateScheduleStart sp n sub) s = execGateScheduleStart sp n sub s := rfl
@[simp] theorem exec_gateBoundary sp n sub (s : State) :
    exec (.gateBoundary sp n sub) s = execGateBoundary sp n sub s := rfl
@[simp] theorem exec_gateEnWrite who sp n sub v (s : State) :
    exec (.gateEnWrite who sp n sub v) s = execGateEnWrite who sp n sub v s := rfl
@[simp] theorem exec_histSample sp n (s : State) :
    exec (.histSample sp n) s = execHistSample sp n s := rfl
@[simp] theorem exec_stallConditionRise t (s : State) :
    exec (.stallConditionRise t) s = execStallConditionRise t s := rfl
@[simp] theorem exec_spillStart t q (s : State) :
    exec (.spillStart t q) s = execSpillStart t q s := rfl
@[simp] theorem exec_spillEnd t q (s : State) :
    exec (.spillEnd t q) s = execSpillEnd t q s := rfl
@[simp] theorem exec_spillAsk n (s : State) :
    exec (.spillAsk n) s = execSpillAsk n s := rfl
@[simp] theorem exec_spillGrant t (s : State) :
    exec (.spillGrant t) s = execSpillGrant t s := rfl
@[simp] theorem exec_spillReask t q (s : State) :
    exec (.spillReask t q) s = execSpillReask t q s := rfl
@[simp] theorem exec_spillSend t q (s : State) :
    exec (.spillSend t q) s = execSpillSend t q s := rfl
@[simp] theorem exec_spillReceive n e (s : State) :
    exec (.spillReceive n e) s = execSpillReceive n e s := rfl
@[simp] theorem exec_spillPullSend t q (s : State) :
    exec (.spillPullSend t q) s = execSpillPullSend t q s := rfl
@[simp] theorem exec_spillPull n (s : State) :
    exec (.spillPull n) s = execSpillPull n s := rfl
@[simp] theorem exec_spillReturn t hck (s : State) :
    exec (.spillReturn t hck) s = execSpillReturn t hck s := rfl
@[simp] theorem exec_spillNone t (s : State) :
    exec (.spillNone t) s = execSpillNone t s := rfl
@[simp] theorem exec_spillAbandonReceive sk n (s : State) :
    exec (.spillAbandonReceive sk n) s = execSpillAbandonReceive sk n s := rfl
@[simp] theorem exec_spillTimeout t q (s : State) :
    exec (.spillTimeout t q) s = execSpillTimeout t q s := rfl
@[simp] theorem exec_skCommand n (s : State) :
    exec (.skCommand n) s = execSkCommand n s := rfl
@[simp] theorem exec_skOutCredit n (s : State) :
    exec (.skOutCredit n) s = execSkOutCredit n s := rfl
@[simp] theorem exec_skReadBeat n q data par err ue (s : State) :
    exec (.skReadBeat n q data par err ue) s = execSkReadBeat n q data par err ue s := rfl
@[simp] theorem exec_skWriteDone n q (s : State) :
    exec (.skWriteDone n q) s = execSkWriteDone n q s := rfl
@[simp] theorem exec_skWriteFailed n q (s : State) :
    exec (.skWriteFailed n q) s = execSkWriteFailed n q s := rfl
@[simp] theorem exec_skRspTimeout n (s : State) :
    exec (.skRspTimeout n) s = execSkRspTimeout n s := rfl
@[simp] theorem exec_skMemreadyChange n level (s : State) :
    exec (.skMemreadyChange n level) s = execSkMemreadyChange n level s := rfl
@[simp] theorem exec_skRecoverWrite who n v (s : State) :
    exec (.skRecoverWrite who n v) s = execSkRecoverWrite who n v s := rfl
@[simp] theorem exec_skRecoverDone n (s : State) :
    exec (.skRecoverDone n) s = execSkRecoverDone n s := rfl
@[simp] theorem exec_skEnableWrite who n v (s : State) :
    exec (.skEnableWrite who n v) s = execSkEnableWrite who n v s := rfl
@[simp] theorem exec_seamFrameReceive ss c e (s : State) :
    exec (.seamFrameReceive ss c e) s = execSeamFrameReceive ss c e s := rfl
@[simp] theorem exec_seamTrainingPhaseEnd ss c pll los lol bad eqs (s : State) :
    exec (.seamTrainingPhaseEnd ss c pll los lol bad eqs) s = execSeamTrainingPhaseEnd ss c pll los lol bad eqs s := rfl
@[simp] theorem exec_seamMarginScan ss c tog (s : State) :
    exec (.seamMarginScan ss c tog) s = execSeamMarginScan ss c tog s := rfl
@[simp] theorem exec_seamLaneLoss ss c los lol (s : State) :
    exec (.seamLaneLoss ss c los lol) s = execSeamLaneLoss ss c los lol s := rfl
@[simp] theorem exec_seamRepairReq ss c (s : State) :
    exec (.seamRepairReq ss c) s = execSeamRepairReq ss c s := rfl
@[simp] theorem exec_seamSpareTrained ss c ok (s : State) :
    exec (.seamSpareTrained ss c ok) s = execSeamSpareTrained ss c ok s := rfl
@[simp] theorem exec_seamRepairReady ss c (s : State) :
    exec (.seamRepairReady ss c) s = execSeamRepairReady ss c s := rfl
@[simp] theorem exec_seamRepairAt ss c (s : State) :
    exec (.seamRepairAt ss c) s = execSeamRepairAt ss c s := rfl
@[simp] theorem exec_seamRetrainCmd ss c (s : State) :
    exec (.seamRetrainCmd ss c) s = execSeamRetrainCmd ss c s := rfl
@[simp] theorem exec_seamRepairLaneWrite who ss c v (s : State) :
    exec (.seamRepairLaneWrite who ss c v) s = execSeamRepairLaneWrite who ss c v s := rfl
@[simp] theorem exec_seamRetrainWrite who ss c v (s : State) :
    exec (.seamRetrainWrite who ss c v) s = execSeamRetrainWrite who ss c v s := rfl
@[simp] theorem exec_seamPllLoss ss (s : State) :
    exec (.seamPllLoss ss) s = execSeamPllLoss ss s := rfl
@[simp] theorem exec_seamSleepRequest ss c (s : State) :
    exec (.seamSleepRequest ss c) s = execSeamSleepRequest ss c s := rfl
@[simp] theorem exec_seamSleepReceive ss (s : State) :
    exec (.seamSleepReceive ss) s = execSeamSleepReceive ss s := rfl
@[simp] theorem exec_seamSleptReceive ss (s : State) :
    exec (.seamSleptReceive ss) s = execSeamSleptReceive ss s := rfl
@[simp] theorem exec_seamDeepEntry ss c (s : State) :
    exec (.seamDeepEntry ss c) s = execSeamDeepEntry ss c s := rfl
@[simp] theorem exec_seamKnock ss c (s : State) :
    exec (.seamKnock ss c) s = execSeamKnock ss c s := rfl
@[simp] theorem exec_seamKnockReceive ss (s : State) :
    exec (.seamKnockReceive ss) s = execSeamKnockReceive ss s := rfl
@[simp] theorem exec_seamAwakeMessage ss (s : State) :
    exec (.seamAwakeMessage ss) s = execSeamAwakeMessage ss s := rfl
@[simp] theorem exec_seamStateMessage ss (s : State) :
    exec (.seamStateMessage ss) s = execSeamStateMessage ss s := rfl
@[simp] theorem exec_seamStateSend ss c (s : State) :
    exec (.seamStateSend ss c) s = execSeamStateSend ss c s := rfl
@[simp] theorem exec_sidebandLockLoss ss lane (s : State) :
    exec (.sidebandLockLoss ss lane) s = execSidebandLockLoss ss lane s := rfl
@[simp] theorem exec_sidebandLockRegain ss x (s : State) :
    exec (.sidebandLockRegain ss x) s = execSidebandLockRegain ss x s := rfl
@[simp] theorem exec_rstEnterReceive ss (s : State) :
    exec (.rstEnterReceive ss) s = execRstEnterReceive ss s := rfl
@[simp] theorem exec_rstSeenReceive ss (s : State) :
    exec (.rstSeenReceive ss) s = execRstSeenReceive ss s := rfl
@[simp] theorem exec_rstAckReceive ss (s : State) :
    exec (.rstAckReceive ss) s = execRstAckReceive ss s := rfl
@[simp] theorem exec_lanternSpineCheck d l (s : State) :
    exec (.lanternSpineCheck d l) s = execLanternSpineCheck d l s := rfl
@[simp] theorem exec_lanternExchange d (s : State) :
    exec (.lanternExchange d) s = execLanternExchange d s := rfl
@[simp] theorem exec_timeReqReceive ss turn (s : State) :
    exec (.timeReqReceive ss turn) s = execTimeReqReceive ss turn s := rfl
@[simp] theorem exec_timeRspReceive ss (s : State) :
    exec (.timeRspReceive ss) s = execTimeRspReceive ss s := rfl
@[simp] theorem exec_ppsInEdge d (s : State) :
    exec (.ppsInEdge d) s = execPpsInEdge d s := rfl
@[simp] theorem exec_ppsTimeout (s : State) :
    exec .ppsTimeout s = execPpsTimeout s := rfl
@[simp] theorem exec_lrefclkLoss d (s : State) :
    exec (.lrefclkLoss d) s = execLrefclkLoss d s := rfl
@[simp] theorem exec_lrefclkReturn d (s : State) :
    exec (.lrefclkReturn d) s = execLrefclkReturn d s := rfl
@[simp] theorem exec_timeSample g w (s : State) :
    exec (.timeSample g w) s = execTimeSample g w s := rfl
@[simp] theorem exec_timeCmdReceive ss (s : State) :
    exec (.timeCmdReceive ss) s = execTimeCmdReceive ss s := rfl
@[simp] theorem exec_upTimeout (s : State) :
    exec .upTimeout s = execUpTimeout s := rfl
@[simp] theorem exec_lanternStepWrite who v (s : State) :
    exec (.lanternStepWrite who v) s = execLanternStepWrite who v s := rfl
@[simp] theorem exec_lanternSetWrite who v (s : State) :
    exec (.lanternSetWrite who v) s = execLanternSetWrite who v s := rfl
@[simp] theorem exec_stepApply d (s : State) :
    exec (.stepApply d) s = execStepApply d s := rfl
@[simp] theorem exec_ppsOutEdge d (s : State) :
    exec (.ppsOutEdge d) s = execPpsOutEdge d s := rfl
@[simp] theorem exec_ppsOutFall d (s : State) :
    exec (.ppsOutFall d) s = execPpsOutFall d s := rfl
@[simp] theorem exec_timeFrame g (s : State) :
    exec (.timeFrame g) s = execTimeFrame g s := rfl
@[simp] theorem exec_lanternSourceWrite who v (s : State) :
    exec (.lanternSourceWrite who v) s = execLanternSourceWrite who v s := rfl
@[simp] theorem exec_qclkFreqWrite who v (s : State) :
    exec (.qclkFreqWrite who v) s = execQclkFreqWrite who v s := rfl
@[simp] theorem exec_tileDozeEntry t (s : State) :
    exec (.tileDozeEntry t) s = execTileDozeEntry t s := rfl
@[simp] theorem exec_tileNapEntry t (s : State) :
    exec (.tileNapEntry t) s = execTileNapEntry t s := rfl
@[simp] theorem exec_tileOffEntry t (s : State) :
    exec (.tileOffEntry t) s = execTileOffEntry t s := rfl
@[simp] theorem exec_tileWake t (s : State) :
    exec (.tileWake t) s = execTileWake t s := rfl
@[simp] theorem exec_tileWakeDone t (s : State) :
    exec (.tileWakeDone t) s = execTileWakeDone t s := rfl
@[simp] theorem exec_pdAckChange k (s : State) :
    exec (.pdAckChange k) s = execPdAckChange k s := rfl
@[simp] theorem exec_pcT3Req t level (s : State) :
    exec (.pcT3Req t level) s = execPcT3Req t level s := rfl
@[simp] theorem exec_pcUqReq level (s : State) :
    exec (.pcUqReq level) s = execPcUqReq level s := rfl
@[simp] theorem exec_tileHoldWrite who t v (s : State) :
    exec (.tileHoldWrite who t v) s = execTileHoldWrite who t v s := rfl
@[simp] theorem exec_tileDeepestWrite who t v (s : State) :
    exec (.tileDeepestWrite who t v) s = execTileDeepestWrite who t v s := rfl
@[simp] theorem exec_fabricModeWrite who v (s : State) :
    exec (.fabricModeWrite who v) s = execFabricModeWrite who v s := rfl
@[simp] theorem exec_qpllPark q (s : State) :
    exec (.qpllPark q) s = execQpllPark q s := rfl
@[simp] theorem exec_qpllRelockDone q (s : State) :
    exec (.qpllRelockDone q) s = execQpllRelockDone q s := rfl
@[simp] theorem exec_qpllHoldWrite who q v (s : State) :
    exec (.qpllHoldWrite who q v) s = execQpllHoldWrite who q v s := rfl
@[simp] theorem exec_cdcIdleEvent x acked (s : State) :
    exec (.cdcIdleEvent x acked) s = execCdcIdleEvent x acked s := rfl
@[simp] theorem exec_cdcTimeout x (s : State) :
    exec (.cdcTimeout x) s = execCdcTimeout x s := rfl
@[simp] theorem exec_cdcReleaseDone x (s : State) :
    exec (.cdcReleaseDone x) s = execCdcReleaseDone x s := rfl
@[simp] theorem exec_peerResetReceive x (s : State) :
    exec (.peerResetReceive x) s = execPeerResetReceive x s := rfl
@[simp] theorem exec_resetAckReceive x (s : State) :
    exec (.resetAckReceive x) s = execResetAckReceive x s := rfl
@[simp] theorem exec_guyFrameClaim tag ue clk (s : State) :
    exec (.guyFrameClaim tag ue clk) s = execGuyFrameClaim tag ue clk s := rfl
@[simp] theorem exec_guyBcast tag d clk (s : State) :
    exec (.guyBcast tag d clk) s = execGuyBcast tag d clk s := rfl
@[simp] theorem exec_guyRespReturn tag ok (s : State) :
    exec (.guyRespReturn tag ok) s = execGuyRespReturn tag ok s := rfl
@[simp] theorem exec_guyTimeout tag (s : State) :
    exec (.guyTimeout tag) s = execGuyTimeout tag s := rfl
@[simp] theorem exec_guyBreak ss (s : State) :
    exec (.guyBreak ss) s = execGuyBreak ss s := rfl
@[simp] theorem exec_stationBypassChange t (s : State) :
    exec (.stationBypassChange t) s = execStationBypassChange t s := rfl
@[simp] theorem exec_mapBusWrite off size half v clk (s : State) :
    exec (.mapBusWrite off size half v clk) s = execMapBusWrite off size half v clk s := rfl
@[simp] theorem exec_mapKeyWrite v (s : State) :
    exec (.mapKeyWrite v) s = execMapKeyWrite v s := rfl
@[simp] theorem exec_mapCrcRefWrite v (s : State) :
    exec (.mapCrcRefWrite v) s = execMapCrcRefWrite v s := rfl
@[simp] theorem exec_mapCrcRestart v (s : State) :
    exec (.mapCrcRestart v) s = execMapCrcRestart v s := rfl
@[simp] theorem exec_mapResetTile num cold (s : State) :
    exec (.mapResetTile num cold) s = execMapResetTile num cold s := rfl
@[simp] theorem exec_mapResetQuadrant num cold (s : State) :
    exec (.mapResetQuadrant num cold) s = execMapResetQuadrant num cold s := rfl
@[simp] theorem exec_mapResetDie num cold (s : State) :
    exec (.mapResetDie num cold) s = execMapResetDie num cold s := rfl
@[simp] theorem exec_mapResetInstance num cold (s : State) :
    exec (.mapResetInstance num cold) s = execMapResetInstance num cold s := rfl
@[simp] theorem exec_mapFltFirstClear v (s : State) :
    exec (.mapFltFirstClear v) s = execMapFltFirstClear v s := rfl
@[simp] theorem exec_mapFltPendClear v clk (s : State) :
    exec (.mapFltPendClear v clk) s = execMapFltPendClear v clk s := rfl
@[simp] theorem exec_mapFltForce v (s : State) :
    exec (.mapFltForce v) s = execMapFltForce v s := rfl
@[simp] theorem exec_mbxRead m cmd (s : State) :
    exec (.mbxRead m cmd) s = execMbxRead m cmd s := rfl
@[simp] theorem exec_mbxWrite m cmd (s : State) :
    exec (.mbxWrite m cmd) s = execMbxWrite m cmd s := rfl
@[simp] theorem exec_mbxWriteSeg m cmd (s : State) :
    exec (.mbxWriteSeg m cmd) s = execMbxWriteSeg m cmd s := rfl
@[simp] theorem exec_mbxInvalidOp m cmd (s : State) :
    exec (.mbxInvalidOp m cmd) s = execMbxInvalidOp m cmd s := rfl
@[simp] theorem exec_mbxComplete m (s : State) :
    exec (.mbxComplete m) s = execMbxComplete m s := rfl
@[simp] theorem exec_mbxTimeout m (s : State) :
    exec (.mbxTimeout m) s = execMbxTimeout m s := rfl
@[simp] theorem exec_scrubPassComplete d ue bad (s : State) :
    exec (.scrubPassComplete d ue bad) s = execScrubPassComplete d ue bad s := rfl
@[simp] theorem exec_wardenWdog addr (s : State) :
    exec (.wardenWdog addr) s = execWardenWdog addr s := rfl
@[simp] theorem exec_wardenRemapWrite who v (s : State) :
    exec (.wardenRemapWrite who v) s = execWardenRemapWrite who v s := rfl
@[simp] theorem exec_xbarTransfer n offers ans ue miss (s : State) :
    exec (.xbarTransfer n offers ans ue miss) s = execXbarTransfer n offers ans ue miss s := rfl
@[simp] theorem exec_xbarTimeout n (s : State) :
    exec (.xbarTimeout n) s = execXbarTimeout n s := rfl
@[simp] theorem exec_ticketSubmit who v (s : State) :
    exec (.ticketSubmit who v) s = execTicketSubmit who v s := rfl
@[simp] theorem exec_ticketVerifyDone (s : State) :
    exec .ticketVerifyDone s = execTicketVerifyDone s := rfl
@[simp] theorem exec_debugTicketExpiry (s : State) :
    exec .debugTicketExpiry s = execDebugTicketExpiry s := rfl
@[simp] theorem exec_sealBurnWrite who v (s : State) :
    exec (.sealBurnWrite who v) s = execSealBurnWrite who v s := rfl
@[simp] theorem exec_sealBurnDone miss (s : State) :
    exec (.sealBurnDone miss) s = execSealBurnDone miss s := rfl
@[simp] theorem exec_otpProgramWrite who record (s : State) :
    exec (.otpProgramWrite who record) s = execOtpProgramWrite who record s := rfl
@[simp] theorem exec_otpProgramDone fails (s : State) :
    exec (.otpProgramDone fails) s = execOtpProgramDone fails s := rfl
@[simp] theorem exec_otpCmdProgram miss (s : State) :
    exec (.otpCmdProgram miss) s = execOtpCmdProgram miss s := rfl
@[simp] theorem exec_veHashStart (s : State) :
    exec .veHashStart s = execVeHashStart s := rfl
@[simp] theorem exec_veHashFinish (s : State) :
    exec .veHashFinish s = execVeHashFinish s := rfl
@[simp] theorem exec_veVerify (s : State) :
    exec .veVerify s = execVeVerify s := rfl
@[simp] theorem exec_veNonceDraw (s : State) :
    exec .veNonceDraw s = execVeNonceDraw s := rfl
@[simp] theorem exec_veDataWrite w (s : State) :
    exec (.veDataWrite w) s = execVeDataWrite w s := rfl
@[simp] theorem exec_veOpComplete samples fail (s : State) :
    exec (.veOpComplete samples fail) s = execVeOpComplete samples fail s := rfl
@[simp] theorem exec_bootDefaultMode (s : State) :
    exec .bootDefaultMode s = execBootDefaultMode s := rfl
@[simp] theorem exec_faultFirstClear who sc num lantern v (s : State) :
    exec (.faultFirstClear who sc num lantern v) s = execFaultFirstClear who sc num lantern v s := rfl
@[simp] theorem exec_faultPendClear who sc num lantern ones clk (s : State) :
    exec (.faultPendClear who sc num lantern ones clk) s = execFaultPendClear who sc num lantern ones clk s := rfl
@[simp] theorem exec_faultOvfClear who sc num lantern v (s : State) :
    exec (.faultOvfClear who sc num lantern v) s = execFaultOvfClear who sc num lantern v s := rfl
@[simp] theorem exec_faultForce who sc num lantern v (s : State) :
    exec (.faultForce who sc num lantern v) s = execFaultForce who sc num lantern v s := rfl
@[simp] theorem exec_rstColdAssert (s : State) :
    exec .rstColdAssert s = execRstColdAssert s := rfl
@[simp] theorem exec_rstColdRelease straps (s : State) :
    exec (.rstColdRelease straps) s = execRstColdRelease straps s := rfl
@[simp] theorem exec_rstWarmAssert (s : State) :
    exec .rstWarmAssert s = execRstWarmAssert s := rfl
@[simp] theorem exec_rstWarmRelease (s : State) :
    exec .rstWarmRelease s = execRstWarmRelease s := rfl
@[simp] theorem exec_resetEnd sc num (s : State) :
    exec (.resetEnd sc num) s = execResetEnd sc num s := rfl
@[simp] theorem exec_vddAoLoss d (s : State) :
    exec (.vddAoLoss d) s = execVddAoLoss d s := rfl
@[simp] theorem exec_cntEventWrite who t k v (s : State) :
    exec (.cntEventWrite who t k v) s = execCntEventWrite who t k v s := rfl
@[simp] theorem exec_cntValueWrite who t k v (s : State) :
    exec (.cntValueWrite who t k v) s = execCntValueWrite who t k v s := rfl
@[simp] theorem exec_snapshotAtWrite who tm (s : State) :
    exec (.snapshotAtWrite who tm) s = execSnapshotAtWrite who tm s := rfl
@[simp] theorem exec_snapshotTake (s : State) :
    exec .snapshotTake s = execSnapshotTake s := rfl
@[simp] theorem exec_snapshotTaken (s : State) :
    exec .snapshotTaken s = execSnapshotTaken s := rfl
@[simp] theorem exec_collectStart (s : State) :
    exec .collectStart s = execCollectStart s := rfl
@[simp] theorem exec_collectComplete (s : State) :
    exec .collectComplete s = execCollectComplete s := rfl
@[simp] theorem exec_collectPeriodWrite who v (s : State) :
    exec (.collectPeriodWrite who v) s = execCollectPeriodWrite who v s := rfl
@[simp] theorem exec_traceRecordWrite t (s : State) :
    exec (.traceRecordWrite t) s = execTraceRecordWrite t s := rfl
@[simp] theorem exec_traceClearWrite who v (s : State) :
    exec (.traceClearWrite who v) s = execTraceClearWrite who v s := rfl
@[simp] theorem exec_mapBusAccess write off size half v clk (s : State) :
    exec (.mapBusAccess write off size half v clk) s = execMapBusAccess write off size half v clk s := rfl
@[simp] theorem exec_debugAccess write addr size blen data (s : State) :
    exec (.debugAccess write addr size blen data) s = execDebugAccess write addr size blen data s := rfl
@[simp] theorem exec_spResetRelease d (s : State) :
    exec (.spResetRelease d) s = execSpResetRelease d s := rfl
@[simp] theorem exec_rxlosFall ss c lanes (s : State) :
    exec (.rxlosFall ss c lanes) s = execRxlosFall ss c lanes s := rfl
@[simp] theorem exec_seamTrainMessage ss (s : State) :
    exec (.seamTrainMessage ss) s = execSeamTrainMessage ss s := rfl
@[simp] theorem exec_vddAoReturn d (s : State) :
    exec (.vddAoReturn d) s = execVddAoReturn d s := rfl

end Sys2Proof.Machine
end

