-- ==== Sys2Proof/Laws/SMap.lean ====
section
/-! SUPPORT. Laws of sparse maps: a read after a write, reads of the other keys, and the canonical form. -/

namespace Sys2Proof.SMap
variable {α : Type}

@[simp] theorem get_erase_same (d : Nat → α) (m : SMap α) (k : Nat) : get d (erase m k) k = d k := by
  induction m with
  | nil => rfl
  | cons e m ih =>
    obtain ⟨k', v⟩ := e
    by_cases h : k = k' <;> simp [erase, get, h, ih]
    simpa [h] using ih

theorem get_erase_other (d : Nat → α) (m : SMap α) (k j : Nat) (hj : j ≠ k) : get d (erase m k) j = get d m j := by
  induction m with
  | nil => rfl
  | cons e m ih =>
    obtain ⟨k', v⟩ := e
    by_cases h : k = k'
    · subst h; simp [erase, get, hj, ih]
    · simp [erase, get, h, ih]

@[simp] theorem get_insert_same (d : Nat → α) (m : SMap α) (k : Nat) (v : α) : get d (insert m k v) k = v := by
  induction m with
  | nil => simp [insert, get]
  | cons e m ih =>
    obtain ⟨k', v'⟩ := e
    simp only [insert]
    split
    · simp [get]
    · split
      · simp [get]
      · simp [get, *]

theorem get_insert_other (d : Nat → α) (m : SMap α) (k j : Nat) (v : α) (hj : j ≠ k) :
    get d (insert m k v) j = get d m j := by
  induction m with
  | nil => simp [insert, get, hj]
  | cons e m ih =>
    obtain ⟨k', v'⟩ := e
    simp only [insert]
    split
    · simp [get, hj]
    · split
      · rename_i h; subst h; simp [get, hj]
      · simp [get, ih]

variable [DecidableEq α]

/-- A read of the key that was written gives what was written. -/
@[simp] theorem get_set_same (d : Nat → α) (m : SMap α) (k : Nat) (v : α) : get d (set d m k v) k = v := by
  unfold set
  split
  · simp [*]
  · simp

/-- A write leaves every other key alone. -/
theorem get_set_other (d : Nat → α) (m : SMap α) (k j : Nat) (v : α) (hj : j ≠ k) :
    get d (set d m k v) j = get d m j := by
  unfold set
  split
  · exact get_erase_other d m k j hj
  · exact get_insert_other d m k j v hj

/-- A read after a write. -/
theorem get_set (d : Nat → α) (m : SMap α) (k j : Nat) (v : α) :
    get d (set d m k v) j = if j = k then v else get d m j := by
  split
  · subst j; simp
  · exact get_set_other d m k j v ‹_›

theorem wfFrom_mono (d : Nat → α) {lo lo' : Nat} (m : SMap α) (h : lo ≤ lo') (hm : wfFrom d lo' m = true) :
    wfFrom d lo m = true := by
  cases m with
  | nil => rfl
  | cons e m =>
    simp only [wfFrom, Bool.and_eq_true, decide_eq_true_eq] at hm ⊢
    exact ⟨⟨by omega, hm.1.2⟩, hm.2⟩

theorem wfFrom_erase (d : Nat → α) (m : SMap α) (k lo : Nat) (hm : wfFrom d lo m = true) :
    wfFrom d lo (erase m k) = true := by
  induction m generalizing lo with
  | nil => rfl
  | cons e m ih =>
    obtain ⟨k', v⟩ := e
    simp only [wfFrom, Bool.and_eq_true, decide_eq_true_eq] at hm
    simp only [erase]
    split
    · exact wfFrom_mono d _ (by omega) (ih _ hm.2)
    · simp only [wfFrom, Bool.and_eq_true, decide_eq_true_eq]
      exact ⟨hm.1, ih _ hm.2⟩

theorem wfFrom_insert (d : Nat → α) (m : SMap α) (k lo : Nat) (v : α) (hlo : lo ≤ k) (hv : v ≠ d k)
    (hm : wfFrom d lo m = true) : wfFrom d lo (insert m k v) = true := by
  induction m generalizing lo with
  | nil => simp [insert, wfFrom, hlo, hv]
  | cons e m ih =>
    obtain ⟨k', v'⟩ := e
    have hm' := hm
    simp only [wfFrom, Bool.and_eq_true, decide_eq_true_eq] at hm
    simp only [insert]
    split
    · simp only [wfFrom, Bool.and_eq_true, decide_eq_true_eq, hlo, hv, decide_false, Bool.not_false, true_and]
      exact ⟨⟨by omega, hm.1.2⟩, hm.2⟩
    · split
      · subst k'
        simp only [wfFrom, Bool.and_eq_true, decide_eq_true_eq, hlo, hv, decide_false, Bool.not_false, true_and]
        exact hm.2
      · simp only [wfFrom, Bool.and_eq_true, decide_eq_true_eq]
        exact ⟨hm.1, ih _ (by omega) hm.2⟩

/-- Every write keeps the canonical form. -/
theorem wf_set (d : Nat → α) (m : SMap α) (k : Nat) (v : α) (hm : wf d m = true) : wf d (set d m k v) = true := by
  unfold set
  split
  · exact wfFrom_erase d m k 0 hm
  · exact wfFrom_insert d m k 0 v (Nat.zero_le _) ‹_› hm

end Sys2Proof.SMap
end

