-- ==== Sys2Proof/Laws/Mem.lean ====
section
/-! SUPPORT. Laws of byte memories: what a read after a write gives, and that a write keeps the canonical form. -/

namespace Sys2Proof.Machine

/-- After a write of `n` bytes at `b` with byte enables `be`, each enabled byte reads as written and every other byte as
before. -/
theorem memWrite_get (n : Nat) : ∀ (m : List Host.Cell) (b v be a : Nat),
    SMap.get emptyByte (memWrite m b v be n) a =
      if b ≤ a ∧ a < b + n ∧ be.testBit (a - b) = true then BitVec.ofNat 8 (v / 256 ^ (a - b))
      else SMap.get emptyByte m a := by
  induction n with
  | zero => intro m b v be a; simp [memWrite]; omega
  | succ n ih =>
    intro m b v be a
    simp only [memWrite]
    rw [ih]
    by_cases h : a = b
    · subst h
      have e1 : ¬ (a + 1 ≤ a) := by omega
      have e2 : be.testBit 0 = decide (be % 2 = 1) := by simp
      simp only [e1, false_and, if_false, Nat.le_refl, true_and, Nat.sub_self, Nat.pow_zero, Nat.div_one,
        show a < a + (n + 1) by omega, e2, decide_eq_true_eq]
      split
      · simp
      · rfl
    · by_cases h2 : b < a
      · have e3 : a - b = (a - (b + 1)) + 1 := by omega
        rw [e3, Nat.testBit_succ, Nat.pow_succ, Nat.mul_comm (256 ^ _) 256, ← Nat.div_div_eq_div_mul]
        have : (b + 1 ≤ a ∧ a < b + 1 + n ∧ (be / 2).testBit (a - (b + 1)) = true) ↔
            (b ≤ a ∧ a < b + (n + 1) ∧ (be / 2).testBit (a - (b + 1)) = true) := by
          constructor <;> rintro ⟨a1, a2, a3⟩ <;> exact ⟨by omega, by omega, a3⟩
        simp only [this]
        split
        · rfl
        · split
          · rw [SMap.get_set_other _ _ _ _ _ h]
          · rfl
      · have : ¬ (b + 1 ≤ a) := by omega
        have h3 : ¬ (b ≤ a) := by omega
        simp only [this, h3, false_and, if_false]
        split
        · rw [SMap.get_set_other _ _ _ _ _ h]
        · rfl

/-- A write keeps the canonical form. -/
theorem memWrite_wf (n : Nat) : ∀ (m : List Host.Cell) (b v be : Nat), SMap.wf emptyByte m = true →
    SMap.wf emptyByte (memWrite m b v be n) = true := by
  induction n with
  | zero => intro m b v be h; exact h
  | succ n ih =>
    intro m b v be h
    simp only [memWrite]
    apply ih
    split
    · exact SMap.wf_set _ _ _ _ h
    · exact h

/-- The memories of the reset state are in canonical form. -/
theorem reset_memoriesWf : State.reset.fab.memoriesWf = true := by decide

end Sys2Proof.Machine
end

