-- ==== Sys2Proof/Laws/Ops.lean ====
section
/-! SUPPORT. Laws/Ops: the one field of the fabric that each shared operation can change; every other field stays. -/

namespace Sys2Proof.Machine

theorem Fab.sendLensInv_frame (f : Fab) (t tm : Nat) :
    f.sendLensInv t tm = { f with sp := (f.sendLensInv t tm).sp } := by
  unfold Fab.sendLensInv; first | rfl | (split <;> rfl)

theorem Fab.lensGreet_frame (f : Fab) (t : Nat) :
    f.lensGreet t = { f with sp := (f.lensGreet t).sp } := by
  unfold Fab.lensGreet; first | rfl | (split <;> rfl)

theorem Fab.drainJudge_frame (f : Fab) :
    f.drainJudge = { f with bind := (f.drainJudge).bind } := by
  unfold Fab.drainJudge; first | rfl | (split <;> rfl)

theorem Fab.sendReport_frame (f : Fab) (t : Nat) (d : DrainMark) :
    f.sendReport t d = { f with tiles := (f.sendReport t d).tiles } := by
  unfold Fab.sendReport; first | rfl | (split <;> rfl)

theorem Fab.cmnTake_frame (f : Fab) (n : Nat) :
    f.cmnTake n = { f with tiles := (f.cmnTake n).tiles } := by
  unfold Fab.cmnTake; first | rfl | (split <;> rfl)

theorem Fab.cmnAnswer_frame (f : Fab) (n : Nat) (p : Packet) (status : Nat) (psn : Bool) (data : Nat) (parts : List Part) :
    f.cmnAnswer n p status psn data parts = { f with tiles := (f.cmnAnswer n p status psn data parts).tiles } := by
  unfold Fab.cmnAnswer; first | rfl | (split <;> rfl)

theorem Fab.clearResv_frame (f : Fab) (n off len : Nat) :
    f.clearResv n off len = { f with cmn := (f.clearResv n off len).cmn } := by
  unfold Fab.clearResv; first | rfl | (split <;> rfl)

theorem Fab.cmnStore_frame (f : Fab) (n : Nat) (p : Packet) :
    f.cmnStore n p = { f with cmn := (f.cmnStore n p).cmn } := by
  unfold Fab.cmnStore; first | rfl | (split <;> rfl)

theorem Fab.clearAllResv_frame (f : Fab) (n : Nat) :
    f.clearAllResv n = { f with cmn := (f.clearAllResv n).cmn } := by
  unfold Fab.clearAllResv; first | rfl | (split <;> rfl)

theorem Fab.setTrace_frame (f : Fab) (d : Nat) (q : Quarter) :
    f.setTrace d q = { f with quarter := (f.setTrace d q).quarter } := by
  unfold Fab.setTrace; first | rfl | (split <;> rfl)

theorem Fab.peerEnter_frame (f : Fab) (x : Cdc) :
    f.peerEnter x = { f with cdc := (f.peerEnter x).cdc } := by
  unfold Fab.peerEnter; first | rfl | (split <;> rfl)

theorem Fab.peerEnd_frame (f : Fab) (x : Cdc) :
    f.peerEnd x = { f with cdc := (f.peerEnd x).cdc } := by
  unfold Fab.peerEnd; first | rfl | (split <;> rfl)

theorem Fab.takeCtl_frame (f : Fab) (t opc : Nat) :
    f.takeCtl t opc = { f with tiles := (f.takeCtl t opc).tiles } := by
  unfold Fab.takeCtl; first | rfl | (split <;> rfl)

/-- A fold of operations on the tiles changes the tiles alone. -/
theorem Fab.foldl_tiles {α : Type} (g : Fab → α → Fab) (h : ∀ f a, g f a = { f with tiles := (g f a).tiles })
    (l : List α) (f : Fab) : l.foldl g f = { f with tiles := (l.foldl g f).tiles } := by
  induction l generalizing f with
  | nil => rfl
  | cons a l ih =>
    rw [List.foldl_cons, ih (g f a)]
    generalize hx : g f a = x
    have hx' : x = { f with tiles := x.tiles } := hx ▸ h f a
    rw [hx']

theorem Fab.beginHold_frame (f : Fab) (t s : Nat) :
    f.beginHold t s = { f with tiles := (f.beginHold t s).tiles } := by
  unfold Fab.beginHold; first | rfl | (split <;> rfl)

theorem Fab.beginFlush_frame (f : Fab) (t : Nat) :
    f.beginFlush t = { f with tiles := (f.beginFlush t).tiles } :=
  Fab.foldl_tiles _ (fun f s => f.beginHold_frame t s) _ _

theorem Fab.flushDone_frame (f : Fab) (t : Nat) (p : Packet) :
    f.flushDone t p = { f with tiles := (f.flushDone t p).tiles } := by
  unfold Fab.flushDone; first | rfl | (split <;> rfl)

theorem Fab.launchFrame_frame (f : Fab) (tag : Nat) (x : GFrame) :
    f.launchFrame tag x = { f with guy := (f.launchFrame tag x).guy } := by
  unfold Fab.launchFrame; first | rfl | (split <;> rfl)

theorem Fab.respond_frame (f : Fab) (tag st : Nat) (x : GFrame) (status data : Nat) :
    f.respond tag st x status data = { f with guy := (f.respond tag st x status data).guy } := by
  unfold Fab.respond; first | rfl | (split <;> rfl)

theorem Fab.leave_frame (f : Fab) (t : Nat) (s : Staged) (stg : Option Nat) :
    f.leave t s stg = { f with tiles := (f.leave t s stg).tiles } := by
  unfold Fab.leave; first | rfl | (split <;> rfl)

theorem Fab.lanEnd_frame (f : Fab) (d code : Nat) :
    f.lanEnd d code = { f with flt := (f.lanEnd d code).flt } := by
  unfold Fab.lanEnd; first | rfl | (split <;> rfl)

theorem Fab.raise_frame (f : Fab) (key code i0 i1 i2 : Nat) :
    f.raise key code i0 i1 i2 = { f with flt := (f.raise key code i0 i1 i2).flt } := by
  unfold Fab.raise; first | rfl | (split <;> rfl)

theorem Fab.mapRaise_frame (f : Fab) (code off : Nat) (wr : Bool) (size data : Nat) :
    f.mapRaise code off wr size data = { f with flt := (f.mapRaise code off wr size data).flt } :=
  Fab.raise_frame ..

theorem Fab.wMapFirst_frame (f : Fab) (v : Nat) :
    f.wMapFirst v = { f with flt := (f.wMapFirst v).flt } := by
  unfold Fab.wMapFirst; first | rfl | (split <;> rfl)

theorem Fab.busFault_frame (f : Fab) (code off : Nat) (wr : Bool) (size v : Nat) :
    f.busFault code off wr size v = { f with flt := (f.busFault code off wr size v).flt } := by
  unfold Fab.busFault; split
  · rfl
  · exact Fab.mapRaise_frame ..

theorem Fab.measured_frame (f : Fab) :
    f.measured = { f with wd := (f.measured).wd } := by
  unfold Fab.measured; first | rfl | (split <;> rfl)

theorem Fab.newPasses_frame (f : Fab) :
    f.newPasses = { f with map := (f.newPasses).map } := by
  unfold Fab.newPasses; first | rfl | (split <;> rfl)

theorem Fab.shadowDie_frame (f : Fab) (d : Nat) (sc : Scope) (num idx sub v : Nat) :
    f.shadowDie d sc num idx sub v = { f with copy := (f.shadowDie d sc num idx sub v).copy } := by
  unfold Fab.shadowDie; first | rfl | (split <;> rfl)

theorem Fab.stgFree_frame (f : Fab) (t mc n : Nat) :
    f.stgFree t mc n = { f with tiles := (f.stgFree t mc n).tiles } := by
  unfold Fab.stgFree; first | rfl | (split <;> rfl)

theorem Fab.setTag_frame (f : Fab) (t k : Nat) (x : Tag) :
    f.setTag t k x = { f with tiles := (f.setTag t k x).tiles } := by
  unfold Fab.setTag; first | rfl | (split <;> rfl)

theorem Fab.freeTag_frame (f : Fab) (t k : Nat) :
    f.freeTag t k = { f with tiles := (f.freeTag t k).tiles } := by
  unfold Fab.freeTag; first | rfl | (split <;> rfl)

theorem Fab.quarTag_frame (f : Fab) (t k : Nat) :
    f.quarTag t k = { f with tiles := (f.quarTag t k).tiles } := by
  unfold Fab.quarTag; first | rfl | (split <;> rfl)

theorem Fab.niSend_frame (f : Fab) (t : Nat) (p : Packet) :
    f.niSend t p = { f with tiles := (f.niSend t p).tiles } := by
  unfold Fab.niSend; first | rfl | (split <;> rfl)

theorem Fab.niDeliver_frame (f : Fab) (t : Nat) (p : Packet) :
    f.niDeliver t p = { f with tiles := (f.niDeliver t p).tiles } := by
  unfold Fab.niDeliver; first | rfl | (split <;> rfl)

theorem Fab.ownAnswer_frame (f : Fab) (t k : Nat) (ps : List Packet) :
    f.ownAnswer t k ps = { f with tiles := (f.ownAnswer t k ps).tiles } := by
  unfold Fab.ownAnswer; first | rfl | (split <;> rfl)

theorem Fab.endFlush_frame (f : Fab) (t : Nat) (h : FlushHold) :
    f.endFlush t h = { f with tiles := (f.endFlush t h).tiles } := by
  unfold Fab.endFlush; first | rfl | (split <;> rfl)

theorem Fab.modSpq_frame (f : Fab) (t i : Nat) (g : SpillQ → SpillQ) :
    f.modSpq t i g = { f with tiles := (f.modSpq t i g).tiles } := by
  unfold Fab.modSpq; first | rfl | (split <;> rfl)

theorem Fab.toSk_frame (f : Fab) (t : Nat) (k : EnvKind) (i flits seq : Nat) (carried : Packet) :
    f.toSk t k i flits seq carried = { f with tiles := (f.toSk t k i flits seq carried).tiles } := by
  unfold Fab.toSk; first | rfl | (split <;> rfl)

theorem Fab.setTile_frame (f : Fab) (t : Nat) (x : Tile) :
    f.setTile t x = { f with tiles := (f.setTile t x).tiles } := by
  unfold Fab.setTile; first | rfl | (split <;> rfl)

theorem Fab.answer_frame (f : Fab) (who code : Nat) (data : Nat) :
    f.answer who code data = { f with answers := (f.answer who code data).answers } := by
  unfold Fab.answer; first | rfl | (split <;> rfl)

theorem Fab.setO_frame (f : Fab) (sc : Scope) (num idx sub v : Nat) :
    f.setO sc num idx sub v = { f with objs := (f.setO sc num idx sub v).objs } := by
  unfold Fab.setO; first | rfl | (split <;> rfl)

theorem Fab.bump_frame (f : Fab) (sc : Scope) (num idx sub : Nat) (n : Nat) :
    f.bump sc num idx sub n = { f with objs := (f.bump sc num idx sub n).objs } := by
  unfold Fab.bump; first | rfl | (split <;> rfl)

theorem Fab.bumpT_frame (f : Fab) (t idx : Nat) (n : Nat) :
    f.bumpT t idx n = { f with objs := (f.bumpT t idx n).objs } := by
  unfold Fab.bumpT; first | rfl | (split <;> rfl)

theorem Fab.peak_frame (f : Fab) (sc : Scope) (num idx v : Nat) :
    f.peak sc num idx v = { f with objs := (f.peak sc num idx v).objs } := by
  unfold Fab.peak; first | rfl | (split <;> rfl)

theorem Fab.event_frame (f : Fab) (t code q : Nat) (n : Nat) :
    f.event t code q n = { f with tiles := (f.event t code q n).tiles } := by
  unfold Fab.event; first | rfl | (split <;> rfl)

theorem Fab.dropObjs_frame (f : Fab) (p : Nat → Bool) :
    f.dropObjs p = { f with objs := (f.dropObjs p).objs } := by
  unfold Fab.dropObjs; first | rfl | (split <;> rfl)

theorem Fab.askWake_frame (f : Fab) (t : Nat) :
    f.askWake t = { f with tiles := (f.askWake t).tiles } := by
  unfold Fab.askWake; first | rfl | (split <;> rfl)

theorem Fab.setFam_frame (f : Fab) (k : Nat) (x : Fam) :
    f.setFam k x = { f with flt := (f.setFam k x).flt } := by
  unfold Fab.setFam; first | rfl | (split <;> rfl)

theorem Fab.endC_frame (f : Fab) (key code : Nat) :
    f.endC key code = { f with flt := (f.endC key code).flt } := by
  unfold Fab.endC; first | rfl | (split <;> rfl)

theorem Fab.setQp_frame (f : Fab) (q : Nat) (b : Bool) :
    f.setQp q b = { f with dies := (f.setQp q b).dies } := by
  unfold Fab.setQp; first | rfl | (split <;> rfl)

theorem Fab.toRun_frame (f : Fab) (t : Nat) :
    f.toRun t = { f with tiles := (f.toRun t).tiles } := by
  unfold Fab.toRun; first | rfl | (split <;> rfl)

theorem Fab.queuesWake_frame (f : Fab) (t : Nat) :
    f.queuesWake t = { f with tiles := (f.queuesWake t).tiles, sp := (f.queuesWake t).sp } := by
  unfold Fab.queuesWake; first | rfl | (split <;> rfl)

theorem Fab.coldLanterns_frame (f : Fab) :
    f.coldLanterns = { f with lan := (f.coldLanterns).lan } := by
  unfold Fab.coldLanterns; first | rfl | (split <;> rfl)

theorem Fab.reloadRwt_frame (f : Fab) (u : Scope × Nat) :
    f.reloadRwt u = { f with objs := (f.reloadRwt u).objs } := by
  unfold Fab.reloadRwt; first | rfl | (split <;> rfl)

/-- QCLK of a quadrant that runs again changes the start of a scrub pass alone. -/
theorem Fab.startPass_frame (f : Fab) (q : Nat) : ∃ p, f.startPass q = { f with map := { f.map with passAt := p } } :=
  ⟨_, rfl⟩

theorem Fab.leaveQuad_eq (f : Fab) (q : Nat) : f.leaveQuad q = (f.setO .quad q O.QPLL_STATE 0 0).startPass q := rfl

theorem Fab.modOut_frame (f : Fab) (t p : Nat) (g : OutPort → OutPort) :
    f.modOut t p g = { f with tiles := (f.modOut t p g).tiles } := by
  unfold Fab.modOut; first | rfl | (split <;> rfl)

theorem Fab.modIn_frame (f : Fab) (t p vc : Nat) (g : InVC → InVC) :
    f.modIn t p vc g = { f with tiles := (f.modIn t p vc g).tiles } := by
  unfold Fab.modIn; first | rfl | (split <;> rfl)

theorem Fab.sendPhit_frame (f : Fab) (t p : Nat) (ph : List (Nat × Flit)) :
    f.sendPhit t p ph = { f with tiles := (f.sendPhit t p ph).tiles } := by
  unfold Fab.sendPhit; first | rfl | (split <;> rfl)

theorem Fab.creditStart_frame (f : Fab) (t snd vc : Nat) :
    f.creditStart t snd vc = { f with tiles := (f.creditStart t snd vc).tiles } := by
  unfold Fab.creditStart; first | rfl | (split <;> rfl)

theorem Fab.freeIn_frame (f : Fab) (t p vc : Nat) :
    f.freeIn t p vc = { f with tiles := (f.freeIn t p vc).tiles } := by
  unfold Fab.freeIn; first | rfl | (split <;> rfl)

theorem Fab.idleMarks_frame (f : Fab) (t : Nat) :
    f.idleMarks t = { f with tiles := (f.idleMarks t).tiles } := by
  unfold Fab.idleMarks Fab.idleSettle; first | rfl | (split <;> rfl)

theorem Fab.refillPolicer_frame (f : Fab) (t : Nat) :
    f.refillPolicer t = { f with tiles := (f.refillPolicer t).tiles } := by
  unfold Fab.refillPolicer; first | rfl | (split <;> rfl)

theorem Fab.pllSettle_frame (f : Fab) (ss : Nat) :
    f.pllSettle ss = { f with side := (f.pllSettle ss).side } := by
  unfold Fab.pllSettle; first | rfl | (split <;> rfl)

theorem Fab.resetCross_frame (f : Fab) (ss c : Nat) (cold : Bool) :
    f.resetCross ss c cold =
      { f with cross := (f.resetCross ss c cold).cross, side := (f.resetCross ss c cold).side } := by
  unfold Fab.resetCross; rw [Fab.pllSettle_frame]; rfl

theorem Fab.launch_frame (f : Fab) (ss c : Nat) (fr : Frame) :
    f.launch ss c fr = { f with cross := (f.launch ss c fr).cross } := by
  unfold Fab.launch; first | rfl | (split <;> rfl)

theorem Fab.emitNull_frame (f : Fab) (ss c : Nat) :
    f.emitNull ss c = { f with cross := (f.emitNull ss c).cross } := by
  unfold Fab.emitNull; first | rfl | (split <;> rfl)

theorem Fab.raiseW_frame (f : Fab) (code i0 i1 : Nat) :
    f.raiseW code i0 i1 = { f with flt := (f.raiseW code i0 i1).flt } :=
  Fab.raise_frame ..

theorem Fab.veCmd_frame (f : Fab) (g : Ve → Ve) :
    f.veCmd g = { f with ve := (f.veCmd g).ve } := by
  unfold Fab.veCmd; first | rfl | (split <;> rfl)

theorem Fab.ticketAccepted_frame (f : Fab) (counter : Nat) :
    f.ticketAccepted counter = { f with objs := (f.ticketAccepted counter).objs } := by
  unfold Fab.ticketAccepted; first | rfl | (split <;> rfl)

theorem Fab.spBarrier_frame (f : Fab) (d op : Nat) (h : SpHead) (seq : Nat) :
    f.spBarrier d op h seq = { f with sp := (f.spBarrier d op h seq).sp } := by
  unfold Fab.spBarrier; first | rfl | (split <;> rfl)

theorem Fab.spWait_frame (f : Fab) (d : Nat) :
    f.spWait d = { f with sp := (f.spWait d).sp } := by
  unfold Fab.spWait; first | rfl | (split <;> rfl)

theorem Fab.spAnswer_frame (f : Fab) (d : Nat) (m : SpMsg) :
    f.spAnswer d m = { f with sp := (f.spAnswer d m).sp } := by
  unfold Fab.spAnswer; first | rfl | (split <;> rfl)

theorem Fab.spFinish_frame (f : Fab) (d : Nat) (a : SpAcc) (result data : Nat) :
    f.spFinish d a result data = { f with sp := (f.spFinish d a result data).sp } := by
  unfold Fab.spFinish; first | rfl | (split <;> rfl)

theorem Fab.setSpTag_frame (f : Fab) (d k : Nat) (x : Tag) :
    f.setSpTag d k x = { f with sp := (f.setSpTag d k x).sp } := by
  unfold Fab.setSpTag; first | rfl | (split <;> rfl)

theorem Fab.makeEligible_frame (f : Fab) (d : Nat) (which : PwbEnt → Bool) :
    f.makeEligible d which = { f with sp := (f.makeEligible d which).sp } := by
  unfold Fab.makeEligible; first | rfl | (split <;> rfl)

theorem Fab.spUnqueue_frame (f : Fab) (d k : Nat) :
    f.spUnqueue d k = { f with sp := (f.spUnqueue d k).sp } := by
  unfold Fab.spUnqueue; first | rfl | (split <;> rfl)

theorem Fab.setAcc_frame (f : Fab) (d : Nat) (a : SpAcc) :
    f.setAcc d a = { f with sp := (f.setAcc d a).sp } := by
  unfold Fab.setAcc; first | rfl | (split <;> rfl)

theorem Fab.setEnt_frame (f : Fab) (d : Nat) (e : PwbEnt) :
    f.setEnt d e = { f with sp := (f.setEnt d e).sp } := by
  unfold Fab.setEnt; first | rfl | (split <;> rfl)

theorem Fab.dropEnt_frame (f : Fab) (d : Nat) (e : PwbEnt) :
    f.dropEnt d e = { f with sp := (f.dropEnt d e).sp } := by
  unfold Fab.dropEnt; first | rfl | (split <;> rfl)

theorem Fab.wakeEntries_frame (f : Fab) (d : Nat) :
    f.wakeEntries d = { f with sp := (f.wakeEntries d).sp } := by
  unfold Fab.wakeEntries; first | rfl | (split <;> rfl)

theorem Fab.dropChunk_frame (f : Fab) (n c : Nat) :
    f.dropChunk n c = { f with sk := (f.dropChunk n c).sk } := by
  unfold Fab.dropChunk; first | rfl | (split <;> rfl)

theorem Fab.skCmd_frame (f : Fab) (n : Nat) (write : Bool) (addr beats : Nat) (data : List Nat) (q : Nat) (why : SkWhy) :
    f.skCmd n write addr beats data q why = { f with sk := (f.skCmd n write addr beats data q why).sk } := by
  unfold Fab.skCmd; first | rfl | (split <;> rfl)

theorem Fab.skSend_frame (f : Fab) (n q : Nat) (k : EnvKind) (flits seq : Nat) (plast : Bool) (carried : Packet) :
    f.skSend n q k flits seq plast carried = { f with tiles := (f.skSend n q k flits seq plast carried).tiles } := by
  unfold Fab.skSend; first | rfl | (split <;> rfl)

theorem Fab.skBeatTaken_frame (f : Fab) (n q : Nat) (c : SkCmd) :
    f.skBeatTaken n q c = { f with sk := (f.skBeatTaken n q c).sk } := by
  unfold Fab.skBeatTaken; first | rfl | (split <;> rfl)

end Sys2Proof.Machine
end

