-- ==== Sys2Proof/Laws/State.lean ====
section
/-! SUPPORT. Laws/State: what each update of the state leaves alone, field by field and unit by unit, and what it changes. -/

namespace Sys2Proof.Machine

@[simp] theorem State.onFab_pending (s : State) (g : Fab → Fab) : (s.onFab g).pending = s.pending := rfl
@[simp] theorem State.onFab_fab (s : State) (g : Fab → Fab) : (s.onFab g).fab = g s.fab := rfl

/-! ### modTile -/

@[simp] theorem Fab.modTile_objs (f : Fab) (t : Nat) (g : Tile → Tile) :
    (f.modTile t g).objs = f.objs := rfl
@[simp] theorem Fab.modTile_flt (f : Fab) (t : Nat) (g : Tile → Tile) :
    (f.modTile t g).flt = f.flt := rfl
@[simp] theorem Fab.modTile_bind (f : Fab) (t : Nat) (g : Tile → Tile) :
    (f.modTile t g).bind = f.bind := rfl
@[simp] theorem Fab.modTile_copy (f : Fab) (t : Nat) (g : Tile → Tile) :
    (f.modTile t g).copy = f.copy := rfl
@[simp] theorem Fab.modTile_lan (f : Fab) (t : Nat) (g : Tile → Tile) :
    (f.modTile t g).lan = f.lan := rfl
@[simp] theorem Fab.modTile_quarter (f : Fab) (t : Nat) (g : Tile → Tile) :
    (f.modTile t g).quarter = f.quarter := rfl
@[simp] theorem Fab.modTile_cross (f : Fab) (t : Nat) (g : Tile → Tile) :
    (f.modTile t g).cross = f.cross := rfl
@[simp] theorem Fab.modTile_side (f : Fab) (t : Nat) (g : Tile → Tile) :
    (f.modTile t g).side = f.side := rfl
@[simp] theorem Fab.modTile_sp (f : Fab) (t : Nat) (g : Tile → Tile) :
    (f.modTile t g).sp = f.sp := rfl
@[simp] theorem Fab.modTile_cmn (f : Fab) (t : Nat) (g : Tile → Tile) :
    (f.modTile t g).cmn = f.cmn := rfl
@[simp] theorem Fab.modTile_sk (f : Fab) (t : Nat) (g : Tile → Tile) :
    (f.modTile t g).sk = f.sk := rfl
@[simp] theorem Fab.modTile_answers (f : Fab) (t : Nat) (g : Tile → Tile) :
    (f.modTile t g).answers = f.answers := rfl
@[simp] theorem Fab.modTile_nonce (f : Fab) (t : Nat) (g : Tile → Tile) :
    (f.modTile t g).nonce = f.nonce := rfl
@[simp] theorem Fab.modTile_dies (f : Fab) (t : Nat) (g : Tile → Tile) :
    (f.modTile t g).dies = f.dies := rfl
@[simp] theorem Fab.modTile_repair (f : Fab) (t : Nat) (g : Tile → Tile) :
    (f.modTile t g).repair = f.repair := rfl
@[simp] theorem Fab.modTile_cdc (f : Fab) (t : Nat) (g : Tile → Tile) :
    (f.modTile t g).cdc = f.cdc := rfl
@[simp] theorem Fab.modTile_boot (f : Fab) (t : Nat) (g : Tile → Tile) :
    (f.modTile t g).boot = f.boot := rfl
@[simp] theorem Fab.modTile_bootAt (f : Fab) (t : Nat) (g : Tile → Tile) :
    (f.modTile t g).bootAt = f.bootAt := rfl
@[simp] theorem Fab.modTile_modeDue (f : Fab) (t : Nat) (g : Tile → Tile) :
    (f.modTile t g).modeDue = f.modeDue := rfl
@[simp] theorem Fab.modTile_defaultMode (f : Fab) (t : Nat) (g : Tile → Tile) :
    (f.modTile t g).defaultMode = f.defaultMode := rfl
@[simp] theorem Fab.modTile_guyBreaks (f : Fab) (t : Nat) (g : Tile → Tile) :
    (f.modTile t g).guyBreaks = f.guyBreaks := rfl
@[simp] theorem Fab.modTile_coldLow (f : Fab) (t : Nat) (g : Tile → Tile) :
    (f.modTile t g).coldLow = f.coldLow := rfl
@[simp] theorem Fab.modTile_warmLow (f : Fab) (t : Nat) (g : Tile → Tile) :
    (f.modTile t g).warmLow = f.warmLow := rfl
@[simp] theorem Fab.modTile_fresh (f : Fab) (t : Nat) (g : Tile → Tile) :
    (f.modTile t g).fresh = f.fresh := rfl
@[simp] theorem Fab.modTile_guy (f : Fab) (t : Nat) (g : Tile → Tile) :
    (f.modTile t g).guy = f.guy := rfl
@[simp] theorem Fab.modTile_mbx (f : Fab) (t : Nat) (g : Tile → Tile) :
    (f.modTile t g).mbx = f.mbx := rfl
@[simp] theorem Fab.modTile_map (f : Fab) (t : Nat) (g : Tile → Tile) :
    (f.modTile t g).map = f.map := rfl
@[simp] theorem Fab.modTile_xb (f : Fab) (t : Nat) (g : Tile → Tile) :
    (f.modTile t g).xb = f.xb := rfl
@[simp] theorem Fab.modTile_otp (f : Fab) (t : Nat) (g : Tile → Tile) :
    (f.modTile t g).otp = f.otp := rfl
@[simp] theorem Fab.modTile_ve (f : Fab) (t : Nat) (g : Tile → Tile) :
    (f.modTile t g).ve = f.ve := rfl
@[simp] theorem Fab.modTile_wd (f : Fab) (t : Nat) (g : Tile → Tile) :
    (f.modTile t g).wd = f.wd := rfl
@[simp] theorem Fab.modTile_rsts (f : Fab) (t : Nat) (g : Tile → Tile) :
    (f.modTile t g).rsts = f.rsts := rfl
@[simp] theorem Fab.modTile_coll (f : Fab) (t : Nat) (g : Tile → Tile) :
    (f.modTile t g).coll = f.coll := rfl
@[simp] theorem Fab.modTile_copyOf (f : Fab) (t : Nat) (g : Tile → Tile) (u : Nat) :
    (f.modTile t g).copyOf u = f.copyOf u := rfl
@[simp] theorem Fab.modTile_lantern (f : Fab) (t : Nat) (g : Tile → Tile) (u : Nat) :
    (f.modTile t g).lantern u = f.lantern u := rfl
@[simp] theorem Fab.modTile_die (f : Fab) (t : Nat) (g : Tile → Tile) (u : Nat) :
    (f.modTile t g).die u = f.die u := rfl
@[simp] theorem Fab.modTile_spOf (f : Fab) (t : Nat) (g : Tile → Tile) (u : Nat) :
    (f.modTile t g).spOf u = f.spOf u := rfl
@[simp] theorem Fab.modTile_cmnOf (f : Fab) (t : Nat) (g : Tile → Tile) (u : Nat) :
    (f.modTile t g).cmnOf u = f.cmnOf u := rfl
@[simp] theorem Fab.modTile_skOf (f : Fab) (t : Nat) (g : Tile → Tile) (u : Nat) :
    (f.modTile t g).skOf u = f.skOf u := rfl
@[simp] theorem Fab.modTile_o (f : Fab) (t : Nat) (g : Tile → Tile) (a : Scope) (b e j : Nat) :
    (f.modTile t g).o a b e j = f.o a b e j := rfl
@[simp] theorem Fab.modTile_fam (f : Fab) (t : Nat) (g : Tile → Tile) (u : Nat) :
    (f.modTile t g).fam u = f.fam u := rfl
@[simp] theorem Fab.modTile_xs (f : Fab) (t : Nat) (g : Tile → Tile) (a b : Nat) :
    (f.modTile t g).xs a b = f.xs a b := rfl
@[simp] theorem Fab.modTile_sideOf (f : Fab) (t : Nat) (g : Tile → Tile) (u : Nat) :
    (f.modTile t g).sideOf u = f.sideOf u := rfl
@[simp] theorem Fab.modTile_mbxOf (f : Fab) (t : Nat) (g : Tile → Tile) (u : Nat) :
    (f.modTile t g).mbxOf u = f.mbxOf u := rfl
@[simp] theorem Fab.modTile_cdcOf (f : Fab) (t : Nat) (g : Tile → Tile) (u : Cdc) :
    (f.modTile t g).cdcOf u = f.cdcOf u := rfl

/-! ### modNi -/

@[simp] theorem Fab.modNi_objs (f : Fab) (t : Nat) (g : Ni → Ni) :
    (f.modNi t g).objs = f.objs := rfl
@[simp] theorem Fab.modNi_flt (f : Fab) (t : Nat) (g : Ni → Ni) :
    (f.modNi t g).flt = f.flt := rfl
@[simp] theorem Fab.modNi_bind (f : Fab) (t : Nat) (g : Ni → Ni) :
    (f.modNi t g).bind = f.bind := rfl
@[simp] theorem Fab.modNi_copy (f : Fab) (t : Nat) (g : Ni → Ni) :
    (f.modNi t g).copy = f.copy := rfl
@[simp] theorem Fab.modNi_lan (f : Fab) (t : Nat) (g : Ni → Ni) :
    (f.modNi t g).lan = f.lan := rfl
@[simp] theorem Fab.modNi_quarter (f : Fab) (t : Nat) (g : Ni → Ni) :
    (f.modNi t g).quarter = f.quarter := rfl
@[simp] theorem Fab.modNi_cross (f : Fab) (t : Nat) (g : Ni → Ni) :
    (f.modNi t g).cross = f.cross := rfl
@[simp] theorem Fab.modNi_side (f : Fab) (t : Nat) (g : Ni → Ni) :
    (f.modNi t g).side = f.side := rfl
@[simp] theorem Fab.modNi_sp (f : Fab) (t : Nat) (g : Ni → Ni) :
    (f.modNi t g).sp = f.sp := rfl
@[simp] theorem Fab.modNi_cmn (f : Fab) (t : Nat) (g : Ni → Ni) :
    (f.modNi t g).cmn = f.cmn := rfl
@[simp] theorem Fab.modNi_sk (f : Fab) (t : Nat) (g : Ni → Ni) :
    (f.modNi t g).sk = f.sk := rfl
@[simp] theorem Fab.modNi_answers (f : Fab) (t : Nat) (g : Ni → Ni) :
    (f.modNi t g).answers = f.answers := rfl
@[simp] theorem Fab.modNi_nonce (f : Fab) (t : Nat) (g : Ni → Ni) :
    (f.modNi t g).nonce = f.nonce := rfl
@[simp] theorem Fab.modNi_dies (f : Fab) (t : Nat) (g : Ni → Ni) :
    (f.modNi t g).dies = f.dies := rfl
@[simp] theorem Fab.modNi_repair (f : Fab) (t : Nat) (g : Ni → Ni) :
    (f.modNi t g).repair = f.repair := rfl
@[simp] theorem Fab.modNi_cdc (f : Fab) (t : Nat) (g : Ni → Ni) :
    (f.modNi t g).cdc = f.cdc := rfl
@[simp] theorem Fab.modNi_boot (f : Fab) (t : Nat) (g : Ni → Ni) :
    (f.modNi t g).boot = f.boot := rfl
@[simp] theorem Fab.modNi_bootAt (f : Fab) (t : Nat) (g : Ni → Ni) :
    (f.modNi t g).bootAt = f.bootAt := rfl
@[simp] theorem Fab.modNi_modeDue (f : Fab) (t : Nat) (g : Ni → Ni) :
    (f.modNi t g).modeDue = f.modeDue := rfl
@[simp] theorem Fab.modNi_defaultMode (f : Fab) (t : Nat) (g : Ni → Ni) :
    (f.modNi t g).defaultMode = f.defaultMode := rfl
@[simp] theorem Fab.modNi_guyBreaks (f : Fab) (t : Nat) (g : Ni → Ni) :
    (f.modNi t g).guyBreaks = f.guyBreaks := rfl
@[simp] theorem Fab.modNi_coldLow (f : Fab) (t : Nat) (g : Ni → Ni) :
    (f.modNi t g).coldLow = f.coldLow := rfl
@[simp] theorem Fab.modNi_warmLow (f : Fab) (t : Nat) (g : Ni → Ni) :
    (f.modNi t g).warmLow = f.warmLow := rfl
@[simp] theorem Fab.modNi_fresh (f : Fab) (t : Nat) (g : Ni → Ni) :
    (f.modNi t g).fresh = f.fresh := rfl
@[simp] theorem Fab.modNi_guy (f : Fab) (t : Nat) (g : Ni → Ni) :
    (f.modNi t g).guy = f.guy := rfl
@[simp] theorem Fab.modNi_mbx (f : Fab) (t : Nat) (g : Ni → Ni) :
    (f.modNi t g).mbx = f.mbx := rfl
@[simp] theorem Fab.modNi_map (f : Fab) (t : Nat) (g : Ni → Ni) :
    (f.modNi t g).map = f.map := rfl
@[simp] theorem Fab.modNi_xb (f : Fab) (t : Nat) (g : Ni → Ni) :
    (f.modNi t g).xb = f.xb := rfl
@[simp] theorem Fab.modNi_otp (f : Fab) (t : Nat) (g : Ni → Ni) :
    (f.modNi t g).otp = f.otp := rfl
@[simp] theorem Fab.modNi_ve (f : Fab) (t : Nat) (g : Ni → Ni) :
    (f.modNi t g).ve = f.ve := rfl
@[simp] theorem Fab.modNi_wd (f : Fab) (t : Nat) (g : Ni → Ni) :
    (f.modNi t g).wd = f.wd := rfl
@[simp] theorem Fab.modNi_rsts (f : Fab) (t : Nat) (g : Ni → Ni) :
    (f.modNi t g).rsts = f.rsts := rfl
@[simp] theorem Fab.modNi_coll (f : Fab) (t : Nat) (g : Ni → Ni) :
    (f.modNi t g).coll = f.coll := rfl
@[simp] theorem Fab.modNi_copyOf (f : Fab) (t : Nat) (g : Ni → Ni) (u : Nat) :
    (f.modNi t g).copyOf u = f.copyOf u := rfl
@[simp] theorem Fab.modNi_lantern (f : Fab) (t : Nat) (g : Ni → Ni) (u : Nat) :
    (f.modNi t g).lantern u = f.lantern u := rfl
@[simp] theorem Fab.modNi_die (f : Fab) (t : Nat) (g : Ni → Ni) (u : Nat) :
    (f.modNi t g).die u = f.die u := rfl
@[simp] theorem Fab.modNi_spOf (f : Fab) (t : Nat) (g : Ni → Ni) (u : Nat) :
    (f.modNi t g).spOf u = f.spOf u := rfl
@[simp] theorem Fab.modNi_cmnOf (f : Fab) (t : Nat) (g : Ni → Ni) (u : Nat) :
    (f.modNi t g).cmnOf u = f.cmnOf u := rfl
@[simp] theorem Fab.modNi_skOf (f : Fab) (t : Nat) (g : Ni → Ni) (u : Nat) :
    (f.modNi t g).skOf u = f.skOf u := rfl
@[simp] theorem Fab.modNi_o (f : Fab) (t : Nat) (g : Ni → Ni) (a : Scope) (b e j : Nat) :
    (f.modNi t g).o a b e j = f.o a b e j := rfl
@[simp] theorem Fab.modNi_fam (f : Fab) (t : Nat) (g : Ni → Ni) (u : Nat) :
    (f.modNi t g).fam u = f.fam u := rfl
@[simp] theorem Fab.modNi_xs (f : Fab) (t : Nat) (g : Ni → Ni) (a b : Nat) :
    (f.modNi t g).xs a b = f.xs a b := rfl
@[simp] theorem Fab.modNi_sideOf (f : Fab) (t : Nat) (g : Ni → Ni) (u : Nat) :
    (f.modNi t g).sideOf u = f.sideOf u := rfl
@[simp] theorem Fab.modNi_mbxOf (f : Fab) (t : Nat) (g : Ni → Ni) (u : Nat) :
    (f.modNi t g).mbxOf u = f.mbxOf u := rfl
@[simp] theorem Fab.modNi_cdcOf (f : Fab) (t : Nat) (g : Ni → Ni) (u : Cdc) :
    (f.modNi t g).cdcOf u = f.cdcOf u := rfl

/-! ### modCopy -/

@[simp] theorem Fab.modCopy_tiles (f : Fab) (d : Nat) (g : FamCopy → FamCopy) :
    (f.modCopy d g).tiles = f.tiles := rfl
@[simp] theorem Fab.modCopy_objs (f : Fab) (d : Nat) (g : FamCopy → FamCopy) :
    (f.modCopy d g).objs = f.objs := rfl
@[simp] theorem Fab.modCopy_flt (f : Fab) (d : Nat) (g : FamCopy → FamCopy) :
    (f.modCopy d g).flt = f.flt := rfl
@[simp] theorem Fab.modCopy_bind (f : Fab) (d : Nat) (g : FamCopy → FamCopy) :
    (f.modCopy d g).bind = f.bind := rfl
@[simp] theorem Fab.modCopy_lan (f : Fab) (d : Nat) (g : FamCopy → FamCopy) :
    (f.modCopy d g).lan = f.lan := rfl
@[simp] theorem Fab.modCopy_quarter (f : Fab) (d : Nat) (g : FamCopy → FamCopy) :
    (f.modCopy d g).quarter = f.quarter := rfl
@[simp] theorem Fab.modCopy_cross (f : Fab) (d : Nat) (g : FamCopy → FamCopy) :
    (f.modCopy d g).cross = f.cross := rfl
@[simp] theorem Fab.modCopy_side (f : Fab) (d : Nat) (g : FamCopy → FamCopy) :
    (f.modCopy d g).side = f.side := rfl
@[simp] theorem Fab.modCopy_sp (f : Fab) (d : Nat) (g : FamCopy → FamCopy) :
    (f.modCopy d g).sp = f.sp := rfl
@[simp] theorem Fab.modCopy_cmn (f : Fab) (d : Nat) (g : FamCopy → FamCopy) :
    (f.modCopy d g).cmn = f.cmn := rfl
@[simp] theorem Fab.modCopy_sk (f : Fab) (d : Nat) (g : FamCopy → FamCopy) :
    (f.modCopy d g).sk = f.sk := rfl
@[simp] theorem Fab.modCopy_answers (f : Fab) (d : Nat) (g : FamCopy → FamCopy) :
    (f.modCopy d g).answers = f.answers := rfl
@[simp] theorem Fab.modCopy_nonce (f : Fab) (d : Nat) (g : FamCopy → FamCopy) :
    (f.modCopy d g).nonce = f.nonce := rfl
@[simp] theorem Fab.modCopy_dies (f : Fab) (d : Nat) (g : FamCopy → FamCopy) :
    (f.modCopy d g).dies = f.dies := rfl
@[simp] theorem Fab.modCopy_repair (f : Fab) (d : Nat) (g : FamCopy → FamCopy) :
    (f.modCopy d g).repair = f.repair := rfl
@[simp] theorem Fab.modCopy_cdc (f : Fab) (d : Nat) (g : FamCopy → FamCopy) :
    (f.modCopy d g).cdc = f.cdc := rfl
@[simp] theorem Fab.modCopy_boot (f : Fab) (d : Nat) (g : FamCopy → FamCopy) :
    (f.modCopy d g).boot = f.boot := rfl
@[simp] theorem Fab.modCopy_bootAt (f : Fab) (d : Nat) (g : FamCopy → FamCopy) :
    (f.modCopy d g).bootAt = f.bootAt := rfl
@[simp] theorem Fab.modCopy_modeDue (f : Fab) (d : Nat) (g : FamCopy → FamCopy) :
    (f.modCopy d g).modeDue = f.modeDue := rfl
@[simp] theorem Fab.modCopy_defaultMode (f : Fab) (d : Nat) (g : FamCopy → FamCopy) :
    (f.modCopy d g).defaultMode = f.defaultMode := rfl
@[simp] theorem Fab.modCopy_guyBreaks (f : Fab) (d : Nat) (g : FamCopy → FamCopy) :
    (f.modCopy d g).guyBreaks = f.guyBreaks := rfl
@[simp] theorem Fab.modCopy_coldLow (f : Fab) (d : Nat) (g : FamCopy → FamCopy) :
    (f.modCopy d g).coldLow = f.coldLow := rfl
@[simp] theorem Fab.modCopy_warmLow (f : Fab) (d : Nat) (g : FamCopy → FamCopy) :
    (f.modCopy d g).warmLow = f.warmLow := rfl
@[simp] theorem Fab.modCopy_fresh (f : Fab) (d : Nat) (g : FamCopy → FamCopy) :
    (f.modCopy d g).fresh = f.fresh := rfl
@[simp] theorem Fab.modCopy_guy (f : Fab) (d : Nat) (g : FamCopy → FamCopy) :
    (f.modCopy d g).guy = f.guy := rfl
@[simp] theorem Fab.modCopy_mbx (f : Fab) (d : Nat) (g : FamCopy → FamCopy) :
    (f.modCopy d g).mbx = f.mbx := rfl
@[simp] theorem Fab.modCopy_map (f : Fab) (d : Nat) (g : FamCopy → FamCopy) :
    (f.modCopy d g).map = f.map := rfl
@[simp] theorem Fab.modCopy_xb (f : Fab) (d : Nat) (g : FamCopy → FamCopy) :
    (f.modCopy d g).xb = f.xb := rfl
@[simp] theorem Fab.modCopy_otp (f : Fab) (d : Nat) (g : FamCopy → FamCopy) :
    (f.modCopy d g).otp = f.otp := rfl
@[simp] theorem Fab.modCopy_ve (f : Fab) (d : Nat) (g : FamCopy → FamCopy) :
    (f.modCopy d g).ve = f.ve := rfl
@[simp] theorem Fab.modCopy_wd (f : Fab) (d : Nat) (g : FamCopy → FamCopy) :
    (f.modCopy d g).wd = f.wd := rfl
@[simp] theorem Fab.modCopy_rsts (f : Fab) (d : Nat) (g : FamCopy → FamCopy) :
    (f.modCopy d g).rsts = f.rsts := rfl
@[simp] theorem Fab.modCopy_coll (f : Fab) (d : Nat) (g : FamCopy → FamCopy) :
    (f.modCopy d g).coll = f.coll := rfl
@[simp] theorem Fab.modCopy_tile (f : Fab) (d : Nat) (g : FamCopy → FamCopy) (u : Nat) :
    (f.modCopy d g).tile u = f.tile u := rfl
@[simp] theorem Fab.modCopy_lantern (f : Fab) (d : Nat) (g : FamCopy → FamCopy) (u : Nat) :
    (f.modCopy d g).lantern u = f.lantern u := rfl
@[simp] theorem Fab.modCopy_die (f : Fab) (d : Nat) (g : FamCopy → FamCopy) (u : Nat) :
    (f.modCopy d g).die u = f.die u := rfl
@[simp] theorem Fab.modCopy_spOf (f : Fab) (d : Nat) (g : FamCopy → FamCopy) (u : Nat) :
    (f.modCopy d g).spOf u = f.spOf u := rfl
@[simp] theorem Fab.modCopy_cmnOf (f : Fab) (d : Nat) (g : FamCopy → FamCopy) (u : Nat) :
    (f.modCopy d g).cmnOf u = f.cmnOf u := rfl
@[simp] theorem Fab.modCopy_skOf (f : Fab) (d : Nat) (g : FamCopy → FamCopy) (u : Nat) :
    (f.modCopy d g).skOf u = f.skOf u := rfl
@[simp] theorem Fab.modCopy_o (f : Fab) (d : Nat) (g : FamCopy → FamCopy) (a : Scope) (b e j : Nat) :
    (f.modCopy d g).o a b e j = f.o a b e j := rfl
@[simp] theorem Fab.modCopy_fam (f : Fab) (d : Nat) (g : FamCopy → FamCopy) (u : Nat) :
    (f.modCopy d g).fam u = f.fam u := rfl
@[simp] theorem Fab.modCopy_xs (f : Fab) (d : Nat) (g : FamCopy → FamCopy) (a b : Nat) :
    (f.modCopy d g).xs a b = f.xs a b := rfl
@[simp] theorem Fab.modCopy_sideOf (f : Fab) (d : Nat) (g : FamCopy → FamCopy) (u : Nat) :
    (f.modCopy d g).sideOf u = f.sideOf u := rfl
@[simp] theorem Fab.modCopy_mbxOf (f : Fab) (d : Nat) (g : FamCopy → FamCopy) (u : Nat) :
    (f.modCopy d g).mbxOf u = f.mbxOf u := rfl
@[simp] theorem Fab.modCopy_cdcOf (f : Fab) (d : Nat) (g : FamCopy → FamCopy) (u : Cdc) :
    (f.modCopy d g).cdcOf u = f.cdcOf u := rfl

/-! ### modLan -/

@[simp] theorem Fab.modLan_tiles (f : Fab) (d : Nat) (g : Lantern → Lantern) :
    (f.modLan d g).tiles = f.tiles := rfl
@[simp] theorem Fab.modLan_objs (f : Fab) (d : Nat) (g : Lantern → Lantern) :
    (f.modLan d g).objs = f.objs := rfl
@[simp] theorem Fab.modLan_flt (f : Fab) (d : Nat) (g : Lantern → Lantern) :
    (f.modLan d g).flt = f.flt := rfl
@[simp] theorem Fab.modLan_bind (f : Fab) (d : Nat) (g : Lantern → Lantern) :
    (f.modLan d g).bind = f.bind := rfl
@[simp] theorem Fab.modLan_copy (f : Fab) (d : Nat) (g : Lantern → Lantern) :
    (f.modLan d g).copy = f.copy := rfl
@[simp] theorem Fab.modLan_quarter (f : Fab) (d : Nat) (g : Lantern → Lantern) :
    (f.modLan d g).quarter = f.quarter := rfl
@[simp] theorem Fab.modLan_cross (f : Fab) (d : Nat) (g : Lantern → Lantern) :
    (f.modLan d g).cross = f.cross := rfl
@[simp] theorem Fab.modLan_side (f : Fab) (d : Nat) (g : Lantern → Lantern) :
    (f.modLan d g).side = f.side := rfl
@[simp] theorem Fab.modLan_sp (f : Fab) (d : Nat) (g : Lantern → Lantern) :
    (f.modLan d g).sp = f.sp := rfl
@[simp] theorem Fab.modLan_cmn (f : Fab) (d : Nat) (g : Lantern → Lantern) :
    (f.modLan d g).cmn = f.cmn := rfl
@[simp] theorem Fab.modLan_sk (f : Fab) (d : Nat) (g : Lantern → Lantern) :
    (f.modLan d g).sk = f.sk := rfl
@[simp] theorem Fab.modLan_answers (f : Fab) (d : Nat) (g : Lantern → Lantern) :
    (f.modLan d g).answers = f.answers := rfl
@[simp] theorem Fab.modLan_nonce (f : Fab) (d : Nat) (g : Lantern → Lantern) :
    (f.modLan d g).nonce = f.nonce := rfl
@[simp] theorem Fab.modLan_dies (f : Fab) (d : Nat) (g : Lantern → Lantern) :
    (f.modLan d g).dies = f.dies := rfl
@[simp] theorem Fab.modLan_repair (f : Fab) (d : Nat) (g : Lantern → Lantern) :
    (f.modLan d g).repair = f.repair := rfl
@[simp] theorem Fab.modLan_cdc (f : Fab) (d : Nat) (g : Lantern → Lantern) :
    (f.modLan d g).cdc = f.cdc := rfl
@[simp] theorem Fab.modLan_boot (f : Fab) (d : Nat) (g : Lantern → Lantern) :
    (f.modLan d g).boot = f.boot := rfl
@[simp] theorem Fab.modLan_bootAt (f : Fab) (d : Nat) (g : Lantern → Lantern) :
    (f.modLan d g).bootAt = f.bootAt := rfl
@[simp] theorem Fab.modLan_modeDue (f : Fab) (d : Nat) (g : Lantern → Lantern) :
    (f.modLan d g).modeDue = f.modeDue := rfl
@[simp] theorem Fab.modLan_defaultMode (f : Fab) (d : Nat) (g : Lantern → Lantern) :
    (f.modLan d g).defaultMode = f.defaultMode := rfl
@[simp] theorem Fab.modLan_guyBreaks (f : Fab) (d : Nat) (g : Lantern → Lantern) :
    (f.modLan d g).guyBreaks = f.guyBreaks := rfl
@[simp] theorem Fab.modLan_coldLow (f : Fab) (d : Nat) (g : Lantern → Lantern) :
    (f.modLan d g).coldLow = f.coldLow := rfl
@[simp] theorem Fab.modLan_warmLow (f : Fab) (d : Nat) (g : Lantern → Lantern) :
    (f.modLan d g).warmLow = f.warmLow := rfl
@[simp] theorem Fab.modLan_fresh (f : Fab) (d : Nat) (g : Lantern → Lantern) :
    (f.modLan d g).fresh = f.fresh := rfl
@[simp] theorem Fab.modLan_guy (f : Fab) (d : Nat) (g : Lantern → Lantern) :
    (f.modLan d g).guy = f.guy := rfl
@[simp] theorem Fab.modLan_mbx (f : Fab) (d : Nat) (g : Lantern → Lantern) :
    (f.modLan d g).mbx = f.mbx := rfl
@[simp] theorem Fab.modLan_map (f : Fab) (d : Nat) (g : Lantern → Lantern) :
    (f.modLan d g).map = f.map := rfl
@[simp] theorem Fab.modLan_xb (f : Fab) (d : Nat) (g : Lantern → Lantern) :
    (f.modLan d g).xb = f.xb := rfl
@[simp] theorem Fab.modLan_otp (f : Fab) (d : Nat) (g : Lantern → Lantern) :
    (f.modLan d g).otp = f.otp := rfl
@[simp] theorem Fab.modLan_ve (f : Fab) (d : Nat) (g : Lantern → Lantern) :
    (f.modLan d g).ve = f.ve := rfl
@[simp] theorem Fab.modLan_wd (f : Fab) (d : Nat) (g : Lantern → Lantern) :
    (f.modLan d g).wd = f.wd := rfl
@[simp] theorem Fab.modLan_rsts (f : Fab) (d : Nat) (g : Lantern → Lantern) :
    (f.modLan d g).rsts = f.rsts := rfl
@[simp] theorem Fab.modLan_coll (f : Fab) (d : Nat) (g : Lantern → Lantern) :
    (f.modLan d g).coll = f.coll := rfl
@[simp] theorem Fab.modLan_tile (f : Fab) (d : Nat) (g : Lantern → Lantern) (u : Nat) :
    (f.modLan d g).tile u = f.tile u := rfl
@[simp] theorem Fab.modLan_copyOf (f : Fab) (d : Nat) (g : Lantern → Lantern) (u : Nat) :
    (f.modLan d g).copyOf u = f.copyOf u := rfl
@[simp] theorem Fab.modLan_die (f : Fab) (d : Nat) (g : Lantern → Lantern) (u : Nat) :
    (f.modLan d g).die u = f.die u := rfl
@[simp] theorem Fab.modLan_spOf (f : Fab) (d : Nat) (g : Lantern → Lantern) (u : Nat) :
    (f.modLan d g).spOf u = f.spOf u := rfl
@[simp] theorem Fab.modLan_cmnOf (f : Fab) (d : Nat) (g : Lantern → Lantern) (u : Nat) :
    (f.modLan d g).cmnOf u = f.cmnOf u := rfl
@[simp] theorem Fab.modLan_skOf (f : Fab) (d : Nat) (g : Lantern → Lantern) (u : Nat) :
    (f.modLan d g).skOf u = f.skOf u := rfl
@[simp] theorem Fab.modLan_o (f : Fab) (d : Nat) (g : Lantern → Lantern) (a : Scope) (b e j : Nat) :
    (f.modLan d g).o a b e j = f.o a b e j := rfl
@[simp] theorem Fab.modLan_fam (f : Fab) (d : Nat) (g : Lantern → Lantern) (u : Nat) :
    (f.modLan d g).fam u = f.fam u := rfl
@[simp] theorem Fab.modLan_xs (f : Fab) (d : Nat) (g : Lantern → Lantern) (a b : Nat) :
    (f.modLan d g).xs a b = f.xs a b := rfl
@[simp] theorem Fab.modLan_sideOf (f : Fab) (d : Nat) (g : Lantern → Lantern) (u : Nat) :
    (f.modLan d g).sideOf u = f.sideOf u := rfl
@[simp] theorem Fab.modLan_mbxOf (f : Fab) (d : Nat) (g : Lantern → Lantern) (u : Nat) :
    (f.modLan d g).mbxOf u = f.mbxOf u := rfl
@[simp] theorem Fab.modLan_cdcOf (f : Fab) (d : Nat) (g : Lantern → Lantern) (u : Cdc) :
    (f.modLan d g).cdcOf u = f.cdcOf u := rfl

/-! ### modBind -/

@[simp] theorem Fab.modBind_tiles (f : Fab) (g : Bind → Bind) :
    (f.modBind g).tiles = f.tiles := rfl
@[simp] theorem Fab.modBind_objs (f : Fab) (g : Bind → Bind) :
    (f.modBind g).objs = f.objs := rfl
@[simp] theorem Fab.modBind_flt (f : Fab) (g : Bind → Bind) :
    (f.modBind g).flt = f.flt := rfl
@[simp] theorem Fab.modBind_copy (f : Fab) (g : Bind → Bind) :
    (f.modBind g).copy = f.copy := rfl
@[simp] theorem Fab.modBind_lan (f : Fab) (g : Bind → Bind) :
    (f.modBind g).lan = f.lan := rfl
@[simp] theorem Fab.modBind_quarter (f : Fab) (g : Bind → Bind) :
    (f.modBind g).quarter = f.quarter := rfl
@[simp] theorem Fab.modBind_cross (f : Fab) (g : Bind → Bind) :
    (f.modBind g).cross = f.cross := rfl
@[simp] theorem Fab.modBind_side (f : Fab) (g : Bind → Bind) :
    (f.modBind g).side = f.side := rfl
@[simp] theorem Fab.modBind_sp (f : Fab) (g : Bind → Bind) :
    (f.modBind g).sp = f.sp := rfl
@[simp] theorem Fab.modBind_cmn (f : Fab) (g : Bind → Bind) :
    (f.modBind g).cmn = f.cmn := rfl
@[simp] theorem Fab.modBind_sk (f : Fab) (g : Bind → Bind) :
    (f.modBind g).sk = f.sk := rfl
@[simp] theorem Fab.modBind_answers (f : Fab) (g : Bind → Bind) :
    (f.modBind g).answers = f.answers := rfl
@[simp] theorem Fab.modBind_nonce (f : Fab) (g : Bind → Bind) :
    (f.modBind g).nonce = f.nonce := rfl
@[simp] theorem Fab.modBind_dies (f : Fab) (g : Bind → Bind) :
    (f.modBind g).dies = f.dies := rfl
@[simp] theorem Fab.modBind_repair (f : Fab) (g : Bind → Bind) :
    (f.modBind g).repair = f.repair := rfl
@[simp] theorem Fab.modBind_cdc (f : Fab) (g : Bind → Bind) :
    (f.modBind g).cdc = f.cdc := rfl
@[simp] theorem Fab.modBind_boot (f : Fab) (g : Bind → Bind) :
    (f.modBind g).boot = f.boot := rfl
@[simp] theorem Fab.modBind_bootAt (f : Fab) (g : Bind → Bind) :
    (f.modBind g).bootAt = f.bootAt := rfl
@[simp] theorem Fab.modBind_modeDue (f : Fab) (g : Bind → Bind) :
    (f.modBind g).modeDue = f.modeDue := rfl
@[simp] theorem Fab.modBind_defaultMode (f : Fab) (g : Bind → Bind) :
    (f.modBind g).defaultMode = f.defaultMode := rfl
@[simp] theorem Fab.modBind_guyBreaks (f : Fab) (g : Bind → Bind) :
    (f.modBind g).guyBreaks = f.guyBreaks := rfl
@[simp] theorem Fab.modBind_coldLow (f : Fab) (g : Bind → Bind) :
    (f.modBind g).coldLow = f.coldLow := rfl
@[simp] theorem Fab.modBind_warmLow (f : Fab) (g : Bind → Bind) :
    (f.modBind g).warmLow = f.warmLow := rfl
@[simp] theorem Fab.modBind_fresh (f : Fab) (g : Bind → Bind) :
    (f.modBind g).fresh = f.fresh := rfl
@[simp] theorem Fab.modBind_guy (f : Fab) (g : Bind → Bind) :
    (f.modBind g).guy = f.guy := rfl
@[simp] theorem Fab.modBind_mbx (f : Fab) (g : Bind → Bind) :
    (f.modBind g).mbx = f.mbx := rfl
@[simp] theorem Fab.modBind_map (f : Fab) (g : Bind → Bind) :
    (f.modBind g).map = f.map := rfl
@[simp] theorem Fab.modBind_xb (f : Fab) (g : Bind → Bind) :
    (f.modBind g).xb = f.xb := rfl
@[simp] theorem Fab.modBind_otp (f : Fab) (g : Bind → Bind) :
    (f.modBind g).otp = f.otp := rfl
@[simp] theorem Fab.modBind_ve (f : Fab) (g : Bind → Bind) :
    (f.modBind g).ve = f.ve := rfl
@[simp] theorem Fab.modBind_wd (f : Fab) (g : Bind → Bind) :
    (f.modBind g).wd = f.wd := rfl
@[simp] theorem Fab.modBind_rsts (f : Fab) (g : Bind → Bind) :
    (f.modBind g).rsts = f.rsts := rfl
@[simp] theorem Fab.modBind_coll (f : Fab) (g : Bind → Bind) :
    (f.modBind g).coll = f.coll := rfl
@[simp] theorem Fab.modBind_tile (f : Fab) (g : Bind → Bind) (u : Nat) :
    (f.modBind g).tile u = f.tile u := rfl
@[simp] theorem Fab.modBind_copyOf (f : Fab) (g : Bind → Bind) (u : Nat) :
    (f.modBind g).copyOf u = f.copyOf u := rfl
@[simp] theorem Fab.modBind_lantern (f : Fab) (g : Bind → Bind) (u : Nat) :
    (f.modBind g).lantern u = f.lantern u := rfl
@[simp] theorem Fab.modBind_die (f : Fab) (g : Bind → Bind) (u : Nat) :
    (f.modBind g).die u = f.die u := rfl
@[simp] theorem Fab.modBind_spOf (f : Fab) (g : Bind → Bind) (u : Nat) :
    (f.modBind g).spOf u = f.spOf u := rfl
@[simp] theorem Fab.modBind_cmnOf (f : Fab) (g : Bind → Bind) (u : Nat) :
    (f.modBind g).cmnOf u = f.cmnOf u := rfl
@[simp] theorem Fab.modBind_skOf (f : Fab) (g : Bind → Bind) (u : Nat) :
    (f.modBind g).skOf u = f.skOf u := rfl
@[simp] theorem Fab.modBind_o (f : Fab) (g : Bind → Bind) (a : Scope) (b e j : Nat) :
    (f.modBind g).o a b e j = f.o a b e j := rfl
@[simp] theorem Fab.modBind_fam (f : Fab) (g : Bind → Bind) (u : Nat) :
    (f.modBind g).fam u = f.fam u := rfl
@[simp] theorem Fab.modBind_xs (f : Fab) (g : Bind → Bind) (a b : Nat) :
    (f.modBind g).xs a b = f.xs a b := rfl
@[simp] theorem Fab.modBind_sideOf (f : Fab) (g : Bind → Bind) (u : Nat) :
    (f.modBind g).sideOf u = f.sideOf u := rfl
@[simp] theorem Fab.modBind_mbxOf (f : Fab) (g : Bind → Bind) (u : Nat) :
    (f.modBind g).mbxOf u = f.mbxOf u := rfl
@[simp] theorem Fab.modBind_cdcOf (f : Fab) (g : Bind → Bind) (u : Cdc) :
    (f.modBind g).cdcOf u = f.cdcOf u := rfl

/-! ### modDie -/

@[simp] theorem Fab.modDie_tiles (f : Fab) (d : Nat) (g : Die → Die) :
    (f.modDie d g).tiles = f.tiles := rfl
@[simp] theorem Fab.modDie_objs (f : Fab) (d : Nat) (g : Die → Die) :
    (f.modDie d g).objs = f.objs := rfl
@[simp] theorem Fab.modDie_flt (f : Fab) (d : Nat) (g : Die → Die) :
    (f.modDie d g).flt = f.flt := rfl
@[simp] theorem Fab.modDie_bind (f : Fab) (d : Nat) (g : Die → Die) :
    (f.modDie d g).bind = f.bind := rfl
@[simp] theorem Fab.modDie_copy (f : Fab) (d : Nat) (g : Die → Die) :
    (f.modDie d g).copy = f.copy := rfl
@[simp] theorem Fab.modDie_lan (f : Fab) (d : Nat) (g : Die → Die) :
    (f.modDie d g).lan = f.lan := rfl
@[simp] theorem Fab.modDie_quarter (f : Fab) (d : Nat) (g : Die → Die) :
    (f.modDie d g).quarter = f.quarter := rfl
@[simp] theorem Fab.modDie_cross (f : Fab) (d : Nat) (g : Die → Die) :
    (f.modDie d g).cross = f.cross := rfl
@[simp] theorem Fab.modDie_side (f : Fab) (d : Nat) (g : Die → Die) :
    (f.modDie d g).side = f.side := rfl
@[simp] theorem Fab.modDie_sp (f : Fab) (d : Nat) (g : Die → Die) :
    (f.modDie d g).sp = f.sp := rfl
@[simp] theorem Fab.modDie_cmn (f : Fab) (d : Nat) (g : Die → Die) :
    (f.modDie d g).cmn = f.cmn := rfl
@[simp] theorem Fab.modDie_sk (f : Fab) (d : Nat) (g : Die → Die) :
    (f.modDie d g).sk = f.sk := rfl
@[simp] theorem Fab.modDie_answers (f : Fab) (d : Nat) (g : Die → Die) :
    (f.modDie d g).answers = f.answers := rfl
@[simp] theorem Fab.modDie_nonce (f : Fab) (d : Nat) (g : Die → Die) :
    (f.modDie d g).nonce = f.nonce := rfl
@[simp] theorem Fab.modDie_repair (f : Fab) (d : Nat) (g : Die → Die) :
    (f.modDie d g).repair = f.repair := rfl
@[simp] theorem Fab.modDie_cdc (f : Fab) (d : Nat) (g : Die → Die) :
    (f.modDie d g).cdc = f.cdc := rfl
@[simp] theorem Fab.modDie_boot (f : Fab) (d : Nat) (g : Die → Die) :
    (f.modDie d g).boot = f.boot := rfl
@[simp] theorem Fab.modDie_bootAt (f : Fab) (d : Nat) (g : Die → Die) :
    (f.modDie d g).bootAt = f.bootAt := rfl
@[simp] theorem Fab.modDie_modeDue (f : Fab) (d : Nat) (g : Die → Die) :
    (f.modDie d g).modeDue = f.modeDue := rfl
@[simp] theorem Fab.modDie_defaultMode (f : Fab) (d : Nat) (g : Die → Die) :
    (f.modDie d g).defaultMode = f.defaultMode := rfl
@[simp] theorem Fab.modDie_guyBreaks (f : Fab) (d : Nat) (g : Die → Die) :
    (f.modDie d g).guyBreaks = f.guyBreaks := rfl
@[simp] theorem Fab.modDie_coldLow (f : Fab) (d : Nat) (g : Die → Die) :
    (f.modDie d g).coldLow = f.coldLow := rfl
@[simp] theorem Fab.modDie_warmLow (f : Fab) (d : Nat) (g : Die → Die) :
    (f.modDie d g).warmLow = f.warmLow := rfl
@[simp] theorem Fab.modDie_fresh (f : Fab) (d : Nat) (g : Die → Die) :
    (f.modDie d g).fresh = f.fresh := rfl
@[simp] theorem Fab.modDie_guy (f : Fab) (d : Nat) (g : Die → Die) :
    (f.modDie d g).guy = f.guy := rfl
@[simp] theorem Fab.modDie_mbx (f : Fab) (d : Nat) (g : Die → Die) :
    (f.modDie d g).mbx = f.mbx := rfl
@[simp] theorem Fab.modDie_map (f : Fab) (d : Nat) (g : Die → Die) :
    (f.modDie d g).map = f.map := rfl
@[simp] theorem Fab.modDie_xb (f : Fab) (d : Nat) (g : Die → Die) :
    (f.modDie d g).xb = f.xb := rfl
@[simp] theorem Fab.modDie_otp (f : Fab) (d : Nat) (g : Die → Die) :
    (f.modDie d g).otp = f.otp := rfl
@[simp] theorem Fab.modDie_ve (f : Fab) (d : Nat) (g : Die → Die) :
    (f.modDie d g).ve = f.ve := rfl
@[simp] theorem Fab.modDie_wd (f : Fab) (d : Nat) (g : Die → Die) :
    (f.modDie d g).wd = f.wd := rfl
@[simp] theorem Fab.modDie_rsts (f : Fab) (d : Nat) (g : Die → Die) :
    (f.modDie d g).rsts = f.rsts := rfl
@[simp] theorem Fab.modDie_coll (f : Fab) (d : Nat) (g : Die → Die) :
    (f.modDie d g).coll = f.coll := rfl
@[simp] theorem Fab.modDie_tile (f : Fab) (d : Nat) (g : Die → Die) (u : Nat) :
    (f.modDie d g).tile u = f.tile u := rfl
@[simp] theorem Fab.modDie_copyOf (f : Fab) (d : Nat) (g : Die → Die) (u : Nat) :
    (f.modDie d g).copyOf u = f.copyOf u := rfl
@[simp] theorem Fab.modDie_lantern (f : Fab) (d : Nat) (g : Die → Die) (u : Nat) :
    (f.modDie d g).lantern u = f.lantern u := rfl
@[simp] theorem Fab.modDie_spOf (f : Fab) (d : Nat) (g : Die → Die) (u : Nat) :
    (f.modDie d g).spOf u = f.spOf u := rfl
@[simp] theorem Fab.modDie_cmnOf (f : Fab) (d : Nat) (g : Die → Die) (u : Nat) :
    (f.modDie d g).cmnOf u = f.cmnOf u := rfl
@[simp] theorem Fab.modDie_skOf (f : Fab) (d : Nat) (g : Die → Die) (u : Nat) :
    (f.modDie d g).skOf u = f.skOf u := rfl
@[simp] theorem Fab.modDie_o (f : Fab) (d : Nat) (g : Die → Die) (a : Scope) (b e j : Nat) :
    (f.modDie d g).o a b e j = f.o a b e j := rfl
@[simp] theorem Fab.modDie_fam (f : Fab) (d : Nat) (g : Die → Die) (u : Nat) :
    (f.modDie d g).fam u = f.fam u := rfl
@[simp] theorem Fab.modDie_xs (f : Fab) (d : Nat) (g : Die → Die) (a b : Nat) :
    (f.modDie d g).xs a b = f.xs a b := rfl
@[simp] theorem Fab.modDie_sideOf (f : Fab) (d : Nat) (g : Die → Die) (u : Nat) :
    (f.modDie d g).sideOf u = f.sideOf u := rfl
@[simp] theorem Fab.modDie_mbxOf (f : Fab) (d : Nat) (g : Die → Die) (u : Nat) :
    (f.modDie d g).mbxOf u = f.mbxOf u := rfl
@[simp] theorem Fab.modDie_cdcOf (f : Fab) (d : Nat) (g : Die → Die) (u : Cdc) :
    (f.modDie d g).cdcOf u = f.cdcOf u := rfl

/-! ### modSp -/

@[simp] theorem Fab.modSp_tiles (f : Fab) (d : Nat) (g : Sp → Sp) :
    (f.modSp d g).tiles = f.tiles := rfl
@[simp] theorem Fab.modSp_objs (f : Fab) (d : Nat) (g : Sp → Sp) :
    (f.modSp d g).objs = f.objs := rfl
@[simp] theorem Fab.modSp_flt (f : Fab) (d : Nat) (g : Sp → Sp) :
    (f.modSp d g).flt = f.flt := rfl
@[simp] theorem Fab.modSp_bind (f : Fab) (d : Nat) (g : Sp → Sp) :
    (f.modSp d g).bind = f.bind := rfl
@[simp] theorem Fab.modSp_copy (f : Fab) (d : Nat) (g : Sp → Sp) :
    (f.modSp d g).copy = f.copy := rfl
@[simp] theorem Fab.modSp_lan (f : Fab) (d : Nat) (g : Sp → Sp) :
    (f.modSp d g).lan = f.lan := rfl
@[simp] theorem Fab.modSp_quarter (f : Fab) (d : Nat) (g : Sp → Sp) :
    (f.modSp d g).quarter = f.quarter := rfl
@[simp] theorem Fab.modSp_cross (f : Fab) (d : Nat) (g : Sp → Sp) :
    (f.modSp d g).cross = f.cross := rfl
@[simp] theorem Fab.modSp_side (f : Fab) (d : Nat) (g : Sp → Sp) :
    (f.modSp d g).side = f.side := rfl
@[simp] theorem Fab.modSp_cmn (f : Fab) (d : Nat) (g : Sp → Sp) :
    (f.modSp d g).cmn = f.cmn := rfl
@[simp] theorem Fab.modSp_sk (f : Fab) (d : Nat) (g : Sp → Sp) :
    (f.modSp d g).sk = f.sk := rfl
@[simp] theorem Fab.modSp_answers (f : Fab) (d : Nat) (g : Sp → Sp) :
    (f.modSp d g).answers = f.answers := rfl
@[simp] theorem Fab.modSp_nonce (f : Fab) (d : Nat) (g : Sp → Sp) :
    (f.modSp d g).nonce = f.nonce := rfl
@[simp] theorem Fab.modSp_dies (f : Fab) (d : Nat) (g : Sp → Sp) :
    (f.modSp d g).dies = f.dies := rfl
@[simp] theorem Fab.modSp_repair (f : Fab) (d : Nat) (g : Sp → Sp) :
    (f.modSp d g).repair = f.repair := rfl
@[simp] theorem Fab.modSp_cdc (f : Fab) (d : Nat) (g : Sp → Sp) :
    (f.modSp d g).cdc = f.cdc := rfl
@[simp] theorem Fab.modSp_boot (f : Fab) (d : Nat) (g : Sp → Sp) :
    (f.modSp d g).boot = f.boot := rfl
@[simp] theorem Fab.modSp_bootAt (f : Fab) (d : Nat) (g : Sp → Sp) :
    (f.modSp d g).bootAt = f.bootAt := rfl
@[simp] theorem Fab.modSp_modeDue (f : Fab) (d : Nat) (g : Sp → Sp) :
    (f.modSp d g).modeDue = f.modeDue := rfl
@[simp] theorem Fab.modSp_defaultMode (f : Fab) (d : Nat) (g : Sp → Sp) :
    (f.modSp d g).defaultMode = f.defaultMode := rfl
@[simp] theorem Fab.modSp_guyBreaks (f : Fab) (d : Nat) (g : Sp → Sp) :
    (f.modSp d g).guyBreaks = f.guyBreaks := rfl
@[simp] theorem Fab.modSp_coldLow (f : Fab) (d : Nat) (g : Sp → Sp) :
    (f.modSp d g).coldLow = f.coldLow := rfl
@[simp] theorem Fab.modSp_warmLow (f : Fab) (d : Nat) (g : Sp → Sp) :
    (f.modSp d g).warmLow = f.warmLow := rfl
@[simp] theorem Fab.modSp_fresh (f : Fab) (d : Nat) (g : Sp → Sp) :
    (f.modSp d g).fresh = f.fresh := rfl
@[simp] theorem Fab.modSp_guy (f : Fab) (d : Nat) (g : Sp → Sp) :
    (f.modSp d g).guy = f.guy := rfl
@[simp] theorem Fab.modSp_mbx (f : Fab) (d : Nat) (g : Sp → Sp) :
    (f.modSp d g).mbx = f.mbx := rfl
@[simp] theorem Fab.modSp_map (f : Fab) (d : Nat) (g : Sp → Sp) :
    (f.modSp d g).map = f.map := rfl
@[simp] theorem Fab.modSp_xb (f : Fab) (d : Nat) (g : Sp → Sp) :
    (f.modSp d g).xb = f.xb := rfl
@[simp] theorem Fab.modSp_otp (f : Fab) (d : Nat) (g : Sp → Sp) :
    (f.modSp d g).otp = f.otp := rfl
@[simp] theorem Fab.modSp_ve (f : Fab) (d : Nat) (g : Sp → Sp) :
    (f.modSp d g).ve = f.ve := rfl
@[simp] theorem Fab.modSp_wd (f : Fab) (d : Nat) (g : Sp → Sp) :
    (f.modSp d g).wd = f.wd := rfl
@[simp] theorem Fab.modSp_rsts (f : Fab) (d : Nat) (g : Sp → Sp) :
    (f.modSp d g).rsts = f.rsts := rfl
@[simp] theorem Fab.modSp_coll (f : Fab) (d : Nat) (g : Sp → Sp) :
    (f.modSp d g).coll = f.coll := rfl
@[simp] theorem Fab.modSp_tile (f : Fab) (d : Nat) (g : Sp → Sp) (u : Nat) :
    (f.modSp d g).tile u = f.tile u := rfl
@[simp] theorem Fab.modSp_copyOf (f : Fab) (d : Nat) (g : Sp → Sp) (u : Nat) :
    (f.modSp d g).copyOf u = f.copyOf u := rfl
@[simp] theorem Fab.modSp_lantern (f : Fab) (d : Nat) (g : Sp → Sp) (u : Nat) :
    (f.modSp d g).lantern u = f.lantern u := rfl
@[simp] theorem Fab.modSp_die (f : Fab) (d : Nat) (g : Sp → Sp) (u : Nat) :
    (f.modSp d g).die u = f.die u := rfl
@[simp] theorem Fab.modSp_cmnOf (f : Fab) (d : Nat) (g : Sp → Sp) (u : Nat) :
    (f.modSp d g).cmnOf u = f.cmnOf u := rfl
@[simp] theorem Fab.modSp_skOf (f : Fab) (d : Nat) (g : Sp → Sp) (u : Nat) :
    (f.modSp d g).skOf u = f.skOf u := rfl
@[simp] theorem Fab.modSp_o (f : Fab) (d : Nat) (g : Sp → Sp) (a : Scope) (b e j : Nat) :
    (f.modSp d g).o a b e j = f.o a b e j := rfl
@[simp] theorem Fab.modSp_fam (f : Fab) (d : Nat) (g : Sp → Sp) (u : Nat) :
    (f.modSp d g).fam u = f.fam u := rfl
@[simp] theorem Fab.modSp_xs (f : Fab) (d : Nat) (g : Sp → Sp) (a b : Nat) :
    (f.modSp d g).xs a b = f.xs a b := rfl
@[simp] theorem Fab.modSp_sideOf (f : Fab) (d : Nat) (g : Sp → Sp) (u : Nat) :
    (f.modSp d g).sideOf u = f.sideOf u := rfl
@[simp] theorem Fab.modSp_mbxOf (f : Fab) (d : Nat) (g : Sp → Sp) (u : Nat) :
    (f.modSp d g).mbxOf u = f.mbxOf u := rfl
@[simp] theorem Fab.modSp_cdcOf (f : Fab) (d : Nat) (g : Sp → Sp) (u : Cdc) :
    (f.modSp d g).cdcOf u = f.cdcOf u := rfl

/-! ### modCmn -/

@[simp] theorem Fab.modCmn_tiles (f : Fab) (n : Nat) (g : Cmn → Cmn) :
    (f.modCmn n g).tiles = f.tiles := rfl
@[simp] theorem Fab.modCmn_objs (f : Fab) (n : Nat) (g : Cmn → Cmn) :
    (f.modCmn n g).objs = f.objs := rfl
@[simp] theorem Fab.modCmn_flt (f : Fab) (n : Nat) (g : Cmn → Cmn) :
    (f.modCmn n g).flt = f.flt := rfl
@[simp] theorem Fab.modCmn_bind (f : Fab) (n : Nat) (g : Cmn → Cmn) :
    (f.modCmn n g).bind = f.bind := rfl
@[simp] theorem Fab.modCmn_copy (f : Fab) (n : Nat) (g : Cmn → Cmn) :
    (f.modCmn n g).copy = f.copy := rfl
@[simp] theorem Fab.modCmn_lan (f : Fab) (n : Nat) (g : Cmn → Cmn) :
    (f.modCmn n g).lan = f.lan := rfl
@[simp] theorem Fab.modCmn_quarter (f : Fab) (n : Nat) (g : Cmn → Cmn) :
    (f.modCmn n g).quarter = f.quarter := rfl
@[simp] theorem Fab.modCmn_cross (f : Fab) (n : Nat) (g : Cmn → Cmn) :
    (f.modCmn n g).cross = f.cross := rfl
@[simp] theorem Fab.modCmn_side (f : Fab) (n : Nat) (g : Cmn → Cmn) :
    (f.modCmn n g).side = f.side := rfl
@[simp] theorem Fab.modCmn_sp (f : Fab) (n : Nat) (g : Cmn → Cmn) :
    (f.modCmn n g).sp = f.sp := rfl
@[simp] theorem Fab.modCmn_sk (f : Fab) (n : Nat) (g : Cmn → Cmn) :
    (f.modCmn n g).sk = f.sk := rfl
@[simp] theorem Fab.modCmn_answers (f : Fab) (n : Nat) (g : Cmn → Cmn) :
    (f.modCmn n g).answers = f.answers := rfl
@[simp] theorem Fab.modCmn_nonce (f : Fab) (n : Nat) (g : Cmn → Cmn) :
    (f.modCmn n g).nonce = f.nonce := rfl
@[simp] theorem Fab.modCmn_dies (f : Fab) (n : Nat) (g : Cmn → Cmn) :
    (f.modCmn n g).dies = f.dies := rfl
@[simp] theorem Fab.modCmn_repair (f : Fab) (n : Nat) (g : Cmn → Cmn) :
    (f.modCmn n g).repair = f.repair := rfl
@[simp] theorem Fab.modCmn_cdc (f : Fab) (n : Nat) (g : Cmn → Cmn) :
    (f.modCmn n g).cdc = f.cdc := rfl
@[simp] theorem Fab.modCmn_boot (f : Fab) (n : Nat) (g : Cmn → Cmn) :
    (f.modCmn n g).boot = f.boot := rfl
@[simp] theorem Fab.modCmn_bootAt (f : Fab) (n : Nat) (g : Cmn → Cmn) :
    (f.modCmn n g).bootAt = f.bootAt := rfl
@[simp] theorem Fab.modCmn_modeDue (f : Fab) (n : Nat) (g : Cmn → Cmn) :
    (f.modCmn n g).modeDue = f.modeDue := rfl
@[simp] theorem Fab.modCmn_defaultMode (f : Fab) (n : Nat) (g : Cmn → Cmn) :
    (f.modCmn n g).defaultMode = f.defaultMode := rfl
@[simp] theorem Fab.modCmn_guyBreaks (f : Fab) (n : Nat) (g : Cmn → Cmn) :
    (f.modCmn n g).guyBreaks = f.guyBreaks := rfl
@[simp] theorem Fab.modCmn_coldLow (f : Fab) (n : Nat) (g : Cmn → Cmn) :
    (f.modCmn n g).coldLow = f.coldLow := rfl
@[simp] theorem Fab.modCmn_warmLow (f : Fab) (n : Nat) (g : Cmn → Cmn) :
    (f.modCmn n g).warmLow = f.warmLow := rfl
@[simp] theorem Fab.modCmn_fresh (f : Fab) (n : Nat) (g : Cmn → Cmn) :
    (f.modCmn n g).fresh = f.fresh := rfl
@[simp] theorem Fab.modCmn_guy (f : Fab) (n : Nat) (g : Cmn → Cmn) :
    (f.modCmn n g).guy = f.guy := rfl
@[simp] theorem Fab.modCmn_mbx (f : Fab) (n : Nat) (g : Cmn → Cmn) :
    (f.modCmn n g).mbx = f.mbx := rfl
@[simp] theorem Fab.modCmn_map (f : Fab) (n : Nat) (g : Cmn → Cmn) :
    (f.modCmn n g).map = f.map := rfl
@[simp] theorem Fab.modCmn_xb (f : Fab) (n : Nat) (g : Cmn → Cmn) :
    (f.modCmn n g).xb = f.xb := rfl
@[simp] theorem Fab.modCmn_otp (f : Fab) (n : Nat) (g : Cmn → Cmn) :
    (f.modCmn n g).otp = f.otp := rfl
@[simp] theorem Fab.modCmn_ve (f : Fab) (n : Nat) (g : Cmn → Cmn) :
    (f.modCmn n g).ve = f.ve := rfl
@[simp] theorem Fab.modCmn_wd (f : Fab) (n : Nat) (g : Cmn → Cmn) :
    (f.modCmn n g).wd = f.wd := rfl
@[simp] theorem Fab.modCmn_rsts (f : Fab) (n : Nat) (g : Cmn → Cmn) :
    (f.modCmn n g).rsts = f.rsts := rfl
@[simp] theorem Fab.modCmn_coll (f : Fab) (n : Nat) (g : Cmn → Cmn) :
    (f.modCmn n g).coll = f.coll := rfl
@[simp] theorem Fab.modCmn_tile (f : Fab) (n : Nat) (g : Cmn → Cmn) (u : Nat) :
    (f.modCmn n g).tile u = f.tile u := rfl
@[simp] theorem Fab.modCmn_copyOf (f : Fab) (n : Nat) (g : Cmn → Cmn) (u : Nat) :
    (f.modCmn n g).copyOf u = f.copyOf u := rfl
@[simp] theorem Fab.modCmn_lantern (f : Fab) (n : Nat) (g : Cmn → Cmn) (u : Nat) :
    (f.modCmn n g).lantern u = f.lantern u := rfl
@[simp] theorem Fab.modCmn_die (f : Fab) (n : Nat) (g : Cmn → Cmn) (u : Nat) :
    (f.modCmn n g).die u = f.die u := rfl
@[simp] theorem Fab.modCmn_spOf (f : Fab) (n : Nat) (g : Cmn → Cmn) (u : Nat) :
    (f.modCmn n g).spOf u = f.spOf u := rfl
@[simp] theorem Fab.modCmn_skOf (f : Fab) (n : Nat) (g : Cmn → Cmn) (u : Nat) :
    (f.modCmn n g).skOf u = f.skOf u := rfl
@[simp] theorem Fab.modCmn_o (f : Fab) (n : Nat) (g : Cmn → Cmn) (a : Scope) (b e j : Nat) :
    (f.modCmn n g).o a b e j = f.o a b e j := rfl
@[simp] theorem Fab.modCmn_fam (f : Fab) (n : Nat) (g : Cmn → Cmn) (u : Nat) :
    (f.modCmn n g).fam u = f.fam u := rfl
@[simp] theorem Fab.modCmn_xs (f : Fab) (n : Nat) (g : Cmn → Cmn) (a b : Nat) :
    (f.modCmn n g).xs a b = f.xs a b := rfl
@[simp] theorem Fab.modCmn_sideOf (f : Fab) (n : Nat) (g : Cmn → Cmn) (u : Nat) :
    (f.modCmn n g).sideOf u = f.sideOf u := rfl
@[simp] theorem Fab.modCmn_mbxOf (f : Fab) (n : Nat) (g : Cmn → Cmn) (u : Nat) :
    (f.modCmn n g).mbxOf u = f.mbxOf u := rfl
@[simp] theorem Fab.modCmn_cdcOf (f : Fab) (n : Nat) (g : Cmn → Cmn) (u : Cdc) :
    (f.modCmn n g).cdcOf u = f.cdcOf u := rfl

/-! ### modSk -/

@[simp] theorem Fab.modSk_tiles (f : Fab) (n : Nat) (g : Sk → Sk) :
    (f.modSk n g).tiles = f.tiles := rfl
@[simp] theorem Fab.modSk_objs (f : Fab) (n : Nat) (g : Sk → Sk) :
    (f.modSk n g).objs = f.objs := rfl
@[simp] theorem Fab.modSk_flt (f : Fab) (n : Nat) (g : Sk → Sk) :
    (f.modSk n g).flt = f.flt := rfl
@[simp] theorem Fab.modSk_bind (f : Fab) (n : Nat) (g : Sk → Sk) :
    (f.modSk n g).bind = f.bind := rfl
@[simp] theorem Fab.modSk_copy (f : Fab) (n : Nat) (g : Sk → Sk) :
    (f.modSk n g).copy = f.copy := rfl
@[simp] theorem Fab.modSk_lan (f : Fab) (n : Nat) (g : Sk → Sk) :
    (f.modSk n g).lan = f.lan := rfl
@[simp] theorem Fab.modSk_quarter (f : Fab) (n : Nat) (g : Sk → Sk) :
    (f.modSk n g).quarter = f.quarter := rfl
@[simp] theorem Fab.modSk_cross (f : Fab) (n : Nat) (g : Sk → Sk) :
    (f.modSk n g).cross = f.cross := rfl
@[simp] theorem Fab.modSk_side (f : Fab) (n : Nat) (g : Sk → Sk) :
    (f.modSk n g).side = f.side := rfl
@[simp] theorem Fab.modSk_sp (f : Fab) (n : Nat) (g : Sk → Sk) :
    (f.modSk n g).sp = f.sp := rfl
@[simp] theorem Fab.modSk_cmn (f : Fab) (n : Nat) (g : Sk → Sk) :
    (f.modSk n g).cmn = f.cmn := rfl
@[simp] theorem Fab.modSk_answers (f : Fab) (n : Nat) (g : Sk → Sk) :
    (f.modSk n g).answers = f.answers := rfl
@[simp] theorem Fab.modSk_nonce (f : Fab) (n : Nat) (g : Sk → Sk) :
    (f.modSk n g).nonce = f.nonce := rfl
@[simp] theorem Fab.modSk_dies (f : Fab) (n : Nat) (g : Sk → Sk) :
    (f.modSk n g).dies = f.dies := rfl
@[simp] theorem Fab.modSk_repair (f : Fab) (n : Nat) (g : Sk → Sk) :
    (f.modSk n g).repair = f.repair := rfl
@[simp] theorem Fab.modSk_cdc (f : Fab) (n : Nat) (g : Sk → Sk) :
    (f.modSk n g).cdc = f.cdc := rfl
@[simp] theorem Fab.modSk_boot (f : Fab) (n : Nat) (g : Sk → Sk) :
    (f.modSk n g).boot = f.boot := rfl
@[simp] theorem Fab.modSk_bootAt (f : Fab) (n : Nat) (g : Sk → Sk) :
    (f.modSk n g).bootAt = f.bootAt := rfl
@[simp] theorem Fab.modSk_modeDue (f : Fab) (n : Nat) (g : Sk → Sk) :
    (f.modSk n g).modeDue = f.modeDue := rfl
@[simp] theorem Fab.modSk_defaultMode (f : Fab) (n : Nat) (g : Sk → Sk) :
    (f.modSk n g).defaultMode = f.defaultMode := rfl
@[simp] theorem Fab.modSk_guyBreaks (f : Fab) (n : Nat) (g : Sk → Sk) :
    (f.modSk n g).guyBreaks = f.guyBreaks := rfl
@[simp] theorem Fab.modSk_coldLow (f : Fab) (n : Nat) (g : Sk → Sk) :
    (f.modSk n g).coldLow = f.coldLow := rfl
@[simp] theorem Fab.modSk_warmLow (f : Fab) (n : Nat) (g : Sk → Sk) :
    (f.modSk n g).warmLow = f.warmLow := rfl
@[simp] theorem Fab.modSk_fresh (f : Fab) (n : Nat) (g : Sk → Sk) :
    (f.modSk n g).fresh = f.fresh := rfl
@[simp] theorem Fab.modSk_guy (f : Fab) (n : Nat) (g : Sk → Sk) :
    (f.modSk n g).guy = f.guy := rfl
@[simp] theorem Fab.modSk_mbx (f : Fab) (n : Nat) (g : Sk → Sk) :
    (f.modSk n g).mbx = f.mbx := rfl
@[simp] theorem Fab.modSk_map (f : Fab) (n : Nat) (g : Sk → Sk) :
    (f.modSk n g).map = f.map := rfl
@[simp] theorem Fab.modSk_xb (f : Fab) (n : Nat) (g : Sk → Sk) :
    (f.modSk n g).xb = f.xb := rfl
@[simp] theorem Fab.modSk_otp (f : Fab) (n : Nat) (g : Sk → Sk) :
    (f.modSk n g).otp = f.otp := rfl
@[simp] theorem Fab.modSk_ve (f : Fab) (n : Nat) (g : Sk → Sk) :
    (f.modSk n g).ve = f.ve := rfl
@[simp] theorem Fab.modSk_wd (f : Fab) (n : Nat) (g : Sk → Sk) :
    (f.modSk n g).wd = f.wd := rfl
@[simp] theorem Fab.modSk_rsts (f : Fab) (n : Nat) (g : Sk → Sk) :
    (f.modSk n g).rsts = f.rsts := rfl
@[simp] theorem Fab.modSk_coll (f : Fab) (n : Nat) (g : Sk → Sk) :
    (f.modSk n g).coll = f.coll := rfl
@[simp] theorem Fab.modSk_tile (f : Fab) (n : Nat) (g : Sk → Sk) (u : Nat) :
    (f.modSk n g).tile u = f.tile u := rfl
@[simp] theorem Fab.modSk_copyOf (f : Fab) (n : Nat) (g : Sk → Sk) (u : Nat) :
    (f.modSk n g).copyOf u = f.copyOf u := rfl
@[simp] theorem Fab.modSk_lantern (f : Fab) (n : Nat) (g : Sk → Sk) (u : Nat) :
    (f.modSk n g).lantern u = f.lantern u := rfl
@[simp] theorem Fab.modSk_die (f : Fab) (n : Nat) (g : Sk → Sk) (u : Nat) :
    (f.modSk n g).die u = f.die u := rfl
@[simp] theorem Fab.modSk_spOf (f : Fab) (n : Nat) (g : Sk → Sk) (u : Nat) :
    (f.modSk n g).spOf u = f.spOf u := rfl
@[simp] theorem Fab.modSk_cmnOf (f : Fab) (n : Nat) (g : Sk → Sk) (u : Nat) :
    (f.modSk n g).cmnOf u = f.cmnOf u := rfl
@[simp] theorem Fab.modSk_o (f : Fab) (n : Nat) (g : Sk → Sk) (a : Scope) (b e j : Nat) :
    (f.modSk n g).o a b e j = f.o a b e j := rfl
@[simp] theorem Fab.modSk_fam (f : Fab) (n : Nat) (g : Sk → Sk) (u : Nat) :
    (f.modSk n g).fam u = f.fam u := rfl
@[simp] theorem Fab.modSk_xs (f : Fab) (n : Nat) (g : Sk → Sk) (a b : Nat) :
    (f.modSk n g).xs a b = f.xs a b := rfl
@[simp] theorem Fab.modSk_sideOf (f : Fab) (n : Nat) (g : Sk → Sk) (u : Nat) :
    (f.modSk n g).sideOf u = f.sideOf u := rfl
@[simp] theorem Fab.modSk_mbxOf (f : Fab) (n : Nat) (g : Sk → Sk) (u : Nat) :
    (f.modSk n g).mbxOf u = f.mbxOf u := rfl
@[simp] theorem Fab.modSk_cdcOf (f : Fab) (n : Nat) (g : Sk → Sk) (u : Cdc) :
    (f.modSk n g).cdcOf u = f.cdcOf u := rfl

/-! ### setO -/

@[simp] theorem Fab.setO_tiles (f : Fab) (sc : Scope) (n i k v : Nat) :
    (f.setO sc n i k v).tiles = f.tiles := rfl
@[simp] theorem Fab.setO_flt (f : Fab) (sc : Scope) (n i k v : Nat) :
    (f.setO sc n i k v).flt = f.flt := rfl
@[simp] theorem Fab.setO_bind (f : Fab) (sc : Scope) (n i k v : Nat) :
    (f.setO sc n i k v).bind = f.bind := rfl
@[simp] theorem Fab.setO_copy (f : Fab) (sc : Scope) (n i k v : Nat) :
    (f.setO sc n i k v).copy = f.copy := rfl
@[simp] theorem Fab.setO_lan (f : Fab) (sc : Scope) (n i k v : Nat) :
    (f.setO sc n i k v).lan = f.lan := rfl
@[simp] theorem Fab.setO_quarter (f : Fab) (sc : Scope) (n i k v : Nat) :
    (f.setO sc n i k v).quarter = f.quarter := rfl
@[simp] theorem Fab.setO_cross (f : Fab) (sc : Scope) (n i k v : Nat) :
    (f.setO sc n i k v).cross = f.cross := rfl
@[simp] theorem Fab.setO_side (f : Fab) (sc : Scope) (n i k v : Nat) :
    (f.setO sc n i k v).side = f.side := rfl
@[simp] theorem Fab.setO_sp (f : Fab) (sc : Scope) (n i k v : Nat) :
    (f.setO sc n i k v).sp = f.sp := rfl
@[simp] theorem Fab.setO_cmn (f : Fab) (sc : Scope) (n i k v : Nat) :
    (f.setO sc n i k v).cmn = f.cmn := rfl
@[simp] theorem Fab.setO_sk (f : Fab) (sc : Scope) (n i k v : Nat) :
    (f.setO sc n i k v).sk = f.sk := rfl
@[simp] theorem Fab.setO_answers (f : Fab) (sc : Scope) (n i k v : Nat) :
    (f.setO sc n i k v).answers = f.answers := rfl
@[simp] theorem Fab.setO_nonce (f : Fab) (sc : Scope) (n i k v : Nat) :
    (f.setO sc n i k v).nonce = f.nonce := rfl
@[simp] theorem Fab.setO_dies (f : Fab) (sc : Scope) (n i k v : Nat) :
    (f.setO sc n i k v).dies = f.dies := rfl
@[simp] theorem Fab.setO_repair (f : Fab) (sc : Scope) (n i k v : Nat) :
    (f.setO sc n i k v).repair = f.repair := rfl
@[simp] theorem Fab.setO_cdc (f : Fab) (sc : Scope) (n i k v : Nat) :
    (f.setO sc n i k v).cdc = f.cdc := rfl
@[simp] theorem Fab.setO_boot (f : Fab) (sc : Scope) (n i k v : Nat) :
    (f.setO sc n i k v).boot = f.boot := rfl
@[simp] theorem Fab.setO_bootAt (f : Fab) (sc : Scope) (n i k v : Nat) :
    (f.setO sc n i k v).bootAt = f.bootAt := rfl
@[simp] theorem Fab.setO_modeDue (f : Fab) (sc : Scope) (n i k v : Nat) :
    (f.setO sc n i k v).modeDue = f.modeDue := rfl
@[simp] theorem Fab.setO_defaultMode (f : Fab) (sc : Scope) (n i k v : Nat) :
    (f.setO sc n i k v).defaultMode = f.defaultMode := rfl
@[simp] theorem Fab.setO_guyBreaks (f : Fab) (sc : Scope) (n i k v : Nat) :
    (f.setO sc n i k v).guyBreaks = f.guyBreaks := rfl
@[simp] theorem Fab.setO_coldLow (f : Fab) (sc : Scope) (n i k v : Nat) :
    (f.setO sc n i k v).coldLow = f.coldLow := rfl
@[simp] theorem Fab.setO_warmLow (f : Fab) (sc : Scope) (n i k v : Nat) :
    (f.setO sc n i k v).warmLow = f.warmLow := rfl
@[simp] theorem Fab.setO_fresh (f : Fab) (sc : Scope) (n i k v : Nat) :
    (f.setO sc n i k v).fresh = f.fresh := rfl
@[simp] theorem Fab.setO_guy (f : Fab) (sc : Scope) (n i k v : Nat) :
    (f.setO sc n i k v).guy = f.guy := rfl
@[simp] theorem Fab.setO_mbx (f : Fab) (sc : Scope) (n i k v : Nat) :
    (f.setO sc n i k v).mbx = f.mbx := rfl
@[simp] theorem Fab.setO_map (f : Fab) (sc : Scope) (n i k v : Nat) :
    (f.setO sc n i k v).map = f.map := rfl
@[simp] theorem Fab.setO_xb (f : Fab) (sc : Scope) (n i k v : Nat) :
    (f.setO sc n i k v).xb = f.xb := rfl
@[simp] theorem Fab.setO_otp (f : Fab) (sc : Scope) (n i k v : Nat) :
    (f.setO sc n i k v).otp = f.otp := rfl
@[simp] theorem Fab.setO_ve (f : Fab) (sc : Scope) (n i k v : Nat) :
    (f.setO sc n i k v).ve = f.ve := rfl
@[simp] theorem Fab.setO_wd (f : Fab) (sc : Scope) (n i k v : Nat) :
    (f.setO sc n i k v).wd = f.wd := rfl
@[simp] theorem Fab.setO_rsts (f : Fab) (sc : Scope) (n i k v : Nat) :
    (f.setO sc n i k v).rsts = f.rsts := rfl
@[simp] theorem Fab.setO_coll (f : Fab) (sc : Scope) (n i k v : Nat) :
    (f.setO sc n i k v).coll = f.coll := rfl
@[simp] theorem Fab.setO_tile (f : Fab) (sc : Scope) (n i k v : Nat) (u : Nat) :
    (f.setO sc n i k v).tile u = f.tile u := rfl
@[simp] theorem Fab.setO_copyOf (f : Fab) (sc : Scope) (n i k v : Nat) (u : Nat) :
    (f.setO sc n i k v).copyOf u = f.copyOf u := rfl
@[simp] theorem Fab.setO_lantern (f : Fab) (sc : Scope) (n i k v : Nat) (u : Nat) :
    (f.setO sc n i k v).lantern u = f.lantern u := rfl
@[simp] theorem Fab.setO_die (f : Fab) (sc : Scope) (n i k v : Nat) (u : Nat) :
    (f.setO sc n i k v).die u = f.die u := rfl
@[simp] theorem Fab.setO_spOf (f : Fab) (sc : Scope) (n i k v : Nat) (u : Nat) :
    (f.setO sc n i k v).spOf u = f.spOf u := rfl
@[simp] theorem Fab.setO_cmnOf (f : Fab) (sc : Scope) (n i k v : Nat) (u : Nat) :
    (f.setO sc n i k v).cmnOf u = f.cmnOf u := rfl
@[simp] theorem Fab.setO_skOf (f : Fab) (sc : Scope) (n i k v : Nat) (u : Nat) :
    (f.setO sc n i k v).skOf u = f.skOf u := rfl
@[simp] theorem Fab.setO_fam (f : Fab) (sc : Scope) (n i k v : Nat) (u : Nat) :
    (f.setO sc n i k v).fam u = f.fam u := rfl
@[simp] theorem Fab.setO_xs (f : Fab) (sc : Scope) (n i k v : Nat) (a b : Nat) :
    (f.setO sc n i k v).xs a b = f.xs a b := rfl
@[simp] theorem Fab.setO_sideOf (f : Fab) (sc : Scope) (n i k v : Nat) (u : Nat) :
    (f.setO sc n i k v).sideOf u = f.sideOf u := rfl
@[simp] theorem Fab.setO_mbxOf (f : Fab) (sc : Scope) (n i k v : Nat) (u : Nat) :
    (f.setO sc n i k v).mbxOf u = f.mbxOf u := rfl
@[simp] theorem Fab.setO_cdcOf (f : Fab) (sc : Scope) (n i k v : Nat) (u : Cdc) :
    (f.setO sc n i k v).cdcOf u = f.cdcOf u := rfl

/-! ### modFam -/

@[simp] theorem Fab.modFam_tiles (f : Fab) (k : Nat) (g : Fam → Fam) :
    (f.modFam k g).tiles = f.tiles := rfl
@[simp] theorem Fab.modFam_objs (f : Fab) (k : Nat) (g : Fam → Fam) :
    (f.modFam k g).objs = f.objs := rfl
@[simp] theorem Fab.modFam_bind (f : Fab) (k : Nat) (g : Fam → Fam) :
    (f.modFam k g).bind = f.bind := rfl
@[simp] theorem Fab.modFam_copy (f : Fab) (k : Nat) (g : Fam → Fam) :
    (f.modFam k g).copy = f.copy := rfl
@[simp] theorem Fab.modFam_lan (f : Fab) (k : Nat) (g : Fam → Fam) :
    (f.modFam k g).lan = f.lan := rfl
@[simp] theorem Fab.modFam_quarter (f : Fab) (k : Nat) (g : Fam → Fam) :
    (f.modFam k g).quarter = f.quarter := rfl
@[simp] theorem Fab.modFam_cross (f : Fab) (k : Nat) (g : Fam → Fam) :
    (f.modFam k g).cross = f.cross := rfl
@[simp] theorem Fab.modFam_side (f : Fab) (k : Nat) (g : Fam → Fam) :
    (f.modFam k g).side = f.side := rfl
@[simp] theorem Fab.modFam_sp (f : Fab) (k : Nat) (g : Fam → Fam) :
    (f.modFam k g).sp = f.sp := rfl
@[simp] theorem Fab.modFam_cmn (f : Fab) (k : Nat) (g : Fam → Fam) :
    (f.modFam k g).cmn = f.cmn := rfl
@[simp] theorem Fab.modFam_sk (f : Fab) (k : Nat) (g : Fam → Fam) :
    (f.modFam k g).sk = f.sk := rfl
@[simp] theorem Fab.modFam_answers (f : Fab) (k : Nat) (g : Fam → Fam) :
    (f.modFam k g).answers = f.answers := rfl
@[simp] theorem Fab.modFam_nonce (f : Fab) (k : Nat) (g : Fam → Fam) :
    (f.modFam k g).nonce = f.nonce := rfl
@[simp] theorem Fab.modFam_dies (f : Fab) (k : Nat) (g : Fam → Fam) :
    (f.modFam k g).dies = f.dies := rfl
@[simp] theorem Fab.modFam_repair (f : Fab) (k : Nat) (g : Fam → Fam) :
    (f.modFam k g).repair = f.repair := rfl
@[simp] theorem Fab.modFam_cdc (f : Fab) (k : Nat) (g : Fam → Fam) :
    (f.modFam k g).cdc = f.cdc := rfl
@[simp] theorem Fab.modFam_boot (f : Fab) (k : Nat) (g : Fam → Fam) :
    (f.modFam k g).boot = f.boot := rfl
@[simp] theorem Fab.modFam_bootAt (f : Fab) (k : Nat) (g : Fam → Fam) :
    (f.modFam k g).bootAt = f.bootAt := rfl
@[simp] theorem Fab.modFam_modeDue (f : Fab) (k : Nat) (g : Fam → Fam) :
    (f.modFam k g).modeDue = f.modeDue := rfl
@[simp] theorem Fab.modFam_defaultMode (f : Fab) (k : Nat) (g : Fam → Fam) :
    (f.modFam k g).defaultMode = f.defaultMode := rfl
@[simp] theorem Fab.modFam_guyBreaks (f : Fab) (k : Nat) (g : Fam → Fam) :
    (f.modFam k g).guyBreaks = f.guyBreaks := rfl
@[simp] theorem Fab.modFam_coldLow (f : Fab) (k : Nat) (g : Fam → Fam) :
    (f.modFam k g).coldLow = f.coldLow := rfl
@[simp] theorem Fab.modFam_warmLow (f : Fab) (k : Nat) (g : Fam → Fam) :
    (f.modFam k g).warmLow = f.warmLow := rfl
@[simp] theorem Fab.modFam_fresh (f : Fab) (k : Nat) (g : Fam → Fam) :
    (f.modFam k g).fresh = f.fresh := rfl
@[simp] theorem Fab.modFam_guy (f : Fab) (k : Nat) (g : Fam → Fam) :
    (f.modFam k g).guy = f.guy := rfl
@[simp] theorem Fab.modFam_mbx (f : Fab) (k : Nat) (g : Fam → Fam) :
    (f.modFam k g).mbx = f.mbx := rfl
@[simp] theorem Fab.modFam_map (f : Fab) (k : Nat) (g : Fam → Fam) :
    (f.modFam k g).map = f.map := rfl
@[simp] theorem Fab.modFam_xb (f : Fab) (k : Nat) (g : Fam → Fam) :
    (f.modFam k g).xb = f.xb := rfl
@[simp] theorem Fab.modFam_otp (f : Fab) (k : Nat) (g : Fam → Fam) :
    (f.modFam k g).otp = f.otp := rfl
@[simp] theorem Fab.modFam_ve (f : Fab) (k : Nat) (g : Fam → Fam) :
    (f.modFam k g).ve = f.ve := rfl
@[simp] theorem Fab.modFam_wd (f : Fab) (k : Nat) (g : Fam → Fam) :
    (f.modFam k g).wd = f.wd := rfl
@[simp] theorem Fab.modFam_rsts (f : Fab) (k : Nat) (g : Fam → Fam) :
    (f.modFam k g).rsts = f.rsts := rfl
@[simp] theorem Fab.modFam_coll (f : Fab) (k : Nat) (g : Fam → Fam) :
    (f.modFam k g).coll = f.coll := rfl
@[simp] theorem Fab.modFam_tile (f : Fab) (k : Nat) (g : Fam → Fam) (u : Nat) :
    (f.modFam k g).tile u = f.tile u := rfl
@[simp] theorem Fab.modFam_copyOf (f : Fab) (k : Nat) (g : Fam → Fam) (u : Nat) :
    (f.modFam k g).copyOf u = f.copyOf u := rfl
@[simp] theorem Fab.modFam_lantern (f : Fab) (k : Nat) (g : Fam → Fam) (u : Nat) :
    (f.modFam k g).lantern u = f.lantern u := rfl
@[simp] theorem Fab.modFam_die (f : Fab) (k : Nat) (g : Fam → Fam) (u : Nat) :
    (f.modFam k g).die u = f.die u := rfl
@[simp] theorem Fab.modFam_spOf (f : Fab) (k : Nat) (g : Fam → Fam) (u : Nat) :
    (f.modFam k g).spOf u = f.spOf u := rfl
@[simp] theorem Fab.modFam_cmnOf (f : Fab) (k : Nat) (g : Fam → Fam) (u : Nat) :
    (f.modFam k g).cmnOf u = f.cmnOf u := rfl
@[simp] theorem Fab.modFam_skOf (f : Fab) (k : Nat) (g : Fam → Fam) (u : Nat) :
    (f.modFam k g).skOf u = f.skOf u := rfl
@[simp] theorem Fab.modFam_o (f : Fab) (k : Nat) (g : Fam → Fam) (a : Scope) (b e j : Nat) :
    (f.modFam k g).o a b e j = f.o a b e j := rfl
@[simp] theorem Fab.modFam_xs (f : Fab) (k : Nat) (g : Fam → Fam) (a b : Nat) :
    (f.modFam k g).xs a b = f.xs a b := rfl
@[simp] theorem Fab.modFam_sideOf (f : Fab) (k : Nat) (g : Fam → Fam) (u : Nat) :
    (f.modFam k g).sideOf u = f.sideOf u := rfl
@[simp] theorem Fab.modFam_mbxOf (f : Fab) (k : Nat) (g : Fam → Fam) (u : Nat) :
    (f.modFam k g).mbxOf u = f.mbxOf u := rfl
@[simp] theorem Fab.modFam_cdcOf (f : Fab) (k : Nat) (g : Fam → Fam) (u : Cdc) :
    (f.modFam k g).cdcOf u = f.cdcOf u := rfl

/-! ### modX -/

@[simp] theorem Fab.modX_tiles (f : Fab) (ss c : Nat) (g : CrossSide → CrossSide) :
    (f.modX ss c g).tiles = f.tiles := rfl
@[simp] theorem Fab.modX_objs (f : Fab) (ss c : Nat) (g : CrossSide → CrossSide) :
    (f.modX ss c g).objs = f.objs := rfl
@[simp] theorem Fab.modX_flt (f : Fab) (ss c : Nat) (g : CrossSide → CrossSide) :
    (f.modX ss c g).flt = f.flt := rfl
@[simp] theorem Fab.modX_bind (f : Fab) (ss c : Nat) (g : CrossSide → CrossSide) :
    (f.modX ss c g).bind = f.bind := rfl
@[simp] theorem Fab.modX_copy (f : Fab) (ss c : Nat) (g : CrossSide → CrossSide) :
    (f.modX ss c g).copy = f.copy := rfl
@[simp] theorem Fab.modX_lan (f : Fab) (ss c : Nat) (g : CrossSide → CrossSide) :
    (f.modX ss c g).lan = f.lan := rfl
@[simp] theorem Fab.modX_quarter (f : Fab) (ss c : Nat) (g : CrossSide → CrossSide) :
    (f.modX ss c g).quarter = f.quarter := rfl
@[simp] theorem Fab.modX_side (f : Fab) (ss c : Nat) (g : CrossSide → CrossSide) :
    (f.modX ss c g).side = f.side := rfl
@[simp] theorem Fab.modX_sp (f : Fab) (ss c : Nat) (g : CrossSide → CrossSide) :
    (f.modX ss c g).sp = f.sp := rfl
@[simp] theorem Fab.modX_cmn (f : Fab) (ss c : Nat) (g : CrossSide → CrossSide) :
    (f.modX ss c g).cmn = f.cmn := rfl
@[simp] theorem Fab.modX_sk (f : Fab) (ss c : Nat) (g : CrossSide → CrossSide) :
    (f.modX ss c g).sk = f.sk := rfl
@[simp] theorem Fab.modX_answers (f : Fab) (ss c : Nat) (g : CrossSide → CrossSide) :
    (f.modX ss c g).answers = f.answers := rfl
@[simp] theorem Fab.modX_nonce (f : Fab) (ss c : Nat) (g : CrossSide → CrossSide) :
    (f.modX ss c g).nonce = f.nonce := rfl
@[simp] theorem Fab.modX_dies (f : Fab) (ss c : Nat) (g : CrossSide → CrossSide) :
    (f.modX ss c g).dies = f.dies := rfl
@[simp] theorem Fab.modX_repair (f : Fab) (ss c : Nat) (g : CrossSide → CrossSide) :
    (f.modX ss c g).repair = f.repair := rfl
@[simp] theorem Fab.modX_cdc (f : Fab) (ss c : Nat) (g : CrossSide → CrossSide) :
    (f.modX ss c g).cdc = f.cdc := rfl
@[simp] theorem Fab.modX_boot (f : Fab) (ss c : Nat) (g : CrossSide → CrossSide) :
    (f.modX ss c g).boot = f.boot := rfl
@[simp] theorem Fab.modX_bootAt (f : Fab) (ss c : Nat) (g : CrossSide → CrossSide) :
    (f.modX ss c g).bootAt = f.bootAt := rfl
@[simp] theorem Fab.modX_modeDue (f : Fab) (ss c : Nat) (g : CrossSide → CrossSide) :
    (f.modX ss c g).modeDue = f.modeDue := rfl
@[simp] theorem Fab.modX_defaultMode (f : Fab) (ss c : Nat) (g : CrossSide → CrossSide) :
    (f.modX ss c g).defaultMode = f.defaultMode := rfl
@[simp] theorem Fab.modX_guyBreaks (f : Fab) (ss c : Nat) (g : CrossSide → CrossSide) :
    (f.modX ss c g).guyBreaks = f.guyBreaks := rfl
@[simp] theorem Fab.modX_coldLow (f : Fab) (ss c : Nat) (g : CrossSide → CrossSide) :
    (f.modX ss c g).coldLow = f.coldLow := rfl
@[simp] theorem Fab.modX_warmLow (f : Fab) (ss c : Nat) (g : CrossSide → CrossSide) :
    (f.modX ss c g).warmLow = f.warmLow := rfl
@[simp] theorem Fab.modX_fresh (f : Fab) (ss c : Nat) (g : CrossSide → CrossSide) :
    (f.modX ss c g).fresh = f.fresh := rfl
@[simp] theorem Fab.modX_guy (f : Fab) (ss c : Nat) (g : CrossSide → CrossSide) :
    (f.modX ss c g).guy = f.guy := rfl
@[simp] theorem Fab.modX_mbx (f : Fab) (ss c : Nat) (g : CrossSide → CrossSide) :
    (f.modX ss c g).mbx = f.mbx := rfl
@[simp] theorem Fab.modX_map (f : Fab) (ss c : Nat) (g : CrossSide → CrossSide) :
    (f.modX ss c g).map = f.map := rfl
@[simp] theorem Fab.modX_xb (f : Fab) (ss c : Nat) (g : CrossSide → CrossSide) :
    (f.modX ss c g).xb = f.xb := rfl
@[simp] theorem Fab.modX_otp (f : Fab) (ss c : Nat) (g : CrossSide → CrossSide) :
    (f.modX ss c g).otp = f.otp := rfl
@[simp] theorem Fab.modX_ve (f : Fab) (ss c : Nat) (g : CrossSide → CrossSide) :
    (f.modX ss c g).ve = f.ve := rfl
@[simp] theorem Fab.modX_wd (f : Fab) (ss c : Nat) (g : CrossSide → CrossSide) :
    (f.modX ss c g).wd = f.wd := rfl
@[simp] theorem Fab.modX_rsts (f : Fab) (ss c : Nat) (g : CrossSide → CrossSide) :
    (f.modX ss c g).rsts = f.rsts := rfl
@[simp] theorem Fab.modX_coll (f : Fab) (ss c : Nat) (g : CrossSide → CrossSide) :
    (f.modX ss c g).coll = f.coll := rfl
@[simp] theorem Fab.modX_tile (f : Fab) (ss c : Nat) (g : CrossSide → CrossSide) (u : Nat) :
    (f.modX ss c g).tile u = f.tile u := rfl
@[simp] theorem Fab.modX_copyOf (f : Fab) (ss c : Nat) (g : CrossSide → CrossSide) (u : Nat) :
    (f.modX ss c g).copyOf u = f.copyOf u := rfl
@[simp] theorem Fab.modX_lantern (f : Fab) (ss c : Nat) (g : CrossSide → CrossSide) (u : Nat) :
    (f.modX ss c g).lantern u = f.lantern u := rfl
@[simp] theorem Fab.modX_die (f : Fab) (ss c : Nat) (g : CrossSide → CrossSide) (u : Nat) :
    (f.modX ss c g).die u = f.die u := rfl
@[simp] theorem Fab.modX_spOf (f : Fab) (ss c : Nat) (g : CrossSide → CrossSide) (u : Nat) :
    (f.modX ss c g).spOf u = f.spOf u := rfl
@[simp] theorem Fab.modX_cmnOf (f : Fab) (ss c : Nat) (g : CrossSide → CrossSide) (u : Nat) :
    (f.modX ss c g).cmnOf u = f.cmnOf u := rfl
@[simp] theorem Fab.modX_skOf (f : Fab) (ss c : Nat) (g : CrossSide → CrossSide) (u : Nat) :
    (f.modX ss c g).skOf u = f.skOf u := rfl
@[simp] theorem Fab.modX_o (f : Fab) (ss c : Nat) (g : CrossSide → CrossSide) (a : Scope) (b e j : Nat) :
    (f.modX ss c g).o a b e j = f.o a b e j := rfl
@[simp] theorem Fab.modX_fam (f : Fab) (ss c : Nat) (g : CrossSide → CrossSide) (u : Nat) :
    (f.modX ss c g).fam u = f.fam u := rfl
@[simp] theorem Fab.modX_sideOf (f : Fab) (ss c : Nat) (g : CrossSide → CrossSide) (u : Nat) :
    (f.modX ss c g).sideOf u = f.sideOf u := rfl
@[simp] theorem Fab.modX_mbxOf (f : Fab) (ss c : Nat) (g : CrossSide → CrossSide) (u : Nat) :
    (f.modX ss c g).mbxOf u = f.mbxOf u := rfl
@[simp] theorem Fab.modX_cdcOf (f : Fab) (ss c : Nat) (g : CrossSide → CrossSide) (u : Cdc) :
    (f.modX ss c g).cdcOf u = f.cdcOf u := rfl

/-! ### modSide -/

@[simp] theorem Fab.modSide_tiles (f : Fab) (ss : Nat) (g : SeamSide → SeamSide) :
    (f.modSide ss g).tiles = f.tiles := rfl
@[simp] theorem Fab.modSide_objs (f : Fab) (ss : Nat) (g : SeamSide → SeamSide) :
    (f.modSide ss g).objs = f.objs := rfl
@[simp] theorem Fab.modSide_flt (f : Fab) (ss : Nat) (g : SeamSide → SeamSide) :
    (f.modSide ss g).flt = f.flt := rfl
@[simp] theorem Fab.modSide_bind (f : Fab) (ss : Nat) (g : SeamSide → SeamSide) :
    (f.modSide ss g).bind = f.bind := rfl
@[simp] theorem Fab.modSide_copy (f : Fab) (ss : Nat) (g : SeamSide → SeamSide) :
    (f.modSide ss g).copy = f.copy := rfl
@[simp] theorem Fab.modSide_lan (f : Fab) (ss : Nat) (g : SeamSide → SeamSide) :
    (f.modSide ss g).lan = f.lan := rfl
@[simp] theorem Fab.modSide_quarter (f : Fab) (ss : Nat) (g : SeamSide → SeamSide) :
    (f.modSide ss g).quarter = f.quarter := rfl
@[simp] theorem Fab.modSide_cross (f : Fab) (ss : Nat) (g : SeamSide → SeamSide) :
    (f.modSide ss g).cross = f.cross := rfl
@[simp] theorem Fab.modSide_sp (f : Fab) (ss : Nat) (g : SeamSide → SeamSide) :
    (f.modSide ss g).sp = f.sp := rfl
@[simp] theorem Fab.modSide_cmn (f : Fab) (ss : Nat) (g : SeamSide → SeamSide) :
    (f.modSide ss g).cmn = f.cmn := rfl
@[simp] theorem Fab.modSide_sk (f : Fab) (ss : Nat) (g : SeamSide → SeamSide) :
    (f.modSide ss g).sk = f.sk := rfl
@[simp] theorem Fab.modSide_answers (f : Fab) (ss : Nat) (g : SeamSide → SeamSide) :
    (f.modSide ss g).answers = f.answers := rfl
@[simp] theorem Fab.modSide_nonce (f : Fab) (ss : Nat) (g : SeamSide → SeamSide) :
    (f.modSide ss g).nonce = f.nonce := rfl
@[simp] theorem Fab.modSide_dies (f : Fab) (ss : Nat) (g : SeamSide → SeamSide) :
    (f.modSide ss g).dies = f.dies := rfl
@[simp] theorem Fab.modSide_repair (f : Fab) (ss : Nat) (g : SeamSide → SeamSide) :
    (f.modSide ss g).repair = f.repair := rfl
@[simp] theorem Fab.modSide_cdc (f : Fab) (ss : Nat) (g : SeamSide → SeamSide) :
    (f.modSide ss g).cdc = f.cdc := rfl
@[simp] theorem Fab.modSide_boot (f : Fab) (ss : Nat) (g : SeamSide → SeamSide) :
    (f.modSide ss g).boot = f.boot := rfl
@[simp] theorem Fab.modSide_bootAt (f : Fab) (ss : Nat) (g : SeamSide → SeamSide) :
    (f.modSide ss g).bootAt = f.bootAt := rfl
@[simp] theorem Fab.modSide_modeDue (f : Fab) (ss : Nat) (g : SeamSide → SeamSide) :
    (f.modSide ss g).modeDue = f.modeDue := rfl
@[simp] theorem Fab.modSide_defaultMode (f : Fab) (ss : Nat) (g : SeamSide → SeamSide) :
    (f.modSide ss g).defaultMode = f.defaultMode := rfl
@[simp] theorem Fab.modSide_guyBreaks (f : Fab) (ss : Nat) (g : SeamSide → SeamSide) :
    (f.modSide ss g).guyBreaks = f.guyBreaks := rfl
@[simp] theorem Fab.modSide_coldLow (f : Fab) (ss : Nat) (g : SeamSide → SeamSide) :
    (f.modSide ss g).coldLow = f.coldLow := rfl
@[simp] theorem Fab.modSide_warmLow (f : Fab) (ss : Nat) (g : SeamSide → SeamSide) :
    (f.modSide ss g).warmLow = f.warmLow := rfl
@[simp] theorem Fab.modSide_fresh (f : Fab) (ss : Nat) (g : SeamSide → SeamSide) :
    (f.modSide ss g).fresh = f.fresh := rfl
@[simp] theorem Fab.modSide_guy (f : Fab) (ss : Nat) (g : SeamSide → SeamSide) :
    (f.modSide ss g).guy = f.guy := rfl
@[simp] theorem Fab.modSide_mbx (f : Fab) (ss : Nat) (g : SeamSide → SeamSide) :
    (f.modSide ss g).mbx = f.mbx := rfl
@[simp] theorem Fab.modSide_map (f : Fab) (ss : Nat) (g : SeamSide → SeamSide) :
    (f.modSide ss g).map = f.map := rfl
@[simp] theorem Fab.modSide_xb (f : Fab) (ss : Nat) (g : SeamSide → SeamSide) :
    (f.modSide ss g).xb = f.xb := rfl
@[simp] theorem Fab.modSide_otp (f : Fab) (ss : Nat) (g : SeamSide → SeamSide) :
    (f.modSide ss g).otp = f.otp := rfl
@[simp] theorem Fab.modSide_ve (f : Fab) (ss : Nat) (g : SeamSide → SeamSide) :
    (f.modSide ss g).ve = f.ve := rfl
@[simp] theorem Fab.modSide_wd (f : Fab) (ss : Nat) (g : SeamSide → SeamSide) :
    (f.modSide ss g).wd = f.wd := rfl
@[simp] theorem Fab.modSide_rsts (f : Fab) (ss : Nat) (g : SeamSide → SeamSide) :
    (f.modSide ss g).rsts = f.rsts := rfl
@[simp] theorem Fab.modSide_coll (f : Fab) (ss : Nat) (g : SeamSide → SeamSide) :
    (f.modSide ss g).coll = f.coll := rfl
@[simp] theorem Fab.modSide_tile (f : Fab) (ss : Nat) (g : SeamSide → SeamSide) (u : Nat) :
    (f.modSide ss g).tile u = f.tile u := rfl
@[simp] theorem Fab.modSide_copyOf (f : Fab) (ss : Nat) (g : SeamSide → SeamSide) (u : Nat) :
    (f.modSide ss g).copyOf u = f.copyOf u := rfl
@[simp] theorem Fab.modSide_lantern (f : Fab) (ss : Nat) (g : SeamSide → SeamSide) (u : Nat) :
    (f.modSide ss g).lantern u = f.lantern u := rfl
@[simp] theorem Fab.modSide_die (f : Fab) (ss : Nat) (g : SeamSide → SeamSide) (u : Nat) :
    (f.modSide ss g).die u = f.die u := rfl
@[simp] theorem Fab.modSide_spOf (f : Fab) (ss : Nat) (g : SeamSide → SeamSide) (u : Nat) :
    (f.modSide ss g).spOf u = f.spOf u := rfl
@[simp] theorem Fab.modSide_cmnOf (f : Fab) (ss : Nat) (g : SeamSide → SeamSide) (u : Nat) :
    (f.modSide ss g).cmnOf u = f.cmnOf u := rfl
@[simp] theorem Fab.modSide_skOf (f : Fab) (ss : Nat) (g : SeamSide → SeamSide) (u : Nat) :
    (f.modSide ss g).skOf u = f.skOf u := rfl
@[simp] theorem Fab.modSide_o (f : Fab) (ss : Nat) (g : SeamSide → SeamSide) (a : Scope) (b e j : Nat) :
    (f.modSide ss g).o a b e j = f.o a b e j := rfl
@[simp] theorem Fab.modSide_fam (f : Fab) (ss : Nat) (g : SeamSide → SeamSide) (u : Nat) :
    (f.modSide ss g).fam u = f.fam u := rfl
@[simp] theorem Fab.modSide_xs (f : Fab) (ss : Nat) (g : SeamSide → SeamSide) (a b : Nat) :
    (f.modSide ss g).xs a b = f.xs a b := rfl
@[simp] theorem Fab.modSide_mbxOf (f : Fab) (ss : Nat) (g : SeamSide → SeamSide) (u : Nat) :
    (f.modSide ss g).mbxOf u = f.mbxOf u := rfl
@[simp] theorem Fab.modSide_cdcOf (f : Fab) (ss : Nat) (g : SeamSide → SeamSide) (u : Cdc) :
    (f.modSide ss g).cdcOf u = f.cdcOf u := rfl

/-! ### modCdc -/

@[simp] theorem Fab.modCdc_tiles (f : Fab) (x : Cdc) (g : CdcSt → CdcSt) :
    (f.modCdc x g).tiles = f.tiles := rfl
@[simp] theorem Fab.modCdc_objs (f : Fab) (x : Cdc) (g : CdcSt → CdcSt) :
    (f.modCdc x g).objs = f.objs := rfl
@[simp] theorem Fab.modCdc_flt (f : Fab) (x : Cdc) (g : CdcSt → CdcSt) :
    (f.modCdc x g).flt = f.flt := rfl
@[simp] theorem Fab.modCdc_bind (f : Fab) (x : Cdc) (g : CdcSt → CdcSt) :
    (f.modCdc x g).bind = f.bind := rfl
@[simp] theorem Fab.modCdc_copy (f : Fab) (x : Cdc) (g : CdcSt → CdcSt) :
    (f.modCdc x g).copy = f.copy := rfl
@[simp] theorem Fab.modCdc_lan (f : Fab) (x : Cdc) (g : CdcSt → CdcSt) :
    (f.modCdc x g).lan = f.lan := rfl
@[simp] theorem Fab.modCdc_quarter (f : Fab) (x : Cdc) (g : CdcSt → CdcSt) :
    (f.modCdc x g).quarter = f.quarter := rfl
@[simp] theorem Fab.modCdc_cross (f : Fab) (x : Cdc) (g : CdcSt → CdcSt) :
    (f.modCdc x g).cross = f.cross := rfl
@[simp] theorem Fab.modCdc_side (f : Fab) (x : Cdc) (g : CdcSt → CdcSt) :
    (f.modCdc x g).side = f.side := rfl
@[simp] theorem Fab.modCdc_sp (f : Fab) (x : Cdc) (g : CdcSt → CdcSt) :
    (f.modCdc x g).sp = f.sp := rfl
@[simp] theorem Fab.modCdc_cmn (f : Fab) (x : Cdc) (g : CdcSt → CdcSt) :
    (f.modCdc x g).cmn = f.cmn := rfl
@[simp] theorem Fab.modCdc_sk (f : Fab) (x : Cdc) (g : CdcSt → CdcSt) :
    (f.modCdc x g).sk = f.sk := rfl
@[simp] theorem Fab.modCdc_answers (f : Fab) (x : Cdc) (g : CdcSt → CdcSt) :
    (f.modCdc x g).answers = f.answers := rfl
@[simp] theorem Fab.modCdc_nonce (f : Fab) (x : Cdc) (g : CdcSt → CdcSt) :
    (f.modCdc x g).nonce = f.nonce := rfl
@[simp] theorem Fab.modCdc_dies (f : Fab) (x : Cdc) (g : CdcSt → CdcSt) :
    (f.modCdc x g).dies = f.dies := rfl
@[simp] theorem Fab.modCdc_repair (f : Fab) (x : Cdc) (g : CdcSt → CdcSt) :
    (f.modCdc x g).repair = f.repair := rfl
@[simp] theorem Fab.modCdc_boot (f : Fab) (x : Cdc) (g : CdcSt → CdcSt) :
    (f.modCdc x g).boot = f.boot := rfl
@[simp] theorem Fab.modCdc_bootAt (f : Fab) (x : Cdc) (g : CdcSt → CdcSt) :
    (f.modCdc x g).bootAt = f.bootAt := rfl
@[simp] theorem Fab.modCdc_modeDue (f : Fab) (x : Cdc) (g : CdcSt → CdcSt) :
    (f.modCdc x g).modeDue = f.modeDue := rfl
@[simp] theorem Fab.modCdc_defaultMode (f : Fab) (x : Cdc) (g : CdcSt → CdcSt) :
    (f.modCdc x g).defaultMode = f.defaultMode := rfl
@[simp] theorem Fab.modCdc_guyBreaks (f : Fab) (x : Cdc) (g : CdcSt → CdcSt) :
    (f.modCdc x g).guyBreaks = f.guyBreaks := rfl
@[simp] theorem Fab.modCdc_coldLow (f : Fab) (x : Cdc) (g : CdcSt → CdcSt) :
    (f.modCdc x g).coldLow = f.coldLow := rfl
@[simp] theorem Fab.modCdc_warmLow (f : Fab) (x : Cdc) (g : CdcSt → CdcSt) :
    (f.modCdc x g).warmLow = f.warmLow := rfl
@[simp] theorem Fab.modCdc_fresh (f : Fab) (x : Cdc) (g : CdcSt → CdcSt) :
    (f.modCdc x g).fresh = f.fresh := rfl
@[simp] theorem Fab.modCdc_guy (f : Fab) (x : Cdc) (g : CdcSt → CdcSt) :
    (f.modCdc x g).guy = f.guy := rfl
@[simp] theorem Fab.modCdc_mbx (f : Fab) (x : Cdc) (g : CdcSt → CdcSt) :
    (f.modCdc x g).mbx = f.mbx := rfl
@[simp] theorem Fab.modCdc_map (f : Fab) (x : Cdc) (g : CdcSt → CdcSt) :
    (f.modCdc x g).map = f.map := rfl
@[simp] theorem Fab.modCdc_xb (f : Fab) (x : Cdc) (g : CdcSt → CdcSt) :
    (f.modCdc x g).xb = f.xb := rfl
@[simp] theorem Fab.modCdc_otp (f : Fab) (x : Cdc) (g : CdcSt → CdcSt) :
    (f.modCdc x g).otp = f.otp := rfl
@[simp] theorem Fab.modCdc_ve (f : Fab) (x : Cdc) (g : CdcSt → CdcSt) :
    (f.modCdc x g).ve = f.ve := rfl
@[simp] theorem Fab.modCdc_wd (f : Fab) (x : Cdc) (g : CdcSt → CdcSt) :
    (f.modCdc x g).wd = f.wd := rfl
@[simp] theorem Fab.modCdc_rsts (f : Fab) (x : Cdc) (g : CdcSt → CdcSt) :
    (f.modCdc x g).rsts = f.rsts := rfl
@[simp] theorem Fab.modCdc_coll (f : Fab) (x : Cdc) (g : CdcSt → CdcSt) :
    (f.modCdc x g).coll = f.coll := rfl
@[simp] theorem Fab.modCdc_tile (f : Fab) (x : Cdc) (g : CdcSt → CdcSt) (u : Nat) :
    (f.modCdc x g).tile u = f.tile u := rfl
@[simp] theorem Fab.modCdc_copyOf (f : Fab) (x : Cdc) (g : CdcSt → CdcSt) (u : Nat) :
    (f.modCdc x g).copyOf u = f.copyOf u := rfl
@[simp] theorem Fab.modCdc_lantern (f : Fab) (x : Cdc) (g : CdcSt → CdcSt) (u : Nat) :
    (f.modCdc x g).lantern u = f.lantern u := rfl
@[simp] theorem Fab.modCdc_die (f : Fab) (x : Cdc) (g : CdcSt → CdcSt) (u : Nat) :
    (f.modCdc x g).die u = f.die u := rfl
@[simp] theorem Fab.modCdc_spOf (f : Fab) (x : Cdc) (g : CdcSt → CdcSt) (u : Nat) :
    (f.modCdc x g).spOf u = f.spOf u := rfl
@[simp] theorem Fab.modCdc_cmnOf (f : Fab) (x : Cdc) (g : CdcSt → CdcSt) (u : Nat) :
    (f.modCdc x g).cmnOf u = f.cmnOf u := rfl
@[simp] theorem Fab.modCdc_skOf (f : Fab) (x : Cdc) (g : CdcSt → CdcSt) (u : Nat) :
    (f.modCdc x g).skOf u = f.skOf u := rfl
@[simp] theorem Fab.modCdc_o (f : Fab) (x : Cdc) (g : CdcSt → CdcSt) (a : Scope) (b e j : Nat) :
    (f.modCdc x g).o a b e j = f.o a b e j := rfl
@[simp] theorem Fab.modCdc_fam (f : Fab) (x : Cdc) (g : CdcSt → CdcSt) (u : Nat) :
    (f.modCdc x g).fam u = f.fam u := rfl
@[simp] theorem Fab.modCdc_xs (f : Fab) (x : Cdc) (g : CdcSt → CdcSt) (a b : Nat) :
    (f.modCdc x g).xs a b = f.xs a b := rfl
@[simp] theorem Fab.modCdc_sideOf (f : Fab) (x : Cdc) (g : CdcSt → CdcSt) (u : Nat) :
    (f.modCdc x g).sideOf u = f.sideOf u := rfl
@[simp] theorem Fab.modCdc_mbxOf (f : Fab) (x : Cdc) (g : CdcSt → CdcSt) (u : Nat) :
    (f.modCdc x g).mbxOf u = f.mbxOf u := rfl

/-! ### modGuy -/

@[simp] theorem Fab.modGuy_tiles (f : Fab) (g : Guy → Guy) :
    (f.modGuy g).tiles = f.tiles := rfl
@[simp] theorem Fab.modGuy_objs (f : Fab) (g : Guy → Guy) :
    (f.modGuy g).objs = f.objs := rfl
@[simp] theorem Fab.modGuy_flt (f : Fab) (g : Guy → Guy) :
    (f.modGuy g).flt = f.flt := rfl
@[simp] theorem Fab.modGuy_bind (f : Fab) (g : Guy → Guy) :
    (f.modGuy g).bind = f.bind := rfl
@[simp] theorem Fab.modGuy_copy (f : Fab) (g : Guy → Guy) :
    (f.modGuy g).copy = f.copy := rfl
@[simp] theorem Fab.modGuy_lan (f : Fab) (g : Guy → Guy) :
    (f.modGuy g).lan = f.lan := rfl
@[simp] theorem Fab.modGuy_quarter (f : Fab) (g : Guy → Guy) :
    (f.modGuy g).quarter = f.quarter := rfl
@[simp] theorem Fab.modGuy_cross (f : Fab) (g : Guy → Guy) :
    (f.modGuy g).cross = f.cross := rfl
@[simp] theorem Fab.modGuy_side (f : Fab) (g : Guy → Guy) :
    (f.modGuy g).side = f.side := rfl
@[simp] theorem Fab.modGuy_sp (f : Fab) (g : Guy → Guy) :
    (f.modGuy g).sp = f.sp := rfl
@[simp] theorem Fab.modGuy_cmn (f : Fab) (g : Guy → Guy) :
    (f.modGuy g).cmn = f.cmn := rfl
@[simp] theorem Fab.modGuy_sk (f : Fab) (g : Guy → Guy) :
    (f.modGuy g).sk = f.sk := rfl
@[simp] theorem Fab.modGuy_answers (f : Fab) (g : Guy → Guy) :
    (f.modGuy g).answers = f.answers := rfl
@[simp] theorem Fab.modGuy_nonce (f : Fab) (g : Guy → Guy) :
    (f.modGuy g).nonce = f.nonce := rfl
@[simp] theorem Fab.modGuy_dies (f : Fab) (g : Guy → Guy) :
    (f.modGuy g).dies = f.dies := rfl
@[simp] theorem Fab.modGuy_repair (f : Fab) (g : Guy → Guy) :
    (f.modGuy g).repair = f.repair := rfl
@[simp] theorem Fab.modGuy_cdc (f : Fab) (g : Guy → Guy) :
    (f.modGuy g).cdc = f.cdc := rfl
@[simp] theorem Fab.modGuy_boot (f : Fab) (g : Guy → Guy) :
    (f.modGuy g).boot = f.boot := rfl
@[simp] theorem Fab.modGuy_bootAt (f : Fab) (g : Guy → Guy) :
    (f.modGuy g).bootAt = f.bootAt := rfl
@[simp] theorem Fab.modGuy_modeDue (f : Fab) (g : Guy → Guy) :
    (f.modGuy g).modeDue = f.modeDue := rfl
@[simp] theorem Fab.modGuy_defaultMode (f : Fab) (g : Guy → Guy) :
    (f.modGuy g).defaultMode = f.defaultMode := rfl
@[simp] theorem Fab.modGuy_guyBreaks (f : Fab) (g : Guy → Guy) :
    (f.modGuy g).guyBreaks = f.guyBreaks := rfl
@[simp] theorem Fab.modGuy_coldLow (f : Fab) (g : Guy → Guy) :
    (f.modGuy g).coldLow = f.coldLow := rfl
@[simp] theorem Fab.modGuy_warmLow (f : Fab) (g : Guy → Guy) :
    (f.modGuy g).warmLow = f.warmLow := rfl
@[simp] theorem Fab.modGuy_fresh (f : Fab) (g : Guy → Guy) :
    (f.modGuy g).fresh = f.fresh := rfl
@[simp] theorem Fab.modGuy_mbx (f : Fab) (g : Guy → Guy) :
    (f.modGuy g).mbx = f.mbx := rfl
@[simp] theorem Fab.modGuy_map (f : Fab) (g : Guy → Guy) :
    (f.modGuy g).map = f.map := rfl
@[simp] theorem Fab.modGuy_xb (f : Fab) (g : Guy → Guy) :
    (f.modGuy g).xb = f.xb := rfl
@[simp] theorem Fab.modGuy_otp (f : Fab) (g : Guy → Guy) :
    (f.modGuy g).otp = f.otp := rfl
@[simp] theorem Fab.modGuy_ve (f : Fab) (g : Guy → Guy) :
    (f.modGuy g).ve = f.ve := rfl
@[simp] theorem Fab.modGuy_wd (f : Fab) (g : Guy → Guy) :
    (f.modGuy g).wd = f.wd := rfl
@[simp] theorem Fab.modGuy_rsts (f : Fab) (g : Guy → Guy) :
    (f.modGuy g).rsts = f.rsts := rfl
@[simp] theorem Fab.modGuy_coll (f : Fab) (g : Guy → Guy) :
    (f.modGuy g).coll = f.coll := rfl
@[simp] theorem Fab.modGuy_tile (f : Fab) (g : Guy → Guy) (u : Nat) :
    (f.modGuy g).tile u = f.tile u := rfl
@[simp] theorem Fab.modGuy_copyOf (f : Fab) (g : Guy → Guy) (u : Nat) :
    (f.modGuy g).copyOf u = f.copyOf u := rfl
@[simp] theorem Fab.modGuy_lantern (f : Fab) (g : Guy → Guy) (u : Nat) :
    (f.modGuy g).lantern u = f.lantern u := rfl
@[simp] theorem Fab.modGuy_die (f : Fab) (g : Guy → Guy) (u : Nat) :
    (f.modGuy g).die u = f.die u := rfl
@[simp] theorem Fab.modGuy_spOf (f : Fab) (g : Guy → Guy) (u : Nat) :
    (f.modGuy g).spOf u = f.spOf u := rfl
@[simp] theorem Fab.modGuy_cmnOf (f : Fab) (g : Guy → Guy) (u : Nat) :
    (f.modGuy g).cmnOf u = f.cmnOf u := rfl
@[simp] theorem Fab.modGuy_skOf (f : Fab) (g : Guy → Guy) (u : Nat) :
    (f.modGuy g).skOf u = f.skOf u := rfl
@[simp] theorem Fab.modGuy_o (f : Fab) (g : Guy → Guy) (a : Scope) (b e j : Nat) :
    (f.modGuy g).o a b e j = f.o a b e j := rfl
@[simp] theorem Fab.modGuy_fam (f : Fab) (g : Guy → Guy) (u : Nat) :
    (f.modGuy g).fam u = f.fam u := rfl
@[simp] theorem Fab.modGuy_xs (f : Fab) (g : Guy → Guy) (a b : Nat) :
    (f.modGuy g).xs a b = f.xs a b := rfl
@[simp] theorem Fab.modGuy_sideOf (f : Fab) (g : Guy → Guy) (u : Nat) :
    (f.modGuy g).sideOf u = f.sideOf u := rfl
@[simp] theorem Fab.modGuy_mbxOf (f : Fab) (g : Guy → Guy) (u : Nat) :
    (f.modGuy g).mbxOf u = f.mbxOf u := rfl
@[simp] theorem Fab.modGuy_cdcOf (f : Fab) (g : Guy → Guy) (u : Cdc) :
    (f.modGuy g).cdcOf u = f.cdcOf u := rfl

/-! ### modColl -/

@[simp] theorem Fab.modColl_tiles (f : Fab) (g : Coll → Coll) :
    (f.modColl g).tiles = f.tiles := rfl
@[simp] theorem Fab.modColl_objs (f : Fab) (g : Coll → Coll) :
    (f.modColl g).objs = f.objs := rfl
@[simp] theorem Fab.modColl_flt (f : Fab) (g : Coll → Coll) :
    (f.modColl g).flt = f.flt := rfl
@[simp] theorem Fab.modColl_bind (f : Fab) (g : Coll → Coll) :
    (f.modColl g).bind = f.bind := rfl
@[simp] theorem Fab.modColl_copy (f : Fab) (g : Coll → Coll) :
    (f.modColl g).copy = f.copy := rfl
@[simp] theorem Fab.modColl_lan (f : Fab) (g : Coll → Coll) :
    (f.modColl g).lan = f.lan := rfl
@[simp] theorem Fab.modColl_quarter (f : Fab) (g : Coll → Coll) :
    (f.modColl g).quarter = f.quarter := rfl
@[simp] theorem Fab.modColl_cross (f : Fab) (g : Coll → Coll) :
    (f.modColl g).cross = f.cross := rfl
@[simp] theorem Fab.modColl_side (f : Fab) (g : Coll → Coll) :
    (f.modColl g).side = f.side := rfl
@[simp] theorem Fab.modColl_sp (f : Fab) (g : Coll → Coll) :
    (f.modColl g).sp = f.sp := rfl
@[simp] theorem Fab.modColl_cmn (f : Fab) (g : Coll → Coll) :
    (f.modColl g).cmn = f.cmn := rfl
@[simp] theorem Fab.modColl_sk (f : Fab) (g : Coll → Coll) :
    (f.modColl g).sk = f.sk := rfl
@[simp] theorem Fab.modColl_answers (f : Fab) (g : Coll → Coll) :
    (f.modColl g).answers = f.answers := rfl
@[simp] theorem Fab.modColl_nonce (f : Fab) (g : Coll → Coll) :
    (f.modColl g).nonce = f.nonce := rfl
@[simp] theorem Fab.modColl_dies (f : Fab) (g : Coll → Coll) :
    (f.modColl g).dies = f.dies := rfl
@[simp] theorem Fab.modColl_repair (f : Fab) (g : Coll → Coll) :
    (f.modColl g).repair = f.repair := rfl
@[simp] theorem Fab.modColl_cdc (f : Fab) (g : Coll → Coll) :
    (f.modColl g).cdc = f.cdc := rfl
@[simp] theorem Fab.modColl_boot (f : Fab) (g : Coll → Coll) :
    (f.modColl g).boot = f.boot := rfl
@[simp] theorem Fab.modColl_bootAt (f : Fab) (g : Coll → Coll) :
    (f.modColl g).bootAt = f.bootAt := rfl
@[simp] theorem Fab.modColl_modeDue (f : Fab) (g : Coll → Coll) :
    (f.modColl g).modeDue = f.modeDue := rfl
@[simp] theorem Fab.modColl_defaultMode (f : Fab) (g : Coll → Coll) :
    (f.modColl g).defaultMode = f.defaultMode := rfl
@[simp] theorem Fab.modColl_guyBreaks (f : Fab) (g : Coll → Coll) :
    (f.modColl g).guyBreaks = f.guyBreaks := rfl
@[simp] theorem Fab.modColl_coldLow (f : Fab) (g : Coll → Coll) :
    (f.modColl g).coldLow = f.coldLow := rfl
@[simp] theorem Fab.modColl_warmLow (f : Fab) (g : Coll → Coll) :
    (f.modColl g).warmLow = f.warmLow := rfl
@[simp] theorem Fab.modColl_fresh (f : Fab) (g : Coll → Coll) :
    (f.modColl g).fresh = f.fresh := rfl
@[simp] theorem Fab.modColl_guy (f : Fab) (g : Coll → Coll) :
    (f.modColl g).guy = f.guy := rfl
@[simp] theorem Fab.modColl_mbx (f : Fab) (g : Coll → Coll) :
    (f.modColl g).mbx = f.mbx := rfl
@[simp] theorem Fab.modColl_map (f : Fab) (g : Coll → Coll) :
    (f.modColl g).map = f.map := rfl
@[simp] theorem Fab.modColl_xb (f : Fab) (g : Coll → Coll) :
    (f.modColl g).xb = f.xb := rfl
@[simp] theorem Fab.modColl_otp (f : Fab) (g : Coll → Coll) :
    (f.modColl g).otp = f.otp := rfl
@[simp] theorem Fab.modColl_ve (f : Fab) (g : Coll → Coll) :
    (f.modColl g).ve = f.ve := rfl
@[simp] theorem Fab.modColl_wd (f : Fab) (g : Coll → Coll) :
    (f.modColl g).wd = f.wd := rfl
@[simp] theorem Fab.modColl_rsts (f : Fab) (g : Coll → Coll) :
    (f.modColl g).rsts = f.rsts := rfl
@[simp] theorem Fab.modColl_tile (f : Fab) (g : Coll → Coll) (u : Nat) :
    (f.modColl g).tile u = f.tile u := rfl
@[simp] theorem Fab.modColl_copyOf (f : Fab) (g : Coll → Coll) (u : Nat) :
    (f.modColl g).copyOf u = f.copyOf u := rfl
@[simp] theorem Fab.modColl_lantern (f : Fab) (g : Coll → Coll) (u : Nat) :
    (f.modColl g).lantern u = f.lantern u := rfl
@[simp] theorem Fab.modColl_die (f : Fab) (g : Coll → Coll) (u : Nat) :
    (f.modColl g).die u = f.die u := rfl
@[simp] theorem Fab.modColl_spOf (f : Fab) (g : Coll → Coll) (u : Nat) :
    (f.modColl g).spOf u = f.spOf u := rfl
@[simp] theorem Fab.modColl_cmnOf (f : Fab) (g : Coll → Coll) (u : Nat) :
    (f.modColl g).cmnOf u = f.cmnOf u := rfl
@[simp] theorem Fab.modColl_skOf (f : Fab) (g : Coll → Coll) (u : Nat) :
    (f.modColl g).skOf u = f.skOf u := rfl
@[simp] theorem Fab.modColl_o (f : Fab) (g : Coll → Coll) (a : Scope) (b e j : Nat) :
    (f.modColl g).o a b e j = f.o a b e j := rfl
@[simp] theorem Fab.modColl_fam (f : Fab) (g : Coll → Coll) (u : Nat) :
    (f.modColl g).fam u = f.fam u := rfl
@[simp] theorem Fab.modColl_xs (f : Fab) (g : Coll → Coll) (a b : Nat) :
    (f.modColl g).xs a b = f.xs a b := rfl
@[simp] theorem Fab.modColl_sideOf (f : Fab) (g : Coll → Coll) (u : Nat) :
    (f.modColl g).sideOf u = f.sideOf u := rfl
@[simp] theorem Fab.modColl_mbxOf (f : Fab) (g : Coll → Coll) (u : Nat) :
    (f.modColl g).mbxOf u = f.mbxOf u := rfl
@[simp] theorem Fab.modColl_cdcOf (f : Fab) (g : Coll → Coll) (u : Cdc) :
    (f.modColl g).cdcOf u = f.cdcOf u := rfl

/-! ### modMbx -/

@[simp] theorem Fab.modMbx_tiles (f : Fab) (m : Nat) (g : Mbx → Mbx) :
    (f.modMbx m g).tiles = f.tiles := rfl
@[simp] theorem Fab.modMbx_objs (f : Fab) (m : Nat) (g : Mbx → Mbx) :
    (f.modMbx m g).objs = f.objs := rfl
@[simp] theorem Fab.modMbx_flt (f : Fab) (m : Nat) (g : Mbx → Mbx) :
    (f.modMbx m g).flt = f.flt := rfl
@[simp] theorem Fab.modMbx_bind (f : Fab) (m : Nat) (g : Mbx → Mbx) :
    (f.modMbx m g).bind = f.bind := rfl
@[simp] theorem Fab.modMbx_copy (f : Fab) (m : Nat) (g : Mbx → Mbx) :
    (f.modMbx m g).copy = f.copy := rfl
@[simp] theorem Fab.modMbx_lan (f : Fab) (m : Nat) (g : Mbx → Mbx) :
    (f.modMbx m g).lan = f.lan := rfl
@[simp] theorem Fab.modMbx_quarter (f : Fab) (m : Nat) (g : Mbx → Mbx) :
    (f.modMbx m g).quarter = f.quarter := rfl
@[simp] theorem Fab.modMbx_cross (f : Fab) (m : Nat) (g : Mbx → Mbx) :
    (f.modMbx m g).cross = f.cross := rfl
@[simp] theorem Fab.modMbx_side (f : Fab) (m : Nat) (g : Mbx → Mbx) :
    (f.modMbx m g).side = f.side := rfl
@[simp] theorem Fab.modMbx_sp (f : Fab) (m : Nat) (g : Mbx → Mbx) :
    (f.modMbx m g).sp = f.sp := rfl
@[simp] theorem Fab.modMbx_cmn (f : Fab) (m : Nat) (g : Mbx → Mbx) :
    (f.modMbx m g).cmn = f.cmn := rfl
@[simp] theorem Fab.modMbx_sk (f : Fab) (m : Nat) (g : Mbx → Mbx) :
    (f.modMbx m g).sk = f.sk := rfl
@[simp] theorem Fab.modMbx_answers (f : Fab) (m : Nat) (g : Mbx → Mbx) :
    (f.modMbx m g).answers = f.answers := rfl
@[simp] theorem Fab.modMbx_nonce (f : Fab) (m : Nat) (g : Mbx → Mbx) :
    (f.modMbx m g).nonce = f.nonce := rfl
@[simp] theorem Fab.modMbx_dies (f : Fab) (m : Nat) (g : Mbx → Mbx) :
    (f.modMbx m g).dies = f.dies := rfl
@[simp] theorem Fab.modMbx_repair (f : Fab) (m : Nat) (g : Mbx → Mbx) :
    (f.modMbx m g).repair = f.repair := rfl
@[simp] theorem Fab.modMbx_cdc (f : Fab) (m : Nat) (g : Mbx → Mbx) :
    (f.modMbx m g).cdc = f.cdc := rfl
@[simp] theorem Fab.modMbx_boot (f : Fab) (m : Nat) (g : Mbx → Mbx) :
    (f.modMbx m g).boot = f.boot := rfl
@[simp] theorem Fab.modMbx_bootAt (f : Fab) (m : Nat) (g : Mbx → Mbx) :
    (f.modMbx m g).bootAt = f.bootAt := rfl
@[simp] theorem Fab.modMbx_modeDue (f : Fab) (m : Nat) (g : Mbx → Mbx) :
    (f.modMbx m g).modeDue = f.modeDue := rfl
@[simp] theorem Fab.modMbx_defaultMode (f : Fab) (m : Nat) (g : Mbx → Mbx) :
    (f.modMbx m g).defaultMode = f.defaultMode := rfl
@[simp] theorem Fab.modMbx_guyBreaks (f : Fab) (m : Nat) (g : Mbx → Mbx) :
    (f.modMbx m g).guyBreaks = f.guyBreaks := rfl
@[simp] theorem Fab.modMbx_coldLow (f : Fab) (m : Nat) (g : Mbx → Mbx) :
    (f.modMbx m g).coldLow = f.coldLow := rfl
@[simp] theorem Fab.modMbx_warmLow (f : Fab) (m : Nat) (g : Mbx → Mbx) :
    (f.modMbx m g).warmLow = f.warmLow := rfl
@[simp] theorem Fab.modMbx_fresh (f : Fab) (m : Nat) (g : Mbx → Mbx) :
    (f.modMbx m g).fresh = f.fresh := rfl
@[simp] theorem Fab.modMbx_guy (f : Fab) (m : Nat) (g : Mbx → Mbx) :
    (f.modMbx m g).guy = f.guy := rfl
@[simp] theorem Fab.modMbx_map (f : Fab) (m : Nat) (g : Mbx → Mbx) :
    (f.modMbx m g).map = f.map := rfl
@[simp] theorem Fab.modMbx_xb (f : Fab) (m : Nat) (g : Mbx → Mbx) :
    (f.modMbx m g).xb = f.xb := rfl
@[simp] theorem Fab.modMbx_otp (f : Fab) (m : Nat) (g : Mbx → Mbx) :
    (f.modMbx m g).otp = f.otp := rfl
@[simp] theorem Fab.modMbx_ve (f : Fab) (m : Nat) (g : Mbx → Mbx) :
    (f.modMbx m g).ve = f.ve := rfl
@[simp] theorem Fab.modMbx_wd (f : Fab) (m : Nat) (g : Mbx → Mbx) :
    (f.modMbx m g).wd = f.wd := rfl
@[simp] theorem Fab.modMbx_rsts (f : Fab) (m : Nat) (g : Mbx → Mbx) :
    (f.modMbx m g).rsts = f.rsts := rfl
@[simp] theorem Fab.modMbx_coll (f : Fab) (m : Nat) (g : Mbx → Mbx) :
    (f.modMbx m g).coll = f.coll := rfl
@[simp] theorem Fab.modMbx_tile (f : Fab) (m : Nat) (g : Mbx → Mbx) (u : Nat) :
    (f.modMbx m g).tile u = f.tile u := rfl
@[simp] theorem Fab.modMbx_copyOf (f : Fab) (m : Nat) (g : Mbx → Mbx) (u : Nat) :
    (f.modMbx m g).copyOf u = f.copyOf u := rfl
@[simp] theorem Fab.modMbx_lantern (f : Fab) (m : Nat) (g : Mbx → Mbx) (u : Nat) :
    (f.modMbx m g).lantern u = f.lantern u := rfl
@[simp] theorem Fab.modMbx_die (f : Fab) (m : Nat) (g : Mbx → Mbx) (u : Nat) :
    (f.modMbx m g).die u = f.die u := rfl
@[simp] theorem Fab.modMbx_spOf (f : Fab) (m : Nat) (g : Mbx → Mbx) (u : Nat) :
    (f.modMbx m g).spOf u = f.spOf u := rfl
@[simp] theorem Fab.modMbx_cmnOf (f : Fab) (m : Nat) (g : Mbx → Mbx) (u : Nat) :
    (f.modMbx m g).cmnOf u = f.cmnOf u := rfl
@[simp] theorem Fab.modMbx_skOf (f : Fab) (m : Nat) (g : Mbx → Mbx) (u : Nat) :
    (f.modMbx m g).skOf u = f.skOf u := rfl
@[simp] theorem Fab.modMbx_o (f : Fab) (m : Nat) (g : Mbx → Mbx) (a : Scope) (b e j : Nat) :
    (f.modMbx m g).o a b e j = f.o a b e j := rfl
@[simp] theorem Fab.modMbx_fam (f : Fab) (m : Nat) (g : Mbx → Mbx) (u : Nat) :
    (f.modMbx m g).fam u = f.fam u := rfl
@[simp] theorem Fab.modMbx_xs (f : Fab) (m : Nat) (g : Mbx → Mbx) (a b : Nat) :
    (f.modMbx m g).xs a b = f.xs a b := rfl
@[simp] theorem Fab.modMbx_sideOf (f : Fab) (m : Nat) (g : Mbx → Mbx) (u : Nat) :
    (f.modMbx m g).sideOf u = f.sideOf u := rfl
@[simp] theorem Fab.modMbx_cdcOf (f : Fab) (m : Nat) (g : Mbx → Mbx) (u : Cdc) :
    (f.modMbx m g).cdcOf u = f.cdcOf u := rfl

/-! ### modMap -/

@[simp] theorem Fab.modMap_tiles (f : Fab) (g : MapRegs → MapRegs) :
    (f.modMap g).tiles = f.tiles := rfl
@[simp] theorem Fab.modMap_objs (f : Fab) (g : MapRegs → MapRegs) :
    (f.modMap g).objs = f.objs := rfl
@[simp] theorem Fab.modMap_flt (f : Fab) (g : MapRegs → MapRegs) :
    (f.modMap g).flt = f.flt := rfl
@[simp] theorem Fab.modMap_bind (f : Fab) (g : MapRegs → MapRegs) :
    (f.modMap g).bind = f.bind := rfl
@[simp] theorem Fab.modMap_copy (f : Fab) (g : MapRegs → MapRegs) :
    (f.modMap g).copy = f.copy := rfl
@[simp] theorem Fab.modMap_lan (f : Fab) (g : MapRegs → MapRegs) :
    (f.modMap g).lan = f.lan := rfl
@[simp] theorem Fab.modMap_quarter (f : Fab) (g : MapRegs → MapRegs) :
    (f.modMap g).quarter = f.quarter := rfl
@[simp] theorem Fab.modMap_cross (f : Fab) (g : MapRegs → MapRegs) :
    (f.modMap g).cross = f.cross := rfl
@[simp] theorem Fab.modMap_side (f : Fab) (g : MapRegs → MapRegs) :
    (f.modMap g).side = f.side := rfl
@[simp] theorem Fab.modMap_sp (f : Fab) (g : MapRegs → MapRegs) :
    (f.modMap g).sp = f.sp := rfl
@[simp] theorem Fab.modMap_cmn (f : Fab) (g : MapRegs → MapRegs) :
    (f.modMap g).cmn = f.cmn := rfl
@[simp] theorem Fab.modMap_sk (f : Fab) (g : MapRegs → MapRegs) :
    (f.modMap g).sk = f.sk := rfl
@[simp] theorem Fab.modMap_answers (f : Fab) (g : MapRegs → MapRegs) :
    (f.modMap g).answers = f.answers := rfl
@[simp] theorem Fab.modMap_nonce (f : Fab) (g : MapRegs → MapRegs) :
    (f.modMap g).nonce = f.nonce := rfl
@[simp] theorem Fab.modMap_dies (f : Fab) (g : MapRegs → MapRegs) :
    (f.modMap g).dies = f.dies := rfl
@[simp] theorem Fab.modMap_repair (f : Fab) (g : MapRegs → MapRegs) :
    (f.modMap g).repair = f.repair := rfl
@[simp] theorem Fab.modMap_cdc (f : Fab) (g : MapRegs → MapRegs) :
    (f.modMap g).cdc = f.cdc := rfl
@[simp] theorem Fab.modMap_boot (f : Fab) (g : MapRegs → MapRegs) :
    (f.modMap g).boot = f.boot := rfl
@[simp] theorem Fab.modMap_bootAt (f : Fab) (g : MapRegs → MapRegs) :
    (f.modMap g).bootAt = f.bootAt := rfl
@[simp] theorem Fab.modMap_modeDue (f : Fab) (g : MapRegs → MapRegs) :
    (f.modMap g).modeDue = f.modeDue := rfl
@[simp] theorem Fab.modMap_defaultMode (f : Fab) (g : MapRegs → MapRegs) :
    (f.modMap g).defaultMode = f.defaultMode := rfl
@[simp] theorem Fab.modMap_guyBreaks (f : Fab) (g : MapRegs → MapRegs) :
    (f.modMap g).guyBreaks = f.guyBreaks := rfl
@[simp] theorem Fab.modMap_coldLow (f : Fab) (g : MapRegs → MapRegs) :
    (f.modMap g).coldLow = f.coldLow := rfl
@[simp] theorem Fab.modMap_warmLow (f : Fab) (g : MapRegs → MapRegs) :
    (f.modMap g).warmLow = f.warmLow := rfl
@[simp] theorem Fab.modMap_fresh (f : Fab) (g : MapRegs → MapRegs) :
    (f.modMap g).fresh = f.fresh := rfl
@[simp] theorem Fab.modMap_guy (f : Fab) (g : MapRegs → MapRegs) :
    (f.modMap g).guy = f.guy := rfl
@[simp] theorem Fab.modMap_mbx (f : Fab) (g : MapRegs → MapRegs) :
    (f.modMap g).mbx = f.mbx := rfl
@[simp] theorem Fab.modMap_xb (f : Fab) (g : MapRegs → MapRegs) :
    (f.modMap g).xb = f.xb := rfl
@[simp] theorem Fab.modMap_otp (f : Fab) (g : MapRegs → MapRegs) :
    (f.modMap g).otp = f.otp := rfl
@[simp] theorem Fab.modMap_ve (f : Fab) (g : MapRegs → MapRegs) :
    (f.modMap g).ve = f.ve := rfl
@[simp] theorem Fab.modMap_wd (f : Fab) (g : MapRegs → MapRegs) :
    (f.modMap g).wd = f.wd := rfl
@[simp] theorem Fab.modMap_rsts (f : Fab) (g : MapRegs → MapRegs) :
    (f.modMap g).rsts = f.rsts := rfl
@[simp] theorem Fab.modMap_coll (f : Fab) (g : MapRegs → MapRegs) :
    (f.modMap g).coll = f.coll := rfl
@[simp] theorem Fab.modMap_tile (f : Fab) (g : MapRegs → MapRegs) (u : Nat) :
    (f.modMap g).tile u = f.tile u := rfl
@[simp] theorem Fab.modMap_copyOf (f : Fab) (g : MapRegs → MapRegs) (u : Nat) :
    (f.modMap g).copyOf u = f.copyOf u := rfl
@[simp] theorem Fab.modMap_lantern (f : Fab) (g : MapRegs → MapRegs) (u : Nat) :
    (f.modMap g).lantern u = f.lantern u := rfl
@[simp] theorem Fab.modMap_die (f : Fab) (g : MapRegs → MapRegs) (u : Nat) :
    (f.modMap g).die u = f.die u := rfl
@[simp] theorem Fab.modMap_spOf (f : Fab) (g : MapRegs → MapRegs) (u : Nat) :
    (f.modMap g).spOf u = f.spOf u := rfl
@[simp] theorem Fab.modMap_cmnOf (f : Fab) (g : MapRegs → MapRegs) (u : Nat) :
    (f.modMap g).cmnOf u = f.cmnOf u := rfl
@[simp] theorem Fab.modMap_skOf (f : Fab) (g : MapRegs → MapRegs) (u : Nat) :
    (f.modMap g).skOf u = f.skOf u := rfl
@[simp] theorem Fab.modMap_o (f : Fab) (g : MapRegs → MapRegs) (a : Scope) (b e j : Nat) :
    (f.modMap g).o a b e j = f.o a b e j := rfl
@[simp] theorem Fab.modMap_fam (f : Fab) (g : MapRegs → MapRegs) (u : Nat) :
    (f.modMap g).fam u = f.fam u := rfl
@[simp] theorem Fab.modMap_xs (f : Fab) (g : MapRegs → MapRegs) (a b : Nat) :
    (f.modMap g).xs a b = f.xs a b := rfl
@[simp] theorem Fab.modMap_sideOf (f : Fab) (g : MapRegs → MapRegs) (u : Nat) :
    (f.modMap g).sideOf u = f.sideOf u := rfl
@[simp] theorem Fab.modMap_mbxOf (f : Fab) (g : MapRegs → MapRegs) (u : Nat) :
    (f.modMap g).mbxOf u = f.mbxOf u := rfl
@[simp] theorem Fab.modMap_cdcOf (f : Fab) (g : MapRegs → MapRegs) (u : Cdc) :
    (f.modMap g).cdcOf u = f.cdcOf u := rfl

/-! ### modWd -/

@[simp] theorem Fab.modWd_tiles (f : Fab) (g : Warden → Warden) :
    (f.modWd g).tiles = f.tiles := rfl
@[simp] theorem Fab.modWd_objs (f : Fab) (g : Warden → Warden) :
    (f.modWd g).objs = f.objs := rfl
@[simp] theorem Fab.modWd_flt (f : Fab) (g : Warden → Warden) :
    (f.modWd g).flt = f.flt := rfl
@[simp] theorem Fab.modWd_bind (f : Fab) (g : Warden → Warden) :
    (f.modWd g).bind = f.bind := rfl
@[simp] theorem Fab.modWd_copy (f : Fab) (g : Warden → Warden) :
    (f.modWd g).copy = f.copy := rfl
@[simp] theorem Fab.modWd_lan (f : Fab) (g : Warden → Warden) :
    (f.modWd g).lan = f.lan := rfl
@[simp] theorem Fab.modWd_quarter (f : Fab) (g : Warden → Warden) :
    (f.modWd g).quarter = f.quarter := rfl
@[simp] theorem Fab.modWd_cross (f : Fab) (g : Warden → Warden) :
    (f.modWd g).cross = f.cross := rfl
@[simp] theorem Fab.modWd_side (f : Fab) (g : Warden → Warden) :
    (f.modWd g).side = f.side := rfl
@[simp] theorem Fab.modWd_sp (f : Fab) (g : Warden → Warden) :
    (f.modWd g).sp = f.sp := rfl
@[simp] theorem Fab.modWd_cmn (f : Fab) (g : Warden → Warden) :
    (f.modWd g).cmn = f.cmn := rfl
@[simp] theorem Fab.modWd_sk (f : Fab) (g : Warden → Warden) :
    (f.modWd g).sk = f.sk := rfl
@[simp] theorem Fab.modWd_answers (f : Fab) (g : Warden → Warden) :
    (f.modWd g).answers = f.answers := rfl
@[simp] theorem Fab.modWd_nonce (f : Fab) (g : Warden → Warden) :
    (f.modWd g).nonce = f.nonce := rfl
@[simp] theorem Fab.modWd_dies (f : Fab) (g : Warden → Warden) :
    (f.modWd g).dies = f.dies := rfl
@[simp] theorem Fab.modWd_repair (f : Fab) (g : Warden → Warden) :
    (f.modWd g).repair = f.repair := rfl
@[simp] theorem Fab.modWd_cdc (f : Fab) (g : Warden → Warden) :
    (f.modWd g).cdc = f.cdc := rfl
@[simp] theorem Fab.modWd_boot (f : Fab) (g : Warden → Warden) :
    (f.modWd g).boot = f.boot := rfl
@[simp] theorem Fab.modWd_bootAt (f : Fab) (g : Warden → Warden) :
    (f.modWd g).bootAt = f.bootAt := rfl
@[simp] theorem Fab.modWd_modeDue (f : Fab) (g : Warden → Warden) :
    (f.modWd g).modeDue = f.modeDue := rfl
@[simp] theorem Fab.modWd_defaultMode (f : Fab) (g : Warden → Warden) :
    (f.modWd g).defaultMode = f.defaultMode := rfl
@[simp] theorem Fab.modWd_guyBreaks (f : Fab) (g : Warden → Warden) :
    (f.modWd g).guyBreaks = f.guyBreaks := rfl
@[simp] theorem Fab.modWd_coldLow (f : Fab) (g : Warden → Warden) :
    (f.modWd g).coldLow = f.coldLow := rfl
@[simp] theorem Fab.modWd_warmLow (f : Fab) (g : Warden → Warden) :
    (f.modWd g).warmLow = f.warmLow := rfl
@[simp] theorem Fab.modWd_fresh (f : Fab) (g : Warden → Warden) :
    (f.modWd g).fresh = f.fresh := rfl
@[simp] theorem Fab.modWd_guy (f : Fab) (g : Warden → Warden) :
    (f.modWd g).guy = f.guy := rfl
@[simp] theorem Fab.modWd_mbx (f : Fab) (g : Warden → Warden) :
    (f.modWd g).mbx = f.mbx := rfl
@[simp] theorem Fab.modWd_map (f : Fab) (g : Warden → Warden) :
    (f.modWd g).map = f.map := rfl
@[simp] theorem Fab.modWd_xb (f : Fab) (g : Warden → Warden) :
    (f.modWd g).xb = f.xb := rfl
@[simp] theorem Fab.modWd_otp (f : Fab) (g : Warden → Warden) :
    (f.modWd g).otp = f.otp := rfl
@[simp] theorem Fab.modWd_ve (f : Fab) (g : Warden → Warden) :
    (f.modWd g).ve = f.ve := rfl
@[simp] theorem Fab.modWd_rsts (f : Fab) (g : Warden → Warden) :
    (f.modWd g).rsts = f.rsts := rfl
@[simp] theorem Fab.modWd_coll (f : Fab) (g : Warden → Warden) :
    (f.modWd g).coll = f.coll := rfl
@[simp] theorem Fab.modWd_tile (f : Fab) (g : Warden → Warden) (u : Nat) :
    (f.modWd g).tile u = f.tile u := rfl
@[simp] theorem Fab.modWd_copyOf (f : Fab) (g : Warden → Warden) (u : Nat) :
    (f.modWd g).copyOf u = f.copyOf u := rfl
@[simp] theorem Fab.modWd_lantern (f : Fab) (g : Warden → Warden) (u : Nat) :
    (f.modWd g).lantern u = f.lantern u := rfl
@[simp] theorem Fab.modWd_die (f : Fab) (g : Warden → Warden) (u : Nat) :
    (f.modWd g).die u = f.die u := rfl
@[simp] theorem Fab.modWd_spOf (f : Fab) (g : Warden → Warden) (u : Nat) :
    (f.modWd g).spOf u = f.spOf u := rfl
@[simp] theorem Fab.modWd_cmnOf (f : Fab) (g : Warden → Warden) (u : Nat) :
    (f.modWd g).cmnOf u = f.cmnOf u := rfl
@[simp] theorem Fab.modWd_skOf (f : Fab) (g : Warden → Warden) (u : Nat) :
    (f.modWd g).skOf u = f.skOf u := rfl
@[simp] theorem Fab.modWd_o (f : Fab) (g : Warden → Warden) (a : Scope) (b e j : Nat) :
    (f.modWd g).o a b e j = f.o a b e j := rfl
@[simp] theorem Fab.modWd_fam (f : Fab) (g : Warden → Warden) (u : Nat) :
    (f.modWd g).fam u = f.fam u := rfl
@[simp] theorem Fab.modWd_xs (f : Fab) (g : Warden → Warden) (a b : Nat) :
    (f.modWd g).xs a b = f.xs a b := rfl
@[simp] theorem Fab.modWd_sideOf (f : Fab) (g : Warden → Warden) (u : Nat) :
    (f.modWd g).sideOf u = f.sideOf u := rfl
@[simp] theorem Fab.modWd_mbxOf (f : Fab) (g : Warden → Warden) (u : Nat) :
    (f.modWd g).mbxOf u = f.mbxOf u := rfl
@[simp] theorem Fab.modWd_cdcOf (f : Fab) (g : Warden → Warden) (u : Cdc) :
    (f.modWd g).cdcOf u = f.cdcOf u := rfl

/-! ### modOtp -/

@[simp] theorem Fab.modOtp_tiles (f : Fab) (g : Otp → Otp) :
    (f.modOtp g).tiles = f.tiles := rfl
@[simp] theorem Fab.modOtp_objs (f : Fab) (g : Otp → Otp) :
    (f.modOtp g).objs = f.objs := rfl
@[simp] theorem Fab.modOtp_flt (f : Fab) (g : Otp → Otp) :
    (f.modOtp g).flt = f.flt := rfl
@[simp] theorem Fab.modOtp_bind (f : Fab) (g : Otp → Otp) :
    (f.modOtp g).bind = f.bind := rfl
@[simp] theorem Fab.modOtp_copy (f : Fab) (g : Otp → Otp) :
    (f.modOtp g).copy = f.copy := rfl
@[simp] theorem Fab.modOtp_lan (f : Fab) (g : Otp → Otp) :
    (f.modOtp g).lan = f.lan := rfl
@[simp] theorem Fab.modOtp_quarter (f : Fab) (g : Otp → Otp) :
    (f.modOtp g).quarter = f.quarter := rfl
@[simp] theorem Fab.modOtp_cross (f : Fab) (g : Otp → Otp) :
    (f.modOtp g).cross = f.cross := rfl
@[simp] theorem Fab.modOtp_side (f : Fab) (g : Otp → Otp) :
    (f.modOtp g).side = f.side := rfl
@[simp] theorem Fab.modOtp_sp (f : Fab) (g : Otp → Otp) :
    (f.modOtp g).sp = f.sp := rfl
@[simp] theorem Fab.modOtp_cmn (f : Fab) (g : Otp → Otp) :
    (f.modOtp g).cmn = f.cmn := rfl
@[simp] theorem Fab.modOtp_sk (f : Fab) (g : Otp → Otp) :
    (f.modOtp g).sk = f.sk := rfl
@[simp] theorem Fab.modOtp_answers (f : Fab) (g : Otp → Otp) :
    (f.modOtp g).answers = f.answers := rfl
@[simp] theorem Fab.modOtp_nonce (f : Fab) (g : Otp → Otp) :
    (f.modOtp g).nonce = f.nonce := rfl
@[simp] theorem Fab.modOtp_dies (f : Fab) (g : Otp → Otp) :
    (f.modOtp g).dies = f.dies := rfl
@[simp] theorem Fab.modOtp_repair (f : Fab) (g : Otp → Otp) :
    (f.modOtp g).repair = f.repair := rfl
@[simp] theorem Fab.modOtp_cdc (f : Fab) (g : Otp → Otp) :
    (f.modOtp g).cdc = f.cdc := rfl
@[simp] theorem Fab.modOtp_boot (f : Fab) (g : Otp → Otp) :
    (f.modOtp g).boot = f.boot := rfl
@[simp] theorem Fab.modOtp_bootAt (f : Fab) (g : Otp → Otp) :
    (f.modOtp g).bootAt = f.bootAt := rfl
@[simp] theorem Fab.modOtp_modeDue (f : Fab) (g : Otp → Otp) :
    (f.modOtp g).modeDue = f.modeDue := rfl
@[simp] theorem Fab.modOtp_defaultMode (f : Fab) (g : Otp → Otp) :
    (f.modOtp g).defaultMode = f.defaultMode := rfl
@[simp] theorem Fab.modOtp_guyBreaks (f : Fab) (g : Otp → Otp) :
    (f.modOtp g).guyBreaks = f.guyBreaks := rfl
@[simp] theorem Fab.modOtp_coldLow (f : Fab) (g : Otp → Otp) :
    (f.modOtp g).coldLow = f.coldLow := rfl
@[simp] theorem Fab.modOtp_warmLow (f : Fab) (g : Otp → Otp) :
    (f.modOtp g).warmLow = f.warmLow := rfl
@[simp] theorem Fab.modOtp_fresh (f : Fab) (g : Otp → Otp) :
    (f.modOtp g).fresh = f.fresh := rfl
@[simp] theorem Fab.modOtp_guy (f : Fab) (g : Otp → Otp) :
    (f.modOtp g).guy = f.guy := rfl
@[simp] theorem Fab.modOtp_mbx (f : Fab) (g : Otp → Otp) :
    (f.modOtp g).mbx = f.mbx := rfl
@[simp] theorem Fab.modOtp_map (f : Fab) (g : Otp → Otp) :
    (f.modOtp g).map = f.map := rfl
@[simp] theorem Fab.modOtp_xb (f : Fab) (g : Otp → Otp) :
    (f.modOtp g).xb = f.xb := rfl
@[simp] theorem Fab.modOtp_ve (f : Fab) (g : Otp → Otp) :
    (f.modOtp g).ve = f.ve := rfl
@[simp] theorem Fab.modOtp_wd (f : Fab) (g : Otp → Otp) :
    (f.modOtp g).wd = f.wd := rfl
@[simp] theorem Fab.modOtp_rsts (f : Fab) (g : Otp → Otp) :
    (f.modOtp g).rsts = f.rsts := rfl
@[simp] theorem Fab.modOtp_coll (f : Fab) (g : Otp → Otp) :
    (f.modOtp g).coll = f.coll := rfl
@[simp] theorem Fab.modOtp_tile (f : Fab) (g : Otp → Otp) (u : Nat) :
    (f.modOtp g).tile u = f.tile u := rfl
@[simp] theorem Fab.modOtp_copyOf (f : Fab) (g : Otp → Otp) (u : Nat) :
    (f.modOtp g).copyOf u = f.copyOf u := rfl
@[simp] theorem Fab.modOtp_lantern (f : Fab) (g : Otp → Otp) (u : Nat) :
    (f.modOtp g).lantern u = f.lantern u := rfl
@[simp] theorem Fab.modOtp_die (f : Fab) (g : Otp → Otp) (u : Nat) :
    (f.modOtp g).die u = f.die u := rfl
@[simp] theorem Fab.modOtp_spOf (f : Fab) (g : Otp → Otp) (u : Nat) :
    (f.modOtp g).spOf u = f.spOf u := rfl
@[simp] theorem Fab.modOtp_cmnOf (f : Fab) (g : Otp → Otp) (u : Nat) :
    (f.modOtp g).cmnOf u = f.cmnOf u := rfl
@[simp] theorem Fab.modOtp_skOf (f : Fab) (g : Otp → Otp) (u : Nat) :
    (f.modOtp g).skOf u = f.skOf u := rfl
@[simp] theorem Fab.modOtp_o (f : Fab) (g : Otp → Otp) (a : Scope) (b e j : Nat) :
    (f.modOtp g).o a b e j = f.o a b e j := rfl
@[simp] theorem Fab.modOtp_fam (f : Fab) (g : Otp → Otp) (u : Nat) :
    (f.modOtp g).fam u = f.fam u := rfl
@[simp] theorem Fab.modOtp_xs (f : Fab) (g : Otp → Otp) (a b : Nat) :
    (f.modOtp g).xs a b = f.xs a b := rfl
@[simp] theorem Fab.modOtp_sideOf (f : Fab) (g : Otp → Otp) (u : Nat) :
    (f.modOtp g).sideOf u = f.sideOf u := rfl
@[simp] theorem Fab.modOtp_mbxOf (f : Fab) (g : Otp → Otp) (u : Nat) :
    (f.modOtp g).mbxOf u = f.mbxOf u := rfl
@[simp] theorem Fab.modOtp_cdcOf (f : Fab) (g : Otp → Otp) (u : Cdc) :
    (f.modOtp g).cdcOf u = f.cdcOf u := rfl

/-! ### The unit that an update changes, and the others -/

@[simp] theorem Fab.modTile_own (f : Fab) (t : Nat) (g : Tile → Tile) : (f.modTile t g).tile t = g (f.tile t) :=
  SMap.get_set_same _ _ _ _
theorem Fab.modTile_other (f : Fab) (t u : Nat) (g : Tile → Tile) (h : u ≠ t) : (f.modTile t g).tile u = f.tile u :=
  SMap.get_set_other _ _ _ _ _ h
@[simp] theorem Fab.modCopy_own (f : Fab) (d : Nat) (g : FamCopy → FamCopy) : (f.modCopy d g).copyOf d = g (f.copyOf d) :=
  SMap.get_set_same _ _ _ _
theorem Fab.modCopy_other (f : Fab) (d u : Nat) (g : FamCopy → FamCopy) (h : u ≠ d) : (f.modCopy d g).copyOf u = f.copyOf u :=
  SMap.get_set_other _ _ _ _ _ h
@[simp] theorem Fab.modLan_own (f : Fab) (d : Nat) (g : Lantern → Lantern) : (f.modLan d g).lantern d = g (f.lantern d) :=
  SMap.get_set_same _ _ _ _
theorem Fab.modLan_other (f : Fab) (d u : Nat) (g : Lantern → Lantern) (h : u ≠ d) : (f.modLan d g).lantern u = f.lantern u :=
  SMap.get_set_other _ _ _ _ _ h
@[simp] theorem Fab.modDie_own (f : Fab) (d : Nat) (g : Die → Die) : (f.modDie d g).die d = g (f.die d) :=
  SMap.get_set_same _ _ _ _
theorem Fab.modDie_other (f : Fab) (d u : Nat) (g : Die → Die) (h : u ≠ d) : (f.modDie d g).die u = f.die u :=
  SMap.get_set_other _ _ _ _ _ h
@[simp] theorem Fab.modSp_own (f : Fab) (d : Nat) (g : Sp → Sp) : (f.modSp d g).spOf d = g (f.spOf d) :=
  SMap.get_set_same _ _ _ _
theorem Fab.modSp_other (f : Fab) (d u : Nat) (g : Sp → Sp) (h : u ≠ d) : (f.modSp d g).spOf u = f.spOf u :=
  SMap.get_set_other _ _ _ _ _ h
@[simp] theorem Fab.modCmn_own (f : Fab) (n : Nat) (g : Cmn → Cmn) : (f.modCmn n g).cmnOf n = g (f.cmnOf n) :=
  SMap.get_set_same _ _ _ _
theorem Fab.modCmn_other (f : Fab) (n u : Nat) (g : Cmn → Cmn) (h : u ≠ n) : (f.modCmn n g).cmnOf u = f.cmnOf u :=
  SMap.get_set_other _ _ _ _ _ h
@[simp] theorem Fab.modSk_own (f : Fab) (n : Nat) (g : Sk → Sk) : (f.modSk n g).skOf n = g (f.skOf n) :=
  SMap.get_set_same _ _ _ _
theorem Fab.modSk_other (f : Fab) (n u : Nat) (g : Sk → Sk) (h : u ≠ n) : (f.modSk n g).skOf u = f.skOf u :=
  SMap.get_set_other _ _ _ _ _ h
@[simp] theorem Fab.modMbx_own (f : Fab) (m : Nat) (g : Mbx → Mbx) : (f.modMbx m g).mbxOf m = g (f.mbxOf m) :=
  SMap.get_set_same _ _ _ _
theorem Fab.modMbx_other (f : Fab) (m u : Nat) (g : Mbx → Mbx) (h : u ≠ m) : (f.modMbx m g).mbxOf u = f.mbxOf u :=
  SMap.get_set_other _ _ _ _ _ h
@[simp] theorem Fab.modSide_own (f : Fab) (ss : Nat) (g : SeamSide → SeamSide) : (f.modSide ss g).sideOf ss = g (f.sideOf ss) :=
  SMap.get_set_same _ _ _ _
theorem Fab.modSide_other (f : Fab) (ss u : Nat) (g : SeamSide → SeamSide) (h : u ≠ ss) : (f.modSide ss g).sideOf u = f.sideOf u :=
  SMap.get_set_other _ _ _ _ _ h
@[simp] theorem Fab.modFam_own (f : Fab) (k : Nat) (g : Fam → Fam) : (f.modFam k g).fam k = g (f.fam k) :=
  SMap.get_set_same _ _ _ _
theorem Fab.modFam_other (f : Fab) (k u : Nat) (g : Fam → Fam) (h : u ≠ k) : (f.modFam k g).fam u = f.fam u :=
  SMap.get_set_other _ _ _ _ _ h
@[simp] theorem Fab.modNi_own (f : Fab) (t : Nat) (g : Ni → Ni) : (f.modNi t g).ni t = g (f.ni t) := by
  simp [Fab.modNi, Fab.ni]
@[simp] theorem Fab.setO_own (f : Fab) (sc : Scope) (n i k v : Nat) : (f.setO sc n i k v).o sc n i k = v :=
  SMap.get_set_same _ _ _ _
@[simp] theorem Fab.modBind_bind (f : Fab) (g : Bind → Bind) : (f.modBind g).bind = g f.bind := rfl
@[simp] theorem Fab.modGuy_guy (f : Fab) (g : Guy → Guy) : (f.modGuy g).guy = g f.guy := rfl
@[simp] theorem Fab.modColl_coll (f : Fab) (g : Coll → Coll) : (f.modColl g).coll = g f.coll := rfl
@[simp] theorem Fab.modMap_map (f : Fab) (g : MapRegs → MapRegs) : (f.modMap g).map = g f.map := rfl
@[simp] theorem Fab.modWd_wd (f : Fab) (g : Warden → Warden) : (f.modWd g).wd = g f.wd := rfl
@[simp] theorem Fab.modOtp_otp (f : Fab) (g : Otp → Otp) : (f.modOtp g).otp = g f.otp := rfl

/-! ### A crossing between clock domains -/

@[simp] theorem CdcSt.start_pending (c : CdcSt) (l : Nat) : (c.start l).pending = false := rfl
@[simp] theorem CdcSt.start_dirty (c : CdcSt) (l : Nat) : (c.start l).dirty = false := rfl
@[simp] theorem CdcSt.start_req (c : CdcSt) (l : Nat) : (c.start l).req = (!c.req) := rfl
@[simp] theorem CdcSt.start_ack (c : CdcSt) (l : Nat) : (c.start l).ack = c.ack := rfl
@[simp] theorem CdcSt.start_src (c : CdcSt) (l : Nat) : (c.start l).src = c.src := rfl
@[simp] theorem CdcSt.start_h (c : CdcSt) (l : Nat) : (c.start l).h = c.src := rfl
@[simp] theorem CdcSt.start_rx (c : CdcSt) (l : Nat) : (c.start l).rx = c.rx := rfl
@[simp] theorem CdcSt.start_limit (c : CdcSt) (l : Nat) : (c.start l).limit = l := rfl
@[simp] theorem CdcSt.start_fenced (c : CdcSt) (l : Nat) : (c.start l).fenced = c.fenced := rfl
@[simp] theorem CdcSt.start_releasing (c : CdcSt) (l : Nat) : (c.start l).releasing = c.releasing := rfl
@[simp] theorem CdcSt.start_peer (c : CdcSt) (l : Nat) : (c.start l).peer = c.peer := rfl
@[simp] theorem CdcSt.start_ended (c : CdcSt) (l : Nat) : (c.start l).ended = c.ended := rfl
@[simp] theorem CdcSt.taken_pending (c : CdcSt) : c.taken.pending = c.pending := rfl
@[simp] theorem CdcSt.taken_dirty (c : CdcSt) : c.taken.dirty = c.dirty := rfl
@[simp] theorem CdcSt.taken_req (c : CdcSt) : c.taken.req = c.req := rfl
@[simp] theorem CdcSt.taken_ack (c : CdcSt) : c.taken.ack = c.req := rfl
@[simp] theorem CdcSt.taken_src (c : CdcSt) : c.taken.src = c.src := rfl
@[simp] theorem CdcSt.taken_h (c : CdcSt) : c.taken.h = c.h := rfl
@[simp] theorem CdcSt.taken_rx (c : CdcSt) : c.taken.rx = c.h := rfl
@[simp] theorem CdcSt.taken_limit (c : CdcSt) : c.taken.limit = c.limit := rfl
@[simp] theorem CdcSt.taken_fenced (c : CdcSt) : c.taken.fenced = c.fenced := rfl
@[simp] theorem CdcSt.taken_releasing (c : CdcSt) : c.taken.releasing = c.releasing := rfl
@[simp] theorem CdcSt.taken_peer (c : CdcSt) : c.taken.peer = c.peer := rfl
@[simp] theorem CdcSt.taken_ended (c : CdcSt) : c.taken.ended = c.ended := rfl
/-- A handshake that its receiver has taken is in flight no longer. -/
@[simp] theorem CdcSt.taken_busy (c : CdcSt) : c.taken.busy = false := by simp [CdcSt.busy]
/-- A handshake that begins on an idle crossing is in flight. -/
theorem CdcSt.start_busy (c : CdcSt) (l : Nat) (h : c.busy = false) : (c.start l).busy = true := by
  simp only [CdcSt.busy, CdcSt.start_req, CdcSt.start_ack] at *; revert h; cases c.req <;> cases c.ack <;> decide
@[simp] theorem CdcSt.event_fenced (c : CdcSt) (l : Nat) : (c.event l).fenced = c.fenced := by
  unfold CdcSt.event; split <;> rfl
@[simp] theorem CdcSt.value_fenced (c : CdcSt) (l v : Nat) : (c.value l v).fenced = c.fenced := by
  unfold CdcSt.value; split <;> rfl
/-- After the last change the source holds the value that the crossing carries or will carry (R467). -/
@[simp] theorem CdcSt.value_src (c : CdcSt) (l v : Nat) : (c.value l v).src = v := by
  unfold CdcSt.value; split <;> rfl

end Sys2Proof.Machine
end

