-- ==== Sys2Proof/Tests/Slice0.lean ====
section
/-! SUPPORT. Tests: the ill-formed terms that the check of commands refuses, worked examples of the spec, and for each
clause of the statements that has hypotheses a small state with operands that meet all of them. -/

set_option maxRecDepth 20000
set_option Elab.async false

namespace Sys2Proof.Tests

open Sys2Proof Sys2Proof.Machine

/-! ## Ill-formed commands -/

/-- Of each pair the first is well formed and the second is not. -/
def refused (l : List (Instr × Instr)) : Bool := l.all (fun p => p.1.wf && !p.2.wf)

/-- Commands 1 to 24 of the smoke test: the first of each pair is well formed, the second fails one check. -/
theorem test_wf_0 : refused [
    (.routerFlitReceive 0 0 .clean .clean, .routerFlitReceive 256 0 .clean .clean),
    (.routerFlitReceive 0 0 .clean .clean, .routerFlitReceive 0 8 .clean .clean),
    (.creditReturn 0 0, .creditReturn 256 0),
    (.creditReturn 0 0, .creditReturn 0 10),
    (.switchAllocation (0, []), .switchAllocation (256, [])),
    (.switchAllocation (0, []), .switchAllocation (0, [(16, .clean)])),
    (.headAged 0 0 0, .headAged 256 0 0),
    (.headAged 0 0 0, .headAged 0 8 0),
    (.headAged 0 0 0, .headAged 0 0 16),
    (.knockReceived 0 0, .knockReceived 256 0),
    (.knockReceived 0 0, .knockReceived 0 8),
    (.awakeRise 0 0, .awakeRise 256 0),
    (.awakeRise 0 0, .awakeRise 0 10),
    (.outputDead 0 0, .outputDead 256 0),
    (.outputDead 0 0, .outputDead 0 8),
    (.eapIngressBeat 0 0 0 false false false 0, .eapIngressBeat 256 0 0 false false false 0),
    (.eapIngressBeat 0 0 0 false false false 0, .eapIngressBeat 0 0 8 false false false 0),
    (.ingressPacketCheck 0 .clean false, .ingressPacketCheck 256 .clean false),
    (.famFetchReturn 0 [], .famFetchReturn 256 []),
    (.violationQueueEnter false 0, .violationQueueEnter true 4),
    (.violationQueueEnter false 0, .violationQueueEnter false 256),
    (.violationAnswerRelease false 0, .violationAnswerRelease true 4),
    (.violationAnswerRelease false 0, .violationAnswerRelease false 256),
    (.holdQueueEnter false 0, .holdQueueEnter true 4),
    (.holdQueueEnter false 0, .holdQueueEnter false 256)] = true := by decide

/-- Commands 25 to 48 of the smoke test: the first of each pair is well formed, the second fails one check. -/
theorem test_wf_1 : refused [
    (.injectionSelect false 0 none, .injectionSelect true 4 none),
    (.injectionSelect false 0 none, .injectionSelect false 256 none),
    (.egressPacketArrive 0 .clean .clean, .egressPacketArrive 256 .clean .clean),
    (.egressSelect false 0 none, .egressSelect true 4 none),
    (.egressSelect false 0 none, .egressSelect false 256 none),
    (.responseArrive 0, .responseArrive 256),
    (.eapCreditReturn 0 0, .eapCreditReturn 256 0),
    (.eapCreditReturn 0 0, .eapCreditReturn 0 256),
    (.eapEpochBegin 0, .eapEpochBegin 256),
    (.tagGrant 0 0, .tagGrant 256 0),
    (.tagGrant 0 0, .tagGrant 0 2032),
    (.tagGrantResume 0, .tagGrantResume 256),
    (.edgeCreditLow 0, .edgeCreditLow 256),
    (.tagExpiry false 0 0 false, .tagExpiry false 0 2032 false),
    (.tagExpiry false 0 0 false, .tagExpiry true 4 0 false),
    (.tagExpiry false 0 0 false, .tagExpiry false 256 0 false),
    (.quarantineRelease 0 0, .quarantineRelease 256 0),
    (.quarantineRelease 0 0, .quarantineRelease 0 2032),
    (.iLinkChange 0 0, .iLinkChange 256 0),
    (.iLinkChange 0 0, .iLinkChange 0 4),
    (.portGoneReceive 0, .portGoneReceive 256),
    (.edgeFenceWrite 0 0 0, .edgeFenceWrite 13 0 0),
    (.edgeFenceWrite 0 0 0, .edgeFenceWrite 0 256 0),
    (.iKnock 0, .iKnock 256)] = true := by decide

/-- Commands 49 to 72 of the smoke test: the first of each pair is well formed, the second fails one check. -/
theorem test_wf_2 : refused [
    (.granuleWrite 0 0, .granuleWrite 13 0),
    (.tableElementWrite 0 false 0 0 0, .tableElementWrite 13 false 0 0 0),
    (.famCommitWrite 0 0, .famCommitWrite 13 0),
    (.famCommitWrite 0 0, .famCommitWrite 0 (2 ^ 80)),
    (.lensInvReceive 0, .lensInvReceive 256),
    (.lensAckReceive (0, .clean), .lensAckReceive (4, .clean)),
    (.commitTakeEffect 0 (.clean, []), .commitTakeEffect 256 (.clean, [])),
    (.overlayDrainDone 0, .overlayDrainDone 4),
    (.stageClearWrite 0 0, .stageClearWrite 13 0),
    (.drainWrite 0 0, .drainWrite 13 0),
    (.drainWrite 0 0, .drainWrite 0 (2 ^ 64)),
    (.drainMarkReceive 0, .drainMarkReceive 256),
    (.drainReport false 0, .drainReport true 4),
    (.drainReport false 0, .drainReport false 256),
    (.drainDoneReceive (0, .clean), .drainDoneReceive (4, .clean)),
    (.violClearWrite 0 .tile 0 0, .violClearWrite 13 .tile 0 0),
    (.violClearWrite 0 .tile 0 0, .violClearWrite 0 .sk 8 0),
    (.spDownWord 0 false 0 0, .spDownWord 4 false 0 0),
    (.spLd (0, []), .spLd (4, [])),
    (.spSt (0, []), .spSt (4, [])),
    (.spXld (0, []), .spXld (4, [])),
    (.spXst (0, []), .spXst (4, [])),
    (.spLb 0, .spLb 4),
    (.spSb 0, .spSb 4)] = true := by decide

/-- Commands 73 to 96 of the smoke test: the first of each pair is well formed, the second fails one check. -/
theorem test_wf_3 : refused [
    (.spFb 0, .spFb 4),
    (.spReservedOp 0, .spReservedOp 4),
    (.spAccessSend (0, []), .spAccessSend (4, [])),
    (.pwbMergeHoldExpiry (0, []), .pwbMergeHoldExpiry (4, [])),
    (.spResponseArrive 0 .clean, .spResponseArrive 4 .clean),
    (.spBarrierAck 0, .spBarrierAck 4),
    (.spResponseSend 0, .spResponseSend 4),
    (.spUpCredit 0, .spUpCredit 4),
    (.spExcReqRise 0, .spExcReqRise 4),
    (.spExcAck 0, .spExcAck 4),
    (.spExcReqFall 0, .spExcReqFall 4),
    (.spReset 0, .spReset 4),
    (.spRequestResume 0, .spRequestResume 4),
    (.spPowerDownRequest 0, .spPowerDownRequest 4),
    (.cmnRead 0 0 none, .cmnRead 8 0 none),
    (.cmnWrite 0 0 none, .cmnWrite 8 0 none),
    (.cmnXld 0 0 none, .cmnXld 8 0 none),
    (.cmnXst 0 0 none, .cmnXst 8 0 none),
    (.cmnUnsupported 0, .cmnUnsupported 8),
    (.cmnResvGranWrite 0 0 0, .cmnResvGranWrite 13 0 0),
    (.cmnResvGranWrite 0 0 0, .cmnResvGranWrite 0 8 0),
    (.cmnResvClearWrite 0 0 0, .cmnResvClearWrite 13 0 0),
    (.cmnResvClearWrite 0 0 0, .cmnResvClearWrite 0 8 0),
    (.schedWeightWrite 0 false 0 0 0, .schedWeightWrite 13 false 0 0 0)] = true := by decide

/-- Commands 97 to 120 of the smoke test: the first of each pair is well formed, the second fails one check. -/
theorem test_wf_4 : refused [
    (.schedWeightWrite 0 false 0 0 0, .schedWeightWrite 0 false 0 256 0),
    (.schedWeightWrite 0 false 0 0 0, .schedWeightWrite 0 true 4 0 0),
    (.schedWeightWrite 0 false 0 0 0, .schedWeightWrite 0 false 256 0 0),
    (.shaperRateWrite 0 false 0 0 0, .shaperRateWrite 13 false 0 0 0),
    (.shaperRateWrite 0 false 0 0 0, .shaperRateWrite 0 false 0 256 0),
    (.shaperRateWrite 0 false 0 0 0, .shaperRateWrite 0 true 4 0 0),
    (.shaperRateWrite 0 false 0 0 0, .shaperRateWrite 0 false 256 0 0),
    (.shaperBurstWrite 0 false 0 0 0, .shaperBurstWrite 13 false 0 0 0),
    (.shaperBurstWrite 0 false 0 0 0, .shaperBurstWrite 0 false 0 256 0),
    (.shaperBurstWrite 0 false 0 0 0, .shaperBurstWrite 0 true 4 0 0),
    (.shaperBurstWrite 0 false 0 0 0, .shaperBurstWrite 0 false 256 0 0),
    (.shaperClearWrite 0 false 0 0 0, .shaperClearWrite 13 false 0 0 0),
    (.shaperClearWrite 0 false 0 0 0, .shaperClearWrite 0 false 0 256 0),
    (.shaperClearWrite 0 false 0 0 0, .shaperClearWrite 0 true 4 0 0),
    (.shaperClearWrite 0 false 0 0 0, .shaperClearWrite 0 false 256 0 0),
    (.policeCirWrite 0 0 0, .policeCirWrite 13 0 0),
    (.policeCirWrite 0 0 0, .policeCirWrite 0 256 0),
    (.policeCbsWrite 0 0 0, .policeCbsWrite 13 0 0),
    (.policeCbsWrite 0 0 0, .policeCbsWrite 0 256 0),
    (.gateApplyWrite 0 false 0 0 0, .gateApplyWrite 13 false 0 0 0),
    (.gateApplyWrite 0 false 0 0 0, .gateApplyWrite 0 false 0 256 0),
    (.gateApplyWrite 0 false 0 0 0, .gateApplyWrite 0 true 4 0 0),
    (.gateApplyWrite 0 false 0 0 0, .gateApplyWrite 0 false 256 0 0),
    (.gateScheduleStart false 0 0, .gateScheduleStart false 0 256)] = true := by decide

/-- Commands 121 to 144 of the smoke test: the first of each pair is well formed, the second fails one check. -/
theorem test_wf_5 : refused [
    (.gateScheduleStart false 0 0, .gateScheduleStart true 4 0),
    (.gateScheduleStart false 0 0, .gateScheduleStart false 256 0),
    (.gateBoundary false 0 0, .gateBoundary false 0 256),
    (.gateBoundary false 0 0, .gateBoundary true 4 0),
    (.gateBoundary false 0 0, .gateBoundary false 256 0),
    (.gateEnWrite 0 false 0 0 0, .gateEnWrite 13 false 0 0 0),
    (.gateEnWrite 0 false 0 0 0, .gateEnWrite 0 false 0 256 0),
    (.gateEnWrite 0 false 0 0 0, .gateEnWrite 0 true 4 0 0),
    (.gateEnWrite 0 false 0 0 0, .gateEnWrite 0 false 256 0 0),
    (.histSample false 0, .histSample true 4),
    (.histSample false 0, .histSample false 256),
    (.stallConditionRise 0, .stallConditionRise 256),
    (.spillStart 0 0, .spillStart 256 0),
    (.spillStart 0 0, .spillStart 0 5),
    (.spillEnd 0 0, .spillEnd 256 0),
    (.spillEnd 0 0, .spillEnd 0 5),
    (.spillAsk 0, .spillAsk 8),
    (.spillGrant 0, .spillGrant 256),
    (.spillReask 0 0, .spillReask 256 0),
    (.spillReask 0 0, .spillReask 0 5),
    (.spillSend 0 0, .spillSend 256 0),
    (.spillSend 0 0, .spillSend 0 5),
    (.spillReceive 0 .clean, .spillReceive 8 .clean),
    (.spillPullSend 0 0, .spillPullSend 256 0)] = true := by decide

/-- Commands 145 to 168 of the smoke test: the first of each pair is well formed, the second fails one check. -/
theorem test_wf_6 : refused [
    (.spillPullSend 0 0, .spillPullSend 0 5),
    (.spillPull 0, .spillPull 8),
    (.spillReturn 0 .clean, .spillReturn 256 .clean),
    (.spillNone 0, .spillNone 256),
    (.spillAbandonReceive false 0, .spillAbandonReceive true 8),
    (.spillAbandonReceive false 0, .spillAbandonReceive false 256),
    (.spillTimeout 0 0, .spillTimeout 256 0),
    (.spillTimeout 0 0, .spillTimeout 0 5),
    (.skCommand 0, .skCommand 8),
    (.skOutCredit 0, .skOutCredit 8),
    (.skReadBeat 0 0 0 0 false none, .skReadBeat 8 0 0 0 false none),
    (.skReadBeat 0 0 0 0 false none, .skReadBeat 0 320 0 0 false none),
    (.skWriteDone 0 0, .skWriteDone 8 0),
    (.skWriteDone 0 0, .skWriteDone 0 320),
    (.skWriteFailed 0 0, .skWriteFailed 8 0),
    (.skWriteFailed 0 0, .skWriteFailed 0 320),
    (.skRspTimeout 0, .skRspTimeout 8),
    (.skMemreadyChange 0 false, .skMemreadyChange 8 false),
    (.skRecoverWrite 0 0 0, .skRecoverWrite 13 0 0),
    (.skRecoverWrite 0 0 0, .skRecoverWrite 0 8 0),
    (.skRecoverDone 0, .skRecoverDone 8),
    (.skEnableWrite 0 0 0, .skEnableWrite 13 0 0),
    (.skEnableWrite 0 0 0, .skEnableWrite 0 8 0),
    (.seamFrameReceive 0 0 .clean, .seamFrameReceive 8 0 .clean)] = true := by decide

/-- Commands 169 to 192 of the smoke test: the first of each pair is well formed, the second fails one check. -/
theorem test_wf_7 : refused [
    (.seamFrameReceive 0 0 .clean, .seamFrameReceive 0 8 .clean),
    (.seamTrainingPhaseEnd 0 0 false 0 0 0 0, .seamTrainingPhaseEnd 8 0 false 0 0 0 0),
    (.seamTrainingPhaseEnd 0 0 false 0 0 0 0, .seamTrainingPhaseEnd 0 8 false 0 0 0 0),
    (.seamMarginScan 0 0 [], .seamMarginScan 8 0 []),
    (.seamMarginScan 0 0 [], .seamMarginScan 0 8 []),
    (.seamLaneLoss 0 0 0 0, .seamLaneLoss 8 0 0 0),
    (.seamLaneLoss 0 0 0 0, .seamLaneLoss 0 8 0 0),
    (.seamRepairReq 0 0, .seamRepairReq 8 0),
    (.seamRepairReq 0 0, .seamRepairReq 0 8),
    (.seamSpareTrained 0 0 false, .seamSpareTrained 8 0 false),
    (.seamSpareTrained 0 0 false, .seamSpareTrained 0 8 false),
    (.seamRepairReady 0 0, .seamRepairReady 8 0),
    (.seamRepairReady 0 0, .seamRepairReady 0 8),
    (.seamRepairAt 0 0, .seamRepairAt 8 0),
    (.seamRepairAt 0 0, .seamRepairAt 0 8),
    (.seamRetrainCmd 0 0, .seamRetrainCmd 8 0),
    (.seamRetrainCmd 0 0, .seamRetrainCmd 0 8),
    (.seamRepairLaneWrite 0 0 0 0, .seamRepairLaneWrite 13 0 0 0),
    (.seamRepairLaneWrite 0 0 0 0, .seamRepairLaneWrite 0 8 0 0),
    (.seamRepairLaneWrite 0 0 0 0, .seamRepairLaneWrite 0 0 8 0),
    (.seamRetrainWrite 0 0 0 0, .seamRetrainWrite 13 0 0 0),
    (.seamRetrainWrite 0 0 0 0, .seamRetrainWrite 0 8 0 0),
    (.seamRetrainWrite 0 0 0 0, .seamRetrainWrite 0 0 8 0),
    (.seamPllLoss 0, .seamPllLoss 8)] = true := by decide

/-- Commands 193 to 216 of the smoke test: the first of each pair is well formed, the second fails one check. -/
theorem test_wf_8 : refused [
    (.seamSleepRequest 0 0, .seamSleepRequest 8 0),
    (.seamSleepRequest 0 0, .seamSleepRequest 0 8),
    (.seamSleepReceive 0, .seamSleepReceive 8),
    (.seamSleptReceive 0, .seamSleptReceive 8),
    (.seamDeepEntry 0 0, .seamDeepEntry 8 0),
    (.seamDeepEntry 0 0, .seamDeepEntry 0 8),
    (.seamKnock 0 0, .seamKnock 8 0),
    (.seamKnock 0 0, .seamKnock 0 8),
    (.seamKnockReceive 0, .seamKnockReceive 8),
    (.seamAwakeMessage 0, .seamAwakeMessage 8),
    (.seamStateMessage 0, .seamStateMessage 8),
    (.seamStateSend 0 0, .seamStateSend 8 0),
    (.seamStateSend 0 0, .seamStateSend 0 8),
    (.sidebandLockLoss 0 0, .sidebandLockLoss 8 0),
    (.sidebandLockLoss 0 0, .sidebandLockLoss 0 2),
    (.sidebandLockRegain 0 (0, []), .sidebandLockRegain 8 (0, [])),
    (.sidebandLockRegain 0 (0, []), .sidebandLockRegain 0 (2, [])),
    (.rstEnterReceive 0, .rstEnterReceive 8),
    (.rstSeenReceive 0, .rstSeenReceive 8),
    (.rstAckReceive 0, .rstAckReceive 8),
    (.lanternSpineCheck 0 [], .lanternSpineCheck 4 []),
    (.lanternExchange 0, .lanternExchange 4),
    (.timeReqReceive 0 0, .timeReqReceive 8 0),
    (.timeRspReceive 0, .timeRspReceive 8)] = true := by decide

/-- Commands 217 to 240 of the smoke test: the first of each pair is well formed, the second fails one check. -/
theorem test_wf_9 : refused [
    (.ppsInEdge 0, .ppsInEdge 4),
    (.lrefclkLoss 0, .lrefclkLoss 4),
    (.lrefclkReturn 0, .lrefclkReturn 4),
    (.timeSample 0 0, .timeSample 16 0),
    (.timeCmdReceive 0, .timeCmdReceive 8),
    (.lanternStepWrite 0 0, .lanternStepWrite 13 0),
    (.lanternSetWrite 0 0, .lanternSetWrite 13 0),
    (.stepApply 0, .stepApply 4),
    (.ppsOutEdge 0, .ppsOutEdge 4),
    (.ppsOutFall 0, .ppsOutFall 4),
    (.timeFrame 0, .timeFrame 64),
    (.lanternSourceWrite 0 0, .lanternSourceWrite 13 0),
    (.qclkFreqWrite 0 0, .qclkFreqWrite 13 0),
    (.tileDozeEntry 0, .tileDozeEntry 256),
    (.tileNapEntry 0, .tileNapEntry 256),
    (.tileOffEntry 0, .tileOffEntry 256),
    (.tileWake 0, .tileWake 256),
    (.tileWakeDone 0, .tileWakeDone 256),
    (.pdAckChange (.tl 0), .pdAckChange (.tl 256)),
    (.pdAckChange (.tl 0), .pdAckChange (.ts 256)),
    (.pdAckChange (.tl 0), .pdAckChange (.ret 256)),
    (.pdAckChange (.tl 0), .pdAckChange (.qp 16)),
    (.pdAckChange (.tl 0), .pdAckChange (.fam 4)),
    (.pdAckChange (.tl 0), .pdAckChange (.uq 4))] = true := by decide

/-- Commands 241 to 264 of the smoke test: the first of each pair is well formed, the second fails one check. -/
theorem test_wf_10 : refused [
    (.pcT3Req 0 false, .pcT3Req 256 false),
    (.tileHoldWrite 0 0 0, .tileHoldWrite 13 0 0),
    (.tileHoldWrite 0 0 0, .tileHoldWrite 0 256 0),
    (.tileDeepestWrite 0 0 0, .tileDeepestWrite 13 0 0),
    (.tileDeepestWrite 0 0 0, .tileDeepestWrite 0 256 0),
    (.fabricModeWrite 0 0, .fabricModeWrite 13 0),
    (.qpllPark 0, .qpllPark 16),
    (.qpllRelockDone 0, .qpllRelockDone 16),
    (.qpllHoldWrite 0 0 0, .qpllHoldWrite 13 0 0),
    (.qpllHoldWrite 0 0 0, .qpllHoldWrite 0 16 0),
    (.cdcIdleEvent (.eapIn 0) false, .cdcIdleEvent (.eapIn 256) false),
    (.cdcTimeout ((.eapIn 0), 0), .cdcTimeout ((.eapIn 256), 0)),
    (.cdcTimeout ((.eapIn 0), 0), .cdcTimeout ((.eapOut 256), 0)),
    (.cdcTimeout ((.eapIn 0), 0), .cdcTimeout ((.station 256), 0)),
    (.cdcTimeout ((.eapIn 0), 0), .cdcTimeout ((.cell 256), 0)),
    (.cdcTimeout ((.eapIn 0), 0), .cdcTimeout ((.sp 4), 0)),
    (.cdcTimeout ((.eapIn 0), 0), .cdcTimeout ((.sk 8), 0)),
    (.cdcTimeout ((.eapIn 0), 0), .cdcTimeout ((.seamTx 8 0), 0)),
    (.cdcTimeout ((.eapIn 0), 0), .cdcTimeout ((.seamTx 0 8), 0)),
    (.cdcTimeout ((.eapIn 0), 0), .cdcTimeout ((.seamRx 8 0), 0)),
    (.cdcTimeout ((.eapIn 0), 0), .cdcTimeout ((.seamRx 0 8), 0)),
    (.cdcTimeout ((.eapIn 0), 0), .cdcTimeout ((.lantern 4), 0)),
    (.cdcReleaseDone (.eapIn 0), .cdcReleaseDone (.eapIn 256)),
    (.peerResetReceive (.eapIn 0), .peerResetReceive (.eapIn 256))] = true := by decide

/-- Commands 265 to 288 of the smoke test: the first of each pair is well formed, the second fails one check. -/
theorem test_wf_11 : refused [
    (.resetAckReceive (.eapIn 0), .resetAckReceive (.eapIn 256)),
    (.guyFrameClaim 0 false false, .guyFrameClaim 13 false false),
    (.guyBcast 0 0 false, .guyBcast 13 0 false),
    (.guyBcast 0 0 false, .guyBcast 0 4 false),
    (.guyRespReturn 0 false, .guyRespReturn 13 false),
    (.guyTimeout 0, .guyTimeout 13),
    (.guyBreak 0, .guyBreak 8),
    (.stationBypassChange 0, .stationBypassChange 256),
    (.mapBusWrite 0 0 false 0 false, .mapBusWrite (2 ^ 16) 0 false 0 false),
    (.mapBusWrite 0 0 false 0 false, .mapBusWrite 0 4 false 0 false),
    (.mapResetTile 0 false, .mapResetTile 256 false),
    (.mapResetQuadrant 0 false, .mapResetQuadrant 16 false),
    (.mapResetDie 0 false, .mapResetDie 4 false),
    (.mapResetInstance 0 false, .mapResetInstance 1 false),
    (.mbxRead 0 0, .mbxRead 4 0),
    (.mbxRead 0 0, .mbxRead 0 (2 ^ 32)),
    (.mbxWrite 0 0, .mbxWrite 4 0),
    (.mbxWrite 0 0, .mbxWrite 0 (2 ^ 32)),
    (.mbxWriteSeg 0 0, .mbxWriteSeg 4 0),
    (.mbxWriteSeg 0 0, .mbxWriteSeg 0 (2 ^ 32)),
    (.mbxInvalidOp 0 0, .mbxInvalidOp 4 0),
    (.mbxInvalidOp 0 0, .mbxInvalidOp 0 (2 ^ 32)),
    (.mbxComplete 0, .mbxComplete 8),
    (.mbxTimeout 0, .mbxTimeout 8)] = true := by decide

/-- Commands 289 to 312 of the smoke test: the first of each pair is well formed, the second fails one check. -/
theorem test_wf_12 : refused [
    (.scrubPassComplete 0 [] none, .scrubPassComplete 4 [] none),
    (.wardenWdog 0, .wardenWdog (2 ^ 32)),
    (.wardenRemapWrite 0 0, .wardenRemapWrite 13 0),
    (.xbarTransfer 0 [] false none 0, .xbarTransfer 6 [] false none 0),
    (.xbarTransfer 0 [] false none 0, .xbarTransfer 0 ([⟨4, false, 0, 4, 1, []⟩]) false none 0),
    (.xbarTransfer 0 [] false none 0, .xbarTransfer 0 ([⟨2, false, 0, 4, 1, []⟩]) false none 0),
    (.xbarTransfer 0 [] false none 0, .xbarTransfer 0 ([⟨0, false, 2 ^ 32, 4, 1, []⟩]) false none 0),
    (.xbarTransfer 0 [] false none 0, .xbarTransfer 0 ([⟨0, false, 0, 3, 1, []⟩]) false none 0),
    (.xbarTransfer 0 [] false none 0, .xbarTransfer 0 ([⟨0, false, 0, 4, 0, []⟩]) false none 0),
    (.xbarTransfer 0 [] false none 0, .xbarTransfer 0 ([⟨0, false, 0, 4, 17, []⟩]) false none 0),
    (.xbarTimeout 0, .xbarTimeout 6),
    (.ticketSubmit 0 0, .ticketSubmit 13 0),
    (.sealBurnWrite 0 0, .sealBurnWrite 13 0),
    (.otpProgramWrite 0 0, .otpProgramWrite 13 0),
    (.faultFirstClear 0 .tile 0 false 0, .faultFirstClear 13 .tile 0 false 0),
    (.faultFirstClear 0 .tile 0 false 0, .faultFirstClear 0 .sk 8 false 0),
    (.faultPendClear 0 .tile 0 false 0 false, .faultPendClear 13 .tile 0 false 0 false),
    (.faultPendClear 0 .tile 0 false 0 false, .faultPendClear 0 .sk 8 false 0 false),
    (.faultOvfClear 0 .tile 0 false 0, .faultOvfClear 13 .tile 0 false 0),
    (.faultOvfClear 0 .tile 0 false 0, .faultOvfClear 0 .sk 8 false 0),
    (.faultForce 0 .tile 0 false 0, .faultForce 13 .tile 0 false 0),
    (.faultForce 0 .tile 0 false 0, .faultForce 0 .sk 8 false 0),
    (.resetEnd .tile 0, .resetEnd .sk 8),
    (.vddAoLoss 0, .vddAoLoss 4)] = true := by decide

/-- Commands 313 to 333 of the smoke test: the first of each pair is well formed, the second fails one check. -/
theorem test_wf_13 : refused [
    (.cntEventWrite 0 0 0 0, .cntEventWrite 13 0 0 0),
    (.cntEventWrite 0 0 0 0, .cntEventWrite 0 256 0 0),
    (.cntEventWrite 0 0 0 0, .cntEventWrite 0 0 8 0),
    (.cntValueWrite 0 0 0 0, .cntValueWrite 13 0 0 0),
    (.cntValueWrite 0 0 0 0, .cntValueWrite 0 256 0 0),
    (.cntValueWrite 0 0 0 0, .cntValueWrite 0 0 8 0),
    (.snapshotAtWrite 0 0, .snapshotAtWrite 13 0),
    (.snapshotAtWrite 0 0, .snapshotAtWrite 0 (2 ^ 80)),
    (.collectPeriodWrite 0 0, .collectPeriodWrite 13 0),
    (.traceRecordWrite 0, .traceRecordWrite 256),
    (.traceClearWrite 0 0, .traceClearWrite 13 0),
    (.mapBusAccess false 0 0 false 0 false, .mapBusAccess false (2 ^ 16) 0 false 0 false),
    (.mapBusAccess false 0 0 false 0 false, .mapBusAccess false 0 4 false 0 false),
    (.debugAccess false 0 0 0 [], .debugAccess false (2 ^ 32) 0 0 []),
    (.debugAccess false 0 0 0 [], .debugAccess false 0 4 0 []),
    (.debugAccess false 0 0 0 [], .debugAccess false 0 0 16 []),
    (.spResetRelease 0, .spResetRelease 4),
    (.rxlosFall 0 0 0, .rxlosFall 8 0 0),
    (.rxlosFall 0 0 0, .rxlosFall 0 8 0),
    (.seamTrainMessage 0, .seamTrainMessage 8),
    (.vddAoReturn 0, .vddAoReturn 4)] = true := by decide

/-! ## Small states -/

/-- A small fabric: the reset state without the packets and frames that wait in it, the first quadrant locked. -/
def base : Fab :=
  ({ Fab.reset with tiles := [], cross := [], sp := [], lan := [] } : Fab).setO .quad 0 O.QPLL_STATE 0 0
/-- The small fabric once the nonce has been drawn. -/
def drawn : Fab := { base with ve := { base.ve with op := none } }
/-- A state around a fabric, with nothing waiting. -/
def st (f : Fab) : State := ⟨[], f⟩
/-- The small fabric with tile 0, its edge NI, an object … changed. -/
def atTile (g : Tile → Tile) : State := st (base.modTile 0 g)
def atNi (g : Ni → Ni) : State := st (base.modNi 0 g)
def atSp (g : Sp → Sp) : State := st (base.modSp 0 g)
def atSk (g : Sk → Sk) : State := st (base.modSk 0 g)
def atX (g : CrossSide → CrossSide) : State := st (base.modX 0 0 g)
def atSide (g : SeamSide → SeamSide) : State := st (base.modSide 0 g)
def atLan (g : Lantern → Lantern) : State := st (base.modLan 0 g)
def atMap (g : MapRegs → MapRegs) : State := st (base.modMap g)
def atObj (sc : Scope) (n idx v : Nat) : State := st (base.setO sc n idx 0 v)
/-- A packet of `n` flits with the given header fields. -/
def pkt (mc opc len tag : Nat) (n : Nat := len) (ext : Nat := 0) : Packet :=
  let h : Nat := ext * 2 ^ 128 + mc * 2 ^ 18 + opc * 2 ^ 24 + len * 2 ^ 32 + tag * 2 ^ 38
  (List.range n).map (fun k => ⟨BitVec.ofNat 640 (if k = 0 then h else 0), k == 0, k + 1 == n, false, 0⟩)
def qp (p : Packet) : QPkt := ⟨p, none, 0, false, false, 0, false, false⟩
def sg (p : Packet) : Staged := ⟨p, mcOf p, [], 0, 0, true, []⟩
/-- The header word of a service-port request (R268). -/
def hw (op bytes : Nat) : SpWord := ⟨true, op + bytes * 2 ^ 57, true⟩
/-- A service port that has received a request. -/
def atReq (op bytes : Nat) (data : List SpWord) (rids : List Nat := []) (pwb : List PwbEnt := []) : State :=
  atSp fun n => { n with ready := true, dn := hw op bytes :: data, rids := rids, pwb := pwb }
def dw : SpWord := ⟨false, 255 * 2 ^ 128, true⟩
/-- A Commons bank with a packet at its input. -/
def atCmn (p : Packet) : Fab := base.modTile (cmnTile 0) fun x => { x with ej1 := { x.ej1 with arr := [(0, p)] } }
/-- A service port's tile with a packet at its input. -/
def atSpIn (p : Packet) : Fab := base.modTile (spTile 0) fun x => { x with ej1 := { x.ej1 with arr := [(0, p)] } }
/-- An envelope of queue 0 of tile 0 (R346). -/
def env (k : EnvKind) (fl seq : Nat) : Packet := mkEnvelope k 0 0 0 0 0 0 fl seq false []
/-- An edge NI with an envelope at its control input and its first queue changed. -/
def atEnv (k : EnvKind) (fl seq : Nat) (g : SpillQ → SpillQ) : State :=
  atNi fun n => { n with ctlIn := [env k fl seq], spill := [g SpillQ.reset] }
/-- An edge NI with its first spill queue changed. -/
def atQ (g : SpillQ → SpillQ) : State := atNi fun n => { n with spill := [g SpillQ.reset] }
/-- A spill port with an envelope at its input. -/
def atSkIn (k : EnvKind) (fl : Nat) (g : Sk → Sk) : State :=
  st ((base.modTile (skTile 0) fun x => { x with ej1 := { x.ej1 with arr := [(0, env k fl 0)] } }).modSk 0 g)
/-- A Guyline request for an object of tile 0. -/
def gf (kind : Nat) (idx : Nat := O.EDGE_FENCE) : GFrame :=
  ⟨kind, 0, .tile, 0, idx, 0, 0, 0, 0, 0, false, false, false, [], false, false, false, 0, false⟩
/-- A ring that carries it, with the master's and the stations' state changed. -/
def atRing (x : GFrame) (g : Guy → Guy := id) : State := st { base with guy := g { base.guy with ring := [(0, x)] } }
def mop (read : Bool) (len : Nat) : MbxOp := ⟨read, ⟨.inst, 0, O.FABRIC_MODE, 0, 0⟩, 1, 0, len, 0, 0⟩
def xr (m addr : Nat) (w : Bool := false) : XReq := ⟨m, w, addr, 4, 1, [0], 0⟩
/-- The record of two completed slots (R558), GEN 2. -/
def rec2 : Nat :=
  0x42505231 + 0x0102 * 2 ^ 32 + 2 ^ (8 * 0x40) + 0xA5C35A3C * 2 ^ (8 * 0x7F8) + 2179166017 * 2 ^ (8 * 0x7FC)
def atWd (g : Warden → Warden) : State := st { base with wd := g base.wd }
def atColl (g : Coll → Coll) : State := st { base with coll := g base.coll }
def atRst (l : List Rst) : State := st { base with rsts := l }

/-! ## Worked examples of the spec -/

/-- 00_scope.md: the tile at gx 11, gy 13 is T235 of D3 in Q14. -/
theorem test_tile_235 : dieOf 235 = 3 ∧ gxOf 235 = 11 ∧ gyOf 235 = 13 ∧ quadOf 235 = 14 := by decide

/-- 02_packets_and_classes.md: C(51) is 4,064 bytes and C(52) 4,144, so a body of 4,104 bytes takes 52 flits. -/
theorem test_length : capacity 51 = 4064 ∧ capacity 52 = 4144 ∧ lenFor 4104 = 52 ∧ lenFor 1024 = 13 := by decide

/-- 02_packets_and_classes.md: the header words of the MEM_RD of P017. -/
def memRd : Packet :=
  [⟨BitVec.ofNat 640 (0x004022C9 + 0x0030ADC1 * 2 ^ 32 + 0x48D150A3 * 2 ^ 64 + 0x00000130 * 2 ^ 96), true, true, false, 0⟩]

theorem test_header : destTile memRd = 0xC9 ∧ srcTile memRd = 0x11 ∧ mcOf memRd = 0 ∧ scOf memRd = 2 ∧ opcOf memRd = 0 ∧
    lenOf memRd = 1 ∧ tagOf memRd = 0x2B7 ∧ oidOf memRd = 0x18 ∧ hopsOf memRd = 0 ∧ provOf memRd = 0x0A3 ∧
    addrOf memRd = 0x13048D15 := by decide +kernel

/-- 18_bringup_and_operation.md: FAM#0x2010 names tile 203, group 9, DPA_INDEX 16. -/
theorem test_fam_entry : eValid 0x0000004010C02597 = true ∧ eTile 0x0000004010C02597 = 203 ∧ eSlot 0x0000004010C02597 = 0 ∧
    eGroup 0x0000004010C02597 = 9 ∧ eDpa 0x0000004010C02597 = 16 := by decide

/-- 13_object_catalogue.md: 800 flits for SPILL_HIGH are stored as 704, CLIPPED. -/
theorem test_clip : judgeWrite .tile O.SPILL_HIGH 0 800 = some (704, 4) := by decide +kernel

/-- 12_guyline_and_map.md: 0x0002_0002 sets COMPARE alone; 0x0000_FFFF changes nothing. -/
theorem test_crc_ctl : (base.wCrcCtl 0x00020002).map.compare = true ∧ (base.wCrcCtl 0x00020002).map.run = base.map.run ∧
    (base.wCrcCtl 0x0000FFFF).map = base.map := by decide +kernel

/-- The check value of CRC-32C over the characters 1 to 9. -/
theorem test_crc32c : crc32c 0x393837363534333231 9 = 0xE3069283 := by decide +kernel

/-- FIPS 180-4: the digest of the message abc, its first byte first. -/
theorem test_sha384 : Sha.sha384 [0x61, 0x62, 0x63] / 2 ^ 352 = 0xcb00753f := by decide +kernel

/-- R110, R112: smooth weighted round robin with weights 2 and 1 serves 0, 1, 0. -/
theorem test_smooth : (smoothPick (fun s => 2 - s) [0, 0] [0, 1]).map (·.1) = some 0 ∧
    (smoothPick (fun s => 2 - s) [-1, 1] [0, 1]).map (·.1) = some 1 := by decide

/-- At the destination tile the escape route is the destination slot. -/
theorem test_escape_end : routeEscape 201 201 0 = pSlot0 ∧ routeEscape 201 201 1 = pSlot1 := by decide

/-- R645: with VDD_AO left on another die, taking it from a die has no defined result: the one fault. -/
theorem test_vdd_fault : (match exec (.vddAoLoss 0) (st base) with | .fault .vddAoRemoved => true | _ => false) = true := by
  decide +kernel

/-- From reset with no command waiting, a step passes one LCLK cycle (log 22). -/
theorem test_idle_tick : (match step State.reset with | .next s => s.pending.isEmpty | _ => false) = true := by
  decide +kernel

/-! ## Witnesses: one for each clause with hypotheses of each statement -/

theorem witness_QueueFirstInFirstOut_0 :
    ∃ c : Instr, ∃ s : State, (∀ d, c = .vddAoLoss d → d < 4 → (s.fab.die d).ao = true → s.fab.coldLow = false → ∀
      e, e < 4 → e ≠ d → (s.fab.die e).ao = false) :=
  ⟨.vddAoLoss 0, st ((base.modDie 1 fun d => { d with ao := false }).modDie 2 (fun d => { d with ao := false })
    |>.modDie 3 fun d => { d with ao := false }), fun d h _ _ _ e he hn => by cases h; revert e; decide +kernel⟩

theorem witness_QueueFirstInFirstOut_1 :
    ∃ c : Instr, ∃ s t : State, (exec c s = .next t) :=
  ⟨.qclkFreqWrite 0 0, st base, _, rfl⟩

theorem witness_QueueFirstInFirstOut_2 :
    ∃ c : Instr, ∃ rest : List Instr, ∃ f : Fab, ∃ t : State, (step ⟨c :: rest, f⟩ = .next t) :=
  ⟨.qclkFreqWrite 0 0, [], base, _, rfl⟩

theorem witness_ResetState_0 :
    ∃ t, (t < 256) :=
  ⟨0, by decide +kernel⟩

theorem witness_ResetState_1 :
    ∃ d, (0 < d) ∧ (d < 4) :=
  ⟨3, by decide +kernel, by decide +kernel⟩

theorem witness_ResetState_2 :
    ∃ d, (d < 4) :=
  ⟨0, by decide +kernel⟩

theorem witness_OneTimeStorageOnlyGains_0 :
    ∃ s t : State, (step s = .next t) ∧ (s.fab.otp.wordsOk) :=
  ⟨st { base with otp := { base.otp with arr := [] } }, _, rfl, fun w => show 0 < 2 ^ 32 by decide⟩

theorem witness_MemoriesKeepForm_0 :
    ∃ s t : State, (step s = .next t) ∧ (s.fab.memoriesWf = true) :=
  ⟨st base, _, rfl, by decide +kernel⟩

theorem witness_RouterArrival_0 :
    ∃ s : State, ∃ t p vc : Nat, ∃ x : Flit, ∃ rest : List (List (Nat × Flit)), (seamPort t p = none) ∧
      (s.fab.wireOf t p = [(vc, x)] :: rest) ∧ ((s.fab.tile t).st = .t0) ∧ ((s.fab.invc t p vc).fifo.length < 4) :=
  ⟨atTile fun x => { x with wire := [(0, [[(0, Flit.zero)]])] }, 0, 0, 0, Flit.zero, [], by decide +kernel,
    by decide +kernel, by decide +kernel, by decide +kernel⟩

theorem witness_RouterArrival_1 :
    ∃ s : State, ∃ t p va vb : Nat, ∃ x y : Flit, ∃ rest : List (List (Nat × Flit)), (seamPort t p = none) ∧
      (s.fab.wireOf t p = [(va, x), (vb, y)] :: rest) ∧ ((s.fab.tile t).st = .t0) ∧
      ((s.fab.invc t p va).fifo.length < (if va = vb then 3 else 4)) ∧ ((s.fab.invc t p vb).fifo.length < 4) :=
  ⟨atTile fun x => { x with wire := [(0, [[(0, Flit.zero), (0, Flit.zero)]])] }, 0, 0, 0, 0, Flit.zero, Flit.zero, [],
    by decide +kernel, by decide +kernel, by decide +kernel, by decide +kernel, by decide +kernel⟩

theorem witness_RouterArrival_2 :
    ∃ f : Fab, ∃ t p vc : Nat, ∃ x : Flit, (((f.invc t p vc).drop = false ∨ x.first = true)) :=
  ⟨base, 0, 0, 0, { Flit.zero with first := true }, by decide +kernel⟩

theorem witness_RouterArrival_3 :
    ∃ s : State, ∃ t p ss c vc : Nat, ∃ x : Flit, (seamPort t p = some (ss, c)) ∧ (s.fab.wireOf t p = [[(vc, x)]]) ∧
      ((s.fab.tile t).st = .t0) ∧ ((s.fab.invc t p vc).fifo.length < 4) :=
  ⟨st (base.modTile 7 fun x => { x with wire := [(2, [[(0, Flit.zero)]])] }), 7, 2, 0, 0, 0, Flit.zero,
    by decide +kernel, by decide +kernel, by decide +kernel, by decide +kernel⟩

theorem witness_RouterArrival_4 :
    ∃ s : State, ∃ t snd vc : Nat, ∃ rest : List Nat, ((s.fab.tile t).cret.get (fun _ => []) snd = vc :: rest) ∧
      ((s.fab.out t snd).owed = false) :=
  ⟨atTile fun x => { x with cret := [(0, [3])], rout := [(0, { OutPort.reset with owed := false })] }, 0, 0, 3, [],
    by decide +kernel, by decide +kernel⟩

theorem witness_RouterArrival_5 :
    ∃ room : Nat → Nat, ∃ pre : List (Nat × Flit), ∃ vc : Nat, (∀ y ∈ pre, room y.1 = 0) ∧ (0 < room vc) :=
  ⟨fun v => v, [(0, Flit.zero)], 3, by decide +kernel, by decide +kernel⟩

theorem witness_RouterArrival_6 :
    ∃ s : State, ∃ t p vc : Nat, ((s.fab.invc t p vc).route = none) ∧ ((s.fab.invc t p vc).fifo ≠ []) ∧
      (s.fab.oD (dieOf t) O.AGE_LIMIT ≤ (s.fab.invc t p vc).lost) :=
  ⟨atTile fun x => { x with rin := [(0, { InVC.reset with fifo := [Flit.zero], lost := 65535 })] }, 0, 0, 0,
    by decide +kernel, by decide +kernel, by decide +kernel⟩

theorem witness_RouterArrival_7 :
    ∃ s : State, ∃ t p : Nat, ((s.fab.out t p).awake = false) ∧ (s.fab.receiverAwake t p = true) ∧
      (s.fab.qclkRuns t = true) ∧ ((s.fab.tile t).st = .t0) ∧ ((s.fab.out t p).dead = false) :=
  ⟨st base, 0, 8, by decide +kernel, by decide +kernel, by decide +kernel, by decide +kernel, by decide +kernel⟩

theorem witness_RouterArrival_8 :
    ∃ x : Flit, (x.first = false) :=
  ⟨Flit.zero, by decide +kernel⟩

theorem witness_RouterArrival_9 :
    ∃ s : State, ∃ t p k : Nat, (p < 8) ∧ ((s.fab.out t p).knock = some k) ∧ ((s.fab.out t p).dead = false) ∧
      ((s.fab.out t p).awake = false) ∧ (k + us (s.fab.oD (dieOf t) O.KNOCK_LIMIT) ≤ s.fab.time t) :=
  ⟨st ((base.modOut 0 0 fun x => { x with knock := some 0 }).modLan 0 fun l => { l with acc := 2 ^ 60 }), 0, 0, 0,
    by decide +kernel, by decide +kernel, by decide +kernel, by decide +kernel, by decide +kernel⟩

theorem witness_RouterArrival_10 :
    ∃ s : State, ∃ t p : Nat, (s.fab.knocked t p = true) ∧ (((s.fab.tile t).asleep = true ∨ ((s.fab.tile t).st = .t0 ∧
      s.fab.qclkRuns t = false))) :=
  ⟨st ((base.modOut 8 0 fun x => { x with knock := some 0 }).modTile 0 fun x => { x with st := .t2 }), 0, 1,
    by decide +kernel, by decide +kernel⟩

theorem witness_SwitchCycle_0 :
    ∃ s : State, ∃ t : Nat, (s.fab.qclkRuns t = true) ∧ ((s.fab.tile t).st = .t0) :=
  ⟨st base, 0, by decide +kernel, by decide +kernel⟩

theorem witness_SwitchCycle_1 :
    ∃ s : State, ∃ t : Nat, (s.fab.qclkRuns t = true) ∧ ((s.fab.tile t).st = .t1) :=
  ⟨atTile fun x => { x with st := .t1 }, 0, by decide +kernel, by decide +kernel⟩

theorem witness_SwitchCycle_2 :
    ∃ s : State, ∃ t : Nat, (s.fab.qclkRuns t = false) :=
  ⟨atObj .quad 0 O.QPLL_STATE 1, 0, by decide +kernel⟩

theorem witness_SmoothRoundRobin_0 :
    ∃ w : Nat → Nat, ∃ cur cur' : List Int, ∃ elig : List Nat, ∃ pick : Nat, (elig.Nodup) ∧ ((∀ s ∈ elig,
      s < cur.length)) ∧ (smoothPick w cur elig = some (pick, cur')) ∧ (∃ s, (s ∉ elig)) :=
  ⟨fun s => s + 1, [0, 0, 0], _, [0, 1], _, by decide +kernel, by decide +kernel, rfl, 2, by decide +kernel⟩

theorem witness_SmoothRoundRobin_1 :
    ∃ w : Nat → Nat, ∃ cur cur' : List Int, ∃ elig : List Nat, ∃ pick : Nat, (elig.Nodup) ∧ ((∀ s ∈ elig,
      s < cur.length)) ∧ (smoothPick w cur elig = some (pick, cur')) ∧ (∃ s ∈ elig, (s ≠ pick)) :=
  ⟨fun s => s + 1, [0, 0, 0], _, [0, 1], _, by decide +kernel, by decide +kernel, rfl, 0, by decide +kernel,
    by decide +kernel⟩

theorem witness_EscapeRoutesRise_0 :
    ∃ r dt ds : Nat, (r < 256) ∧ (dt < 256) ∧ (ds < 2) ∧ (r = dt) :=
  ⟨0, 0, 0, by decide +kernel, by decide +kernel, by decide +kernel, by decide +kernel⟩

theorem witness_EscapeRoutesRise_1 :
    ∃ r dt ds : Nat, (r < 256) ∧ (dt < 256) ∧ (ds < 2) ∧ (r ≠ dt) :=
  ⟨0, 255, 1, by decide +kernel, by decide +kernel, by decide +kernel, by decide +kernel⟩

theorem witness_EdgeInterface_0 :
    ∃ s : State, ∃ t mc : Nat, (mc < 8) ∧ (s.fab.eFence t = false) ∧ ((s.fab.ni t).epoch = true) ∧
      (s.fab.eAwake t = true) ∧ ((s.fab.ni t).rx = none) ∧ (0 < (s.fab.ni t).iCred.getD mc 0) :=
  ⟨atNi fun n => { n with epoch := true, iCred := List.replicate 8 1 }, 0, 7, by decide +kernel, by decide +kernel,
    by decide +kernel, by decide +kernel, by decide +kernel, by decide +kernel⟩

theorem witness_EdgeInterface_1 :
    ∃ s : State, ∃ t mc par : Nat, ∃ data : BitVec 640, (mc < 8) ∧ (s.fab.eFence t = false) ∧
      ((s.fab.ni t).epoch = true) ∧ (s.fab.eAwake t = true) ∧ ((s.fab.ni t).rx = none) ∧
      (0 < (s.fab.ni t).iCred.getD mc 0) ∧ (parityFails data.toNat par ≠ 0) :=
  ⟨atNi fun n => { n with epoch := true, iCred := List.replicate 8 1 }, 0, 7, 1, 0, by decide +kernel,
    by decide +kernel, by decide +kernel, by decide +kernel, by decide +kernel, by decide +kernel, by decide +kernel⟩

theorem witness_EdgeInterface_2 :
    ∃ s : State, ∃ t : Nat, (s.fab.eFence t = true) ∧ (s.fab.tileOut t = false) :=
  ⟨atNi fun n => { n with fenceAck := true }, 0, by decide +kernel, by decide +kernel⟩

theorem witness_EdgeInterface_3 :
    ∃ s : State, ∃ t : Nat, ((s.fab.ni t).epoch = true) :=
  ⟨atNi fun n => { n with epoch := true }, 0, by decide +kernel⟩

theorem witness_EdgeInterface_4 :
    ∃ s : State, ∃ t : Nat, ((s.fab.ni t).epoch = false) ∧ (s.fab.eReady t = true) ∧ ((s.fab.ni t).link ≠ .down) :=
  ⟨atNi fun n => { n with ready := true, link := .active }, 0, by decide +kernel, by decide +kernel,
    by decide +kernel⟩

theorem witness_EdgeInterface_5 :
    ∃ s : State, ∃ t code : Nat, ((s.fab.ni t).link ≠ Link.ofCode (code % 4)) ∧ (s.fab.tileOut t = false) :=
  ⟨st base, 0, 1, by decide +kernel, by decide +kernel⟩

theorem witness_EdgeInterface_6 :
    ∃ s : State, ∃ t : Nat, ((s.fab.tile t).asleep = true) :=
  ⟨atTile fun x => { x with st := .t3 }, 0, by decide +kernel⟩

theorem witness_EdgeInterface_7 :
    ∃ s : State, ∃ t : Nat, ∃ p : Packet, ((s.fab.ni t).firstCtl opcPortEvent = some p) ∧ (hdr p 128 8 = 1) :=
  ⟨atNi fun n => { n with ctlIn := [mkControl 0 0 0 0 opcPortEvent 0 1] }, 0, _, rfl, rfl⟩

theorem witness_IngressChecks_0 :
    ∃ s : State, ∃ t : Nat, ∃ x : Staged, ((s.fab.ni t).nextStaged = some x) ∧ ((s.fab.tile t).st = .t0) ∧ (
    let f1 := s.fab.modNi t (fun n => { n with staged := dropFirst (fun y => y.seq == x.seq) n.staged })
    ∃ code, (f1.badForm t x = some code)) :=
  ⟨atNi fun n => { n with staged := [sg (pkt 0 0 0 0 1)] }, 0, sg (pkt 0 0 0 0 1), by decide +kernel,
    by decide +kernel, _, rfl⟩

def wIngressChecks1 : State := atNi fun n => { n with tags := [(0, { Tag.reset with st := .granted })], staged := [sg (pkt 0 0 1 0)] }
theorem witness_IngressChecks_1 :
    ∃ s : State, ∃ t : Nat, ∃ x : Staged, ((s.fab.ni t).nextStaged = some x) ∧ ((s.fab.tile t).st = .t0) ∧ (
    let f1 := s.fab.modNi t (fun n => { n with staged := dropFirst (fun y => y.seq == x.seq) n.staged })
    ∃ (r : OpRow) (sx : Fab × Staged), (f1.badForm t x = none) ∧
      (sx = f1.stamp t { x with
        pkt := mapHead (fun h => h.put 64 12 (f1.oT t O.EDGE_PROV)) x.pkt, look := f1.time t }) ∧
      (opRow (mcOf sx.2.pkt) (opcOf sx.2.pkt) = some r)) :=
  ⟨wIngressChecks1, 0, sg (pkt 0 0 1 0), by decide +kernel, by decide +kernel, _, _, by decide +kernel, rfl, rfl⟩

theorem witness_IngressChecks_2 :
    ∃ s : State, ∃ t : Nat, ∃ bad : List (Nat × Nat), ∃ x : Staged, ∃ rest : List Staged, ∃ sx : Fab × Staged,
      ((s.fab.ni t).fetch = x :: rest) ∧
      (sx = (s.fab.modNi t (fun n => { n.lensSettle (s.fab.time t) with fetch := rest })).stamp t x) ∧
      (famBad bad x.res = none) :=
  ⟨atNi fun n => { n with fetch := [sg (pkt 0 0 1 0)] }, 0, [], sg (pkt 0 0 1 0), [], _, by decide +kernel, rfl,
    by decide +kernel⟩

theorem witness_IngressChecks_3 :
    ∃ s : State, ∃ t : Nat, ∃ bad : List (Nat × Nat), ∃ x : Staged, ∃ rest : List Staged, ∃ sx : Fab × Staged,
      ((s.fab.ni t).fetch = x :: rest) ∧
      (sx = (s.fab.modNi t (fun n => { n.lensSettle (s.fab.time t) with fetch := rest })).stamp t x) ∧
      (∃ info, (famBad bad x.res = some info)) :=
  ⟨atNi fun n => { n with fetch := [{ sg (pkt 0 0 1 0) with res := [⟨5, 0, false⟩] }] }, 0, [(0, 5)],
    { sg (pkt 0 0 1 0) with res := [⟨5, 0, false⟩] }, [], _, by decide +kernel, rfl, _, rfl⟩

theorem witness_EdgeQueues_0 :
    ∃ s : State, ∃ t : Nat, ∃ x : Staged, ∃ rest : List Staged, ((s.fab.ni t).waitV = x :: rest) ∧
      ((s.fab.ni t).violQ.length < 32) :=
  ⟨atNi fun n => { n with waitV := [sg (pkt 0 0 1 0)] }, 0, sg (pkt 0 0 1 0), [], by decide +kernel,
    by decide +kernel⟩

theorem witness_EdgeQueues_1 :
    ∃ s : State, ∃ d : Nat, ∃ x rest, ((s.fab.spOf d).violW = x :: rest) ∧ ((s.fab.spOf d).violQ.length < 32) :=
  ⟨atSp fun n => { n with violW := [(1, 1)] }, 0, _, _, rfl, by decide +kernel⟩

theorem witness_EdgeQueues_2 :
    ∃ s : State, ∃ t : Nat, ∃ v : ViolEnt,
      ((s.fab.ni t).violQ.find? (fun v => decide (v.due ≤ s.fab.time t)) = some v) :=
  ⟨atNi fun n => { n with violQ := [⟨[], 0, 0⟩] }, 0, ⟨[], 0, 0⟩, by decide +kernel⟩

theorem witness_EdgeQueues_3 :
    ∃ s : State, ∃ d : Nat, ∃ v,
      ((s.fab.spOf d).violQ.find? (fun v => decide (v.2 ≤ s.fab.time (spTile d))) = some v) :=
  ⟨atSp fun n => { n with violQ := [(1, 0)] }, 0, _, rfl⟩

theorem witness_EdgeQueues_4 :
    ∃ s : State, ∃ t : Nat, ∃ x : Staged, ∃ rest : List Staged, ((s.fab.ni t).waitH = x :: rest) ∧
      ((s.fab.ni t).holdRoom x = true) :=
  ⟨atNi fun n => { n with waitH := [sg (pkt 0 0 1 0)] }, 0, sg (pkt 0 0 1 0), [], by decide +kernel,
    by decide +kernel⟩

theorem witness_EdgeQueues_5 :
    ∃ s : State, ∃ d k : Nat, ∃ rest : List Nat, ((s.fab.spOf d).holdW = k :: rest) ∧ (s.fab.spHoldRoom d k = true) :=
  ⟨atSp fun n => { n with holdW := [0] }, 0, 0, [], by decide +kernel, by decide +kernel⟩

def wEdgeSelections0 : State := st ((base.modNi 0 fun n => { n with inj := { n.inj with q := [(0, [qp (pkt 0 0 1 0)])] } }).modOut 0 sndNi fun x => { x with awake := true, owed := false, cred := List.replicate 16 1 })
theorem witness_EdgeSelections_0 :
    ∃ s : State, ∃ t : Nat, ∃ f1 f2 : Fab, ∃ e : QPkt, (f1 = s.fab.beginFlush t) ∧ ((f1.tile t).st = .t0) ∧
      (supply (f1.ni t).prog (f1.out t sndNi) < 2) ∧ (f1.selectPkt (.ni t) 0 (f1.injectOk t) = (f2, some e)) :=
  ⟨wEdgeSelections0, 0, wEdgeSelections0.fab.beginFlush 0, ((wEdgeSelections0.fab.beginFlush 0).selectPkt (.ni 0) 0
    ((wEdgeSelections0.fab.beginFlush 0).injectOk 0)).1, qp (pkt 0 0 1 0), rfl, by decide +kernel, by decide +kernel,
    Prod.ext rfl (by decide +kernel)⟩

theorem witness_EdgeSelections_1 :
    ∃ f : Fab, ∃ t sc mc : Nat, ∃ e : QPkt, (sc ≠ 4) ∧ (f.fenceOk t sc mc e = true) :=
  ⟨base, 0, 0, 0, qp (pkt 0 0 1 0), by decide +kernel, by decide +kernel⟩

def wEdgeSelections2 : Fab := base.modNi 0 fun n => { n with flush := [⟨1, 0, 0, (9, 0), none, false⟩] }
theorem witness_EdgeSelections_2 :
    ∃ f : Fab, ∃ t sc mc : Nat, ∃ e : QPkt, (sc ≠ 4) ∧ (f.fenceOk t sc mc e = true) ∧ (isGuarded e.pkt = true) ∧
      (e.flushed = false) ∧ (∃ h, (h ∈ (f.ni t).flush)) :=
  ⟨wEdgeSelections2, 0, 0, 0, qp (pkt 0 12 1 0), by decide +kernel, by decide +kernel, by decide +kernel,
    by decide +kernel, _, List.mem_singleton.mpr rfl⟩

def wEdgeSelections3 : State := st ((base.modSp 0 fun n => { n with inj := { n.inj with q := [(0, [qp (pkt 0 0 1 0)])] } }).modOut (spTile 0) sndUnit fun x => { x with awake := true, owed := false, cred := List.replicate 16 1 })
theorem witness_EdgeSelections_3 :
    ∃ s : State, ∃ d : Nat, ∃ f2 : Fab, ∃ e : QPkt, ((s.fab.tile (spTile d)).st = .t0) ∧
      (supply (s.fab.tile (spTile d)).uprog (s.fab.out (spTile d) sndUnit) < 2) ∧
      (s.fab.selectPkt (.sp d) 0 (fun _ _ e => s.fab.injectOkSp d e) = (f2, some e)) :=
  ⟨wEdgeSelections3, 0, (wEdgeSelections3.fab.selectPkt (.sp 0) 0 (fun _ _ e => wEdgeSelections3.fab.injectOkSp 0 e)).1,
    qp (pkt 0 0 1 0), by decide +kernel, by decide +kernel, Prod.ext rfl (by decide +kernel)⟩

theorem witness_EdgeSelections_4 :
    ∃ s : State, ∃ t vc : Nat, ∃ p : Packet, ∃ rest : List (Nat × Packet), ((s.fab.tile t).ej0.arr = (vc,
      p) :: rest) ∧ (p.length ≠ lenOf p) :=
  ⟨atTile fun x => { x with ej0 := { x.ej0 with arr := [(0, pkt 0 0 2 0 1)] } }, 0, 0, _, _, rfl, by decide +kernel⟩

theorem witness_EdgeSelections_5 :
    ∃ s : State, ∃ t : Nat, ∃ f2 : Fab, ∃ e : QPkt, ((s.fab.tile t).st = .t0) ∧ ((s.fab.ni t).eRest = 0) ∧
      (s.fab.selectPkt (.ni t) 1 (fun _ mc e => isFlush e.pkt || ((s.fab.ni t).epoch && (s.fab.ni t).link != .down
      && decide (e.pkt.length ≤ (s.fab.ni t).eCred.getD mc 0))) = (f2, some e)) :=
  ⟨atNi fun n => { n with epoch := true, link := .active, eCred := List.replicate 8 1, egr := { n.egr with q := [(0, [qp (pkt 0 0 1 0)])] } },
    0, _, _, by decide +kernel, by decide +kernel, rfl⟩

theorem witness_EdgeSelections_6 :
    ∃ s : State, ∃ t vc : Nat, ∃ p : Packet, ∃ rest : List (Nat × Packet), ((s.fab.tile t).ej0.arr = (vc,
      p) :: rest) ∧ (p.length = lenOf p) :=
  ⟨atTile fun x => { x with ej0 := { x.ej0 with arr := [(0, pkt 0 0 2 0)] } }, 0, 0, _, _, rfl, rfl⟩

def wEdgeSelections5 : State := atSp fun n => { n with upCred := 32, msgs := [(0, (⟨none, 0, 0, 8, 0, 0, 0, .waiting, none, false, none⟩, ⟨0, 0, 0, [], false⟩))], egr := { n.egr with q := [(0, [qp (pkt 0 0 1 0)])] } }
theorem witness_EdgeSelections_7 :
    ∃ s : State, ∃ d k : Nat, ∃ f2 : Fab, ∃ e : QPkt, ∃ m, ((s.fab.tile (spTile d)).st = .t0) ∧
      ((s.fab.spOf d).up = []) ∧
      (s.fab.selectPkt (.sp d) 1 (fun _ _ e => match (s.fab.spOf d).msgs.find? (fun kv => kv.1 == tagOf e.pkt) with
      | some (_, m) => decide (m.2.size ≤ (s.fab.spOf d).upCred)
      | none => true) = (f2, some e)) ∧
      ((s.fab.spOf d).msgs.find? (fun kv => kv.1 == tagOf e.pkt) = some (k, m)) :=
  ⟨wEdgeSelections5, 0, 0,
    (wEdgeSelections5.fab.selectPkt (.sp 0) 1 (fun _ _ e => match (wEdgeSelections5.fab.spOf 0).msgs.find? (fun kv => kv.1 == tagOf e.pkt) with
      | some (_, m) => decide (m.2.size ≤ (wEdgeSelections5.fab.spOf 0).upCred)
      | none => true)).1, qp (pkt 0 0 1 0), _, by decide +kernel, by decide +kernel, Prod.ext rfl (by decide +kernel), rfl⟩

theorem witness_EdgeSelections_8 :
    ∃ s : State, ∃ t : Nat, ∃ p : Packet, ∃ rest : List Packet, ((s.fab.ni t).rspIn = p :: rest) ∧
      ((s.fab.tag t (tagOf p)).awaits = true) ∧ ((s.fab.tag t (tagOf p)).tgt = some (srcTile p, srcSlot p)) ∧
      (isFlushDone p = false) :=
  ⟨atNi fun n => { n with rspIn := [pkt 2 0 1 5], tags := [(5, { Tag.reset with st := .out, tgt := some (0, 0) })] },
    0, _, _, rfl, rfl, by decide +kernel, rfl⟩

theorem witness_EdgeSelections_9 :
    ∃ f : Fab, ∃ w : Who, ∃ dir : Nat, ((f.sched w dir).picked = true) :=
  ⟨base.modNi 0 fun n => { n with inj := { n.inj with picked := true } }, .ni 0, 0, by decide +kernel⟩

theorem witness_TransactionTags_0 :
    ∃ s : State, ∃ t pos : Nat, ((s.fab.ni t).epoch = true) ∧ ((s.fab.ni t).noGrant = none) ∧
      ((s.fab.tile t).st = .t0) ∧ ((s.fab.ni t).nextOpening 2032 (s.fab.ni t).grantPos = some pos) :=
  ⟨atNi fun n => { n with epoch := true }, 0, _, by decide +kernel, by decide +kernel, by decide +kernel, rfl⟩

theorem witness_TransactionTags_1 :
    ∃ s : State, ∃ t k : Nat, ((s.fab.ni t).epoch = true) ∧ ((s.fab.ni t).noGrant = none) ∧
      ((s.fab.tile t).st = .t0) ∧ ((s.fab.ni t).nextOpening 2032 (s.fab.ni t).grantPos = none) ∧ (k < 2032) ∧
      ((s.fab.tag t k).st = .free) :=
  ⟨atNi fun n => { n with epoch := true, tags := [], grantPos := 2032 }, 0, 2031, by decide +kernel,
    by decide +kernel, by decide +kernel, by decide +kernel, by decide +kernel, by decide +kernel⟩

theorem witness_TransactionTags_2 :
    ∃ s : State, ∃ t due : Nat, ((s.fab.ni t).noGrant = some due) ∧ (due ≤ s.fab.runN t) :=
  ⟨atNi fun n => { n with noGrant := some 0 }, 0, 0, by decide +kernel, by decide +kernel⟩

theorem witness_TransactionTags_3 :
    ∃ s : State, ∃ t k : Nat, ((s.fab.tile t).st = .t0) ∧ ((s.fab.tag t k).expirable = true) ∧
      ((s.fab.tag t k).deadline ≤ s.fab.runN t) :=
  ⟨atNi fun n => { n with tags := [(2031, { Tag.reset with st := .out })] }, 0, 2031, by decide +kernel,
    by decide +kernel, by decide +kernel⟩

theorem witness_TransactionTags_4 :
    ∃ s : State, ∃ t k : Nat, ((s.fab.tile t).st = .t0) ∧ ((s.fab.tag t k).expirable = true) ∧
      (s.fab.runN t < (s.fab.tag t k).deadline) :=
  ⟨atNi fun n => { n with tags := [(2031, { Tag.reset with st := .out, deadline := 2 ^ 90 })] }, 0, 2031,
    by decide +kernel, by decide +kernel, by decide +kernel⟩

theorem witness_TransactionTags_5 :
    ∃ s : State, ∃ d k : Nat, ((s.fab.tile (spTile d)).st = .t0) ∧ ((s.fab.spTag d k).awaits = true) ∧
      ((s.fab.spTag d k).deadline ≤ s.fab.runN (spTile d)) :=
  ⟨atSp fun n => { n with tags := [(255, { Tag.reset with st := .out })] }, 0, 255, by decide +kernel,
    by decide +kernel, by decide +kernel⟩

theorem witness_TransactionTags_6 :
    ∃ s : State, ∃ t k : Nat, ((s.fab.tag t k).st = .quar) ∧ ((s.fab.tile t).st = .t0) ∧
      ((s.fab.tag t k).deadline ≤ s.fab.runN t) :=
  ⟨atNi fun n => { n with tags := [(2031, { Tag.reset with st := .quar })] }, 0, 2031, by decide +kernel,
    by decide +kernel, by decide +kernel⟩

theorem witness_TransactionTags_7 :
    ∃ s : State, ∃ t : Nat, ((s.fab.ni t).epoch = true) ∧ ((s.fab.ni t).lowJudged = false) :=
  ⟨atNi fun n => { n with epoch := true }, 0, by decide +kernel, by decide +kernel⟩

theorem witness_TableWrites_0 :
    ∃ s : State, ∃ v : Nat, (s.fab.bind.granLocked = false) ∧ (v < 3) :=
  ⟨st base, 0, by decide +kernel, by decide +kernel⟩

theorem witness_TableWrites_1 :
    ∃ s : State, (s.fab.bind.granLocked = true) :=
  ⟨st { base with bind := { base.bind with granLocked := true } }, by decide +kernel⟩

theorem witness_TableWrites_2 :
    ∃ s : State, ∃ table elem v : Nat, (table < 3) ∧ (elem < (if table = 0 then 1048576 else 4096)) ∧ ((∀ d,
      d < 4 → s.fab.bcastUp d = true)) ∧ (s.fab.locked table elem = false) ∧ (s.fab.sealed = false) ∧
      (s.fab.bind.cst ≠ .armed) ∧ (s.fab.bind.stage.length + (recordsOf table elem v).length ≤ 4096) ∧
      ((table = 0 → s.fab.badEntry v = false)) :=
  ⟨st base, 0, 0, 0, by decide +kernel, by decide +kernel, by decide +kernel, by decide +kernel, by decide +kernel,
    by decide +kernel, by decide +kernel, by decide +kernel⟩

theorem witness_TableWrites_3 :
    ∃ s : State, ∃ table elem : Nat, (table < 3) ∧ (elem < (if table = 0 then 1048576 else 4096)) ∧ ((∀ d,
      d < 4 → s.fab.bcastUp d = true)) ∧ (s.fab.locked table elem = true) :=
  ⟨st (base.modCopy 0 fun c => { c with fam := [(1048575, 2 ^ 30)] }), 0, 1048575, by decide +kernel,
    by decide +kernel, by decide +kernel, by decide +kernel⟩

theorem witness_TableWrites_4 :
    ∃ s : State, ∃ v : Nat, (s.fab.sealed = false) ∧ (s.fab.bind.cst ≠ .armed) ∧ (v ≠ 0) :=
  ⟨st base, 1, by decide +kernel, by decide +kernel, by decide +kernel⟩

theorem witness_TableWrites_5 :
    ∃ s : State, (s.fab.bind.cst = .armed) :=
  ⟨st { base with bind := { base.bind with cst := .armed } }, by decide +kernel⟩

theorem witness_TableWrites_6 :
    ∃ num v : Nat, ∃ sc : Scope, ((sc = .tile ∨ sc = .sp ∨ sc = .die)) ∧ (num < sc.count) ∧ (v ≠ 0) :=
  ⟨255, 1, .tile, by decide +kernel, by decide +kernel, by decide +kernel⟩

theorem witness_Commits_0 :
    ∃ s : State, ∃ tm : Nat, (s.fab.sealed = false) ∧ (s.fab.bind.stage ≠ []) ∧ (s.fab.bind.cst ≠ .armed) ∧
      (s.fab.bind.dst ≠ .running) ∧ (s.fab.dieTime 0 + us 20 ≤ tm) ∧ (tm ≤ s.fab.dieTime 0 + ms 10000) :=
  ⟨st { base with bind := { base.bind with stage := [⟨0, 0, 0, 1⟩] } }, us 20, by decide +kernel, by decide +kernel,
    by decide +kernel, by decide +kernel, by decide +kernel, by decide +kernel⟩

theorem witness_Commits_1 :
    ∃ s : State, ∃ tm : Nat,
      ((s.fab.sealed = true ∨ s.fab.bind.stage = [] ∨ s.fab.bind.cst = .armed ∨ s.fab.bind.dst = .running ∨ tm < s.fab.dieTime 0 + us 20 ∨ s.fab.dieTime 0 + ms 10000 < tm)) :=
  ⟨st base, 0, by decide +kernel⟩

theorem witness_Commits_2 :
    ∃ s : State, ∃ t : Nat, ∃ p : Packet, ((s.fab.ni t).firstCtl opcLensInv = some p) :=
  ⟨atNi fun n => { n with ctlIn := [mkControl 0 0 0 0 opcLensInv 0 0] }, 0, mkControl 0 0 0 0 opcLensInv 0 0, rfl⟩

def wCommits3 : State := st { atSpIn (mkControl 0 0 0 0 opcDrainDone 0 513) with bind := { base.bind with cst := .armed } }
theorem witness_Commits_3 :
    ∃ s : State, ∃ d : Nat, ∃ f1 : Fab, ∃ p : Packet, (s.fab.takeDone d 1 = (f1, some p)) ∧ (p.length = lenOf p) ∧
      (f1.bind.cst = .armed) ∧ (hdr p 137 8 = (f1.bind.seq + 1) % 256) :=
  ⟨wCommits3, 0, (wCommits3.fab.takeDone 0 1).1, mkControl 0 0 0 0 opcDrainDone 0 513, Prod.ext rfl rfl,
    by decide +kernel, by decide +kernel, by decide +kernel⟩

theorem witness_Commits_4 :
    ∃ s : State, (s.fab.bind.cst = .armed) ∧ (s.fab.bind.judged = false) ∧ (s.fab.bind.t ≤ s.fab.dieTime 0 + us 5) :=
  ⟨st { base with bind := { base.bind with cst := .armed } }, by decide +kernel, by decide +kernel, by decide +kernel⟩

theorem witness_Commits_5 :
    ∃ s : State, ∃ d : Nat, ∃ f1 : Fab, ∃ p : Packet, (s.fab.takeDone d 1 = (f1, some p)) ∧ (p.length = lenOf p) :=
  ⟨wCommits3, 0, (wCommits3.fab.takeDone 0 1).1, mkControl 0 0 0 0 opcDrainDone 0 513, Prod.ext rfl rfl,
    by decide +kernel⟩

theorem witness_Commits_6 :
    ∃ s : State, (s.fab.bind.cst = .armed) ∧ (s.fab.bind.judged = true) :=
  ⟨st { base with bind := { base.bind with cst := .armed, judged := true } }, by decide +kernel, by decide +kernel⟩

theorem witness_Commits_7 :
    ∃ s : State, ∃ u : Nat, ∃ e : Ecc, ∃ bad : List (Nat × Nat × Nat), (s.fab.bind.cst = .armed) ∧
      (s.fab.bind.judged = true) ∧ (∃ f1 f2 f3 f4 : Fab, (f1 = (List.range 4).foldl (fun f d => f.takeCopy d
      s.fab.bind.t) s.fab) ∧ (f2 = (if f1.niTook u s.fab.bind.t = true ∨ f1.time u < s.fab.bind.t then f1 else
      f1.holdError u e)) ∧ (f3 = (List.range 256).foldl (fun f t => f.takeNi t s.fab.bind.t (badOf bad (dieOf t)))
      f2) ∧ (f4 = (List.range 4).foldl (fun f d => f.takeSp d s.fab.bind.t (badOf bad d)) f3) ∧ (f4.commitTook
      s.fab.bind.t = false)) :=
  ⟨st { base with bind := { base.bind with cst := .armed, judged := true, t := 1 } }, 0, .clean, [],
    by decide +kernel, by decide +kernel, _, _, _, _, rfl, rfl, rfl, rfl, by decide +kernel⟩

theorem witness_Commits_8 :
    ∃ s : State, ∃ u : Nat, ∃ e : Ecc, ∃ bad : List (Nat × Nat × Nat), (s.fab.bind.cst = .armed) ∧
      (s.fab.bind.judged = true) ∧ (∃ f1 f2 f3 f4 : Fab, (f1 = (List.range 4).foldl (fun f d => f.takeCopy d
      s.fab.bind.t) s.fab) ∧ (f2 = (if f1.niTook u s.fab.bind.t = true ∨ f1.time u < s.fab.bind.t then f1 else
      f1.holdError u e)) ∧ (f3 = (List.range 256).foldl (fun f t => f.takeNi t s.fab.bind.t (badOf bad (dieOf t)))
      f2) ∧ (f4 = (List.range 4).foldl (fun f d => f.takeSp d s.fab.bind.t (badOf bad d)) f3) ∧ (f4.commitTook
      s.fab.bind.t = true)) :=
  ⟨st { base with bind := { base.bind with cst := .armed, judged := true } }, 0, .clean, [], by decide +kernel,
    by decide +kernel, _, _, _, _, rfl, rfl, rfl, rfl, by decide +kernel⟩

theorem witness_Commits_9 :
    ∃ f : Fab, ∃ d tm : Nat, ((f.copyOf d).t = some tm) ∧ (tm ≤ f.dieTime d) :=
  ⟨base.modCopy 3 fun c => { c with t := some 0 }, 3, 0, by decide +kernel, by decide +kernel⟩

theorem witness_Commits_10 :
    ∃ f : Fab, ∃ d tm : Nat, (f.dieTime d < tm) ∧ (f.dieLive d = true) :=
  ⟨base, 3, 1, by decide +kernel, by decide +kernel⟩

theorem witness_Commits_11 :
    ∃ f : Fab, ∃ t tm : Nat, (f.time t < tm) :=
  ⟨base, 255, 1, by decide +kernel⟩

theorem witness_Commits_12 :
    ∃ f : Fab, ∃ t tm : Nat, ((f.tile t).st = .t0) ∧ (tm ≤ f.time t) ∧ ((f.ni t).commitT < tm) :=
  ⟨base.modLan 0 fun l => { l with acc := 2 ^ 100 }, 0, 1, by decide +kernel, by decide +kernel, by decide +kernel⟩

theorem witness_Drains_0 :
    ∃ s : State, ∃ d : Nat, (s.fab.bind.dst ≠ .running) ∧ (s.fab.bind.cst ≠ .armed) ∧ (d < 256) :=
  ⟨st base, 0, by decide +kernel, by decide +kernel, by decide +kernel⟩

theorem witness_Drains_1 :
    ∃ s : State, ((s.fab.bind.dst = .running ∨ s.fab.bind.cst = .armed)) :=
  ⟨st { base with bind := { base.bind with dst := .running } }, by decide +kernel⟩

theorem witness_Drains_2 :
    ∃ s : State, ∃ t : Nat, ∃ p : Packet, ((s.fab.ni t).firstCtl opcDrainMark = some p) ∧ (∀ m, (s.fab.ni t).drain =
      some m → m.seq ≠ hdr p 136 8) :=
  ⟨atNi fun n => { n with ctlIn := [mkControl 0 0 0 0 opcDrainMark 0 0], drain := some ⟨0, 1, 0, 0⟩ }, 0, mkControl
    0 0 0 0 opcDrainMark 0 0, rfl, fun m h => by cases h; decide +kernel⟩

theorem witness_Drains_3 :
    ∃ s : State, ∃ t : Nat, ∃ m : DrainMark, ((s.fab.ni t).drain = some m) ∧ (markedOut (s.fab.ni t).tags = 0) :=
  ⟨atNi fun n => { n with drain := some ⟨0, 0, 0, 0⟩ }, 0, ⟨0, 0, 0, 0⟩, by decide +kernel, by decide +kernel⟩

theorem witness_Drains_4 :
    ∃ s : State, ∃ d : Nat, ∃ m : DrainMark, ((s.fab.spOf d).drain = some m) ∧ (markedOut (s.fab.spOf d).tags = 0) :=
  ⟨atSp fun n => { n with drain := some ⟨0, 0, 0, 0⟩ }, 0, ⟨0, 0, 0, 0⟩, by decide +kernel, by decide +kernel⟩

def wDrains5 : State := st (atSpIn (mkControl 0 0 0 0 opcDrainDone 0 0))
theorem witness_Drains_5 :
    ∃ s : State, ∃ d : Nat, ∃ f1 : Fab, ∃ p : Packet, (s.fab.takeDone d 0 = (f1, some p)) ∧ (p.length = lenOf p) ∧
      (hdr p 137 8 = f1.bind.dseq) :=
  ⟨wDrains5, 0, (wDrains5.fab.takeDone 0 0).1, mkControl 0 0 0 0 opcDrainDone 0 0, Prod.ext rfl rfl,
    by decide +kernel, by decide +kernel⟩

theorem witness_RoutedRequestsPassed_0 :
    ∃ n : Need, ∃ have_ g a z : Nat, ∃ ls : List LensLine, ∃ e i : Nat, (ls.map (·.idx) = granules g a z) ∧
      (checkAll n have_ g a z ls = .route e i) ∧ (∃ l, (ls = [l]) ∧ (i = a / 2 ^ g) ∧ (i = z / 2 ^ g) ∧
      (eSlot e = 1)) :=
  ⟨⟨0, 0, false, [0]⟩, 0, 12, 0, 0, [⟨0, 2 ^ 9 + 1, true⟩], 2 ^ 9 + 1, 0, by decide +kernel, by decide +kernel, ⟨0,
    2 ^ 9 + 1, true⟩, by decide +kernel, by decide +kernel, by decide +kernel, by decide +kernel⟩

theorem witness_RoutedRequestsPassed_1 :
    ∃ n : Need, ∃ have_ g a z : Nat, ∃ ls : List LensLine, ∃ e i : Nat, (ls.map (·.idx) = granules g a z) ∧
      (checkAll n have_ g a z ls = .route e i) ∧ (eSlot e = 1) :=
  ⟨⟨0, 0, false, [0]⟩, 0, 12, 0, 0, [⟨0, 2 ^ 9 + 1, true⟩], 2 ^ 9 + 1, 0, by decide +kernel, by decide +kernel,
    by decide +kernel⟩

theorem witness_OverlayDrainInvisible_0 :
    ∃ s : State, ∃ d : Nat, ((∀ r ∈ (s.fab.copyOf d).drain, r.table < 3 ∧ (r.table ≠ tblShare → r.part = 0))) :=
  ⟨st base, 0, by decide +kernel⟩

theorem witness_ServicePortStreams_0 :
    ∃ s : State, ∃ d : Nat, ((s.fab.spOf d).ready = true) ∧ (0 < (s.fab.spOf d).dnCred) ∧
      ((s.fab.spOf d).skip = false) ∧ ((s.fab.spOf d).dn ≠ []) :=
  ⟨atSp fun n => { n with ready := true, dnCred := 1, dn := [dw] }, 0, by decide +kernel, by decide +kernel,
    by decide +kernel, by decide +kernel⟩

theorem witness_ServicePortStreams_1 :
    ∃ s : State, ∃ d : Nat, ((s.fab.spOf d).ready = true) ∧ (0 < (s.fab.spOf d).dnCred) :=
  ⟨atSp fun n => { n with ready := true, dnCred := 32 }, 0, by decide +kernel, by decide +kernel⟩

theorem witness_ServicePortStreams_2 :
    ∃ s : State, ∃ d : Nat, ((s.fab.spOf d).ready = true) ∧ (0 < (s.fab.spOf d).dnCred) ∧
      ((s.fab.spOf d).skip = false) ∧ ((s.fab.spOf d).dn = []) :=
  ⟨st base, 0, by decide +kernel, by decide +kernel, by decide +kernel, by decide +kernel⟩

theorem witness_ServicePortStreams_3 :
    ∃ s : State, ∃ d : Nat, ((s.fab.spOf d).ready = true) :=
  ⟨st base, 0, by decide +kernel⟩

theorem witness_ServicePortStreams_4 :
    ∃ s : State, ∃ d : Nat, ∃ m : SpMsg, ∃ rest : List SpMsg, ((s.fab.spOf d).up = m :: rest) ∧
      (m.size ≤ (s.fab.spOf d).upCred) :=
  ⟨atSp fun n => { n with up := [⟨0, 0, 0, [], false⟩], upCred := 1 }, 0, ⟨0, 0, 0, [], false⟩, [], by decide +kernel,
    by decide +kernel⟩

theorem witness_ServicePortStreams_5 :
    ∃ s : State, ∃ d : Nat, ∃ hw : SpWord, ∃ data more : List SpWord, ∃ whole : Bool,
      (spFront (s.fab.spOf d).dn = some (hw, data, more, whole)) ∧ ((s.fab.spOf d).ready = true) ∧
      ((s.fab.spOf d).hold = false) ∧ (7 ≤ (SpHead.ofWord hw.w).op) :=
  ⟨atReq 7 0 [], 0, hw 7 0, [], [], true, by decide +kernel, by decide +kernel, by decide +kernel, by decide +kernel⟩

theorem witness_ServicePortMessages_0 :
    ∃ s : State, ∃ d : Nat, ∃ hw : SpWord, ∃ data more : List SpWord, (spFront (s.fab.spOf d).dn = some (hw, data,
      more, true)) ∧ ((s.fab.spOf d).ready = true) ∧ ((s.fab.spOf d).hold = false) ∧ (
    let h := SpHead.ofWord hw.w
    (spRefusal (s.fab.spOf d).rids hw data = none) ∧ (h.op = 0)) :=
  ⟨atReq 0 8 [], 0, hw 0 8, [], [], by decide +kernel, by decide +kernel, by decide +kernel, by decide +kernel,
    by decide +kernel⟩

theorem witness_ServicePortMessages_1 :
    ∃ s : State, ∃ d : Nat, ∃ hw : SpWord, ∃ data more : List SpWord, (spFront (s.fab.spOf d).dn = some (hw, data,
      more, true)) ∧ ((s.fab.spOf d).ready = true) ∧ ((s.fab.spOf d).hold = false) ∧ (
    let h := SpHead.ofWord hw.w
    
    let v := spWriteData h.addr h.bytes data
    (spRefusal (s.fab.spOf d).rids hw data = none) ∧ (h.op = 1) ∧ (s.fab.storeMay d h v = true)) :=
  ⟨atReq 1 8 [dw], 0, hw 1 8, [dw], [], by decide +kernel, by decide +kernel, by decide +kernel, by decide +kernel,
    by decide +kernel, by decide +kernel⟩

theorem witness_ServicePortMessages_2 :
    ∃ s : State, ∃ d : Nat, ∃ hw : SpWord, ∃ data more : List SpWord, (spFront (s.fab.spOf d).dn = some (hw, data,
      more, true)) ∧ ((s.fab.spOf d).ready = true) ∧ ((s.fab.spOf d).hold = false) ∧ (
    let h := SpHead.ofWord hw.w
    
    let v := spWriteData h.addr h.bytes data
    (spRefusal (s.fab.spOf d).rids hw data = none) ∧ (h.op = 1) ∧ (s.fab.storeMay d h v = false)) :=
  ⟨atReq 1 8 [dw] [] (List.replicate 32 ⟨5, 0, 8, 0, 0, false, false, false, none, none, none⟩), 0, hw 1 8, [dw], [],
    by decide +kernel, by decide +kernel, by decide +kernel, by decide +kernel, by decide +kernel, by decide +kernel⟩

theorem witness_ServicePortMessages_3 :
    ∃ s : State, ∃ d : Nat, ∃ hw : SpWord, ∃ data more : List SpWord, (spFront (s.fab.spOf d).dn = some (hw, data,
      more, true)) ∧ ((s.fab.spOf d).ready = true) ∧ ((s.fab.spOf d).hold = false) ∧ (
    let h := SpHead.ofWord hw.w
    (spRefusal (s.fab.spOf d).rids hw data = none) ∧ (h.op = 2)) :=
  ⟨atReq 2 8 [], 0, hw 2 8, [], [], by decide +kernel, by decide +kernel, by decide +kernel, by decide +kernel,
    by decide +kernel⟩

theorem witness_ServicePortMessages_4 :
    ∃ s : State, ∃ d : Nat, ∃ hw : SpWord, ∃ data more : List SpWord, (spFront (s.fab.spOf d).dn = some (hw, data,
      more, true)) ∧ ((s.fab.spOf d).ready = true) ∧ ((s.fab.spOf d).hold = false) ∧ (
    let h := SpHead.ofWord hw.w
    (spRefusal (s.fab.spOf d).rids hw data = none) ∧ (h.op = 3)) :=
  ⟨atReq 3 8 [dw], 0, hw 3 8, [dw], [], by decide +kernel, by decide +kernel, by decide +kernel, by decide +kernel,
    by decide +kernel⟩

theorem witness_ServicePortMessages_5 :
    ∃ s : State, ∃ d : Nat, ∃ hw : SpWord, ∃ data more : List SpWord, (spFront (s.fab.spOf d).dn = some (hw, data,
      more, true)) ∧ ((s.fab.spOf d).ready = true) ∧ ((s.fab.spOf d).hold = false) ∧ (
    let h := SpHead.ofWord hw.w
    (spRefusal (s.fab.spOf d).rids hw data = none) ∧ (h.op = 4)) :=
  ⟨atReq 4 0 [], 0, hw 4 0, [], [], by decide +kernel, by decide +kernel, by decide +kernel, by decide +kernel,
    by decide +kernel⟩

theorem witness_ServicePortMessages_6 :
    ∃ s : State, ∃ d : Nat, ∃ hw : SpWord, ∃ data more : List SpWord, (spFront (s.fab.spOf d).dn = some (hw, data,
      more, true)) ∧ ((s.fab.spOf d).ready = true) ∧ ((s.fab.spOf d).hold = false) ∧ (
    let h := SpHead.ofWord hw.w
    (spRefusal (s.fab.spOf d).rids hw data = none) ∧ (h.op = 5)) :=
  ⟨atReq 5 0 [], 0, hw 5 0, [], [], by decide +kernel, by decide +kernel, by decide +kernel, by decide +kernel,
    by decide +kernel⟩

theorem witness_ServicePortMessages_7 :
    ∃ s : State, ∃ d : Nat, ∃ hw : SpWord, ∃ data more : List SpWord, (spFront (s.fab.spOf d).dn = some (hw, data,
      more, true)) ∧ ((s.fab.spOf d).ready = true) ∧ ((s.fab.spOf d).hold = false) ∧ (
    let h := SpHead.ofWord hw.w
    (spRefusal (s.fab.spOf d).rids hw data = none) ∧ (h.op = 6)) :=
  ⟨atReq 6 0 [], 0, hw 6 0, [], [], by decide +kernel, by decide +kernel, by decide +kernel, by decide +kernel,
    by decide +kernel⟩

theorem witness_ServicePortMessages_8 :
    ∃ s : State, ∃ d : Nat, ∃ hw : SpWord, ∃ data more : List SpWord, (spFront (s.fab.spOf d).dn = some (hw, data,
      more, true)) ∧ ((s.fab.spOf d).ready = true) ∧ ((s.fab.spOf d).hold = false) ∧ (
    let h := SpHead.ofWord hw.w
    ∃ reason, (spRefusal (s.fab.spOf d).rids hw data = some reason) ∧ (h.op = 0)) :=
  ⟨atReq 0 8 [] [0], 0, hw 0 8, [], [], by decide +kernel, by decide +kernel, by decide +kernel, 6, by decide +kernel,
    by decide +kernel⟩

theorem witness_ServicePortMessages_9 :
    ∃ s : State, ∃ d : Nat, ∃ hw : SpWord, ∃ data more : List SpWord, (spFront (s.fab.spOf d).dn = some (hw, data,
      more, true)) ∧ ((s.fab.spOf d).ready = true) ∧ ((s.fab.spOf d).hold = false) ∧ (
    let h := SpHead.ofWord hw.w
    ∃ reason, (spRefusal (s.fab.spOf d).rids hw data = some reason) ∧ (h.op = 1)) :=
  ⟨atReq 1 8 [dw] [0], 0, hw 1 8, [dw], [], by decide +kernel, by decide +kernel, by decide +kernel, 6,
    by decide +kernel, by decide +kernel⟩

theorem witness_ServicePortMessages_10 :
    ∃ s : State, ∃ d : Nat, ∃ hw : SpWord, ∃ data more : List SpWord, (spFront (s.fab.spOf d).dn = some (hw, data,
      more, true)) ∧ ((s.fab.spOf d).ready = true) ∧ ((s.fab.spOf d).hold = false) ∧ (
    let h := SpHead.ofWord hw.w
    ∃ reason, (spRefusal (s.fab.spOf d).rids hw data = some reason) ∧ (h.op = 2)) :=
  ⟨atReq 2 8 [] [0], 0, hw 2 8, [], [], by decide +kernel, by decide +kernel, by decide +kernel, 6, by decide +kernel,
    by decide +kernel⟩

theorem witness_ServicePortMessages_11 :
    ∃ s : State, ∃ d : Nat, ∃ hw : SpWord, ∃ data more : List SpWord, (spFront (s.fab.spOf d).dn = some (hw, data,
      more, true)) ∧ ((s.fab.spOf d).ready = true) ∧ ((s.fab.spOf d).hold = false) ∧ (
    let h := SpHead.ofWord hw.w
    ∃ reason, (spRefusal (s.fab.spOf d).rids hw data = some reason) ∧ (h.op = 3)) :=
  ⟨atReq 3 8 [dw] [0], 0, hw 3 8, [dw], [], by decide +kernel, by decide +kernel, by decide +kernel, 6,
    by decide +kernel, by decide +kernel⟩

theorem witness_ServicePortMessages_12 :
    ∃ s : State, ∃ d : Nat, ∃ hw : SpWord, ∃ data more : List SpWord, (spFront (s.fab.spOf d).dn = some (hw, data,
      more, true)) ∧ ((s.fab.spOf d).ready = true) ∧ ((s.fab.spOf d).hold = false) ∧ (
    let h := SpHead.ofWord hw.w
    ∃ reason, (spRefusal (s.fab.spOf d).rids hw data = some reason) ∧ (h.op = 4)) :=
  ⟨atReq 4 0 [] [0], 0, hw 4 0, [], [], by decide +kernel, by decide +kernel, by decide +kernel, 6, by decide +kernel,
    by decide +kernel⟩

theorem witness_ServicePortMessages_13 :
    ∃ s : State, ∃ d : Nat, ∃ hw : SpWord, ∃ data more : List SpWord, (spFront (s.fab.spOf d).dn = some (hw, data,
      more, true)) ∧ ((s.fab.spOf d).ready = true) ∧ ((s.fab.spOf d).hold = false) ∧ (
    let h := SpHead.ofWord hw.w
    ∃ reason, (spRefusal (s.fab.spOf d).rids hw data = some reason) ∧ (h.op = 5)) :=
  ⟨atReq 5 0 [] [0], 0, hw 5 0, [], [], by decide +kernel, by decide +kernel, by decide +kernel, 6, by decide +kernel,
    by decide +kernel⟩

theorem witness_ServicePortMessages_14 :
    ∃ s : State, ∃ d : Nat, ∃ hw : SpWord, ∃ data more : List SpWord, (spFront (s.fab.spOf d).dn = some (hw, data,
      more, true)) ∧ ((s.fab.spOf d).ready = true) ∧ ((s.fab.spOf d).hold = false) ∧ (
    let h := SpHead.ofWord hw.w
    ∃ reason, (spRefusal (s.fab.spOf d).rids hw data = some reason) ∧ (h.op = 6)) :=
  ⟨atReq 6 0 [] [0], 0, hw 6 0, [], [], by decide +kernel, by decide +kernel, by decide +kernel, 6, by decide +kernel,
    by decide +kernel⟩

def wServicePortProgress0 : State := atSp fun n => { n with acc := [⟨some 0, 0, 2 ^ 52, 8, 0, 0, 0, .waiting, none, false, none⟩] }
theorem witness_ServicePortProgress_0 :
    ∃ s : State, ∃ d : Nat, ∃ bad : List (Nat × Nat), ∃ a : SpAcc, ∃ g : Fab, (a ∈ ((s.fab.wakeEntries d).spOf
      d).acc) ∧ (a.st.waits = true) ∧ ((s.fab.wakeEntries d).tryAcc d bad a = some g) ∧ (∀ b ∈ ((s.fab.wakeEntries
      d).spOf d).acc, b ≠ a → b.st.waits = true → b.seq ≤ a.seq → (s.fab.wakeEntries d).tryAcc d bad b = none) ∧ (∀
      e ∈ ((s.fab.wakeEntries d).spOf d).pwb, e.seq ≤ a.seq → (s.fab.wakeEntries d).tryEnt d bad e = none) :=
  ⟨wServicePortProgress0, 0, [], ⟨some 0, 0, 2 ^ 52, 8, 0, 0, 0, .waiting, none, false, none⟩,
    ((wServicePortProgress0.fab.wakeEntries 0).tryAcc 0 [] ⟨some 0, 0, 2 ^ 52, 8, 0, 0, 0, .waiting, none, false,
    none⟩).get (by decide +kernel), by decide +kernel, by decide +kernel, (Option.some_get _).symm,
    by decide +kernel, by decide +kernel⟩

def wServicePortProgress1 : State := atSp fun n => { n with pwb := [⟨0, 2 ^ 52, 8, 0, 0, true, false, false, none, none, none⟩] }
theorem witness_ServicePortProgress_1 :
    ∃ s : State, ∃ d : Nat, ∃ bad : List (Nat × Nat), ∃ e : PwbEnt, ∃ g : Fab, (e ∈ ((s.fab.wakeEntries d).spOf
      d).pwb) ∧ ((s.fab.wakeEntries d).tryEnt d bad e = some g) ∧ (∀ b ∈ ((s.fab.wakeEntries d).spOf d).acc,
      b.st.waits = true → b.seq ≤ e.seq → (s.fab.wakeEntries d).tryAcc d bad b = none) ∧ (∀ x ∈ ((s.fab.wakeEntries
      d).spOf d).pwb, x ≠ e → x.seq ≤ e.seq → (s.fab.wakeEntries d).tryEnt d bad x = none) :=
  ⟨wServicePortProgress1, 0, [], ⟨0, 2 ^ 52, 8, 0, 0, true, false, false, none, none, none⟩,
    ((wServicePortProgress1.fab.wakeEntries 0).tryEnt 0 [] ⟨0, 2 ^ 52, 8, 0, 0, true, false, false, none, none,
    none⟩).get (by decide +kernel), by decide +kernel, (Option.some_get _).symm, by decide +kernel,
    by decide +kernel⟩

theorem witness_ServicePortProgress_2 :
    ∃ s : State, ∃ d : Nat, ∃ e : PwbEnt, ((s.fab.spOf d).pwb.find? (fun e => !e.elig && e.tag.isNone) = some e) :=
  ⟨atSp fun n => { n with pwb := [⟨0, 2 ^ 52, 8, 0, 0, false, false, false, none, none, none⟩] }, 0,
    ⟨0, 2 ^ 52, 8, 0, 0, false, false, false, none, none, none⟩, by decide +kernel⟩

theorem witness_ServicePortProgress_3 :
    ∃ f g : Fab, ∃ d : Nat, ∃ bad : List (Nat × Nat), ∃ e : PwbEnt, (f.tryEnt d bad e = some g) :=
  ⟨wServicePortProgress1.fab, (wServicePortProgress1.fab.tryEnt 0 [] ⟨0, 2 ^ 52, 8, 0, 0, true, false, false, none,
    none, none⟩).get (by decide +kernel), 0, [], ⟨0, 2 ^ 52, 8, 0, 0, true, false, false, none, none, none⟩,
    (Option.some_get _).symm⟩

def wServicePortProgress3 : Fab := base.modSp 0 fun n => { n with pwb := [⟨0, 2 ^ 52, 8, 0, 0, true, false, false, some 9, some 0, none⟩, ⟨0, 2 ^ 52 + 2 ^ 20, 8, 0, 1, true, false, false, none, none, none⟩] }
theorem witness_ServicePortProgress_4 :
    ∃ f g : Fab, ∃ d : Nat, ∃ bad : List (Nat × Nat), ∃ e : PwbEnt, (f.tryEnt d bad e = some g) ∧ (∃ x, (x ∈ (f.spOf
      d).entriesBefore e.stream e.seq)) :=
  ⟨wServicePortProgress3, (wServicePortProgress3.tryEnt 0 [] ⟨0, 2 ^ 52 + 2 ^ 20, 8, 0, 1, true, false, false, none,
    none, none⟩).get (by decide +kernel), 0, [], ⟨0, 2 ^ 52 + 2 ^ 20, 8, 0, 1, true, false, false, none, none,
    none⟩, (Option.some_get _).symm, ⟨0, 2 ^ 52, 8, 0, 0, true, false, false, some 9, some 0, none⟩,
    by decide +kernel⟩

def wServicePortProgress5 : State := st (atSpIn (pkt 2 16 2 0 1))
theorem witness_ServicePortProgress_5 :
    ∃ s : State, ∃ d : Nat, ∃ f1 : Fab, ∃ p : Packet, (s.fab.spInReset d = false) ∧ (s.fab.spTakeRsp d = (f1, some
      p)) ∧ (p.length ≠ lenOf p) :=
  ⟨wServicePortProgress5, 0, (wServicePortProgress5.fab.spTakeRsp 0).1, pkt 2 16 2 0 1, by decide +kernel, Prod.ext
    rfl (by decide +kernel), by decide +kernel⟩

theorem witness_ServicePortProgress_6 :
    ∃ s : State, ∃ d : Nat, ∃ b : SpBar,
      ((s.fab.spOf d).bar.find? (fun b => (s.fab.spOf d).barrierHolds b) = some b) :=
  ⟨atSp fun n => { n with bar := [⟨0, 4, 0, 0⟩] }, 0, ⟨0, 4, 0, 0⟩, by decide +kernel⟩

def wServicePortProgress6 : State := st ((atSpIn (pkt 2 16 1 255)).modSp 0 fun n => { n with tags := [(255, { Tag.reset with st := .out, tgt := some (0, 0) })] })
theorem witness_ServicePortProgress_7 :
    ∃ s : State, ∃ d : Nat, ∃ f1 : Fab, ∃ p : Packet, (s.fab.spInReset d = false) ∧ (s.fab.spTakeRsp d = (f1, some
      p)) ∧ (p.length = lenOf p) ∧ (tagOf p < 256) ∧ ((f1.spTag d (tagOf p)).awaits = true) ∧ ((f1.spTag d (tagOf
      p)).tgt = some (srcTile p, srcSlot p)) :=
  ⟨wServicePortProgress6, 0, (wServicePortProgress6.fab.spTakeRsp 0).1, pkt 2 16 1 255, by decide +kernel, Prod.ext
    rfl (by decide +kernel), by decide +kernel, by decide +kernel, by decide +kernel, by decide +kernel⟩

def wServicePortProgress7 : State := st (atSpIn (pkt 2 16 1 1024))
theorem witness_ServicePortProgress_8 :
    ∃ s : State, ∃ d : Nat, ∃ f1 : Fab, ∃ p : Packet, (s.fab.spInReset d = false) ∧ (s.fab.spTakeRsp d = (f1, some
      p)) ∧ (p.length = lenOf p) ∧ (256 ≤ tagOf p ∨ (f1.spTag d (tagOf p)).awaits = false) :=
  ⟨wServicePortProgress7, 0, (wServicePortProgress7.fab.spTakeRsp 0).1, pkt 2 16 1 1024, by decide +kernel, Prod.ext
    rfl (by decide +kernel), by decide +kernel, by decide +kernel⟩

theorem witness_ServicePortProgress_9 :
    ∃ s : State, ∃ d : Nat, ((s.fab.spOf d).exc = .draining) ∧ ((s.fab.spOf d).excReq = true) ∧
      ((∀ e ∈ (s.fab.spOf d).pwb, e.seq ∉ (s.fab.spOf d).excWait)) :=
  ⟨atSp fun n => { n with exc := .draining, excReq := true }, 0, by decide +kernel, by decide +kernel,
    by decide +kernel⟩

def wServicePortProgress8 : State := st ((atSpIn (pkt 2 16 1 255)).modSp 0 fun n => { n with tags := [(255, { Tag.reset with st := .out, tgt := some (9, 0) })] })
theorem witness_ServicePortProgress_10 :
    ∃ s : State, ∃ d : Nat, ∃ f1 : Fab, ∃ p : Packet, (s.fab.spInReset d = false) ∧ (s.fab.spTakeRsp d = (f1, some
      p)) ∧ (p.length = lenOf p) ∧ (tagOf p < 256) ∧ ((f1.spTag d (tagOf p)).awaits = true) ∧ ((f1.spTag d (tagOf
      p)).tgt ≠ some (srcTile p, srcSlot p)) :=
  ⟨wServicePortProgress8, 0, (wServicePortProgress8.fab.spTakeRsp 0).1, pkt 2 16 1 255, by decide +kernel, Prod.ext
    rfl (by decide +kernel), by decide +kernel, by decide +kernel, by decide +kernel, by decide +kernel⟩

theorem witness_ServicePortProgress_11 :
    ∃ s : State, ∃ d : Nat, ((s.fab.spOf d).excReq = true) :=
  ⟨atSp fun n => { n with excReq := true }, 0, by decide +kernel⟩

theorem witness_ServicePortProgress_12 :
    ∃ s : State, ∃ d : Nat, ((s.fab.spOf d).excReq = false) ∧ (s.fab.spInReset d = false) :=
  ⟨st base, 0, by decide +kernel, by decide +kernel⟩

theorem witness_ServicePortProgress_13 :
    ∃ d : Nat, ∃ e, (e ≠ d) :=
  ⟨0, 1, by decide +kernel⟩

theorem witness_ServicePortProgress_14 :
    ∃ s : State, ∃ d : Nat, ((s.fab.spOf d).excReq = false) ∧ (s.fab.spInReset d = true) :=
  ⟨atSp fun n => { n with rstN := false }, 0, by decide +kernel, by decide +kernel⟩

theorem witness_ServicePortProgress_15 :
    ∃ s : State, ∃ d : Nat, ((s.fab.spOf d).rstN = true) ∧ (s.fab.tileOut (spTile d) = false) :=
  ⟨st base, 0, by decide +kernel, by decide +kernel⟩

theorem witness_ServicePortProgress_16 :
    ∃ s : State, ∃ d : Nat, ((s.fab.spOf d).rstN = false) ∧ (s.fab.tileOut (spTile d) = false) ∧ ((s.fab.spOf
      d).excReq = false) :=
  ⟨atSp fun n => { n with rstN := false }, 0, by decide +kernel, by decide +kernel, by decide +kernel⟩

theorem witness_ServicePortProgress_17 :
    ∃ s : State, ∃ d : Nat, ((s.fab.spOf d).rstN = false) ∧ (s.fab.tileOut (spTile d) = false) ∧ ((s.fab.spOf
      d).excReq = true) :=
  ⟨atSp fun n => { n with rstN := false, excReq := true }, 0, by decide +kernel, by decide +kernel,
    by decide +kernel⟩

theorem witness_ServicePortProgress_18 :
    ∃ s : State, ∃ d due : Nat, ((s.fab.spOf d).noReq = some due) ∧ (due ≤ s.fab.runN (spTile d)) ∧ (s.fab.spInReset
      d = false) :=
  ⟨atSp fun n => { n with noReq := some 0 }, 0, 0, by decide +kernel, by decide +kernel, by decide +kernel⟩

theorem witness_ServicePortProgress_19 :
    ∃ s : State, ∃ d : Nat, (s.fab.spInReset d = false) :=
  ⟨st base, 0, by decide +kernel⟩

theorem witness_CommonsAccesses_0 :
    ∃ s : State, ∃ n : Nat, ∃ p : Packet, (s.fab.cmnFront n = some p) ∧ (p.length = lenOf p) ∧
      (s.fab.cmnRoom n (cmnFlits p) (if (cmnPart p).isSome then 1 else 0) = true) ∧ (cmnOp p = .read) :=
  ⟨st (atCmn (pkt 0 0 1 0)), 0, pkt 0 0 1 0, by decide +kernel, by decide +kernel, by decide +kernel,
    by decide +kernel⟩

theorem witness_CommonsAccesses_1 :
    ∃ s : State, ∃ n : Nat, ∃ p : Packet, (s.fab.cmnFront n = some p) ∧ (p.length = lenOf p) ∧
      (s.fab.cmnRoom n (cmnFlits p) (if (cmnPart p).isSome then 1 else 0) = true) ∧ (cmnOp p = .write) :=
  ⟨st (atCmn (pkt 1 0 1 0)), 0, pkt 1 0 1 0, by decide +kernel, by decide +kernel, by decide +kernel,
    by decide +kernel⟩

theorem witness_CommonsAccesses_2 :
    ∃ s : State, ∃ n : Nat, ∃ p : Packet, (s.fab.cmnFront n = some p) ∧ (p.length = lenOf p) ∧
      (s.fab.cmnRoom n (cmnFlits p) (if (cmnPart p).isSome then 1 else 0) = true) ∧ (cmnOp p = .xld) :=
  ⟨st (atCmn (pkt 0 17 1 0 1 64)), 0, pkt 0 17 1 0 1 64, by decide +kernel, by decide +kernel, by decide +kernel,
    by decide +kernel⟩

theorem witness_CommonsAccesses_3 :
    ∃ s : State, ∃ n ce : Nat, ∃ p : Packet, (s.fab.cmnFront n = some p) ∧ (p.length = lenOf p) ∧
      (s.fab.cmnRoom n (cmnFlits p) (if (cmnPart p).isSome then 1 else 0) = true) ∧ (
    let f1 := s.fab.cmnBegin n p ce
    (cmnOp p = .xst) ∧ (
    let mine := fun (r : Resv) => r.mine p
    
    let held := (f1.cmnOf n).resv.any (fun r => mine r && decide (r.gran ≤ cmnOffset p)
            && decide (cmnOffset p + cmnBytes p ≤ r.gran + f1.resvGran n))
    (held = true))) :=
  ⟨st ((atCmn (pkt 1 17 1 0 1 64)).modCmn 0 fun c => { c with resv := [⟨0, 0, 0, 0⟩] }), 0, 0, pkt 1 17 1 0 1 64,
    by decide +kernel, by decide +kernel, by decide +kernel, by decide +kernel, by decide +kernel⟩

theorem witness_CommonsAccesses_4 :
    ∃ s : State, ∃ n ce : Nat, ∃ p : Packet, (s.fab.cmnFront n = some p) ∧ (p.length = lenOf p) ∧
      (s.fab.cmnRoom n (cmnFlits p) (if (cmnPart p).isSome then 1 else 0) = true) ∧ (
    let f1 := s.fab.cmnBegin n p ce
    (cmnOp p = .xst) ∧ (
    let mine := fun (r : Resv) => r.mine p
    
    let held := (f1.cmnOf n).resv.any (fun r => mine r && decide (r.gran ≤ cmnOffset p)
            && decide (cmnOffset p + cmnBytes p ≤ r.gran + f1.resvGran n))
    (held = false))) :=
  ⟨st (atCmn (pkt 1 17 1 0 1 64)), 0, 0, pkt 1 17 1 0 1 64, by decide +kernel, by decide +kernel, by decide +kernel,
    by decide +kernel, by decide +kernel⟩

theorem witness_CommonsAccesses_5 :
    ∃ s : State, ∃ n : Nat, ∃ p : Packet, (s.fab.cmnFront n = some p) ∧ (p.length = lenOf p) ∧
      (cmnOp p = .unsupported) ∧ (
    let parts := if mcOf p ≤ 1 then answerParts .poison p else []
    (s.fab.cmnRoom n (parts.foldl (fun a x => a + lenFor x.size) 0) parts.length = true)) :=
  ⟨st (atCmn (pkt 0 17 1 0)), 0, pkt 0 17 1 0, by decide +kernel, by decide +kernel, by decide +kernel,
    by decide +kernel⟩

theorem witness_CommonsAccesses_6 :
    ∃ v : Nat, (v < 7) :=
  ⟨0, by decide +kernel⟩

theorem witness_CommonsAccesses_7 :
    ∃ v : Nat, (v ≠ 0) :=
  ⟨1, by decide +kernel⟩

theorem witness_CommonsStoreBytes_0 :
    ∃ n : Nat, ∃ k, (k ≠ n) :=
  ⟨0, 1, by decide +kernel⟩

theorem witness_CommonsStoreBytes_1 :
    ∃ f : Fab, ∃ n : Nat, ∃ p : Packet, ∃ r, (r ∈ ((f.cmnStore n p).cmnOf n).resv) :=
  ⟨base.modCmn 0 fun c => { c with resv := [⟨0, 0, 0, 1024⟩] }, 0, pkt 1 0 1 0, ⟨0, 0, 0, 1024⟩, by decide +kernel⟩

theorem witness_ExclusiveLoads_0 :
    ∃ s : State, ∃ n : Nat, ∃ p : Packet, (s.fab.cmnFront n = some p) ∧ (p.length = lenOf p) ∧ (cmnOp p = .xld) ∧
      (s.fab.cmnRoom n (cmnFlits p) (if (cmnPart p).isSome then 1 else 0) = true) :=
  ⟨st (atCmn (pkt 0 17 1 0 1 64)), 0, pkt 0 17 1 0 1 64, by decide +kernel, by decide +kernel, by decide +kernel,
    by decide +kernel⟩

theorem witness_ExclusiveLoads_1 :
    ∃ f : Fab, ∃ n : Nat, ∃ p : Packet, 
    let others := (f.cmnOf n).resv.filter (fun x => !x.mine p)
    (others.length < 256) :=
  ⟨base, 0, [], by decide +kernel⟩

theorem witness_ExclusiveLoads_2 :
    ∃ f : Fab, ∃ n : Nat, ∃ p : Packet, 
    let others := (f.cmnOf n).resv.filter (fun x => !x.mine p)
    (256 ≤ others.length) :=
  ⟨base.modCmn 0 fun c => { c with resv := List.replicate 256 ⟨1, 0, 0, 0⟩ }, 0, [], by decide +kernel⟩

theorem witness_ExclusiveLoads_3 :
    ∃ f : Fab, ∃ n : Nat, ∃ p : Packet, ∃ x ∈ ((f.setResv n p).cmnOf n).resv, (x.mine p = true) :=
  ⟨base, 0, pkt 0 17 1 0 1 64, ⟨0, 0, 0, 0⟩, by decide +kernel, by decide +kernel⟩

theorem witness_SchedulerSettings_0 :
    ∃ sp : Bool, ∃ n dir c : Nat, (n < (whoOf sp n).scope.count) ∧ (dir < 2) ∧ (1 ≤ c) ∧ (c ≤ 5) ∧ (2 ≤ c) :=
  ⟨false, 0, 1, 5, by decide +kernel, by decide +kernel, by decide +kernel, by decide +kernel, by decide +kernel⟩

theorem witness_SchedulerSettings_1 :
    ∃ sp : Bool, ∃ n dir c v : Nat, (n < (whoOf sp n).scope.count) ∧ (dir < 2) ∧ (1 ≤ c) ∧ (c ≤ 5) ∧ (1 ≤ v) ∧
      (v ≤ 64000) :=
  ⟨false, 0, 1, 5, 64000, by decide +kernel, by decide +kernel, by decide +kernel, by decide +kernel,
    by decide +kernel, by decide +kernel⟩

theorem witness_SchedulerSettings_2 :
    ∃ sp : Bool, ∃ n dir c v : Nat, (n < (whoOf sp n).scope.count) ∧ (dir < 2) ∧ (1 ≤ c) ∧ (c ≤ 5) ∧ (v ≤ 4194304) :=
  ⟨false, 0, 1, 5, 4194304, by decide +kernel, by decide +kernel, by decide +kernel, by decide +kernel,
    by decide +kernel⟩

theorem witness_SchedulerSettings_3 :
    ∃ sp : Bool, ∃ n dir c : Nat, (n < (whoOf sp n).scope.count) ∧ (dir < 2) ∧ (1 ≤ c) ∧ (c ≤ 5) :=
  ⟨true, 3, 1, 5, by decide +kernel, by decide +kernel, by decide +kernel, by decide +kernel⟩

theorem witness_SchedulerSettings_4 :
    ∃ sp : Bool, ∃ n dir c v : Nat, (n < (whoOf sp n).scope.count) ∧ (dir < 2) ∧ (1 ≤ c) ∧ (c ≤ 5) ∧ (v ≠ 0) :=
  ⟨false, 0, 1, 5, 1, by decide +kernel, by decide +kernel, by decide +kernel, by decide +kernel, by decide +kernel⟩

theorem witness_SchedulerSettings_5 :
    ∃ t v : Nat, (t < 256) ∧ (v ≤ 64000) :=
  ⟨0, 0, by decide +kernel, by decide +kernel⟩

theorem witness_SchedulerSettings_6 :
    ∃ t v : Nat, (t < 256) ∧ (v ≤ 1048576) :=
  ⟨0, 0, by decide +kernel, by decide +kernel⟩

theorem witness_SchedulerSettings_7 :
    ∃ s : State, ∃ sp : Bool, ∃ n dir c v : Nat, (n < (whoOf sp n).scope.count) ∧ (dir < 2) ∧ (1 ≤ c) ∧ (c ≤ 5) ∧
      (gateRefused (s.fab.gateList (whoOf sp n) dir c) (s.fab.time (whoOf sp n).tile) v = false) :=
  ⟨st (base.setO .tile 0 O.GATE_LIST_INJ 0 (1000 + 2 ^ 31)), false, 0, 0, 1, us 1, by decide +kernel,
    by decide +kernel, by decide +kernel, by decide +kernel, by decide +kernel⟩

theorem witness_SchedulerSettings_8 :
    ∃ s : State, ∃ sp : Bool, ∃ n dir c v : Nat, (n < (whoOf sp n).scope.count) ∧ (dir < 2) ∧ (1 ≤ c) ∧ (c ≤ 5) ∧
      (gateRefused (s.fab.gateList (whoOf sp n) dir c) (s.fab.time (whoOf sp n).tile) v = true) :=
  ⟨st base, false, 0, 0, 1, 0, by decide +kernel, by decide +kernel, by decide +kernel, by decide +kernel,
    by decide +kernel⟩

theorem witness_SchedulerSettings_9 :
    ∃ s : State, ∃ sp : Bool, ∃ n dir c v : Nat, (n < (whoOf sp n).scope.count) ∧ (dir < 2) ∧ (1 ≤ c) ∧ (c ≤ 5) ∧
      (((s.fab.sched (whoOf sp n) dir).cl c).run = none) ∧ (((s.fab.sched (whoOf sp n) dir).cl c).pend = none) ∧
      (v ≠ 0) :=
  ⟨st base, false, 0, 1, 5, 1, by decide +kernel, by decide +kernel, by decide +kernel, by decide +kernel,
    by decide +kernel, by decide +kernel, by decide +kernel⟩

theorem witness_SchedulerSettings_10 :
    ∃ s : State, ∃ sp : Bool, ∃ n dir c v : Nat, (n < (whoOf sp n).scope.count) ∧ (dir < 2) ∧ (1 ≤ c) ∧ (c ≤ 5) ∧
      (((s.fab.sched (whoOf sp n) dir).cl c).run ≠ none ∨ ((s.fab.sched (whoOf sp n) dir).cl c).pend ≠ none ∨ v = 0) :=
  ⟨st base, false, 0, 1, 5, 0, by decide +kernel, by decide +kernel, by decide +kernel, by decide +kernel,
    Or.inr (Or.inr rfl)⟩

theorem witness_SchedulerSettings_11 :
    ∃ dir c : Nat, (dir < 2) ∧ (1 ≤ c) ∧ (c ≤ 5) :=
  ⟨1, 5, by decide +kernel, by decide +kernel, by decide +kernel⟩

theorem witness_SchedulerSettings_12 :
    ∃ s : State, ∃ sp : Bool, ∃ n : Nat, ((s.fab.tile (whoOf sp n).tile).st = .t0) ∧ (s.fab.histDue (whoOf sp n) =
      true) :=
  ⟨atTile fun x => { x with cyc := 2 ^ 40 }, false, 0, by decide +kernel, by decide +kernel⟩

theorem witness_SchedulerSettings_13 :
    ∃ s : State, ∃ sp : Bool, ∃ n : Nat, (s.fab.histDue (whoOf sp n) = false) :=
  ⟨st base, false, 0, by decide +kernel⟩

theorem witness_SchedulerSettings_14 :
    ∃ x b, (1 ≤ b) ∧ (b ≤ 14) ∧ (2 ^ (b - 1) ≤ x) ∧ (x < 2 ^ b) :=
  ⟨16383, 14, by decide +kernel, by decide +kernel, by decide +kernel, by decide +kernel⟩

theorem witness_SchedulerSettings_15 :
    ∃ x, (16384 ≤ x) :=
  ⟨16384, by decide +kernel⟩

theorem witness_FairQueueOrder_0 :
    ∃ l : List Nat, (l.Pairwise (· < ·)) ∧ (l ≠ []) :=
  ⟨[0], by decide +kernel, by decide +kernel⟩

theorem witness_FairQueueOrder_1 :
    ∃ rr : Nat, ∃ l : List Nat, ∃ mc : Nat, (rr < 8) ∧ ((∀ a ∈ l, a < 8)) ∧ (nextMc rr l = some mc) :=
  ⟨7, [7], 7, by decide +kernel, by decide +kernel, by decide +kernel⟩

theorem witness_SpillQueueStates_0 :
    ∃ s : State, ∃ t : Nat, (s.fab.stall t = true) ∧ (((s.fab.ni t).egr.q.filter (fun kv => kv.1 / 8 == 5)) = []) :=
  ⟨atNi fun n => { n with link := .retrain }, 0, by decide +kernel, by decide +kernel⟩

theorem witness_SpillQueueStates_1 :
    ∃ s : State, ∃ t : Nat, (s.fab.stall t = true) :=
  ⟨atNi fun n => { n with link := .retrain }, 0, by decide +kernel⟩

theorem witness_SpillQueueStates_2 :
    ∃ s : State, ∃ t k : Nat, ∃ e : QPkt, (s.fab.stall t = true) ∧
      ((s.fab.ni t).egr.q.filter (fun kv => kv.1 / 8 == 5) = [(k, [e])]) :=
  ⟨atNi fun n => { n with link := .retrain, egr := { n.egr with q := [(47, [qp (pkt 7 0 1 0)])] } }, 0, 47,
    qp (pkt 7 0 1 0), by decide +kernel, by decide +kernel⟩

theorem witness_SpillQueueStates_3 :
    ∃ s : State, ∃ t i : Nat, ((s.fab.tile t).st = .t0) ∧ (i < 5) ∧ ((s.fab.spq t i).st = .resident) ∧
      (s.fab.stall t = true) ∧ (s.fab.oT t O.SPILL_EN = 1) ∧ (s.fab.skRuns t = true) ∧
      (s.fab.oT t O.SPILL_QMIN ≤ (s.fab.ni t).queueFlits i) ∧ (s.fab.abandonedLately t i = false) ∧
      ((s.fab.spq t i).ask = none) :=
  ⟨st (((base.modNi 0 fun n => { n with link := .retrain, spill := List.replicate 5 SpillQ.reset, egr := { n.egr with q := [(16, List.replicate 64 (qp (pkt 0 0 52 0)))] } }).modSk 0 fun k => { k with st := .run }).setO .tile 0 O.SPILL_EN 0 1),
    0, 0, by decide +kernel, by decide +kernel, by decide +kernel, by decide +kernel, by decide +kernel,
    by decide +kernel, by decide +kernel, by decide +kernel, by decide +kernel⟩

theorem witness_SpillQueueStates_4 :
    ∃ s : State, ∃ t i : Nat, ((s.fab.spq t i).st ≠ .resident) ∧ ((s.fab.spq t i).outb = []) ∧
      ((s.fab.spq t i).spilled = 0) ∧ ((s.fab.spq t i).pull = none) :=
  ⟨atQ fun q => { q with st := .spilling }, 0, 0, by decide +kernel, by decide +kernel, by decide +kernel,
    by decide +kernel⟩

def sSpillQueueStates4 : State := atNi fun n => { n with ctlIn := [env .none 0 0] }
theorem witness_SpillQueueStates_5 :
    ∃ s : State, ∃ t i : Nat, ∃ g : Fab, ∃ p : Packet, (s.fab.takeEnv t .none = (g, some (i, p))) :=
  ⟨sSpillQueueStates4, 0, 0, (sSpillQueueStates4.fab.takeEnv (0) .none).1, env .none 0 0,
    Prod.ext rfl (by decide +kernel)⟩

def wSpillQueueStates4 : State := st (((base.modNi 0 fun n => { n with link := .retrain, spill := List.replicate 5 { SpillQ.reset with ask := some 0 }, egr := { n.egr with q := [(16, List.replicate 64 (qp (pkt 0 0 52 0)))] } }).modSk 0 fun k => { k with st := .run }).setO .tile 0 O.SPILL_EN 0 1)
theorem witness_SpillQueueStates_6 :
    ∃ s : State, ∃ t i a : Nat, ((s.fab.tile t).st = .t0) ∧ (i < 5) ∧ ((s.fab.spq t i).st = .resident) ∧
      (s.fab.stall t = true) ∧ (s.fab.oT t O.SPILL_EN = 1) ∧ (s.fab.skRuns t = true) ∧ (s.fab.oT t O.SPILL_QMIN ≤
      (s.fab.ni t).queueFlits i) ∧ (s.fab.abandonedLately t i = false) ∧ ((s.fab.spq t i).ask = some a) :=
  ⟨wSpillQueueStates4, 0, 0, 0, by decide +kernel, by decide +kernel, by decide +kernel, by decide +kernel,
    by decide +kernel, by decide +kernel, by decide +kernel, by decide +kernel, by decide +kernel⟩

theorem witness_SpillQueueStates_7 :
    ∃ s : State, ∃ t i a : Nat, ((s.fab.spq t i).ask = some a ∨ (s.fab.spq t i).pull = some a) ∧
      (a + us (s.fab.oT t O.SPILL_TIMEOUT) ≤ s.fab.runN t) :=
  ⟨st ((base.modLan 0 fun l => { l with acc := 2 ^ 100 }).modNi 0 fun n => { n with spill := [{ SpillQ.reset with ask := some 0 }] }),
    0, 0, 0, by decide +kernel, by decide +kernel⟩

theorem witness_SpillQueueStates_8 :
    ∃ s : State, ∃ t : Nat, ∃ p : Packet, ((s.fab.ni t).ctlIn = [p]) ∧ (isEnvelope p = true) ∧ (envKind p = some
      .abandon) ∧ (envMc p = 7) :=
  ⟨atNi fun n => { n with ctlIn := [mkEnvelope .abandon 0 0 0 0 0 7 0 0 false []] }, 0, mkEnvelope .abandon 0 0 0 0
    0 7 0 0 false [], by decide +kernel, by decide +kernel, by decide +kernel, by decide +kernel⟩

theorem witness_SpillQueueStates_9 :
    ∃ s : State, ∃ t : Nat, ∃ p : Packet, ((s.fab.ni t).ctlIn = [p]) ∧ (isEnvelope p = true) ∧ (envKind p = some
      .abandon) ∧ (∃ i, (i < 5) ∧ (envMc p = spillMc i)) :=
  ⟨atNi fun n => { n with ctlIn := [env .abandon 0 0] }, 0, env .abandon 0 0, by decide +kernel, by decide +kernel,
    by decide +kernel, 0, by decide +kernel, by decide +kernel⟩

def wSpillQueueStates10 : State := st ((base.modTile (skTile 0) fun x => { x with ej1 := { x.ej1 with arr := [(0, mkEnvelope .abandon 0 0 0 0 0 7 0 0 false [])] } }).modSk 0 id)
theorem witness_SpillQueueStates_10 :
    ∃ s : State, ∃ n : Nat, ∃ g : Fab, ∃ p : Packet, (s.fab.skTake n .abandon = (g, some p)) ∧ (envMc p = 7) :=
  ⟨wSpillQueueStates10, 0, (wSpillQueueStates10.fab.skTake 0 .abandon).1, mkEnvelope .abandon 0 0 0 0 0 7 0 0 false
    [], Prod.ext rfl (by decide +kernel), by decide +kernel⟩

theorem witness_SpillQueueStates_11 :
    ∃ s : State, ∃ n : Nat, ∃ g : Fab, ∃ p : Packet, (s.fab.skTake n .abandon = (g, some p)) ∧ (∃ i, (i < 5) ∧
      (envMc p = spillMc i)) :=
  ⟨atSkIn .abandon 0 id, 0, ((atSkIn .abandon 0 id).fab.skTake 0 .abandon).1, env .abandon 0 0, Prod.ext rfl
    (by decide +kernel), 0, by decide +kernel, by decide +kernel⟩

theorem witness_SpillQueueStates_12 :
    ∃ f : Fab, ∃ t i : Nat, ((f.spq t i).spilled = 0) ∧ ((f.spq t i).outb = []) ∧ ((f.spq t i).st = .resident) ∧
      ((f.spq t i).ask = none) ∧ ((f.spq t i).grant = 0) :=
  ⟨base, 0, 0, by decide +kernel, by decide +kernel, by decide +kernel, by decide +kernel, by decide +kernel⟩

theorem witness_SpillQueueStates_13 :
    ∃ f : Fab, ∃ t i : Nat, ((f.spq t i).spilled = 0) ∧ ((f.spq t i).outb = []) ∧ ((f.spq t i).st = .resident) ∧
      ((f.spq t i).ask ≠ none ∨ (f.spq t i).grant ≠ 0) :=
  ⟨(atQ fun q => { q with grant := 1 }).fab, 0, 0, by decide +kernel, by decide +kernel, by decide +kernel,
    by decide +kernel⟩

def sSpillTransfers0 : State := atEnv .grant 0 0 fun q => { q with ask := some 0, st := .spilling }
theorem witness_SpillTransfers_0 :
    ∃ s : State, ∃ t i : Nat, ∃ g : Fab, ∃ p : Packet, (s.fab.takeEnv t .grant = (g, some (i, p))) ∧
      ((g.spq t i).ask ≠ none) ∧ ((g.spq t i).st ≠ .resident) ∧ (envFlits p = 0) :=
  ⟨sSpillTransfers0, 0, 0, (sSpillTransfers0.fab.takeEnv (0) .grant).1, env .grant 0 0,
    Prod.ext rfl (by decide +kernel), by decide +kernel, by decide +kernel, by decide +kernel⟩

def sSpillTransfers1 : State := atEnv .grant 1 0 fun q => { q with ask := some 0, st := .spilling }
theorem witness_SpillTransfers_1 :
    ∃ s : State, ∃ t i : Nat, ∃ g : Fab, ∃ p : Packet, (s.fab.takeEnv t .grant = (g, some (i, p))) ∧
      ((g.spq t i).ask ≠ none) ∧ ((g.spq t i).st ≠ .resident) ∧ (envFlits p ≠ 0) :=
  ⟨sSpillTransfers1, 0, 0, (sSpillTransfers1.fab.takeEnv (0) .grant).1, env .grant 1 0,
    Prod.ext rfl (by decide +kernel), by decide +kernel, by decide +kernel, by decide +kernel⟩

theorem witness_SpillTransfers_2 :
    ∃ s : State, ∃ t i : Nat, ((s.fab.spq t i).st = .blocked) ∧ ((s.fab.spq t i).ask = none) ∧
      ((s.fab.spq t i).zeroAt + us 1 ≤ s.fab.runN t) :=
  ⟨st ((base.modLan 0 fun l => { l with acc := 2 ^ 100 }).modNi 0 fun n => { n with spill := [{ SpillQ.reset with st := .blocked }] }),
    0, 0, by decide +kernel, by decide +kernel, by decide +kernel⟩

theorem witness_SpillTransfers_3 :
    ∃ s : State, ∃ t i : Nat, ∃ p : Packet, ∃ l : List Packet, ((s.fab.spq t i).outb = p :: l) ∧
      ((s.fab.spq t i).st ≠ .resident) ∧ (p.length + 1 ≤ (s.fab.spq t i).grant) :=
  ⟨atQ fun q => { q with st := .spilling, outb := [pkt 0 0 1 0], grant := 2 }, 0, 0, pkt 0 0 1 0, [],
    by decide +kernel, by decide +kernel, by decide +kernel⟩

theorem witness_SpillTransfers_4 :
    ∃ s : State, ∃ t i : Nat, (i < 5) ∧ ((s.fab.spq t i).st ≠ .resident) ∧ ((s.fab.spq t i).pull = none) ∧
      ((s.fab.ni t).queueFlits i + (s.fab.spq t i).rsv + 53 ≤ s.fab.oT t O.PULL_WATER) :=
  ⟨atQ fun q => { q with st := .spilling }, 0, 0, by decide +kernel, by decide +kernel, by decide +kernel,
    by decide +kernel⟩

def sSpillTransfers5 : State := atEnv .ret 0 1 fun q => { q with pull := some 0 }
theorem witness_SpillTransfers_5 :
    ∃ s : State, ∃ t i : Nat, ∃ g : Fab, ∃ e : Packet, (s.fab.takeEnv t .ret = (g, some (i, e))) ∧
      ((g.spq t i).pull ≠ none) ∧ (envSeq e ≠ (g.spq t i).exp) :=
  ⟨sSpillTransfers5, 0, 0, (sSpillTransfers5.fab.takeEnv (0) .ret).1, env .ret 0 1, Prod.ext rfl (by decide +kernel),
    by decide +kernel, by decide +kernel⟩

def sSpillTransfers6 : State := atEnv .ret 0 0 fun q => { q with pull := some 0 }
theorem witness_SpillTransfers_6 :
    ∃ s : State, ∃ t i : Nat, ∃ g : Fab, ∃ e : Packet, (s.fab.takeEnv t .ret = (g, some (i, e))) ∧
      ((g.spq t i).pull ≠ none) ∧ (envSeq e = (g.spq t i).exp) :=
  ⟨sSpillTransfers6, 0, 0, (sSpillTransfers6.fab.takeEnv (0) .ret).1, env .ret 0 0, Prod.ext rfl (by decide +kernel),
    by decide +kernel, by decide +kernel⟩

def sSpillPortMemory0 : State := atSkIn .ask 1 fun k => { k with st := .failed }
theorem witness_SpillPortMemory_0 :
    ∃ s : State, ∃ n q : Nat, ∃ g : Fab, ∃ p : Packet, (s.fab.skTake n .ask = (g, some p)) ∧ (envQid p = some q) ∧
      ((g.skOf n).st = .failed) :=
  ⟨sSpillPortMemory0, 0, 0, (sSpillPortMemory0.fab.skTake (0) .ask).1, env .ask 1 0, Prod.ext rfl (by decide +kernel),
    by decide +kernel, by decide +kernel⟩

def sSpillPortMemory1 : State := atSkIn .ask 1 fun k => { k with st := .run }
theorem witness_SpillPortMemory_1 :
    ∃ s : State, ∃ n q : Nat, ∃ g : Fab, ∃ p : Packet, (s.fab.skTake n .ask = (g, some p)) ∧ (envQid p = some q) ∧
      ((g.skOf n).st ≠ .failed) :=
  ⟨sSpillPortMemory1, 0, 0, (sSpillPortMemory1.fab.skTake (0) .ask).1, env .ask 1 0, Prod.ext rfl (by decide +kernel),
    by decide +kernel, by decide +kernel⟩

theorem witness_SpillPortMemory_2 :
    ∃ f : Fab, ∃ n q : Nat,
      ((f.skOf n).st ≠ .run ∨ f.oT (qidTile n q) O.SPILL_QUOTA ≤ ((f.skOf n).q q).held ∨ 768 ≤ (f.skOf n).staged) :=
  ⟨base, 0, 0, by decide +kernel⟩

def sSpillPortMemory3 : State := atSkIn .spill 1 fun k => { k with st := .run }
theorem witness_SpillPortMemory_3 :
    ∃ s : State, ∃ n q : Nat, ∃ g : Fab, ∃ p : Packet, ∃ e : StageErr, (s.fab.skTake n .spill = (g, some p)) ∧
      (envQid p = some q) ∧ ((g.skOf n).st = .run) ∧ (e = .clean) :=
  ⟨sSpillPortMemory3, 0, 0, (sSpillPortMemory3.fab.skTake (0) .spill).1, env .spill 1 0, .clean,
    Prod.ext rfl (by decide +kernel), by decide +kernel, by decide +kernel, by decide +kernel⟩

def sSpillPortMemory4 : State := atSkIn .spill 1 fun k => { k with st := .run }
theorem witness_SpillPortMemory_4 :
    ∃ s : State, ∃ n q : Nat, ∃ g : Fab, ∃ p : Packet, ∃ e : StageErr, (s.fab.skTake n .spill = (g, some p)) ∧
      (envQid p = some q) ∧ ((g.skOf n).st = .run) ∧ (∃ a, (e = .queue a)) :=
  ⟨sSpillPortMemory4, 0, 0, (sSpillPortMemory4.fab.skTake (0) .spill).1, env .spill 1 0, .queue 0,
    Prod.ext rfl (by decide +kernel), by decide +kernel, by decide +kernel, 0, by decide +kernel⟩

theorem witness_SpillPortMemory_5 :
    ∃ s : State, ∃ n q : Nat, ∃ g : Fab, ∃ p : Packet, (s.fab.skTake n .pull = (g, some p)) ∧ (envQid p = some q) ∧
      ((g.skOf n).st ≠ .run) :=
  ⟨atSkIn .pull 1 id, 0, 0, ((atSkIn .pull 1 id).fab.skTake 0 .pull).1, env .pull 1 0, Prod.ext rfl
    (by decide +kernel), by decide +kernel, by decide +kernel⟩

def wSpillPortMemory6 : State := atSkIn .pull 1 fun k => { k with st := .run }
theorem witness_SpillPortMemory_6 :
    ∃ s : State, ∃ n q : Nat, ∃ g : Fab, ∃ p : Packet, (s.fab.skTake n .pull = (g, some p)) ∧ (envQid p = some q) ∧
      ((g.skOf n).st = .run) :=
  ⟨wSpillPortMemory6, 0, 0, (wSpillPortMemory6.fab.skTake 0 .pull).1, env .pull 1 0, Prod.ext rfl
    (by decide +kernel), by decide +kernel, by decide +kernel⟩

theorem witness_SpillPortMemory_7 :
    ∃ f : Fab, ∃ n q left : Nat, (((f.skOf n).q q).pull = some left) ∧ (((f.skOf n).q q).ready = []) ∧ (((f.skOf
      n).q q).unread = 0) :=
  ⟨base.modSk 0 fun k => { k with qs := [(0, { SkQueue.reset with pull := some 128 })] }, 0, 0, 128,
    by decide +kernel, by decide +kernel, by decide +kernel⟩

theorem witness_SpillPortMemory_8 :
    ∃ f : Fab, ∃ n q left seq : Nat, ∃ p : Packet, (((f.skOf n).q q).pull = some left) ∧ (((f.skOf n).q q).ready =
      [(p, seq)]) ∧ (((f.skOf n).q q).unread = 0) :=
  ⟨base.modSk 0 fun k => { k with qs := [(0, { SkQueue.reset with pull := some 128, ready := [(pkt 2 0 1 0, 5)] })]
    }, 0, 0, 128, 5, pkt 2 0 1 0, by decide +kernel, by decide +kernel, by decide +kernel⟩

theorem witness_SpillPortMemory_9 :
    ∃ s : State, ∃ n q data d : Nat, ∃ c : SkCmd, ∃ beats : List (Nat × Bool), ∃ g : Fab, (data < 2 ^ 640) ∧
      ((s.fab.skOf n).outs.find? (fun c => c.qid == q && !c.write) = some c) ∧ (c.why = .packet) ∧
      (g = ((s.fab.skBeatTaken n q c).bump .sk n O.SK_RD_BEATS 0).event (skTile n) 0x43 0) ∧
      (((g.skOf n).q q).read = .packet d beats) ∧ (beats.length + 1 ≠ d % 64) :=
  ⟨atSk fun k => { k with outs := [⟨false, 0, 1, [], 0, .packet, 0⟩], qs := [(0, { SkQueue.reset with read := .packet 2 [] })] },
    0, 0, 0, 2, ⟨false, 0, 1, [], 0, .packet, 0⟩, [], _, by decide +kernel, by decide +kernel, by decide +kernel, rfl,
    rfl, by decide +kernel⟩

theorem witness_SpillPortMemory_10 :
    ∃ s : State, ∃ n : Nat, ∃ c : SkCmd, ((s.fab.skOf n).pickCmd [] (s.fab.skOf n).cmdQ = some c) ∧ ((s.fab.skOf
      n).st = .run) ∧ ((s.fab.skOf n).memReady = true) ∧ (1 + c.data.length ≤ (s.fab.skOf n).cred) :=
  ⟨atSk fun k => { k with st := .run, memReady := true, cred := 2, cmdQ := [⟨true, 0, 1, [0], 0, .packet, 0⟩] }, 0,
    ⟨true, 0, 1, [0], 0, .packet, 0⟩, by decide +kernel, by decide +kernel, by decide +kernel, by decide +kernel⟩

def sSpillPortMemory10 : State := atSk fun k => { k with outs := [⟨true, 0, 1, [0], 0, .packet, 0⟩] }
theorem witness_SpillPortMemory_11 :
    ∃ s : State, ∃ n q : Nat, ∃ c : SkCmd, ∃ g : Fab, (s.fab.skAnswered n q true = (g, some c)) :=
  ⟨sSpillPortMemory10, 0, 0, ⟨true, 0, 1, [0], 0, .packet, 0⟩, (sSpillPortMemory10.fab.skAnswered (0) (0) true).1,
    Prod.ext rfl (by decide +kernel)⟩

theorem witness_SpillPortMemory_12 :
    ∃ k : Sk, ∃ b : SkCmd, (k.mayPresent b = true) :=
  ⟨base.skOf 0, ⟨true, 0, 1, [0], 0, .packet, 0⟩, by decide +kernel⟩

theorem witness_SpillPortMemory_13 :
    ∃ s : State, ∃ n : Nat, ∃ c : SkCmd, ∃ l : List SkCmd, ((s.fab.skOf n).outs = c :: l) ∧
      ((s.fab.skOf n).st = .run) ∧ (c.sentAt + us (s.fab.oK n O.SK_RSP_TIMEOUT) ≤ s.fab.runN (skTile n)) :=
  ⟨st ((base.modLan 0 fun l => { l with acc := 2 ^ 100 }).modSk 0 fun k => { k with st := .run, outs := [⟨true, 0, 1, [0], 0, .packet, 0⟩] }),
    0, ⟨true, 0, 1, [0], 0, .packet, 0⟩, [], by decide +kernel, by decide +kernel, by decide +kernel⟩

theorem witness_SpillPortMemory_14 :
    ∃ k : Sk, ∃ a b : SkCmd, (k.mayPresent b = true) ∧ (k.mayPresent a = false) ∧ (a.qid ≠ b.qid) :=
  ⟨{ base.skOf 0 with outs := List.replicate 32 ⟨true, 0, 1, [0], 0, .packet, 0⟩ }, ⟨true, 0, 1, [0], 0, .packet,
    0⟩, ⟨false, 0, 1, [], 1, .packet, 0⟩, by decide +kernel, by decide +kernel, by decide +kernel⟩

theorem witness_SpillPortMemory_15 :
    ∃ s : State, ∃ n v : Nat, (n < 8) ∧ ((s.fab.skOf n).st = .failed) ∧ ((s.fab.skOf n).memReady = true) ∧ (v ≠ 0) :=
  ⟨st (base.modSk 7 fun k => { k with st := .failed, memReady := true }), 7, 1, by decide +kernel, by decide +kernel,
    by decide +kernel, by decide +kernel⟩

theorem witness_SpillPortMemory_16 :
    ∃ k : Sk, ∃ a b : SkCmd, (k.mayPresent b = true) ∧ (k.mayPresent a = false) ∧ (a.qid = b.qid) :=
  ⟨{ base.skOf 0 with outs := List.replicate 32 ⟨true, 0, 1, [0], 0, .packet, 0⟩ }, ⟨true, 0, 1, [0], 0, .packet,
    0⟩, ⟨false, 0, 1, [], 0, .packet, 0⟩, by decide +kernel, by decide +kernel, by decide +kernel⟩

theorem witness_SpillPortMemory_17 :
    ∃ s : State, ∃ n : Nat, (n < 8) ∧ ((s.fab.skOf n).st ≠ .failed ∨ (s.fab.skOf n).memReady = false) :=
  ⟨st base, 0, by decide +kernel, by decide +kernel⟩

theorem witness_SpillPortMemory_18 :
    ∃ k : Sk, ∃ b : SkCmd, (k.mayPresent b = true) ∧ (b.write = false) :=
  ⟨base.skOf 0, ⟨false, 0, 1, [], 0, .packet, 0⟩, by decide +kernel, by decide +kernel⟩

theorem witness_SpillPortMemory_19 :
    ∃ s : State, ∃ n v : Nat, (n < 8) ∧ (v ≠ 0) ∧ ((s.fab.skOf n).memReady = true) ∧ (s.fab.oK n O.SK_CHUNKS ≠ 0) :=
  ⟨st ((base.modSk 7 fun k => { k with memReady := true }).setO .sk 7 O.SK_CHUNKS 0 1), 7, 1, by decide +kernel,
    by decide +kernel, by decide +kernel, by decide +kernel⟩

theorem witness_SpillPortMemory_20 :
    ∃ s : State, ∃ n : Nat, ((s.fab.skOf n).memReady = true) ∧ (s.fab.skInReset n = false) :=
  ⟨atSk fun k => { k with memReady := true }, 0, by decide +kernel, by decide +kernel⟩

theorem witness_SpillPortMemory_21 :
    ∃ s : State, ∃ n v : Nat, (n < 8) ∧ (v ≠ 0) ∧ ((s.fab.skOf n).memReady = false ∨ s.fab.oK n O.SK_CHUNKS = 0) :=
  ⟨st base, 7, 1, by decide +kernel, by decide +kernel, Or.inl rfl⟩

theorem witness_SpillPortMemory_22 :
    ∃ s : State, ∃ n : Nat, ((s.fab.skOf n).recover = true) :=
  ⟨atSk fun k => { k with recover := true }, 0, by decide +kernel⟩

theorem witness_SeamFrames_0 :
    ∃ s : State, ∃ ss c : Nat, ∃ fr : Frame, ∃ l : List Frame, ∃ g : Fab, ((s.fab.xs ss c).air = fr :: l) ∧
      (g = s.fab.modX ss c (fun x => { x with air := l })) ∧ ((g.xs ss c).rx.runs = false) :=
  ⟨atX fun x => { x with air := [⟨[], [], none, 0, false, false, .none, 0, 0, 0⟩] }, 0, 0, ⟨[], [], none, 0, false,
    false, .none, 0, 0, 0⟩, [], _, by decide +kernel, rfl, rfl⟩

theorem witness_SeamFrames_1 :
    ∃ s : State, ∃ ss c : Nat, ∃ fr : Frame, ∃ l : List Frame, ∃ g : Fab, ((s.fab.xs ss c).air = fr :: l) ∧ (g =
      s.fab.modX ss c (fun x => { x with air := l })) ∧ ((g.xs ss c).rx.runs = true) ∧ (∃ flips, ((wrongSymbols
      (flipWord flips)).length ≤ 9)) :=
  ⟨atX fun x => { x with rx := .run, air := [⟨[], [], none, 0, false, false, .none, 0, 0, 0⟩] }, 0, 0, ⟨[], [],
    none, 0, false, false, .none, 0, 0, 0⟩, [], _, by decide +kernel, rfl, rfl, (List.range 9).map (10 * ·),
    by decide +kernel⟩

theorem witness_SeamFrames_2 :
    ∃ s : State, ∃ ss c : Nat, ∃ fr : Frame, ∃ l : List Frame, ∃ g : Fab, ((s.fab.xs ss c).air = fr :: l) ∧ (g =
      s.fab.modX ss c (fun x => { x with air := l })) ∧ ((g.xs ss c).rx.runs = true) ∧ (∃ flips, (9 < (wrongSymbols
      (flipWord flips)).length)) :=
  ⟨atX fun x => { x with rx := .run, air := [⟨[], [], none, 0, false, false, .none, 0, 0, 0⟩] }, 0, 0, ⟨[], [],
    none, 0, false, false, .none, 0, 0, 0⟩, [], _, by decide +kernel, rfl, rfl, (List.range 10).map (10 * ·),
    by decide +kernel⟩

theorem witness_SeamFrames_3 :
    ∃ s : State, ∃ ss c : Nat, ∃ fr : Frame, ∃ l : List Frame, ∃ g : Fab, ((s.fab.xs ss c).air = fr :: l) ∧ (g =
      s.fab.modX ss c (fun x => { x with air := l })) ∧ ((g.xs ss c).rx.runs = true) ∧ (∃ lane k skew log phys :
      Nat, ((g.xs ss c).rxUsed.findIdx? (· == lane) = some k) ∧ (skew ≤ 2) ∧ (log < 32) ∧ (phys < 32) ∧ (log ≠ k ∨
      phys ≠ lane)) :=
  ⟨atX fun x => { x with rx := .run, air := [⟨[], [], none, 0, false, false, .none, 0, 0, 0⟩] }, 0, 0, ⟨[], [],
    none, 0, false, false, .none, 0, 0, 0⟩, [], _, by decide +kernel, rfl, rfl, 27, 27, 2, 31, 27,
    by decide +kernel, by decide +kernel, by decide +kernel, by decide +kernel, by decide +kernel⟩

theorem witness_SeamFrames_4 :
    ∃ s : State, ∃ ss c : Nat, ∃ fr : Frame, ∃ l : List Frame, ∃ g : Fab, ((s.fab.xs ss c).air = fr :: l) ∧
      (g = s.fab.modX ss c (fun x => { x with air := l })) ∧ ((g.xs ss c).rx.runs = true) ∧
      (fr.awake = (g.xs ss c).awakeIn) ∧ (fr.fseq = none) :=
  ⟨atX fun x => { x with rx := .run, air := [⟨[], [], none, 0, false, false, .none, 0, 0, 0⟩] }, 0, 0, ⟨[], [], none,
    0, false, false, .none, 0, 0, 0⟩, [], _, by decide +kernel, rfl, rfl, by decide +kernel, rfl⟩

theorem witness_SeamFrames_5 :
    ∃ s : State, ∃ ss c : Nat, ∃ fr : Frame, ∃ l : List Frame, ∃ g : Fab, ((s.fab.xs ss c).air = fr :: l) ∧ (g =
      s.fab.modX ss c (fun x => { x with air := l })) ∧ ((g.xs ss c).rx.runs = true) ∧ (∃ a b sa sb : Nat, ((g.xs ss
      c).rxUsed.contains a = true) ∧ ((g.xs ss c).rxUsed.contains b = true) ∧ (a ≠ b) ∧ (2 < sa) ∧ (2 < sb)) :=
  ⟨atX fun x => { x with rx := .run, air := [⟨[], [], none, 0, false, false, .none, 0, 0, 0⟩] }, 0, 0, ⟨[], [],
    none, 0, false, false, .none, 0, 0, 0⟩, [], _, by decide +kernel, rfl, rfl, 0, 27, 3, 3, by decide +kernel,
    by decide +kernel, by decide +kernel, by decide +kernel, by decide +kernel⟩

theorem witness_SeamFrames_6 :
    ∃ s : State, ∃ ss c : Nat, ∃ fr : Frame, ∃ l : List Frame, ∃ g : Fab, ((s.fab.xs ss c).air = fr :: l) ∧
      (g = s.fab.modX ss c (fun x => { x with air := l })) ∧ ((g.xs ss c).rx.runs = true) ∧
      (fr.awake = (g.xs ss c).awakeIn) ∧ (fr.fseq = some ((g.takeAck ss c fr).xs ss c).exp) :=
  ⟨atX fun x => { x with rx := .run, air := [⟨[], [], some 0, 0, false, false, .none, 0, 0, 0⟩] }, 0, 0, ⟨[], [],
    some 0, 0, false, false, .none, 0, 0, 0⟩, [], _, by decide +kernel, rfl, rfl, by decide +kernel, rfl⟩

theorem witness_SeamFrames_7 :
    ∃ s : State, ∃ ss c : Nat, ∃ fr : Frame, ∃ l : List Frame, ∃ g : Fab, ((s.fab.xs ss c).air = fr :: l) ∧
      (g = s.fab.modX ss c (fun x => { x with air := l })) ∧ ((g.xs ss c).rx.runs = true) ∧
      (fr.awake = (g.xs ss c).awakeIn) ∧ (∃ n, (fr.fseq = some n) ∧ (n ≠ ((g.takeAck ss c fr).xs ss c).exp)) :=
  ⟨atX fun x => { x with rx := .run, air := [⟨[], [], some 1, 0, false, false, .none, 0, 0, 0⟩] }, 0, 0, ⟨[], [],
    some 1, 0, false, false, .none, 0, 0, 0⟩, [], _, by decide +kernel, rfl, rfl, by decide +kernel, 1, rfl,
    by decide +kernel⟩

theorem witness_SeamReplayBound_0 :
    ∃ f : Fab, ∃ ss c : Nat, ((f.xs ss c).replay.length ≤ 48) :=
  ⟨base, 0, 0, by decide +kernel⟩

theorem witness_SeamReplayBound_1 :
    ∃ f : Fab, ∃ ss c : Nat, ((f.xs ss c).replay.length = 48) :=
  ⟨base.modX 0 0 fun x => { x with replay := List.replicate 48 ⟨[], [], none, 0, false, false, .none, 0, 0, 0⟩ }, 0,
    0, by decide +kernel⟩

theorem witness_SeamTraining_0 :
    ∃ s : State, ∃ ss c los lol bad : Nat, ∃ tr tx : Training, ((s.fab.xs ss c).rxTr = some tr) ∧
      ((s.fab.xs (farSide ss) c).txTr = some tx) ∧ (los < 2 ^ 30) ∧ (lol < 2 ^ 30) ∧ (bad < 2 ^ 30) :=
  ⟨st ((base.modX 0 0 fun x => { x with rxTr := some ⟨false, false, 0, 0, 0, false, 0⟩ }).modX 1 0 fun x => { x with txTr := some ⟨false, false, 0, 0, 0, false, 0⟩ }),
    0, 0, 0, 0, 0, ⟨false, false, 0, 0, 0, false, 0⟩, ⟨false, false, 0, 0, 0, false, 0⟩, by decide +kernel,
    by decide +kernel, by decide +kernel, by decide +kernel, by decide +kernel⟩

theorem witness_SeamTraining_1 :
    ∃ s : State, ∃ ss c k excl : Nat, ∃ l : List SbMsg, ((s.fab.sideOf ss).sb = .train c k excl :: l) :=
  ⟨atSide fun x => { x with sb := [.train 0 0 0] }, 0, 0, 0, 0, [], by decide +kernel⟩

/-- A training in the given phase, with nothing excluded on the transmit side. -/
def wTrain (ph excl : Nat) : State :=
  st ((base.modX 0 0 fun x => { x with rxTr := some ⟨false, false, ph, excl, 0, false, 0⟩ }).modX 1 0 fun x =>
    { x with txTr := some ⟨false, false, ph, 0, 0, false, 0⟩ })
theorem witness_SeamTraining_2 :
    ∃ s : State, ∃ ss c los lol bad : Nat, ∃ tr tx : Training, ((s.fab.xs ss c).rxTr = some tr) ∧ ((s.fab.xs
      (farSide ss) c).txTr = some tx) ∧ (los < 2 ^ 30) ∧ (lol < 2 ^ 30) ∧ (bad < 2 ^ 30) ∧ (tr.phase = 1) :=
  ⟨wTrain 1 0, 0, 0, 0, 0, 0, ⟨false, false, 1, 0, 0, false, 0⟩, ⟨false, false, 1, 0, 0, false, 0⟩,
    by decide +kernel, by decide +kernel, by decide +kernel, by decide +kernel, by decide +kernel,
    by decide +kernel⟩

theorem witness_SeamTraining_3 :
    ∃ s : State, ∃ ss c arg : Nat, ∃ l : List (LaneCmd × Nat), ∃ g : Fab, ((s.fab.xs ss c).cmdIn = (.retrain,
      arg) :: l) ∧ (g = s.fab.modX ss c (fun x => { x with cmdIn := l })) ∧ ((g.xs (farSide ss) c).rx.runs = true) ∧
      (arg = 1) :=
  ⟨st ((base.modX 0 0 fun x => { x with cmdIn := [(.retrain, 1)] }).modX 1 0 fun x => { x with rx := .run }), 0, 0, 1,
    [], _, by decide +kernel, rfl, rfl, by decide +kernel⟩

theorem witness_SeamTraining_4 :
    ∃ s : State, ∃ ss c los lol bad : Nat, ∃ tr tx : Training, ((s.fab.xs ss c).rxTr = some tr) ∧ ((s.fab.xs
      (farSide ss) c).txTr = some tx) ∧ (los < 2 ^ 30) ∧ (lol < 2 ^ 30) ∧ (bad < 2 ^ 30) ∧ (tr.phase = 3) :=
  ⟨wTrain 3 0, 0, 0, 0, 0, 0, ⟨false, false, 3, 0, 0, false, 0⟩, ⟨false, false, 3, 0, 0, false, 0⟩,
    by decide +kernel, by decide +kernel, by decide +kernel, by decide +kernel, by decide +kernel,
    by decide +kernel⟩

theorem witness_SeamTraining_5 :
    ∃ s : State, ∃ ss c arg : Nat, ∃ l : List (LaneCmd × Nat), ∃ g : Fab, ((s.fab.xs ss c).cmdIn = (.retrain,
      arg) :: l) ∧ (g = s.fab.modX ss c (fun x => { x with cmdIn := l })) ∧ ((g.xs (farSide ss) c).rx.runs = true) ∧
      (arg ≠ 1) :=
  ⟨st ((base.modX 0 0 fun x => { x with cmdIn := [(.retrain, 0)] }).modX 1 0 fun x => { x with rx := .run }), 0, 0, 0,
    [], _, by decide +kernel, rfl, rfl, by decide +kernel⟩

theorem witness_SeamTraining_6 :
    ∃ s : State, ∃ ss c los lol bad : Nat, ∃ tr tx : Training, ((s.fab.xs ss c).rxTr = some tr) ∧ ((s.fab.xs
      (farSide ss) c).txTr = some tx) ∧ (los < 2 ^ 30) ∧ (lol < 2 ^ 30) ∧ (bad < 2 ^ 30) ∧ (tr.phase = 4) :=
  ⟨wTrain 4 0, 0, 0, 0, 0, 0, ⟨false, false, 4, 0, 0, false, 0⟩, ⟨false, false, 4, 0, 0, false, 0⟩,
    by decide +kernel, by decide +kernel, by decide +kernel, by decide +kernel, by decide +kernel,
    by decide +kernel⟩

theorem witness_SeamTraining_7 :
    ∃ s : State, ∃ ss c los lol bad : Nat, ∃ tr tx : Training, ((s.fab.xs ss c).rxTr = some tr) ∧ ((s.fab.xs
      (farSide ss) c).txTr = some tx) ∧ (los < 2 ^ 30) ∧ (lol < 2 ^ 30) ∧ (bad < 2 ^ 30) ∧ (tr.phase = 5) ∧ (16 <
      exclCount (tr.excl ||| bad ||| tr.peer ||| (tx.excl ||| tx.peer))) :=
  ⟨wTrain 5 (2 ^ 17 - 1), 0, 0, 0, 0, 0, ⟨false, false, 5, (2 ^ 17 - 1), 0, false, 0⟩, ⟨false, false, 5, 0, 0,
    false, 0⟩, by decide +kernel, by decide +kernel, by decide +kernel, by decide +kernel, by decide +kernel,
    by decide +kernel, by decide +kernel⟩

theorem witness_SeamTraining_8 :
    ∃ s : State, ∃ ss c los lol bad : Nat, ∃ tr tx : Training, ((s.fab.xs ss c).rxTr = some tr) ∧ ((s.fab.xs
      (farSide ss) c).txTr = some tx) ∧ (los < 2 ^ 30) ∧ (lol < 2 ^ 30) ∧ (bad < 2 ^ 30) ∧ (tr.phase = 6) :=
  ⟨wTrain 6 0, 0, 0, 0, 0, 0, ⟨false, false, 6, 0, 0, false, 0⟩, ⟨false, false, 6, 0, 0, false, 0⟩,
    by decide +kernel, by decide +kernel, by decide +kernel, by decide +kernel, by decide +kernel,
    by decide +kernel⟩

theorem witness_SeamTraining_9 :
    ∃ s : State, ∃ ss c v : Nat, (ss < 8) ∧ (c < 8) ∧ (v = 1 ∨ v = 2) ∧ (s.fab.routeState ss c ≠ 2) :=
  ⟨st (base.modX 7 7 fun x => { x with tx := .run, rx := .run, peerRx := .run, txUp := true, rxUp := true }), 7, 7,
    2, by decide +kernel, by decide +kernel, by decide +kernel, by decide +kernel⟩

theorem witness_SeamTraining_10 :
    ∃ s : State, ∃ ss c v : Nat, (ss < 8) ∧ (c < 8) ∧ (2 < v) ∧ (v < 256) ∧ (s.fab.routeState ss c ≠ 2) :=
  ⟨st (base.modX 7 7 fun x => { x with tx := .run, rx := .run, peerRx := .run, txUp := true, rxUp := true }), 7, 7,
    255, by decide +kernel, by decide +kernel, by decide +kernel, by decide +kernel, by decide +kernel⟩

theorem witness_SeamRepairs_0 :
    ∃ s : State, ∃ ss c : Nat, ((s.fab.xs ss c).rx.runs = true) ∧
      ((s.fab.xs ss c).scanAt + ms (s.fab.o .seam ss O.SEAM_SCAN_PERIOD) ≤ s.fab.sideTime ss) :=
  ⟨st ((base.modLan 0 fun l => { l with acc := 2 ^ 100 }).modX 0 0 fun x => { x with rx := .run }), 0, 0,
    by decide +kernel, by decide +kernel⟩

theorem witness_SeamRepairs_1 :
    ∃ s : State, ∃ ss c l los : Nat, ((s.fab.xs ss c).rx.runs = true) ∧ (s.fab.sbLost ss = false) ∧
      ((s.fab.xs ss c).rxUsed.filter (fun k => bit los k && !bit (s.fab.xs ss c).los k) = [l]) :=
  ⟨st ((base.modX 0 0 fun x => { x with rx := .run, los := 0 }).modSide 0 fun x => { x with lock0 := true }), 0, 0,
    27, 2 ^ 27, by decide +kernel, by decide +kernel, by decide +kernel⟩

theorem witness_SeamRepairs_2 :
    ∃ pass : Nat → Bool, ∃ n lo hi : Nat, (lo ≤ hi) ∧ (∀ a b, lo < a → a ≤ b → b ≤ hi → pass b = true → pass a =
      true) ∧ (hi - lo < 2 ^ n) :=
  ⟨fun k => decide (k ≤ 3), 3, 0, 7, by decide, fun a b _ h _ q => decide_eq_true (Nat.le_trans h (of_decide_eq_true
    q)), by decide⟩

theorem witness_SeamRepairs_3 :
    ∃ s : State, ∃ ss c lane : Nat, ∃ l : List (LaneCmd × Nat), ∃ g : Fab, ((s.fab.xs ss c).cmdIn = (.repairReq,
      lane) :: l) ∧ (g = s.fab.modX ss c (fun x => { x with cmdIn := l })) ∧ ((g.xs ss c).txRep ≠ none) :=
  ⟨atX fun x => { x with cmdIn := [(.repairReq, 0)], txRep := some ⟨0, 29, false⟩ }, 0, 0, 0, [], _,
    by decide +kernel, rfl, by decide +kernel⟩

theorem witness_SeamRepairs_4 :
    ∃ pass : Nat → Bool, ∃ n lo hi : Nat, (lo ≤ hi) ∧ (∀ a b, lo < a → a ≤ b → b ≤ hi → pass b = true → pass a =
      true) ∧ (hi - lo < 2 ^ n) ∧ (∃ a, (lo < a) ∧ (a ≤ searchMax pass n lo hi)) :=
  ⟨fun k => decide (k ≤ 3), 3, 0, 7, by decide, fun a b _ h _ q => decide_eq_true (Nat.le_trans h (of_decide_eq_true
    q)), by decide, 3, by decide, by decide⟩

theorem witness_SeamRepairs_5 :
    ∃ s : State, ∃ ss c lane : Nat, ∃ l : List (LaneCmd × Nat), ∃ g : Fab, ((s.fab.xs ss c).cmdIn = (.repairReq,
      lane) :: l) ∧ (g = s.fab.modX ss c (fun x => { x with cmdIn := l })) ∧ ((g.xs ss c).txRep = none) :=
  ⟨atX fun x => { x with cmdIn := [(.repairReq, 0)] }, 0, 0, 0, [], _, by decide +kernel, rfl, rfl⟩

theorem witness_SeamRepairs_6 :
    ∃ pass : Nat → Bool, ∃ n lo hi : Nat, (lo ≤ hi) ∧ (∀ a b, lo < a → a ≤ b → b ≤ hi → pass b = true → pass a =
      true) ∧ (hi - lo < 2 ^ n) ∧ (∃ a, (searchMax pass n lo hi < a) ∧ (a ≤ hi)) :=
  ⟨fun k => decide (k ≤ 3), 3, 0, 7, by decide, fun a b _ h _ q => decide_eq_true (Nat.le_trans h (of_decide_eq_true
    q)), by decide, 4, by decide, by decide⟩

theorem witness_SeamRepairs_7 :
    ∃ s : State, ∃ ss c : Nat, ∃ r q : Repair, ((s.fab.xs ss c).rxRep = some r) ∧ (r.ready = false) ∧
      ((s.fab.xs (farSide ss) c).txRep = some q) ∧ (q.lane = r.lane) :=
  ⟨st ((base.modX 0 0 fun x => { x with rxRep := some ⟨0, 29, false⟩ }).modX 1 0 fun x => { x with txRep := some ⟨0, 29, false⟩ }),
    0, 0, ⟨0, 29, false⟩, ⟨0, 29, false⟩, by decide +kernel, by decide +kernel, by decide +kernel, by decide +kernel⟩

theorem witness_SeamRepairs_8 :
    ∃ s : State, ∃ ss c lane : Nat, ∃ q : Repair, ∃ l : List (LaneCmd × Nat), ∃ g : Fab,
      ((s.fab.xs ss c).cmdIn = (.repairReady, lane) :: l) ∧ (g = s.fab.modX ss c (fun x => { x with cmdIn := l })) ∧
      ((g.xs ss c).txRep = some q) ∧ (q.lane = lane) :=
  ⟨atX fun x => { x with cmdIn := [(.repairReady, 0)], txRep := some ⟨0, 29, false⟩ }, 0, 0, 0, ⟨0, 29, false⟩, [], _,
    by decide +kernel, rfl, rfl, by decide +kernel⟩

theorem witness_SeamRepairs_9 :
    ∃ s : State, ∃ ss c lane : Nat, ∃ r : Repair, ∃ l : List (LaneCmd × Nat), ∃ g : Fab,
      ((s.fab.xs ss c).cmdIn = (.repairAt, lane) :: l) ∧ (g = s.fab.modX ss c (fun x => { x with cmdIn := l })) ∧
      ((g.xs ss c).rxRep = some r) ∧ (r.lane = lane) ∧ (∃ h,
      (h = (g.modX ss c (fun x => { x with rxExcl := setBit x.rxExcl lane, rxRep := none })).seamRaise ss c lane false 3
      r.spare) ∧ ((h.xs ss c).rxSpares ≠ [])) :=
  ⟨atX fun x => { x with cmdIn := [(.repairAt, 0)], rxRep := some ⟨0, 29, false⟩ }, 0, 0, 0, ⟨0, 29, false⟩, [], _,
    by decide +kernel, rfl, by decide +kernel, by decide +kernel, _, rfl, by decide +kernel⟩

theorem witness_SeamRepairs_10 :
    ∃ s : State, ∃ ss c v : Nat, (ss < 8) ∧ (c < 8) ∧ (v < 30) ∧ ((s.fab.xs ss c).rx.runs = true) ∧
      (v ∈ (s.fab.xs ss c).rxUsed) :=
  ⟨st (base.modX 7 7 fun x => { x with rx := .run }), 7, 7, 0, by decide +kernel, by decide +kernel,
    by decide +kernel, by decide +kernel, by decide +kernel⟩

theorem witness_SeamRepairs_11 :
    ∃ s : State, ∃ ss c v : Nat, (ss < 8) ∧ (c < 8) ∧ (v < 30) ∧ (v ∉ (s.fab.xs ss c).rxUsed) :=
  ⟨st (base.modX 0 0 fun x => { x with rxExcl := 1 }), 0, 0, 0, by decide +kernel, by decide +kernel,
    by decide +kernel, by decide +kernel⟩

theorem witness_SeamSleep_0 :
    ∃ s : State, ∃ ss c : Nat, ((s.fab.xs ss c).rx.runs = true) ∧ ((s.fab.xs ss c).sleepReq = false) ∧
      (s.fab.o .seam ss O.SEAM_SLEEP_IDLE ≠ 0) ∧
      ((s.fab.xs ss c).lastFlit + ns (s.fab.o .seam ss O.SEAM_SLEEP_IDLE) ≤ s.fab.sideTime ss) ∧
      (s.fab.wireOf (sideTile ss c).1 (sideTile ss c).2 = []) ∧ (s.fab.oI O.FABRIC_MODE ≠ 0) ∧
      (s.fab.sbLost ss = false) ∧ (s.fab.sbLost (farSide ss) = false) :=
  ⟨st (((base.modLan 0 fun l => { l with acc := 2 ^ 100 }).modX 0 0 fun x => { x with rx := .run }).setO .inst 0 O.FABRIC_MODE 0 1),
    0, 0, by decide +kernel, by decide +kernel, by decide +kernel, by decide +kernel, by decide +kernel,
    by decide +kernel, by decide +kernel, by decide +kernel⟩

theorem witness_SeamSleep_1 :
    ∃ s : State, ∃ ss c : Nat, ∃ l : List SbMsg, ∃ g : Fab, ((s.fab.sideOf ss).sb = .sleep c :: l) ∧
      (g = s.fab.modSide ss (fun x => { x with sb := l })) ∧ ((g.xs ss c).tx.runs = true) ∧ ((g.xs ss c).replay = [] ∧
      (g.xs ss c).fifo = [] ∧ (g.xs ss c).creds = [] ∧ (g.xs ss c).cmds = [] ∧ (g.seamOut ss c).knock = none) :=
  ⟨st ((base.modSide 0 fun x => { x with sb := [.sleep 0] }).modX 0 0 fun x => { x with tx := .run }), 0, 0, [], _,
    by decide +kernel, rfl, rfl, by decide +kernel⟩

theorem witness_SeamSleep_2 :
    ∃ s : State, ∃ ss c : Nat, ∃ l : List SbMsg, ∃ g : Fab, ((s.fab.sideOf ss).sb = .sleep c :: l) ∧
      (g = s.fab.modSide ss (fun x => { x with sb := l })) ∧ ((g.xs ss c).tx.runs = true) ∧
      ((g.xs ss c).replay ≠ [] ∨ (g.xs ss c).creds ≠ [] ∨ (g.xs ss c).cmds ≠ [] ∨ (g.seamOut ss c).knock ≠ none) :=
  ⟨st ((base.modSide 0 fun x => { x with sb := [.sleep 0] }).modX 0 0 fun x => { x with tx := .run, creds := [0] }),
    0, 0, [], _, by decide +kernel, rfl, rfl, by decide +kernel⟩

theorem witness_SeamSleep_3 :
    ∃ s : State, ∃ ss c : Nat, ∃ l : List SbMsg, ∃ g : Fab, ((s.fab.sideOf ss).sb = .slept c :: l) ∧
      (g = s.fab.modSide ss (fun x => { x with sb := l })) ∧ ((g.xs ss c).rx.runs = true) ∧
      ((g.xs ss c).sleepReq = true) ∧ ((g.xs ss c).air = []) :=
  ⟨st ((base.modSide 0 fun x => { x with sb := [.slept 0] }).modX 0 0 fun x => { x with rx := .run, sleepReq := true }),
    0, 0, [], _, by decide +kernel, rfl, rfl, by decide +kernel, by decide +kernel⟩

theorem witness_SeamSleep_4 :
    ∃ s : State, ∃ ss c : Nat, ((s.fab.xs ss c).rx = .sleep) ∧ ((s.fab.xs (farSide ss) c).tx = .sleep) ∧
      (s.fab.o .seam ss O.SEAM_DEEP_IDLE ≠ 0) ∧
      ((s.fab.xs ss c).sleptAt + us (s.fab.o .seam ss O.SEAM_DEEP_IDLE) ≤ s.fab.sideTime ss) ∧
      (s.fab.sbLost ss = false) ∧ (s.fab.sbLost (farSide ss) = false) :=
  ⟨st ((((base.modLan 0 fun l => { l with acc := 2 ^ 100 }).modX 0 0 fun x => { x with rx := .sleep }).modX 1 0 fun x => { x with tx := .sleep }).setO .seam 0 O.SEAM_DEEP_IDLE 0 1),
    0, 0, by decide +kernel, by decide +kernel, by decide +kernel, by decide +kernel, by decide +kernel,
    by decide +kernel⟩

theorem witness_SeamSleep_5 :
    ∃ f : Fab, ∃ ss : Nat, ((f.sideOf ss).pll = true) ∧ (∀ k, k < 8 → (f.xs ss k).tx.dead = true ∨ ((f.xs ss k).tx =
      .deep ∧ (f.xs ss k).txOn = false)) :=
  ⟨base.modSide 0 fun x => { x with pll := true }, 0, by decide +kernel, by decide +kernel⟩

theorem witness_SeamSleep_6 :
    ∃ s : State, ∃ ss c : Nat, ∃ l : List SbMsg, ((s.fab.sideOf ss).sb = .knock c :: l) :=
  ⟨st ((base.modSide 0 fun x => { x with sb := [.knock 0] })), 0, 0, [], by decide +kernel⟩

theorem witness_SeamSleep_7 :
    ∃ f : Fab, ∃ ss : Nat, ((f.sideOf ss).pll = true) ∧ (∃ k, (k < 8) ∧ ((f.xs ss k).tx.dead = false) ∧ ((f.xs ss
      k).tx ≠ .deep)) :=
  ⟨(base.modSide 0 fun x => { x with pll := true }).modX 0 7 fun x => { x with tx := .run }, 0, by decide +kernel,
    7, by decide +kernel, by decide +kernel, by decide +kernel⟩

theorem witness_SeamSleep_8 :
    ∃ f : Fab, ∃ ss c : Nat, ∃ g : Fab, (g = f.askWake (sideTile ss c).1) ∧ ((f.xs ss c).rx = .deep) :=
  ⟨base.modX 0 0 fun x => { x with rx := .deep }, 0, 0, _, rfl, by decide +kernel⟩

theorem witness_SeamSleep_9 :
    ∃ x : CrossSide, ∃ l : Nat, (l ∈ lanesUsed x.txExcl x.txHalf) ∧ (x.tx = .sleep) :=
  ⟨{ base.xs 0 0 with tx := .sleep }, 27, by decide +kernel, by decide +kernel⟩

theorem witness_SeamSleep_10 :
    ∃ f : Fab, ∃ ss c : Nat, ∃ g : Fab, (g = f.askWake (sideTile ss c).1) ∧ ((f.xs ss c).rx = .sleep) :=
  ⟨base.modX 0 0 fun x => { x with rx := .sleep }, 0, 0, _, rfl, by decide +kernel⟩

theorem witness_SeamSleep_11 :
    ∃ x : CrossSide, ∃ l : Nat, (l ∈ lanesUsed x.txExcl x.txHalf) ∧ (x.tx = .deep) :=
  ⟨{ base.xs 0 0 with tx := .deep }, 27, by decide +kernel, by decide +kernel⟩

theorem witness_SeamSleep_12 :
    ∃ s : State, ∃ ss c : Nat, ∃ b : Bool, ∃ l : List SbMsg, ((s.fab.sideOf ss).sb = .awake c b :: l) :=
  ⟨st ((base.modSide 0 fun x => { x with sb := [.awake 0 false] })), 0, 0, false, [], by decide +kernel⟩

theorem witness_SeamSleep_13 :
    ∃ s : State, ∃ ss c : Nat, ((s.fab.xs ss c).awakeIn = false) ∧ ((s.fab.xs ss c).tx = .sleep ∨ (s.fab.xs ss c).tx
      = .deep) ∧ ((s.fab.seamOut ss c).knock ≠ none ∨ (s.fab.xs ss c).creds ≠ [] ∨ (s.fab.xs ss c).ackOwed = true ∨
      (s.fab.xs ss c).cmds ≠ []) :=
  ⟨atX fun x => { x with tx := .sleep, creds := [0] }, 0, 0, by decide +kernel, by decide +kernel,
    by decide +kernel⟩

theorem witness_SeamSleep_14 :
    ∃ s : State, ∃ ss c lanes : Nat, ((s.fab.xs ss c).los &&& lanes ≠ 0) ∧ (s.fab.sbLost ss = true) ∧
      ((s.fab.xs ss c).rx = .sleep ∨ (s.fab.xs ss c).rx = .deep) :=
  ⟨st ((base.modSide 0 fun x => { x with lock0 := false, lock1 := false }).modX 0 0 fun x => { x with rx := .sleep }),
    0, 0, 1, by decide +kernel, by decide +kernel, by decide +kernel⟩

theorem witness_SeamMessages_0 :
    ∃ s : State, ∃ ss c k : Nat, ∃ st : DirSt, ∃ h : Bool, ∃ l : List SbMsg,
      ((s.fab.sideOf ss).sb = .state c st k h :: l) :=
  ⟨st ((base.modSide 0 fun x => { x with sb := [.state 0 .run 2 false] })), 0, 0, 2, .run, false, [],
    by decide +kernel⟩

theorem witness_SeamMessages_1 :
    ∃ s : State, ∃ ss c : Nat,
      ((s.fab.xs ss c).stSent ≠ (s.fab.xs ss c).stateMsg ∨ (s.fab.xs ss c).stAt + ms 1 ≤ s.fab.sideTime ss) :=
  ⟨st (base.modLan 0 fun l => { l with acc := 2 ^ 100 }), 0, 0, by decide +kernel⟩

theorem witness_SeamMessages_2 :
    ∃ s : State, ∃ ss c : Nat, ((s.fab.xs ss c).stSent = (s.fab.xs ss c).stateMsg) ∧
      (s.fab.sideTime ss < (s.fab.xs ss c).stAt + ms 1) :=
  ⟨st base, 0, 0, by decide +kernel, by decide +kernel⟩

theorem witness_SeamMessages_3 :
    ∃ s : State, ∃ ss lane : Nat, (lane < 2) ∧ ((s.fab.sideOf ss).lock0 = true) ∧ ((s.fab.sideOf ss).lock1 = true) :=
  ⟨st base, 0, 0, by decide +kernel, by decide +kernel, by decide +kernel⟩

theorem witness_SeamMessages_4 :
    ∃ s : State, ∃ ss : Nat, ((s.fab.sideOf ss).lock0 = false) ∧ ((s.fab.sideOf ss).lock1 = true) :=
  ⟨atSide fun x => { x with lock0 := false, lock1 := true }, 0, by decide +kernel, by decide +kernel⟩

theorem witness_SeamMessages_5 :
    ∃ s : State, ∃ ss a : Nat, ∃ words : List Nat, (commaAlign words = some a) ∧ (bit s.fab.guyBreaks (breakBit ss)
      = false) :=
  ⟨st base, 0, 0, [380], by decide +kernel, by decide +kernel⟩

theorem witness_SeamMessages_6 :
    ∃ s : State, ∃ ss : Nat, ∃ words : List Nat, (commaAlign words = none) ∧ (s.fab.sbLost ss = true) :=
  ⟨atSide fun x => { x with lock0 := false, lock1 := false }, 0, [], by decide +kernel, by decide +kernel⟩

theorem witness_SeamMessages_7 :
    ∃ s : State, ∃ ss c : Nat, ∃ b : Bool, ∃ l : List SbMsg, ((s.fab.sideOf ss).sb = .rst c b 0 :: l) :=
  ⟨st ((base.modSide 0 fun x => { x with sb := [.rst 0 false 0] })), 0, 0, false, [], by decide +kernel⟩

theorem witness_SeamMessages_8 :
    ∃ s : State, ∃ ss c : Nat, ((s.fab.sideOf ss).pll = true) ∧ (c < 8) ∧ ((s.fab.xs ss c).tx = .run) ∧ ((s.fab.xs
      ss c).inRst = false) :=
  ⟨st ((base.modSide 0 fun x => { x with pll := true }).modX 0 7 fun x => { x with tx := .run, inRst := false }), 0,
    7, by decide +kernel, by decide +kernel, by decide +kernel, by decide +kernel⟩

theorem witness_SeamMessages_9 :
    ∃ s : State, ∃ ss c : Nat, ∃ b : Bool, ∃ l : List SbMsg, ((s.fab.sideOf ss).sb = .rst c b 1 :: l) :=
  ⟨st ((base.modSide 0 fun x => { x with sb := [.rst 0 false 1] })), 0, 0, false, [], by decide +kernel⟩

theorem witness_SeamMessages_10 :
    ∃ s : State, ∃ ss c : Nat, ∃ b : Bool, ∃ l : List SbMsg, ((s.fab.sideOf ss).sb = .rst c b 2 :: l) :=
  ⟨st ((base.modSide 0 fun x => { x with sb := [.rst 0 false 2] })), 0, 0, false, [], by decide +kernel⟩

theorem witness_FabricTime_0 :
    ∃ s : State, ∃ d : Nat, ((s.fab.lantern d).dev = []) :=
  ⟨st base, 0, by decide +kernel⟩

theorem witness_FabricTime_1 :
    ∃ s : State, ∃ d t : Nat, ∃ x : Int, ((s.fab.lantern d).dev = []) ∧ (dieOf t = d) ∧ (x ≠ 0) :=
  ⟨atLan fun l => { l with dev := [] }, 0, 0, 1, by decide +kernel, by decide +kernel, by decide +kernel⟩

theorem witness_FabricTime_2 :
    ∃ s : State, ∃ d a : Nat, ∃ amount : Int, ((s.fab.lantern d).step = some (a, amount)) ∧ (a ≤ s.fab.dieTime d) :=
  ⟨atLan fun l => { l with step := some (0, 0) }, 0, 0, _, rfl, by decide +kernel⟩

theorem witness_FabricTime_3 :
    ∃ s : State, ∃ d a : Nat, ∃ amount : Int, ((s.fab.lantern d).step = some (a, amount)) ∧ (s.fab.dieTime d < a) :=
  ⟨atLan fun l => { l with step := some (1, 0) }, 0, 1, _, rfl, by decide +kernel⟩

theorem witness_FabricTime_4 :
    ∃ s : State, ∃ d : Nat, (s.fab.coldRuns = true ∨ s.fab.ppsIndex d ≤ (s.fab.lantern d).ppsSec) :=
  ⟨st base, 0, by decide +kernel⟩

theorem witness_FabricTime_5 :
    ∃ s : State, ∃ d t : Nat, ((s.fab.lantern d).ppsOut = some t) ∧
      (((t + us (s.fab.oD d O.LANTERN_PPS_OUT_WIDTH) : Nat) : Int) ≤ (s.fab.lantern d).run) :=
  ⟨atLan fun l => { l with acc := 2 ^ 100, ppsOut := some 0 }, 0, 0, by decide +kernel, by decide +kernel⟩

theorem witness_FabricTime_6 :
    ∃ s : State, ∃ d : Nat, (s.fab.coldRuns = false) ∧ ((s.fab.lantern d).ppsSec < s.fab.ppsIndex d) :=
  ⟨atLan fun l => { l with acc := 2 ^ 100 }, 0, by decide +kernel, by decide +kernel⟩

theorem witness_FabricTime_7 :
    ∃ g : Nat, (g < 64) :=
  ⟨0, by decide +kernel⟩

theorem witness_StepKeepsRunTime_0 :
    ∃ s t : State, ∃ d a : Nat, ∃ amount : Int, ((s.fab.lantern d).step = some (a, amount)) ∧ (a ≤ s.fab.dieTime d) ∧
      (0 ≤ ((s.fab.lantern d).acc : Int) + amount * 2 ^ 24) ∧
      (((s.fab.lantern d).acc : Int) + amount * 2 ^ 24 < 2 ^ 104) ∧ ((s.fab.lantern d).acc < 2 ^ 104) ∧
      (exec (.stepApply d) s = .next t) ∧ (∃ n, (dieOf n = d) ∧ ((s.fab.lantern d).dev = [])) :=
  ⟨atLan fun l => { l with acc := 2 ^ 80, step := some (0, -1), dev := [] }, _, 0, 0, -1, by decide +kernel,
    by decide +kernel, by decide +kernel, by decide +kernel, by decide +kernel, rfl, 0, by decide +kernel,
    by decide +kernel⟩

theorem witness_LanternExchanges_0 :
    ∃ s : State, ∃ d seam : Nat, ∃ g : Fab, (0 < d) ∧ (d < 4) ∧ ((s.fab.lantern d).req = none) ∧
      (g = (s.fab.modLan d Lantern.endRemoval).chooseUpstream d) ∧ ((g.lantern d).upstream = some seam) :=
  ⟨st { base with lan := Fab.reset.lan }, 1, 0, _, by decide +kernel, by decide +kernel, by decide +kernel, rfl, rfl⟩

theorem witness_LanternExchanges_1 :
    ∃ s : State, ∃ ss k : Nat, ∃ l : List SbMsg, ∃ g : Fab, ((s.fab.sideOf ss).sb = .timeReq k :: l) ∧
      (g = s.fab.modSide ss (fun x => { x with sb := l })) :=
  ⟨atSide fun x => { x with sb := [.timeReq 5] }, 0, 5, [], _, by decide +kernel, rfl⟩

theorem witness_LanternExchanges_2 :
    ∃ s : State, ∃ ss seq t2 dt st hops t1 n d : Nat, ∃ l : List SbMsg, ∃ g : Fab,
      ((s.fab.sideOf ss).sb = .timeRsp seq t2 dt st hops :: l) ∧
      (g = s.fab.modSide ss (fun x => { x with sb := l })) ∧ (d = sideDie ss) ∧ ((g.lantern d).req = some (n, t1)) ∧
      (n ≠ seq ∨ hops = 3 ∨ (g.lantern d).upstream ≠ some (sideSeam ss)) :=
  ⟨st ((base.modSide 0 fun x => { x with sb := [.timeRsp 5 0 0 0 3] }).modLan (sideDie 0) fun l => { l with req := some (5, 0) }),
    0, 5, 0, 0, 0, 3, 0, 5, _, [], _, by decide +kernel, rfl, rfl, by decide +kernel, by decide +kernel⟩

theorem witness_LanternExchanges_3 :
    ∃ s : State, ∃ ss seq t2 dt st hops t1 n d : Nat, ∃ l : List SbMsg, ∃ g : Fab,
      ((s.fab.sideOf ss).sb = .timeRsp seq t2 dt st hops :: l) ∧
      (g = s.fab.modSide ss (fun x => { x with sb := l })) ∧ (d = sideDie ss) ∧ ((g.lantern d).req = some (n, t1)) ∧
      (n = seq) ∧ (hops ≠ 3) ∧ ((g.lantern d).upstream = some (sideSeam ss)) :=
  ⟨st ((base.modSide 0 fun x => { x with sb := [.timeRsp 5 0 0 0 2] }).modLan (sideDie 0) fun l => { l with req := some (5, 0), upstream := some (sideSeam 0) }),
    0, 5, 0, 0, 0, 2, 0, 5, _, [], _, by decide +kernel, rfl, rfl, by decide +kernel, rfl, by decide +kernel,
    by decide +kernel⟩

theorem witness_LanternExchanges_4 :
    ∃ f : Fab, ∃ d : Nat, ∃ theta : Int, ((f.lantern d).st = .acquire) ∧ ((f.lantern d).stepped = false) ∧
      (6553600 < theta.natAbs) :=
  ⟨base.modLan 1 fun l => { l with st := .acquire }, 1, 6553601, by decide +kernel, by decide +kernel,
    by decide +kernel⟩

theorem witness_LanternExchanges_5 :
    ∃ s : State, ∃ ss a : Nat, ∃ amount : Int, ∃ l : List SbMsg, ∃ g : Fab,
      ((s.fab.sideOf ss).sb = .timeStep a amount :: l) ∧ (g = s.fab.modSide ss (fun x => { x with sb := l })) ∧
      ((g.lantern (sideDie ss)).upstream = some (sideSeam ss)) :=
  ⟨st ((base.modSide 0 fun x => { x with sb := [.timeStep 1 2] }).modLan (sideDie 0) fun l => { l with upstream := some (sideSeam 0) }),
    0, 1, 2, [], _, by decide +kernel, rfl, rfl⟩

theorem witness_LanternExchanges_6 :
    ∃ s : State, ∃ ss k : Nat, ∃ e : Int, ∃ l : List SbMsg, ∃ g : Fab, ((s.fab.sideOf ss).sb = .timeOffset e k :: l) ∧
      (g = s.fab.modSide ss (fun x => { x with sb := l })) ∧ (sideDie ss ≠ 0) :=
  ⟨st (base.modSide 7 fun x => { x with sb := [.timeOffset 0 5] }), 7, 5, _, [], _, rfl, rfl, by decide +kernel⟩

theorem witness_LanternExchanges_7 :
    ∃ s : State, ∃ ss k : Nat, ∃ e : Int, ∃ l : List SbMsg, ∃ g : Fab, ((s.fab.sideOf ss).sb = .timeOffset e k :: l) ∧
      (g = s.fab.modSide ss (fun x => { x with sb := l })) ∧ (sideDie ss = 0) ∧ (g.oI O.LANTERN_SOURCE = 2) :=
  ⟨st ((base.modSide 0 fun x => { x with sb := [.timeOffset 0 5] }).setO .inst 0 O.LANTERN_SOURCE 0 2), 0, 5, _, [],
    _, rfl, rfl, by decide +kernel, by decide +kernel⟩

theorem witness_LanternExchanges_8 :
    ∃ d : Nat, (d ≠ 0) :=
  ⟨1, by decide +kernel⟩

theorem witness_LanternExchanges_9 :
    ∃ s : State, ∃ e : Nat, ((s.fab.lantern 0).edgeAt = some e) ∧ (((s.fab.lantern 0).run).toNat < e + ms 500) :=
  ⟨atLan fun l => { l with edgeAt := some 0 }, 0, by decide +kernel, by decide +kernel⟩

theorem witness_LanternExchanges_10 :
    ∃ s : State, ∃ g : Fab, ((s.fab.lantern 0).edgeAt = none) ∧ (s.fab.oI O.LANTERN_SOURCE = 1) ∧
      (g = (s.fab.bump .inst 0 O.PPS_IN_COUNT 0).modLan 0 (fun l => { l with
      ppsAt := ((s.fab.lantern 0).run).toNat, edgeAt := some ((s.fab.lantern 0).run).toNat
      ppsNs := stamp (s.fab.dieTime 0) / 65536 })) ∧ (g.oI O.LANTERN_SOURCE = 1) ∧ (((g.endC (famLantern 0) 4).leadReturns.lantern 0).st ≠ .holdover) :=
  ⟨atObj .inst 0 O.LANTERN_SOURCE 1, _, by decide +kernel, by decide +kernel, rfl, rfl, by decide +kernel⟩

theorem witness_LanternExchanges_11 :
    ∃ s : State, (s.fab.oI O.LANTERN_SOURCE = 1) ∧
      ((((s.fab.lantern 0).ppsAt + ms (s.fab.oI O.LANTERN_PPS_TIMEOUT) : Nat) : Int) ≤ (s.fab.lantern 0).run) :=
  ⟨st ((base.modLan 0 fun l => { l with acc := 2 ^ 100 }).setO .inst 0 O.LANTERN_SOURCE 0 1), by decide +kernel,
    by decide +kernel⟩

theorem witness_LanternExchanges_12 :
    ∃ s : State, (s.fab.oI O.LANTERN_SOURCE = 2) ∧
      ((((s.fab.lantern 0).upAt + ms (s.fab.oI O.LANTERN_UP_TIMEOUT) : Nat) : Int) ≤ (s.fab.lantern 0).run) :=
  ⟨st ((base.modLan 0 fun l => { l with acc := 2 ^ 100 }).setO .inst 0 O.LANTERN_SOURCE 0 2), by decide +kernel,
    by decide +kernel⟩

theorem witness_LanternExchanges_13 :
    ∃ s : State, ∃ d : Nat, ((s.fab.lantern d).refOk = true) :=
  ⟨st base, 0, by decide +kernel⟩

theorem witness_LanternExchanges_14 :
    ∃ s : State, ∃ d : Nat, ((s.fab.lantern d).refOk = false) ∧ (d ≠ 0) :=
  ⟨st (base.modLan 3 fun l => { l with refOk := false }), 3, by decide +kernel, by decide +kernel⟩

theorem witness_LanternExchanges_15 :
    ∃ s : State, ∃ g w : Nat, (g < 16) ∧ (s.fab.oI O.LANTERN_SOURCE = 2) ∧
      (bit (s.fab.o .die 0 O.LANTERN_TB_EN) g = true) ∧ (4 * g + field w 0 2 = s.fab.oI O.LANTERN_UP_PORT) ∧
      (field w 168 8 ≠ crc8 w 168) :=
  ⟨st ((base.setO .inst 0 O.LANTERN_SOURCE 0 2).setO .die 0 O.LANTERN_TB_EN 0 (2 ^ 16 - 1)), 0, 2 ^ 168,
    by decide +kernel, by decide +kernel, by decide +kernel, by decide +kernel, by decide +kernel⟩

theorem witness_LanternExchanges_16 :
    ∃ s : State, ∃ g w : Nat, (g < 16) ∧ (s.fab.oI O.LANTERN_SOURCE = 2) ∧
      (bit (s.fab.o .die 0 O.LANTERN_TB_EN) g = true) ∧ (4 * g + field w 0 2 = s.fab.oI O.LANTERN_UP_PORT) ∧
      (field w 168 8 = crc8 w 168) ∧ ((s.fab.lantern 0).upSeq ≠ some (field w 162 6)) :=
  ⟨st ((base.setO .inst 0 O.LANTERN_SOURCE 0 2).setO .die 0 O.LANTERN_TB_EN 0 (2 ^ 16 - 1)), 0, 0, by decide +kernel,
    by decide +kernel, by decide +kernel, by decide +kernel, by decide +kernel, by decide +kernel⟩

theorem witness_LanternExchanges_17 :
    ∃ v : Nat, (v < 3) :=
  ⟨0, by decide +kernel⟩

theorem witness_LanternExchanges_18 :
    ∃ s : State, ∃ v : Nat, (s.fab.stepRefused (toSigned v 64 * 65536) = true) :=
  ⟨st base, 2 ^ 62, by decide +kernel⟩

theorem witness_LanternExchanges_19 :
    ∃ s : State, ∃ v : Nat, (s.fab.stepRefused (toSigned v 64 * 65536) = false) :=
  ⟨st base, 0, by decide +kernel⟩

theorem witness_LanternExchanges_20 :
    ∃ s : State, ∃ v : Nat, ∃ x : Int, (x = ((v % 2 ^ 80 : Nat) : Int) - (s.fab.dieTime 0 + us 50 : Nat)) ∧
      (s.fab.stepRefused x = true) :=
  ⟨atLan fun l => { l with step := some (0, 0) }, 0, ((0 % 2 ^ 80 : Nat) : Int) - (base.dieTime 0 + us 50 : Nat), rfl,
    by decide +kernel⟩

theorem witness_LanternExchanges_21 :
    ∃ s : State, ∃ v : Nat, ∃ x : Int, (x = ((v % 2 ^ 80 : Nat) : Int) - (s.fab.dieTime 0 + us 50 : Nat)) ∧
      (s.fab.stepRefused x = false) :=
  ⟨atLan fun l => { l with acc := 2 ^ 90 }, 2 ^ 66 + us 50, _, rfl, by decide +kernel⟩

theorem witness_TileSleep_0 :
    ∃ s : State, ∃ t : Nat, ((s.fab.tile t).st = .t0) ∧ ((s.fab.tile t).pw.waking = false) ∧
      (s.fab.qclkRuns t = true) ∧ (s.fab.oT t O.TILE_DOZE_IDLE ≠ 0) ∧
      (s.fab.oT t O.TILE_DOZE_IDLE ≤ (s.fab.tile t).pw.idle1) ∧ (s.fab.sleepOk t 1 = true) ∧
      ((s.fab.tile t).pw.wakeReq = false) ∧ (s.fab.cellFenced t = false) :=
  ⟨atTile fun x => { x with pw := { x.pw with idle1 := 2 ^ 40 } }, 0, by decide +kernel, by decide +kernel,
    by decide +kernel, by decide +kernel, by decide +kernel, by decide +kernel, by decide +kernel, by decide +kernel⟩

theorem witness_TileSleep_1 :
    ∃ s : State, ∃ t : Nat, ((s.fab.tile t).st = .t0 ∨ (s.fab.tile t).st = .t1) ∧ ((s.fab.tile t).pw.waking = false) ∧
      (s.fab.oT t O.TILE_NAP_IDLE ≠ 0) ∧
      ((s.fab.tile t).pw.idle2 + ns (s.fab.oT t O.TILE_NAP_IDLE) ≤ (s.fab.run t).toNat) ∧ (s.fab.sleepOk t 2 = true) ∧
      ((s.fab.tile t).pw.wakeReq = false) ∧ (s.fab.cellFenced t = false) :=
  ⟨st (base.modLan 0 fun l => { l with acc := 2 ^ 100 }), 0, by decide +kernel, by decide +kernel, by decide +kernel,
    by decide +kernel, by decide +kernel, by decide +kernel, by decide +kernel⟩

theorem witness_TileSleep_2 :
    ∃ s : State, ∃ t : Nat, (s.fab.oT t O.TILE_DOZE_IDLE = 0) :=
  ⟨atObj .tile 0 O.TILE_DOZE_IDLE 0, 0, by decide +kernel⟩

theorem witness_TileSleep_3 :
    ∃ s : State, ∃ t : Nat, (s.fab.oT t O.TILE_NAP_IDLE = 0) :=
  ⟨atObj .tile 0 O.TILE_NAP_IDLE 0, 0, by decide +kernel⟩

theorem witness_TileSleep_4 :
    ∃ s : State, ∃ t : Nat, (s.fab.mayOff t = true) :=
  ⟨st (((base.modLan 0 fun l => { l with acc := 2 ^ 100 }).setO .tile 9 O.TILE_DEEPEST 0 2).setO .tile 9 O.TILE_OFF_IDLE 0 1),
    9, by decide +kernel⟩

theorem witness_TileSleep_5 :
    ∃ s : State, ∃ t : Nat, ((s.fab.tile t).asleep = true) ∧ (s.fab.wakeWanted t = true) :=
  ⟨atTile fun x => { x with st := .t1, pw := { x.pw with wakeReq := true } }, 0, by decide +kernel, by decide +kernel⟩

theorem witness_TileSleep_6 :
    ∃ s : State, ∃ t : Nat, (s.fab.wakeReady t = false) :=
  ⟨st base, 0, by decide +kernel⟩

theorem witness_TileSleep_7 :
    ∃ s : State, ∃ t : Nat, ∃ g : Fab, (g = s.fab.modPw t (fun p => { p with t3Req := true, t3Gnt := p.t3Gnt && true
      })) ∧ (isSpTile t = true) ∧ (g.spInReset (dieOf t) = false) :=
  ⟨st base, 0, _, rfl, by decide +kernel, by decide +kernel⟩

theorem witness_TileSleep_8 :
    ∃ s : State, ∃ t : Nat, (s.fab.wakeReady t = true) ∧ ((s.fab.tile t).st = .t1) ∧
      ((s.fab.tile t).pw.entering = false) :=
  ⟨atTile fun x => { x with st := .t1, pw := { x.pw with waking := true } }, 0, by decide +kernel, by decide +kernel,
    by decide +kernel⟩

theorem witness_TileSleep_9 :
    ∃ s : State, ∃ t : Nat, ∃ g : Fab, (g = s.fab.modPw t (fun p => { p with t3Req := true, t3Gnt := p.t3Gnt && true
      })) ∧ (isSpTile t = false) ∧ (g.mayOff t = true) :=
  ⟨st (((base.modLan 0 fun l => { l with acc := 2 ^ 100 }).setO .tile 9 O.TILE_DEEPEST 0 2).setO .tile 9
    O.TILE_OFF_IDLE 0 1), 9, _, rfl, by decide +kernel, by decide +kernel⟩

theorem witness_TileSleep_10 :
    ∃ s : State, ∃ t v : Nat, (t < 256) ∧ (v ≠ 0) ∧ ((s.fab.tile t).asleep = true) :=
  ⟨st (base.modTile 255 fun x => { x with st := .t3 }), 255, 1, by decide +kernel, by decide +kernel,
    by decide +kernel⟩

theorem witness_TileSleep_11 :
    ∃ s : State, ∃ t : Nat, ∃ g : Fab, (g = s.fab.modPw t (fun p => { p with t3Req := true, t3Gnt := p.t3Gnt && true
      })) ∧ (isSpTile t = false) ∧ (g.mayOff t = false) :=
  ⟨atObj .tile 9 O.TILE_HOLD 1, 9, _, rfl, by decide +kernel, by decide +kernel⟩

theorem witness_TileSleep_12 :
    ∃ t v : Nat, (t < 256) ∧ (v < 3) :=
  ⟨0, 0, by decide +kernel, by decide +kernel⟩

theorem witness_TileSleep_13 :
    ∃ s : State, ∃ t : Nat, ∃ g : Fab, (g = s.fab.modPw t (fun p => { p with t3Req := false, t3Gnt := p.t3Gnt &&
      false })) :=
  ⟨st base, 9, _, rfl⟩

theorem witness_PowerAndClocks_0 :
    ∃ s : State, (s.fab.coldLow = false) :=
  ⟨st base, by decide +kernel⟩

theorem witness_PowerAndClocks_1 :
    ∃ f : Fab, (f.coldLow = false ∨ (f.die 0).pcUqReq = false) :=
  ⟨base, by decide +kernel⟩

theorem witness_PowerAndClocks_2 :
    ∃ q : Nat, (q < 16) ∧ (q % 4 = 0) :=
  ⟨0, by decide +kernel, by decide +kernel⟩

theorem witness_PowerAndClocks_3 :
    ∃ s : State, ∃ q : Nat, (q < 16) ∧ (q % 4 ≠ 0) ∧ (s.fab.qpll q = 0) ∧ (s.fab.o .quad q O.QPLL_PARK_IDLE ≠ 0) ∧
      (s.fab.o .quad q O.QPLL_HOLD = 0) ∧ ((∀ t ∈ tilesOfQuad q, ((s.fab.tile t).st = .t2 ∨ (s.fab.tile t).st = .t3) ∧
      (s.fab.tile t).pw.waking = false ∧ (s.fab.tile t).pw.entering = false ∧
      (s.fab.tile t).pw.deepAt + us (s.fab.o .quad q O.QPLL_PARK_IDLE) ≤ (s.fab.run t).toNat)) :=
  ⟨st ({ base with lan := [(0, { Lantern.reset with acc := 2 ^ 100 })], tiles := (tilesOfQuad 1).map (fun t => (t, { Tile.reset with st := .t2 })) }.setO .quad 1 O.QPLL_STATE 0 0 |>.setO .quad 1 O.QPLL_PARK_IDLE 0 1),
    1, by decide +kernel, by decide +kernel, by decide +kernel, by decide +kernel, by decide +kernel,
    by decide +kernel⟩

theorem witness_PowerAndClocks_4 :
    ∃ s : State, ∃ q : Nat, (q < 16) ∧ (s.fab.qpll q = 2) ∧ ((s.fab.die (q / 4)).qpAck.getD (q % 4) false = true) :=
  ⟨st ((base.setO .quad 1 O.QPLL_STATE 0 2).modDie 0 fun d => { d with qpAck := List.replicate 4 true }), 1,
    by decide +kernel, by decide +kernel, by decide +kernel⟩

theorem witness_PowerAndClocks_5 :
    ∃ s : State, ∃ g : Fab, (g = s.fab.modDie 0 (fun d => { d with pcUqReq := false })) ∧ (s.fab.map.present = true) :=
  ⟨atMap fun m => { m with present := true }, _, rfl, by decide +kernel⟩

theorem witness_PowerAndClocks_6 :
    ∃ q : Nat, (q < 16) :=
  ⟨0, by decide +kernel⟩

theorem witness_PowerAndClocks_7 :
    ∃ s : State, ∃ g : Fab, (g = s.fab.modDie 0 (fun d => { d with pcUqReq := false })) ∧ (s.fab.map.present =
      false) :=
  ⟨atMap fun m => { m with present := false }, _, rfl, by decide +kernel⟩

theorem witness_PowerAndClocks_8 :
    ∃ s : State, ∃ v : Nat, (v < 4) ∧ ((∀ q, q < 16 → s.fab.qpll q = 1)) :=
  ⟨st (base.setO .quad 0 O.QPLL_STATE 0 1), 3, by decide +kernel, by decide +kernel⟩

theorem witness_PowerAndClocks_9 :
    ∃ s : State, ∃ v : Nat, (v < 4) ∧ ((∃ q, q < 16 ∧ s.fab.qpll q ≠ 1)) :=
  ⟨st base, 3, by decide +kernel, ⟨0, by decide, by decide +kernel⟩⟩

theorem witness_PowerAndClocks_10 :
    ∃ s : State, ∃ v : Nat, (v < 3) ∧ ((∀ d, d < 4 → (s.fab.endLatency.setO .inst 0 O.FABRIC_MODE 0 v).bcastUp d = true)) ∧
      (s.fab.boot = true) ∧ (s.fab.bootAt + ms 1 ≤ (s.fab.run 0).toNat) ∧ (s.fab.defaultMode = v) :=
  ⟨st { base with bootAt := 0, defaultMode := 0, boot := true, lan := [(0, { Lantern.reset with acc := 2 ^ 100 })] },
    0, by decide +kernel, by decide +kernel, by decide +kernel, by decide +kernel, by decide +kernel⟩

theorem witness_PowerAndClocks_11 :
    ∃ s : State, (s.fab.boot = false) :=
  ⟨st { base with boot := false }, by decide +kernel⟩

theorem witness_PowerAndClocks_12 :
    ∃ f : Fab, ((f.die 0).pcUqReq = true) ∧ ((f.die 0).uqReq = true) ∧ (f.coldLow = true) ∧ (f.domainsOff 0 = true) :=
  ⟨{ base with
      coldLow := true, dies := [(0, { Die.reset 0 with pcUqReq := true, uqReq := true, famAck := false, qpAck := [] })]
      tiles := (tilesOfDie 0).map (fun t => (t, { Tile.reset with
        pw := { TilePow.reset with tlAck := false, tsAck := false } })) },
    by decide +kernel, by decide +kernel, by decide +kernel, by decide +kernel⟩

theorem witness_PowerAndClocks_13 :
    ∃ s : State, ∃ v : Nat, (v < 3) ∧ (∀ d, d < 4 → (s.fab.endLatency.setO .inst 0 O.FABRIC_MODE 0 v).bcastUp d =
      true) :=
  ⟨st base, 2, by decide +kernel, by decide +kernel⟩

theorem witness_ClockCrossings_0 :
    ∃ c : CdcSt, (c.busy = true) :=
  ⟨{ CdcSt.reset with req := true }, by decide +kernel⟩

theorem witness_ClockCrossings_1 :
    ∃ s : State, ∃ x : Cdc, ((s.fab.cdcOf x).fenced = true) ∧ ((s.fab.cdcOf x).releasing = false) :=
  ⟨st (base.modCdc (.eapIn 0) fun c => { c with fenced := true }), .eapIn 0, by decide +kernel, by decide +kernel⟩

theorem witness_ClockCrossings_2 :
    ∃ c : CdcSt, (c.busy = true) ∧ (c.pending = true ∨ c.dirty = true) :=
  ⟨{ CdcSt.reset with req := true, pending := true }, by decide +kernel, by decide +kernel⟩

theorem witness_ClockCrossings_3 :
    ∃ s : State, ∃ x : Cdc, ∃ g : Fab, ((s.fab.cdcOf x).fenced = true) ∧ ((s.fab.cdcOf x).releasing = true) ∧
      (g = (s.fab.modCdc x (fun _ => CdcSt.reset)).cdcLift x) ∧
      (allCdc.any (fun y => (cdcOwner y).1 == (cdcOwner x).1 && g.cdcFenced y) = true) :=
  ⟨st ((base.modCdc (.eapIn 0) fun c => { c with fenced := true, releasing := true }).modCdc (.eapOut 0) fun c => { c with fenced := true }),
    .eapIn 0, _, by decide +kernel, by decide +kernel, rfl, rfl⟩

theorem witness_ClockCrossings_4 :
    ∃ c : CdcSt, (c.busy = true) ∧ (c.pending = false) ∧ (c.dirty = false) :=
  ⟨{ CdcSt.reset with req := true }, by decide +kernel, by decide +kernel, by decide +kernel⟩

theorem witness_ClockCrossings_5 :
    ∃ s : State, ∃ x : Cdc, ∃ g : Fab, ((s.fab.cdcOf x).fenced = true) ∧ ((s.fab.cdcOf x).releasing = true) ∧
      (g = (s.fab.modCdc x (fun _ => CdcSt.reset)).cdcLift x) ∧
      (allCdc.any (fun y => (cdcOwner y).1 == (cdcOwner x).1 && g.cdcFenced y) = false) :=
  ⟨st (base.modCdc (.eapIn 0) fun c => { c with fenced := true, releasing := true }), .eapIn 0, _, by decide +kernel,
    by decide +kernel, rfl, rfl⟩

theorem witness_ClockCrossings_6 :
    ∃ c : CdcSt, (c.busy = false) :=
  ⟨CdcSt.reset, by decide +kernel⟩

theorem witness_ClockCrossings_7 :
    ∃ s : State, ∃ x : Cdc, ((s.fab.cdcOf x).peer = 1) :=
  ⟨st (base.modCdc (.eapIn 0) fun c => { c with peer := 1 }), .eapIn 0, by decide +kernel⟩

theorem witness_ClockCrossings_8 :
    ∃ s : State, ∃ x : Cdc, (s.fab.cdcFenced x = false) ∧ ((s.fab.cdcOf x).peer = 0) ∧ ((s.fab.cdcOf x).busy =
      false) :=
  ⟨st base, .debug, by decide +kernel, by decide +kernel, by decide +kernel⟩

theorem witness_ClockCrossings_9 :
    ∃ s : State, ∃ x : Cdc, ((s.fab.cdcOf x).peer = 2) ∧ ((s.fab.cdcOf x).ended = true) :=
  ⟨st (base.modCdc (.eapIn 0) fun c => { c with peer := 2, ended := true }), .eapIn 0, by decide +kernel,
    by decide +kernel⟩

theorem witness_ClockCrossings_10 :
    ∃ s : State, ∃ x : Cdc, (s.fab.cdcFenced x = false) ∧ ((s.fab.cdcOf x).peer = 0) ∧ ((s.fab.cdcOf x).busy = true) :=
  ⟨st (base.modCdc .debug fun c => { c with req := true }), .debug, by decide +kernel, by decide +kernel,
    by decide +kernel⟩

theorem witness_ClockCrossings_11 :
    ∃ s : State, ∃ x : Cdc, ((s.fab.cdcOf x).peer = 2) ∧ ((s.fab.cdcOf x).ended = false) :=
  ⟨st (base.modCdc (.eapIn 0) fun c => { c with peer := 2 }), .eapIn 0, by decide +kernel, by decide +kernel⟩

theorem witness_ClockCrossings_12 :
    ∃ s : State, ∃ x : Cdc, (s.fab.cdcFenced x = true ∨ (s.fab.cdcOf x).peer ≠ 0) :=
  ⟨st (base.modCdc .debug fun c => { c with peer := 1 }), .debug, by decide +kernel⟩

theorem witness_ClockCrossings_13 :
    ∃ s : State, ∃ x : Cdc, ((s.fab.cdcOf x).peer = 0) :=
  ⟨st (base.modCdc (.eapIn 0) fun c => { c with peer := 0 }), .eapIn 0, by decide +kernel⟩

theorem witness_ClockCrossings_14 :
    ∃ s : State, ∃ x : Cdc, ∃ cycles : Nat, ((s.fab.cdcOf x).fenced = false ∨ (s.fab.cdcOf x).releasing = true) ∧
      ((s.fab.cdcOf x).peer = 0) ∧ ((if (s.fab.cdcOf x).busy then (s.fab.cdcOf x).limit else s.fab.oI O.CDC_TIMEOUT)
      ≤ cycles) :=
  ⟨st (base.modCdc .debug fun c => { c with req := true, limit := 4096 }), .debug, 4096, by decide +kernel,
    by decide +kernel, by decide +kernel⟩

theorem witness_ClockCrossings_15 :
    ∃ s : State, ∃ x : Cdc, ∃ cycles : Nat, ((s.fab.cdcOf x).peer ≠ 0 ∨ ((s.fab.cdcOf x).busy = true ∧ cycles <
      (s.fab.cdcOf x).limit) ∨ ((s.fab.cdcOf x).fenced = true ∧ (s.fab.cdcOf x).releasing = false)) :=
  ⟨st (base.modCdc .debug fun c => { c with req := true, limit := 4096 }), .debug, 4095, by decide +kernel⟩

theorem witness_GuylineFrames_0 :
    ∃ s : State, ∃ tag st : Nat, ∃ x : GFrame, (s.fab.guy.ring.lookup tag = some x) ∧ (x.kind < 2) ∧
      (s.fab.claimer x.sc x.num x.idx = some st) ∧ (s.fab.claimable x.ccw st = true) ∧ (∃ k,
      (s.fab.guy.stored.lookup (16 * st + tag) = some k) ∧ (k.seq = x.seq)) :=
  ⟨atRing (gf 0) (fun y => { y with stored := [(0, ⟨0, 0, 0⟩)] }), 0, 0, gf 0, by decide +kernel, by decide +kernel,
    by decide +kernel, by decide +kernel, ⟨0, 0, 0⟩, by decide +kernel, by decide +kernel⟩

theorem witness_GuylineFrames_1 :
    ∃ s : State, ∃ tag st : Nat, ∃ x : GFrame, (s.fab.guy.ring.lookup tag = some x) ∧ (x.kind < 2) ∧
      (s.fab.claimer x.sc x.num x.idx = some st) ∧ (s.fab.claimable x.ccw st = true) ∧ ((∀ k,
      s.fab.guy.stored.lookup (16 * st + tag) = some k → k.seq ≠ x.seq)) ∧
      (256 ≤ st ∨ inLogic x.sc x.idx x.sub = false ∨ ((s.fab.tile st).st = .t0 ∧ s.fab.qclkRuns st = true)) :=
  ⟨atRing (gf 0), 0, 0, gf 0, by decide +kernel, by decide +kernel, by decide +kernel, by decide +kernel,
    fun k h => (by cases h), Or.inr (Or.inl rfl)⟩

theorem witness_GuylineFrames_2 :
    ∃ s : State, ∃ tag st : Nat, ∃ x : GFrame, (s.fab.guy.ring.lookup tag = some x) ∧ (x.kind < 2) ∧
      (s.fab.claimer x.sc x.num x.idx = some st) ∧ (s.fab.claimable x.ccw st = true) ∧ ((∀ k,
      s.fab.guy.stored.lookup (16 * st + tag) = some k → k.seq ≠ x.seq)) ∧ (st < 256) ∧
      (inLogic x.sc x.idx x.sub = true) ∧ ((s.fab.tile st).st ≠ .t0) ∧ (s.fab.cdcFenced (.station st) = false) :=
  ⟨st ({ base with guy := { base.guy with ring := [(0, gf 0 O.EDGE_LINK)] } }.modTile 0 fun x => { x with st := .t3 }),
    0, 0, gf 0 O.EDGE_LINK, by decide +kernel, by decide +kernel, by decide +kernel, by decide +kernel,
    fun k h => (by cases h), by decide +kernel, by decide +kernel, by decide +kernel, by decide +kernel⟩

theorem witness_GuylineFrames_3 :
    ∃ s : State, ∃ tag d : Nat, ∃ x : GFrame, (s.fab.guy.ring.lookup tag = some x) ∧ (x.kind = 2) ∧ (d < 4) ∧
      (x.count.contains d = false) ∧ (s.fab.bcastUp d = true) ∧ (d = 0 ∨ x.count.contains 0 = true) ∧ ((∀ k,
      s.fab.guy.stored.lookup (16 * (256 + d) + tag) = some k → k.seq ≠ x.seq)) :=
  ⟨atRing (gf 2), 0, 0, gf 2, by decide +kernel, by decide +kernel, by decide +kernel, by decide +kernel,
    by decide +kernel, Or.inl rfl, fun k h => (by cases h)⟩

theorem witness_GuylineFrames_4 :
    ∃ f : Fab, ∃ st : Nat, ∃ x : GFrame, (st < 256) ∧ (inLogic x.sc x.idx x.sub = true) ∧ (f.cdcShut (.station st) =
      true) :=
  ⟨base.modCdc (.station 255) fun c => { c with fenced := true }, 255, gf 0 O.EDGE_LINK, by decide +kernel,
    by decide +kernel, by decide +kernel⟩

theorem witness_GuylineFrames_5 :
    ∃ s : State, ∃ tag d : Nat, ∃ x : GFrame, (s.fab.guy.ring.lookup tag = some x) ∧ (x.kind = 2) ∧ (d < 4) ∧
      (x.count.contains d = false) ∧ (s.fab.bcastUp d = true) ∧ (d = 0 ∨ x.count.contains 0 = true) ∧ (∃ k,
      (s.fab.guy.stored.lookup (16 * (256 + d) + tag) = some k) ∧ (k.seq = x.seq)) :=
  ⟨atRing (gf 2) (fun y => { y with stored := [(4096, ⟨0, 0, 0⟩)] }), 0, 0, gf 2, by decide +kernel,
    by decide +kernel, by decide +kernel, by decide +kernel, by decide +kernel, Or.inl rfl, ⟨0, 0, 0⟩,
    by decide +kernel, by decide +kernel⟩

theorem witness_GuylineFrames_6 :
    ∃ s : State, ∃ tag : Nat, ∃ x : GFrame, (s.fab.guy.ring.lookup tag = some x) ∧ (s.fab.ringReturns x.ccw = true) ∧
      (x.kind = 3) :=
  ⟨atRing (gf 3), 0, gf 3, by decide +kernel, by decide +kernel, by decide +kernel⟩

theorem witness_GuylineFrames_7 :
    ∃ s : State, ∃ tag : Nat, ∃ x : GFrame, (s.fab.guy.ring.lookup tag = some x) ∧ (s.fab.ringReturns x.ccw = true) ∧
      (x.kind = 2) ∧ (s.fab.bcastThrough x = true) ∧ (x.count.length = 4) :=
  ⟨atRing { gf 2 with count := [0, 1, 2, 3] }, 0, { gf 2 with count := [0, 1, 2, 3] }, by decide +kernel,
    by decide +kernel, by decide +kernel, by decide +kernel, by decide +kernel⟩

theorem witness_GuylineFrames_8 :
    ∃ s : State, ∃ tag : Nat, ∃ x : GFrame, (s.fab.guy.ring.lookup tag = some x) ∧ (s.fab.ringReturns x.ccw = true) ∧
      (x.kind < 2) ∧ (s.fab.unclaimed x = true) ∧ (s.fab.ringHops x.ccw = 4) :=
  ⟨atRing (gf 0) (fun y => { y with bypass := [(0, true)] }), 0, gf 0, by decide +kernel, by decide +kernel,
    by decide +kernel, by decide +kernel, by decide +kernel⟩

theorem witness_GuylineFrames_9 :
    ∃ s : State, ∃ tag : Nat, ∃ x : GFrame, (s.fab.guy.ring.lookup tag = some x) ∧ (s.fab.ringReturns x.ccw = true) ∧
      (x.kind < 2) ∧ (s.fab.unclaimed x = true) ∧ (s.fab.ringHops x.ccw ≠ 4) ∧ (x.turned = false) ∧ (∃ y,
      (s.fab.guy.sent.lookup tag = some y)) :=
  ⟨st { base with guyBreaks := 17, guy := { base.guy with ring := [(0, gf 0)], bypass := [(0, true)], sent := [(0, gf 0)] } },
    0, gf 0, by decide +kernel, by decide +kernel, by decide +kernel, by decide +kernel, by decide +kernel,
    by decide +kernel, gf 0, by decide +kernel⟩

theorem witness_GuylineFrames_10 :
    ∃ s : State, ∃ tag : Nat, ∃ x y : GFrame, (s.fab.guy.ring.lookup tag = some x) ∧
      (s.fab.guy.sent.lookup tag = some y) ∧ (x.sentAt + us (s.fab.oI O.GUY_TIMEOUT) ≤ s.fab.run0) ∧
      (x.resent = false) :=
  ⟨st { base with lan := [(0, { Lantern.reset with acc := 2 ^ 100 })], guy := { base.guy with ring := [(0, gf 0)], sent := [(0, gf 0)] } },
    0, gf 0, gf 0, by decide +kernel, by decide +kernel, by decide +kernel, by decide +kernel⟩

theorem witness_GuylineFrames_11 :
    ∃ s : State, ∃ tag : Nat, ∃ x y : GFrame, (s.fab.guy.ring.lookup tag = some x) ∧
      (s.fab.guy.sent.lookup tag = some y) ∧ (x.sentAt + us (s.fab.oI O.GUY_TIMEOUT) ≤ s.fab.run0) ∧
      (x.resent = true) :=
  ⟨st { base with lan := [(0, { Lantern.reset with acc := 2 ^ 100 })], guy := { base.guy with ring := [(0, { gf 0 with resent := true })], sent := [(0, gf 0)] } },
    0, { gf 0 with resent := true }, gf 0, by decide +kernel, by decide +kernel, by decide +kernel, by decide +kernel⟩

theorem witness_GuylineFrames_12 :
    ∃ s : State, ∃ tag : Nat, ∃ x : GFrame, (s.fab.guy.ring.lookup tag = some x) ∧
      (s.fab.run0 < x.sentAt + us (s.fab.oI O.GUY_TIMEOUT)) :=
  ⟨atRing (gf 0), 0, gf 0, by decide +kernel, by decide +kernel⟩

theorem witness_GuylineFrames_13 :
    ∃ s : State, ∃ ss : Nat, (ss < 8) ∧ (s.fab.sbLost ss = true) ∧ (bit s.fab.guyBreaks (breakBit ss) = false) :=
  ⟨st (base.modSide 7 fun x => { x with lock0 := false, lock1 := false }), 7, by decide +kernel, by decide +kernel,
    by decide +kernel⟩

theorem witness_GuylineFrames_14 :
    ∃ s : State, ∃ t : Nat, ((s.fab.tile t).st = .reset ∨ ((s.fab.tile t).st = .t3 ∧
      (s.fab.tile t).pw.entering = false)) :=
  ⟨atTile fun x => { x with st := .t3 }, 0, by decide +kernel⟩

theorem witness_GuylineFrames_15 :
    ∃ s : State, ∃ t : Nat, ((s.fab.tile t).st = .t0) ∧ (s.fab.bypassed t = true) ∧
      (s.fab.cdcHeld (.station t) = false) :=
  ⟨atRing (gf 0) (fun y => { y with bypass := [(255, true)] }), 255, by decide +kernel, by decide +kernel,
    by decide +kernel⟩

theorem witness_Mailboxes_0 :
    ∃ s : State, ∃ m : Nat, (m < 4) ∧ ((s.fab.mbxOf m).op.isSome = true) :=
  ⟨st (base.modMbx 3 fun x => { x with op := some (mop true 1) }), 3, by decide +kernel, by decide +kernel⟩

theorem witness_Mailboxes_1 :
    ∃ s : State, ∃ m : Nat, (m < 4) ∧ ((s.fab.mbxOf m).op = none) :=
  ⟨st base, 0, by decide +kernel, by decide +kernel⟩

theorem witness_Mailboxes_2 :
    ∃ s : State, ∃ m cmd op : Nat, (m < 4) ∧ ((s.fab.mbxOf m).op = none) ∧ (field cmd 0 3 = op) ∧ (op = 0 ∨ 3 < op) :=
  ⟨st base, 0, 0, 0, by decide +kernel, by decide +kernel, by decide +kernel, by decide +kernel⟩

theorem witness_Mailboxes_3 :
    ∃ f : Fab, ∃ m cmd : Nat, (f.mapHeld = false) ∧ (∃ (g h : Fab), (g = f.modMbx m (fun x => { x with
      cmd := field cmd 0 3 + field cmd 4 3 * 16 + field cmd 8 14 * 256, valid := false, more := false,
        rlen := 0 })) ∧ (h = (g.modMbx m (fun x => { x with prev := none })).beginMbx m ⟨false, ⟨.inst, 0, 0, 0, 0⟩, 0, 0, 0, 0, g.run0⟩) ∧ (field cmd 0 3 = 0 ∨ 3 < field cmd 0 3)) :=
  ⟨base, 0, 4, by decide +kernel, _, _, rfl, rfl, by decide +kernel⟩

theorem witness_Mailboxes_4 :
    ∃ f : Fab, ∃ m cmd : Nat, (f.mapHeld = false) ∧ (∃ (g h : Fab), (g = f.modMbx m (fun x => { x with
      cmd := field cmd 0 3 + field cmd 4 3 * 16 + field cmd 8 14 * 256, valid := false, more := false,
        rlen := 0 })) ∧ (h = (g.modMbx m (fun x => { x with prev := none })).beginMbx m ⟨false, ⟨.inst, 0, 0, 0, 0⟩, 0, 0, 0, 0, g.run0⟩) ∧ (1 ≤ field cmd 0 3 ∧ field cmd 0 3 ≤ 3) ∧ (32 < field cmd 16 6)) :=
  ⟨base, 0, 1 + 33 * 2 ^ 16, by decide +kernel, _, _, rfl, rfl, by decide +kernel, by decide +kernel⟩

theorem witness_Mailboxes_5 :
    ∃ f : Fab, ∃ m cmd : Nat, (f.mapHeld = false) ∧ (∃ (g h : Fab), (g = f.modMbx m (fun x => { x with
      cmd := field cmd 0 3 + field cmd 4 3 * 16 + field cmd 8 14 * 256, valid := false, more := false,
        rlen := 0 })) ∧ (h = (g.modMbx m (fun x => { x with prev := none })).beginMbx m ⟨false, ⟨.inst, 0, 0, 0, 0⟩, 0, 0, 0, 0, g.run0⟩) ∧ (1 ≤ field cmd 0 3 ∧ field cmd 0 3 ≤ 3) ∧ (field cmd 16 6 ≤ 32) ∧ (mbxTarget (field cmd 0 3 == 1) cmd (g.mbxOf m).obj (g.mbxOf m).elem = none)) :=
  ⟨base.modMbx 0 fun x => { x with obj := 65535 }, 0, 1, by decide +kernel, _, _, rfl, rfl, by decide +kernel,
    by decide +kernel, by decide +kernel⟩

theorem witness_Mailboxes_6 :
    ∃ f : Fab, ∃ m cmd : Nat, (f.mapHeld = false) ∧ (∃ g : Fab, (g = f.modMbx m (fun x => { x
      with cmd := field cmd 0 3 + field cmd 4 3 * 16 + field cmd 8 14 * 256, valid := false, more := false, rlen := 0
      })) ∧ (1 ≤ field cmd 0 3 ∧ field cmd 0 3 ≤ 3) ∧ (field cmd 16 6 ≤ 32) ∧ (mbxTarget (field cmd 0 3 == 1) cmd
      (g.mbxOf m).obj (g.mbxOf m).elem = none)) :=
  ⟨base, 0, 1 + 7 * 16, by decide +kernel, _, rfl, by decide +kernel, by decide +kernel, by decide +kernel⟩

theorem witness_Mailboxes_7 :
    ∃ s : State, ∃ m : Nat, ∃ a : Ans, ∃ op : MbxOp, (s.fab.answers.find? (fun x => x.who == m) = some a) ∧
      ((s.fab.mbxOf m).op = some op) :=
  ⟨st ({ base with answers := [⟨0, 0, 0⟩] }.modMbx 0 fun x => { x with op := some (mop true 1) }), 0, ⟨0, 0, 0⟩,
    mop true 1, by decide +kernel, by decide +kernel⟩

theorem witness_Mailboxes_8 :
    ∃ f : Fab, ∃ t : MbxTarget, (isLocal t = false) ∧ (isWarden t = false) ∧ (f.cdcShut .mapXbar = false) ∧
      (f.cdcShut .xbarGuy = false) :=
  ⟨base, ⟨.tile, 255, O.EDGE_FENCE, 0, 0⟩, by decide +kernel, by decide +kernel, by decide +kernel,
    by decide +kernel⟩

theorem witness_Mailboxes_9 :
    ∃ x : Mbx, ∃ op : MbxOp, ∃ data : Nat, (op.read = true) ∧ (op.len ≤ 32) ∧ ((x.complete op 0 data).code ≠ 4) :=
  ⟨Mbx.reset, mop true 32, 0, by decide +kernel, by decide +kernel, by decide +kernel⟩

theorem witness_Mailboxes_10 :
    ∃ f : Fab, ∃ t : MbxTarget, (isLocal t = false) ∧ (isWarden t = false) ∧ (f.cdcShut .mapXbar = false) ∧
      (f.cdcShut .xbarGuy = false) ∧ (t.idx ≠ O.FAM_COMMIT) ∧ (t.sc ≠ .inst) ∧ (tableOf t.idx = none) :=
  ⟨base, ⟨.tile, 255, O.EDGE_FENCE, 0, 0⟩, by decide +kernel, by decide +kernel, by decide +kernel,
    by decide +kernel, by decide +kernel, by decide +kernel, by decide +kernel⟩

theorem witness_Mailboxes_11 :
    ∃ code : Nat, (code ≠ 0) :=
  ⟨6, by decide +kernel⟩

theorem witness_Mailboxes_12 :
    ∃ f : Fab, ∃ m : Nat, (m < 4) ∧ (f.cdcShut .mapXbar = true) :=
  ⟨base.modCdc .mapXbar fun c => { c with fenced := true }, 3, by decide +kernel, by decide +kernel⟩

theorem witness_Mailboxes_13 :
    ∃ s : State, ∃ m : Nat, ∃ op : MbxOp, (m < 4) ∧ ((s.fab.mbxOf m).op = some op) ∧
      (op.goAt + ms (s.fab.oI O.MBX_TIMEOUT) ≤ s.fab.run0) :=
  ⟨st ((base.modLan 0 fun l => { l with acc := 2 ^ 100 }).modMbx 3 fun x => { x with op := some (mop true 1) }), 3,
    mop true 1, by decide +kernel, by decide +kernel, by decide +kernel⟩

theorem witness_Mailboxes_14 :
    ∃ s : State, ∃ m : Nat, ∃ op : MbxOp, ((s.fab.mbxOf m).op = some op) ∧
      (s.fab.run0 < op.goAt + ms (s.fab.oI O.MBX_TIMEOUT)) :=
  ⟨st (base.modMbx 0 fun x => { x with op := some (mop true 1) }), 0, mop true 1, by decide +kernel,
    by decide +kernel⟩

theorem witness_Mailboxes_15 :
    ∃ op : MbxOp, (op.read = true) ∧ (op.len ≤ 32) :=
  ⟨mop true 32, by decide +kernel, by decide +kernel⟩

theorem witness_MapRegisters_0 :
    ∃ s : State, ∃ off size : Nat, ∃ half : Bool, ∃ g : Fab, (off < 65536) ∧ (size < 3) ∧ (s.fab.mapHeld = false) ∧
      (g = s.fab.modMap (fun m => { m with half := none })) ∧ (size < 2 ∨ off % 4 ≠ 0) :=
  ⟨st base, 0, 0, false, base, by decide +kernel, by decide +kernel, by decide +kernel, by decide +kernel,
    by decide +kernel⟩

theorem witness_MapRegisters_1 :
    ∃ s : State, ∃ off size : Nat, ∃ half : Bool, ∃ g : Fab, (off < 65536) ∧ (size < 3) ∧ (s.fab.mapHeld = false) ∧
      (g = s.fab.modMap (fun m => { m with half := none })) ∧ (size = 2) ∧ (off % 4 = 0) ∧ (mapMapped off = false) :=
  ⟨st base, 65532, 2, false, _, by decide +kernel, by decide +kernel, by decide +kernel, rfl, by decide +kernel,
    by decide +kernel, by decide +kernel⟩

theorem witness_MapRegisters_2 :
    ∃ s : State, ∃ off size : Nat, ∃ half : Bool, ∃ g : Fab, (off < 65536) ∧ (size < 3) ∧ (s.fab.mapHeld = false) ∧
      (g = s.fab.modMap (fun m => { m with half := none })) ∧ (size = 2) ∧ (off % 4 = 0) ∧ (mapMapped off = true) :=
  ⟨st base, 0, 2, false, _, by decide +kernel, by decide +kernel, by decide +kernel, rfl, by decide +kernel,
    by decide +kernel, by decide +kernel⟩

theorem witness_MapRegisters_3 :
    ∃ s : State, ∃ off : Nat, ∃ g : Fab, (off < 65536) ∧ (off % 4 = 0) ∧ (mapMapped off = true) ∧
      ((s.fab.die 0).uqAck = true) ∧ (g = s.fab.modMap (fun m => { m with half := none })) :=
  ⟨st base, 0, base, by decide +kernel, by decide +kernel, by decide +kernel, by decide +kernel, by decide +kernel⟩

theorem witness_MapRegisters_4 :
    ∃ s : State, ((s.fab.die 0).uqAck = false) :=
  ⟨st (base.modDie 0 fun d => { d with uqAck := false }), by decide +kernel⟩

theorem witness_MapRegisters_5 :
    ∃ v, (v < 2 ^ 32) ∧ (v ≠ 0xFFFF71C4) :=
  ⟨0, by decide +kernel, by decide +kernel⟩

theorem witness_MapRegisters_6 :
    ∃ s : State, ∃ v : Nat, (v < 2 ^ 32) ∧ (s.fab.mapHeld = false) ∧ (s.fab.map.lock = false) :=
  ⟨st base, 0, by decide +kernel, by decide +kernel, by decide +kernel⟩

theorem witness_MapRegisters_7 :
    ∃ s : State, ∃ v : Nat, (v < 2 ^ 32) ∧ (s.fab.mapHeld = false) ∧ (s.fab.map.lock = true) ∧
      (s.fab.map.refValid = true) :=
  ⟨atMap fun m => { m with lock := true, refValid := true }, 2 ^ 32 - 1, by decide +kernel, by decide +kernel,
    by decide +kernel, by decide +kernel⟩

theorem witness_MapRegisters_8 :
    ∃ s : State, ∃ v : Nat, (v < 2 ^ 32) ∧ (s.fab.mapHeld = false) ∧ (s.fab.map.lock = true) ∧
      (s.fab.map.refValid = false) :=
  ⟨atMap fun m => { m with lock := true }, 2 ^ 32 - 1, by decide +kernel, by decide +kernel, by decide +kernel,
    by decide +kernel⟩

theorem witness_MapRegisters_9 :
    ∃ s : State, (s.fab.mapHeld = false) ∧ (∃ k, (k < 7)) :=
  ⟨st base, by decide +kernel, 0, by decide +kernel⟩

theorem witness_MapRegisters_10 :
    ∃ s : State, (s.fab.mapHeld = false) :=
  ⟨st base, by decide +kernel⟩

theorem witness_MapRegisters_11 :
    ∃ s : State, (s.fab.mapHeld = false) ∧ (∃ k, (k < 8)) :=
  ⟨st base, by decide +kernel, 0, by decide +kernel⟩

theorem witness_MapRegisters_12 :
    ∃ old v k : Nat, (old < 2 ^ 16) ∧ (v < 2 ^ 32) ∧ (k < 16) :=
  ⟨0, 0, 0, by decide +kernel, by decide +kernel, by decide +kernel⟩

theorem witness_Scrubbing_0 :
    ∃ s : State, ∃ d : Nat, (d < 4) ∧ (s.fab.map.run = true) ∧ (s.fab.dieLive d = true) ∧ (s.fab.mapHeld = false) ∧
      (s.fab.wd.measDue = false) ∧ (s.fab.qpll (4 * d) = 0) ∧
      (s.fab.map.passAt.getD d 0 + s.fab.passTime ≤ (s.fab.lantern d).run.toNat) :=
  ⟨st { base.setO .quad 12 O.QPLL_STATE 0 0 with
    lan := [(3, { Lantern.reset with acc := 2 ^ 100 })], wd := { base.wd with measDue := false } }, 3,
    by decide +kernel, by decide +kernel, by decide +kernel, by decide +kernel, by decide +kernel, by decide +kernel, by decide +kernel⟩

theorem witness_Scrubbing_1 :
    ∃ f : Fab, (f.map.compare = false ∨ f.map.refValid = false) :=
  ⟨base, by decide +kernel⟩

theorem witness_Scrubbing_2 :
    ∃ f : Fab, ∃ crc : Nat, (f.map.compare = true) ∧ (f.map.refValid = true) ∧ (crc = f.map.ref) :=
  ⟨base.modMap fun m => { m with compare := true, refValid := true }, 0, by decide +kernel, by decide +kernel,
    by decide +kernel⟩

theorem witness_Scrubbing_3 :
    ∃ f : Fab, ∃ crc : Nat, (f.map.compare = true) ∧ (f.map.refValid = true) ∧ (crc ≠ f.map.ref) :=
  ⟨base.modMap fun m => { m with compare := true, refValid := true }, 1, by decide +kernel, by decide +kernel,
    by decide +kernel⟩

theorem witness_Scrubbing_4 :
    ∃ s : State, ∃ d : Nat,
      (s.fab.map.run = false ∨ (s.fab.lantern d).run.toNat < s.fab.map.passAt.getD d 0 + s.fab.passTime) :=
  ⟨st base, 0, by decide +kernel⟩

theorem witness_Crossbar_0 :
    ∃ s : State, ∃ n m o : Nat, ∃ r : XReq, (s.fab.mapHeld = false) ∧ (s.fab.xb.busy = []) ∧ (s.fab.xb.wait = [(m,
      r)]) ∧ (m < 4) ∧ (r.master = m) ∧ (s.fab.wd.wait = []) ∧ (s.fab.wd.restarting = false) ∧ (n < 5) ∧
      (s.fab.xDecode r.addr = some (n, o)) ∧ (s.fab.xRefused r n = false) ∧ (r.at_ ≤ s.fab.run0) ∧
      (s.fab.run0 < r.at_ + ns 640) :=
  ⟨st { base with xb := { base.xb with wait := [(3, xr 3 0x30000000)] } }, 2, 3, 0, xr 3 0x30000000,
    by decide +kernel, by decide +kernel, by decide +kernel, by decide +kernel, by decide +kernel, by decide +kernel,
    by decide +kernel, by decide +kernel, by decide +kernel, by decide +kernel, by decide +kernel, by decide +kernel⟩

theorem witness_Crossbar_1 :
    ∃ f : Fab, ∃ r : XReq, (r.legal = true) ∧ (f.xb.wait.lookup r.master = none) ∧
      (f.xb.busy.any (fun kv => kv.2.master == r.master) = false) ∧ (f.xDecode r.addr = none ∨ (∃ n o,
      f.xDecode r.addr = some (n, o) ∧ xPath r.master n = false)) :=
  ⟨base, xr 0 0x70000000, by decide +kernel, by decide +kernel, by decide +kernel, Or.inl (by decide +kernel)⟩

theorem witness_Crossbar_2 :
    ∃ f : Fab, ∃ r : XReq, (r.legal = true) ∧ (f.xb.wait.lookup r.master = none) ∧
      (f.xb.busy.any (fun kv => kv.2.master == r.master) = false) ∧ (∃ n o, (f.xDecode r.addr = some (n, o)) ∧
      (xPath r.master n = true)) :=
  ⟨base, xr 1 0x10000000, by decide +kernel, by decide +kernel, by decide +kernel, 0, 0, by decide +kernel,
    by decide +kernel⟩

theorem witness_Crossbar_3 :
    ∃ s : State, ∃ n : Nat, ∃ r : XReq, (n < 5) ∧ (s.fab.xb.busy.lookup 5 = none) ∧
      (s.fab.xb.busy.lookup n = some r) ∧ (r.at_ + ns 10240 ≤ s.fab.run0) :=
  ⟨st { base with lan := [(0, { Lantern.reset with acc := 2 ^ 100 })], xb := { base.xb with busy := [(4, xr 1 0)] } },
    4, xr 1 0, by decide +kernel, by decide +kernel, by decide +kernel, by decide +kernel⟩

theorem witness_Crossbar_4 :
    ∃ s : State, ∃ w : Bool, ∃ addr size blen : Nat, ∃ data : List Nat, (s.fab.mapHeld = false) ∧ (blen < 16) ∧
      (addr < 2 ^ 32) ∧ (s.fab.xb.wait.lookup 2 = none) ∧ (s.fab.xb.busy.any (fun kv => kv.2.master == 2) = false) ∧
      (s.fab.cdcShut .debug = false) ∧ (size < 3) ∧ (XReq.legal ⟨2, w, addr, 2 ^ size, blen + 1, data.take (blen +
      1), s.fab.run0⟩ = true) :=
  ⟨st base, false, 0, 0, 0, [], by decide +kernel, by decide +kernel, by decide +kernel, by decide +kernel,
    by decide +kernel, by decide +kernel, by decide +kernel, by decide +kernel⟩

theorem witness_Crossbar_5 :
    ∃ s : State, ∃ w : Bool, ∃ addr size blen : Nat, ∃ data : List Nat, (s.fab.mapHeld = false) ∧ (blen < 16) ∧
      (addr < 2 ^ 32) ∧ (s.fab.xb.wait.lookup 2 = none) ∧ (s.fab.xb.busy.any (fun kv => kv.2.master == 2) = false) ∧
      (s.fab.cdcShut .debug = false) ∧ (size < 3) ∧ (XReq.legal ⟨2, w, addr, 2 ^ size, blen + 1, data.take (blen +
      1), s.fab.run0⟩ = false) :=
  ⟨st base, false, 1, 1, 0, [], by decide +kernel, by decide +kernel, by decide +kernel, by decide +kernel,
    by decide +kernel, by decide +kernel, by decide +kernel, by decide +kernel⟩

theorem witness_Crossbar_6 :
    ∃ s : State, ((s.fab.xb.wait.lookup 2).isSome = true) :=
  ⟨st { base with xb := { base.xb with wait := [(2, xr 2 0)] } }, by decide +kernel⟩

theorem witness_Crossbar_7 :
    ∃ s : State, ∃ addr blen : Nat, (s.fab.mapHeld = false) ∧ (blen < 16) ∧ (addr < 2 ^ 32) ∧ (s.fab.xb.wait.lookup
      2 = none) ∧ (s.fab.xb.busy.any (fun kv => kv.2.master == 2) = false) ∧ (s.fab.cdcShut .debug = true) :=
  ⟨st (base.modCdc .debug fun c => { c with fenced := true }), 0, 15, by decide +kernel, by decide +kernel,
    by decide +kernel, by decide +kernel, by decide +kernel, by decide +kernel⟩

theorem witness_Crossbar_8 :
    ∃ last m : Nat, ∃ l : List Nat, (m < 4) ∧ (rrPick last l = some m) ∧ (∃ k, (k < (m + 7 - last % 4) % 4)) :=
  ⟨0, 2, [2], by decide +kernel, by decide +kernel, 0, by decide +kernel⟩

theorem witness_Crossbar_9 :
    ∃ last m : Nat, ∃ l : List Nat, (m < 4) ∧ (rrPick last l = some m) :=
  ⟨3, 0, [0, 3], by decide +kernel, by decide +kernel⟩

theorem witness_WardenRestartsAndRemap_0 :
    ∃ s : State, (s.fab.oI O.WARDEN_WDOG = 0) :=
  ⟨atObj .inst 0 O.WARDEN_WDOG 0, by decide +kernel⟩

theorem witness_WardenRestartsAndRemap_1 :
    ∃ s : State, (s.fab.oI O.WARDEN_WDOG ≠ 0) :=
  ⟨atObj .inst 0 O.WARDEN_WDOG 1, by decide +kernel⟩

theorem witness_WardenRestartsAndRemap_2 :
    ∃ s : State, ∃ v : Nat, (s.fab.wd.remapLocked = false) ∧ (s.fab.wd.remapDue = false) ∧ (v = 0) :=
  ⟨st base, 0, by decide +kernel, by decide +kernel, by decide +kernel⟩

theorem witness_WardenRestartsAndRemap_3 :
    ∃ s : State, ∃ v : Nat, (s.fab.wd.remapLocked = false) ∧ (s.fab.wd.remapDue = false) ∧ (v ≠ 0) ∧
      (s.fab.sealed = false ∨ s.fab.wd.patch.isSome = true) ∧ (s.fab.wardenBusy = false) :=
  ⟨st base, 1, by decide +kernel, by decide +kernel, by decide +kernel, by decide +kernel, by decide +kernel⟩

theorem witness_WardenRestartsAndRemap_4 :
    ∃ s : State, ∃ v : Nat, (s.fab.wd.remapLocked = false) ∧ (s.fab.wd.remapDue = false) ∧ (v ≠ 0) ∧
      (s.fab.sealed = false ∨ s.fab.wd.patch.isSome = true) ∧ (s.fab.wardenBusy = true) :=
  ⟨st { base with xb := { base.xb with wait := [(1, xr 1 0)] } }, 1, by decide +kernel, by decide +kernel,
    by decide +kernel, by decide +kernel, by decide +kernel⟩

theorem witness_WardenRestartsAndRemap_5 :
    ∃ s : State, ∃ v : Nat, (s.fab.wd.remapLocked = false) ∧ (s.fab.wd.remapDue = false) ∧ (v ≠ 0) ∧
      (s.fab.sealed = true) ∧ (s.fab.wd.patch = none) :=
  ⟨st (base.setO .inst 0 O.SEAL_STATE 0 1), 1, by decide +kernel, by decide +kernel, by decide +kernel,
    by decide +kernel, by decide +kernel⟩

theorem witness_WardenRestartsAndRemap_6 :
    ∃ s : State, (s.fab.wd.remapLocked = true) :=
  ⟨atWd fun w => { w with remapLocked := true }, by decide +kernel⟩

theorem witness_Tickets_0 :
    ∃ s : State, (s.fab.wd.restarting = false) ∧ (s.fab.ve.op ≠ some .draw) ∧ (s.fab.oI O.TICKET_STATE = 1) :=
  ⟨st (drawn.setO .inst 0 O.TICKET_STATE 0 1), by decide +kernel, by decide +kernel, by decide +kernel⟩

theorem witness_Tickets_1 :
    ∃ s : State, (s.fab.wd.restarting = false) ∧ (s.fab.ve.op ≠ some .draw) ∧ (s.fab.oI O.TICKET_STATE ≠ 1) :=
  ⟨st drawn, by decide +kernel, by decide +kernel, by decide +kernel⟩

theorem witness_Tickets_2 :
    ∃ s : State, ∃ tk : Nat, ∃ f : Fab, (s.fab.wd.ticket = some tk) ∧
      (f = s.fab.modWd (fun w => { w with ticket := none })) :=
  ⟨atWd fun w => { w with ticket := some 5 }, 5, _, by decide +kernel, rfl⟩

theorem witness_Tickets_3 :
    ∃ f : Fab, ∃ tk : Nat, (tkKind tk = 2) ∧
      (tkTime tk < f.dieTime 0 + ms 1 ∨ f.dieTime 0 + ms 86400000 < tkTime tk) :=
  ⟨base, 2 * 2 ^ 40, by decide +kernel, by decide +kernel⟩

theorem witness_Tickets_4 :
    ∃ f : Fab, ∃ tk : Nat, (tkKind tk = 2) ∧ (f.dieTime 0 + ms 1 ≤ tkTime tk) ∧
      (tkTime tk ≤ f.dieTime 0 + ms 86400000) :=
  ⟨base, 2 * 2 ^ 40 + us 1000 * 2 ^ 384, by decide +kernel, by decide +kernel, by decide +kernel⟩

theorem witness_Tickets_5 :
    ∃ f : Fab, ∃ tk : Nat, (tkKind tk = 3) ∧ (f.imageOk tk = true) :=
  ⟨base, 3 * 2 ^ 40 + Sha.digestLe (Sha.sha384 [0, 0, 0, 0]) * 2 ^ 1280 + 4 * 2 ^ 1664 + 2 ^ 1696, by decide +kernel,
    by decide +kernel⟩

theorem witness_Tickets_6 :
    ∃ f : Fab, ∃ tk : Nat, (tkKind tk = 3) ∧ (f.imageOk tk = false) :=
  ⟨base, 3 * 2 ^ 40, by decide +kernel, by decide +kernel⟩

theorem witness_Tickets_7 :
    ∃ f : Fab, ∃ tk : Nat, (tkKind tk = 1) ∧ (tkTime tk = 0) ∧ (∃ g, (f.tkApply (tkOps tk) = some g)) :=
  ⟨base, 2 ^ 40, by decide +kernel, by decide +kernel, ((base).tkApply (tkOps (2 ^ 40))).get (by decide +kernel),
    (Option.some_get _).symm⟩

theorem witness_Tickets_8 :
    ∃ f : Fab, ∃ tk : Nat, (tkKind tk = 1) ∧ (tkTime tk = 0) ∧ (f.tkApply (tkOps tk) = none) :=
  ⟨base, 2 ^ 40 + 16 * 2 ^ 464 + 0xFFFF3 * 2 ^ 1280, by decide +kernel, by decide +kernel, by decide +kernel⟩

theorem witness_Tickets_9 :
    ∃ tk : Nat, (tkFormatOk tk = false) :=
  ⟨0, by decide +kernel⟩

theorem witness_Tickets_10 :
    ∃ f : Fab, ∃ tk : Nat, (tkFormatOk tk = true) ∧ (f.otp.authHash = 0) :=
  ⟨base, 0x58544B31 + 2 ^ 32 + 2 * 2 ^ 40 + 256 * 2 ^ 48, by decide +kernel, by decide +kernel⟩

theorem witness_Tickets_11 :
    ∃ f : Fab, ∃ tk : Nat,
      (f.nonce = 0 ∨ tkField tk 8 32 ≠ f.nonce ∨ tkCounter tk ≤ f.oI O.TICKET_COUNTER ∨ tkSignatureOk tk = false) :=
  ⟨base, 0, by decide +kernel⟩

theorem witness_Tickets_12 :
    ∃ r : Nat, (r ≠ 0) :=
  ⟨1, by decide +kernel⟩

theorem witness_Tickets_13 :
    ∃ s : State, (s.fab.oI O.DEBUG_TICKET = 1) ∧ (s.fab.wd.debugEnd ≤ s.fab.run0) :=
  ⟨atObj .inst 0 O.DEBUG_TICKET 1, by decide +kernel, by decide +kernel⟩

theorem witness_Tickets_14 :
    ∃ s : State, (s.fab.oI O.DEBUG_TICKET = 1) ∧ (s.fab.run0 < s.fab.wd.debugEnd) :=
  ⟨st ({ base with wd := { base.wd with debugEnd := 1 } }.setO .inst 0 O.DEBUG_TICKET 0 1), by decide +kernel,
    by decide +kernel⟩

theorem witness_Tickets_15 :
    ∃ s : State, (s.fab.wd.restarting = true ∨ s.fab.ve.op = some .draw) :=
  ⟨st { base with wd := { base.wd with restarting := true } }, by decide +kernel⟩

theorem witness_SealAndOneTimeStorage_0 :
    ∃ s : State, ∃ v : Nat, (s.fab.wd.programs = false) ∧ (s.fab.wd.restarting = false) ∧ (s.fab.ve.op ≠ some .draw) ∧
      (s.fab.burnRefused v = true) :=
  ⟨st drawn, 0, by decide +kernel, by decide +kernel, by decide +kernel, by decide +kernel⟩

theorem witness_SealAndOneTimeStorage_1 :
    ∃ s : State, ∃ v : Nat, (s.fab.wd.programs = false) ∧ (s.fab.wd.restarting = false) ∧ (s.fab.ve.op ≠ some .draw) ∧
      (s.fab.burnRefused v = false) :=
  ⟨st { drawn with otp := { base.otp with arr := [(4, 1)], slot := some 0 } }, 0x5EA15EA1, by decide +kernel, by decide +kernel,
    by decide +kernel, by decide +kernel⟩

theorem witness_SealAndOneTimeStorage_2 :
    ∃ s : State, ∃ v : Nat, (s.fab.wd.programs = false) ∧ (s.fab.wd.restarting = false) ∧ (s.fab.ve.op ≠ some .draw) ∧
      (v ≠ 0x5EA15EA1 ∨ s.fab.otp.authHash = 0 ∨ s.fab.bind.cst ≠ .idle ∨ s.fab.bind.dst = .running ∨ s.fab.oI O.TICKET_STATE = 1 ∨ s.fab.sealed = true) :=
  ⟨st drawn, 0, by decide +kernel, by decide +kernel, by decide +kernel, by decide +kernel⟩

theorem witness_SealAndOneTimeStorage_3 :
    ∃ s : State, ∃ who : Nat, (s.fab.wd.burn = some who) ∧ (s.fab.otp.wordsOk) :=
  ⟨st { base with wd := { base.wd with burn := some 0 }, otp := { base.otp with arr := [] } }, 0, by decide +kernel,
    fun _ => show 0 < 2 ^ 32 by decide⟩

theorem witness_SealAndOneTimeStorage_4 :
    ∃ s : State, ∃ rec : Nat, (s.fab.wd.programs = false) ∧ (s.fab.wd.restarting = false) ∧ (s.fab.ve.op ≠ some .draw) ∧
      (s.fab.programRefused rec = true) :=
  ⟨st drawn, 0, by decide +kernel, by decide +kernel, by decide +kernel, by decide +kernel⟩

theorem witness_SealAndOneTimeStorage_5 :
    ∃ s : State, ∃ rec : Nat, (s.fab.wd.programs = false) ∧ (s.fab.wd.restarting = false) ∧ (s.fab.ve.op ≠ some .draw) ∧
      (s.fab.programRefused rec = false) :=
  ⟨st drawn, rec2, by decide +kernel, by decide +kernel, by decide +kernel, by decide +kernel⟩

theorem witness_SealAndOneTimeStorage_6 :
    ∃ s : State, ∃ j : OtpJob, ∃ fails : List (Nat × Nat), ∃ g : Fab, (s.fab.wd.prog = some j) ∧
      (g = (s.fab.modOtp (fun o => o.programRecord j.slot j.record 512 fails)).modWd (fun w => { w with prog := none })) ∧
      ((∀ w, w ∈ programOrder → g.otp.word (512 * j.slot + w) = field j.record (32 * w) 32)) :=
  ⟨atWd fun w => { w with prog := some ⟨0, 3, 0⟩ }, ⟨0, 3, 0⟩, [], _, by decide +kernel, rfl,
    by decide +kernel⟩

theorem witness_SealAndOneTimeStorage_7 :
    ∃ s : State, ∃ j : OtpJob, ∃ fails : List (Nat × Nat), ∃ g : Fab, (s.fab.wd.prog = some j) ∧
      (g = (s.fab.modOtp (fun o => o.programRecord j.slot j.record 512 fails)).modWd (fun w => { w with prog := none })) ∧
      (∃ w, (programOrder.find? (fun w => g.otp.word (512 * j.slot + w) != field j.record (32 * w) 32) = some w)) :=
  ⟨atWd fun w => { w with prog := some ⟨0, 3, 1⟩ }, ⟨0, 3, 1⟩, [(0, 1)], _, by decide +kernel, rfl,
    0, rfl⟩

theorem witness_SealAndOneTimeStorage_8 :
    ∃ s : State, (s.fab.otp.refuses s.fab.otp.addr s.fab.otp.wdata = true) :=
  ⟨st { base with otp := { base.otp with arr := [(510, 0xA5C35A3C)], addr := 0, wdata := 1 } }, by decide +kernel⟩

theorem witness_SealAndOneTimeStorage_9 :
    ∃ s : State, (s.fab.otp.refuses s.fab.otp.addr s.fab.otp.wdata = false) ∧ (s.fab.otp.wdata < 2 ^ 32) :=
  ⟨st { base with otp := { base.otp with arr := [(510, 0xA5C35A3C)], addr := 1, wdata := 2 ^ 16 } },
    by decide +kernel, by decide +kernel⟩

theorem witness_SealAndOneTimeStorage_10 :
    ∃ o : Otp, ∃ w v : Nat, (o.word (512 * (w / 512) + 510) = 0xA5C35A3C) ∧ (w % 512 ≠ 1) ∧ (o.refuses w v = false) :=
  ⟨{ base.otp with arr := [(510, 0xA5C35A3C)] }, 0, 0, by decide +kernel, by decide +kernel, by decide +kernel⟩

theorem witness_CompletedRecords_0 :
    ∃ s : State, ∃ k : Nat, (s.fab.otp.word (512 * (s.fab.otp.addr / 512) + 510) = 0xA5C35A3C) ∧ (k < 32) ∧
      (s.fab.otp.wdata.testBit k = true) ∧ ((s.fab.otp.word s.fab.otp.addr).testBit k = false) ∧
      ((s.fab.otp.addr % 512 = 1 → k < 16)) :=
  ⟨st { base with otp := { base.otp with arr := [(510, 0xA5C35A3C)], addr := 1, wdata := 2 ^ 15 } }, 15,
    by decide +kernel, by decide +kernel, by decide +kernel, by decide +kernel, by decide +kernel⟩

theorem witness_CompletedRecords_1 :
    ∃ s : State, ∃ miss w : Nat, ∃ t : State, (exec (.otpCmdProgram miss) s = .next t) ∧
      (s.fab.otp.word (512 * (w / 512) + 510) = 0xA5C35A3C) ∧ (w % 512 ≠ 1) :=
  ⟨st { base with otp := { base.otp with arr := [(510, 0xA5C35A3C)], addr := 0, wdata := 1 } }, 0, 0, _, rfl,
    by decide +kernel, by decide +kernel⟩

theorem witness_CompletedRecords_2 :
    ∃ s : State, ∃ miss w : Nat, ∃ t : State, (exec (.otpCmdProgram miss) s = .next t) ∧
      (s.fab.otp.word (512 * (w / 512) + 510) = 0xA5C35A3C) ∧ (w % 512 = 1) :=
  ⟨st { base with otp := { base.otp with arr := [(510, 0xA5C35A3C)], addr := 1, wdata := 1 } }, 0, 1, _, rfl,
    by decide +kernel, by decide +kernel⟩

theorem witness_CompletedRecords_3 :
    ∃ s : State, ∃ k : Nat, (s.fab.otp.addr % 512 = 1) ∧ (16 ≤ k) ∧ (k < 32) ∧ (s.fab.otp.wdata = 2 ^ k) :=
  ⟨st { base with otp := { base.otp with arr := [(510, 0xA5C35A3C)], addr := 1, wdata := 2 ^ 31 } }, 31,
    by decide +kernel, by decide +kernel, by decide +kernel, by decide +kernel⟩

theorem witness_VerifyEngine_0 :
    ∃ s : State, ∃ op : VeOp, (s.fab.ve.op = some op) :=
  ⟨st { base with ve := { base.ve with op := some .finish } }, .finish, by decide +kernel⟩

theorem witness_VerifyEngine_1 :
    ∃ s : State, (s.fab.ve.op = none) ∧ (s.fab.ve.len ≤ s.fab.ve.msg.length) :=
  ⟨st { base with ve := { base.ve with op := none } }, by decide +kernel, by decide +kernel⟩

theorem witness_VerifyEngine_2 :
    ∃ s : State, (s.fab.ve.op = none) ∧ (s.fab.ve.msg.length < s.fab.ve.len) :=
  ⟨st { base with ve := { base.ve with op := none, len := 1 } }, by decide +kernel, by decide +kernel⟩

theorem witness_VerifyEngine_3 :
    ∃ b0 b1 b2 b3 : Nat, (b0 < 256) ∧ (b1 < 256) ∧ (b2 < 256) ∧ (b3 < 256) :=
  ⟨255, 255, 255, 255, by decide +kernel, by decide +kernel, by decide +kernel, by decide +kernel⟩

theorem witness_VerifyEngine_4 :
    ∃ s : State, (s.fab.ve.op = some .finish) :=
  ⟨st { base with ve := { base.ve with op := some .finish } }, by decide +kernel⟩

theorem witness_VerifyEngine_5 :
    ∃ s : State, (s.fab.ve.op = some .verify) :=
  ⟨st { base with ve := { base.ve with op := some .verify } }, by decide +kernel⟩

theorem witness_VerifyEngine_6 :
    ∃ s : State, (s.fab.ve.op = some .draw) :=
  ⟨st { base with ve := { base.ve with op := some .draw } }, by decide +kernel⟩

theorem witness_VerifyEngine_7 :
    ∃ s : State, (s.fab.ve.op = none) :=
  ⟨st { base with ve := { base.ve with op := none } }, by decide +kernel⟩

theorem witness_FaultFamilies_0 :
    ∃ num v : Nat, ∃ sc : Scope, ∃ l : Bool, (objExists sc num (famIdx l) 1 = true) ∧ (v = 0) :=
  ⟨255, 0, .tile, false, by decide +kernel, by decide +kernel⟩

theorem witness_FaultFamilies_1 :
    ∃ num v : Nat, ∃ sc : Scope, ∃ l : Bool, (objExists sc num (famIdx l) 1 = true) ∧ (v ≠ 0) :=
  ⟨255, 1, .tile, false, by decide +kernel, by decide +kernel⟩

theorem witness_FaultFamilies_2 :
    ∃ num ones : Nat, ∃ sc : Scope, ∃ l : Bool, (objExists sc num (famIdx l) 2 = true) ∧ (∃ k,
      (famCdc (famOf sc num (famIdx l)) = some k) ∧ (bit ones k = true)) :=
  ⟨255, 2 ^ 13, .tile, false, by decide +kernel, 13, by decide +kernel, by decide +kernel⟩

theorem witness_FaultFamilies_3 :
    ∃ num : Nat, ∃ sc : Scope, ∃ l : Bool, (objExists sc num (famIdx l) 2 = true) :=
  ⟨255, .tile, false, by decide +kernel⟩

theorem witness_FaultFamilies_4 :
    ∃ num v : Nat, ∃ sc : Scope, ∃ l : Bool, (objExists sc num (famIdx l) 3 = true) ∧ (v = 0) :=
  ⟨255, 0, .tile, false, by decide +kernel, by decide +kernel⟩

theorem witness_FaultFamilies_5 :
    ∃ num v : Nat, ∃ sc : Scope, ∃ l : Bool, (objExists sc num (famIdx l) 3 = true) ∧ (v ≠ 0) :=
  ⟨255, 1, .tile, false, by decide +kernel, by decide +kernel⟩

theorem witness_FaultFamilies_6 :
    ∃ num : Nat, ∃ sc : Scope, ∃ l : Bool, (objExists sc num (famIdx l) 1 = false) :=
  ⟨256, .tile, false, by decide +kernel⟩

theorem witness_FaultFamilies_7 :
    ∃ x : Fam, ∃ k : Nat, (k < 64) ∧ (x.first.testBit 15 = false) :=
  ⟨Fam.reset, 63, by decide +kernel, by decide +kernel⟩

theorem witness_FaultFamilies_8 :
    ∃ x : Fam, ∃ k : Nat, (k < 64) ∧ (x.first.testBit 15 = true) :=
  ⟨{ Fam.reset with first := 2 ^ 15 }, 63, by decide +kernel, by decide +kernel⟩

theorem witness_FaultFamilies_9 :
    ∃ k : Nat, (k < 64) :=
  ⟨63, by decide +kernel⟩

theorem witness_ForcedFaults_0 :
    ∃ s : State, ∃ num k : Nat, ∃ sc : Scope, ∃ l : Bool, ∃ key : Nat, (objExists sc num (famIdx l) 4 = true) ∧
      (key = famOf sc num (famIdx l)) ∧ (k < famSources key) ∧ (s.fab.famInReset key = false) :=
  ⟨st base, 255, 17, .tile, false, _, by decide +kernel, rfl, by decide +kernel, by decide +kernel⟩

theorem witness_ForcedFaults_1 :
    ∃ k : Nat, (k < 64) ∧ (∃ j, (j ≠ k)) :=
  ⟨63, by decide +kernel, 62, by decide +kernel⟩

theorem witness_ForcedFaults_2 :
    ∃ k : Nat, (k < 64) :=
  ⟨63, by decide +kernel⟩

theorem witness_ForcedFaults_3 :
    ∃ x : Fam, ∃ k : Nat, (k < 64) ∧ (x.first.testBit 15 = false) :=
  ⟨Fam.reset, 63, by decide +kernel, by decide +kernel⟩

theorem witness_ForcedFaults_4 :
    ∃ x : Fam, ∃ k : Nat, (k < 64) ∧ (x.first.testBit 15 = true) :=
  ⟨{ Fam.reset with first := 2 ^ 15 }, 63, by decide +kernel, by decide +kernel⟩

theorem witness_ResetPins_0 :
    ∃ s : State, (s.fab.coldLow = false) :=
  ⟨st base, by decide +kernel⟩

theorem witness_ResetPins_1 :
    ∃ s : State, (s.fab.coldLow = true) ∧ ((s.fab.die 0).ao = false) ∧ ((s.fab.die 1).ao = false) ∧
      ((s.fab.die 2).ao = false) ∧ ((s.fab.die 3).ao = false) :=
  ⟨st { base with coldLow := true, dies := (List.range 4).map (fun d => (d, { Die.reset d with ao := false })) },
    by decide +kernel, by decide +kernel, by decide +kernel, by decide +kernel, by decide +kernel⟩

theorem witness_ResetPins_2 :
    ∃ s : State, (s.fab.coldLow = true) :=
  ⟨st { base with coldLow := true }, by decide +kernel⟩

theorem witness_ResetPins_3 :
    ∃ s : State, (s.fab.warmLow = false) ∧ (s.fab.coldLow = true ∨ s.fab.coldRuns = true) :=
  ⟨st { base with coldLow := true }, by decide +kernel, by decide +kernel⟩

theorem witness_ResetPins_4 :
    ∃ s : State, (s.fab.warmLow = false) ∧ (s.fab.coldLow = false) ∧ (s.fab.coldRuns = false) :=
  ⟨st base, by decide +kernel, by decide +kernel, by decide +kernel⟩

theorem witness_ResetPins_5 :
    ∃ s : State, (s.fab.warmLow = true) :=
  ⟨st { base with warmLow := true }, by decide +kernel⟩

theorem witness_ResetPins_6 :
    ∃ s : State, ∃ t : Nat, ∃ r : Rst, ∃ g : Fab, (s.fab.rsts.find? (fun r => r.sc == .tile && r.num == t) = some r) ∧
      (r.sc = .tile) ∧ (g = { s.fab with rsts := dropFirst (fun r => r.sc == .tile && r.num == t) s.fab.rsts }) ∧
      (r.at_ + us 20 ≤ s.fab.run0) :=
  ⟨st { base with lan := [(0, { Lantern.reset with acc := 2 ^ 100 })], rsts := [⟨.tile, 255, false, 0, true⟩] }, 255,
    ⟨.tile, 255, false, 0, true⟩, _, by decide +kernel, by decide +kernel, rfl, by decide +kernel⟩

theorem witness_ResetPins_7 :
    ∃ s : State, ∃ t : Nat, ∃ r : Rst, ∃ g : Fab, (s.fab.rsts.find? (fun r => r.sc == .tile && r.num == t) = some r) ∧
      (r.sc = .tile) ∧ (g = { s.fab with rsts := dropFirst (fun r => r.sc == .tile && r.num == t) s.fab.rsts }) ∧
      (s.fab.run0 < r.at_ + us 20) :=
  ⟨st { base with rsts := [⟨.tile, 255, false, 0, true⟩] }, 255, ⟨.tile, 255, false, 0, true⟩, _, by decide +kernel,
    by decide +kernel, rfl, by decide +kernel⟩

theorem witness_ResetPins_8 :
    ∃ s : State, ∃ r : Rst, ∃ g : Fab, (s.fab.rsts.find? (fun r => r.sc == .inst && r.num == 0) = some r) ∧
      (r.sc = .inst) ∧ (g = { s.fab with rsts := dropFirst (fun r => r.sc == .inst && r.num == 0) s.fab.rsts }) ∧
      (s.fab.coldLow = false) ∧ (s.fab.warmLow = false) ∧ (s.fab.map.strapErr = false) ∧ (s.fab.domainsOn = true) ∧
      (r.cold = true ∨ r.at_ + us 30 ≤ s.fab.run0) :=
  ⟨atRst [⟨.inst, 0, true, 0, true⟩], ⟨.inst, 0, true, 0, true⟩, _, by decide +kernel, by decide +kernel, rfl,
    by decide +kernel, by decide +kernel, by decide +kernel, by decide +kernel, by decide +kernel⟩

theorem witness_ResetPins_9 :
    ∃ s : State, ∃ d : Nat, (d < 4) ∧ ((s.fab.die d).ao = true) ∧ (s.fab.coldLow = true) :=
  ⟨st { base with coldLow := true }, 3, by decide +kernel, by decide +kernel, by decide +kernel⟩

theorem witness_ResetPins_10 :
    ∃ s : State, ∃ d : Nat, (d < 4) ∧ ((s.fab.die d).ao = true) ∧ (∃ e, (e < 4) ∧ (e ≠ d) ∧
      ((s.fab.die e).ao = true) ∧ (s.fab.coldLow = false)) :=
  ⟨st base, 3, by decide +kernel, by decide +kernel, 0, by decide +kernel, by decide +kernel, by decide +kernel,
    by decide +kernel⟩

theorem witness_ResetPins_11 :
    ∃ s : State, ∃ d : Nat, (d < 4) ∧ ((s.fab.die d).ao = false) ∧ (s.fab.coldLow = true) :=
  ⟨st { base with coldLow := true, dies := [(3, { Die.reset 3 with ao := false })] }, 3, by decide +kernel,
    by decide +kernel, by decide +kernel⟩

theorem witness_ResetPins_12 :
    ∃ s : State, ∃ d : Nat, (d < 4) ∧ ((s.fab.die d).ao = false) :=
  ⟨st (base.modDie 3 fun d => { d with ao := false }), 3, by decide +kernel, by decide +kernel⟩

theorem witness_ResetWrites_0 :
    ∃ s : State, ∃ num : Nat, (s.fab.map.lock = true) ∧ (s.fab.inProgress = false) ∧ (num < 256) :=
  ⟨atMap fun m => { m with lock := true }, 255, by decide +kernel, by decide +kernel, by decide +kernel⟩

theorem witness_ResetWrites_1 :
    ∃ s : State, ∃ num : Nat, (s.fab.map.lock = true) ∧ (s.fab.inProgress = false) ∧ (num < 16) :=
  ⟨atMap fun m => { m with lock := true }, 15, by decide +kernel, by decide +kernel, by decide +kernel⟩

theorem witness_ResetWrites_2 :
    ∃ s : State, ∃ num : Nat, (s.fab.map.lock = true) ∧ (s.fab.inProgress = false) ∧ (num < 4) :=
  ⟨atMap fun m => { m with lock := true }, 3, by decide +kernel, by decide +kernel, by decide +kernel⟩

theorem witness_ResetWrites_3 :
    ∃ s : State, ∃ num : Nat, (s.fab.map.lock = true) ∧ (s.fab.inProgress = false) ∧ (16 ≤ num) ∧ (num < 256) :=
  ⟨atMap fun m => { m with lock := true }, 16, by decide +kernel, by decide +kernel, by decide +kernel,
    by decide +kernel⟩

theorem witness_ResetWrites_4 :
    ∃ s : State, (s.fab.map.lock = true) :=
  ⟨atMap fun m => { m with lock := true }, by decide +kernel⟩

theorem witness_ResetWrites_5 :
    ∃ s : State, ∃ num : Nat, (s.fab.map.lock = true) ∧ (s.fab.inProgress = true) ∧ (num < 4) :=
  ⟨st { base with map := { base.map with lock := true }, rsts := [⟨.tile, 255, false, 0, true⟩] }, 3,
    by decide +kernel, by decide +kernel, by decide +kernel⟩

theorem witness_ResetWrites_6 :
    ∃ s : State, ∃ num : Nat, (s.fab.map.lock = false) ∧ (num < 256) :=
  ⟨st base, 255, by decide +kernel, by decide +kernel⟩

theorem witness_WarmResetKeeps_0 :
    ∃ f : Fab, (f.coldRuns = false) ∧ (∃ g : Fab, (g = f.startReset .inst 0 false true) ∧ (f.wd.burn = none) ∧
      (f.wd.prog = none)) :=
  ⟨base, by decide +kernel, _, rfl, by decide +kernel, by decide +kernel⟩

theorem witness_WarmResetKeeps_1 :
    ∃ f : Fab, ∃ viaMap : Bool, ∃ g : Fab, (g = f.startReset .inst 0 true viaMap) ∧ (∃ d, (d < 4)) :=
  ⟨base, false, _, rfl, 3, by decide +kernel⟩

theorem witness_CountersAndTrace_0 :
    ∃ t k v : Nat, (t < 256) ∧ (k < 8) ∧ (cntEventOk v = true) ∧ (v < 2 ^ 11) :=
  ⟨255, 7, 0x702, by decide +kernel, by decide +kernel, by decide +kernel, by decide +kernel⟩

theorem witness_CountersAndTrace_1 :
    ∃ t k v : Nat, (t < 256) ∧ (k < 8) ∧ (cntEventOk v = false) :=
  ⟨255, 7, 255, by decide +kernel, by decide +kernel, by decide +kernel⟩

theorem witness_CountersAndTrace_2 :
    ∃ t k v : Nat, (t < 256) ∧ (k < 8) ∧ (v < 2 ^ 48) :=
  ⟨255, 7, 2 ^ 48 - 1, by decide +kernel, by decide +kernel, by decide +kernel⟩

theorem witness_CountersAndTrace_3 :
    ∃ t k v : Nat, (t < 256) ∧ (k < 8) ∧ (2 ^ 48 ≤ v) :=
  ⟨255, 7, 2 ^ 48, by decide +kernel, by decide +kernel, by decide +kernel⟩

theorem witness_CountersAndTrace_4 :
    ∃ s : State, ∃ t r : Nat, ∃ rest : List Nat, ∃ g : Fab, ((s.fab.tile t).hop = r :: rest) ∧
      (g = s.fab.modTile t (fun x => { x with hop := rest })) ∧ (∃ q,
      ((g.traceOf (dieOf t)).put (dieOf t) r (g.oD (dieOf t) O.TRACE_MODE == 1) = some q)) :=
  ⟨atTile fun x => { x with hop := [5] }, 0, 5, [], _, by decide +kernel, rfl, _, rfl⟩

theorem witness_CountersAndTrace_5 :
    ∃ s : State, ∃ t r : Nat, ∃ rest : List Nat, ∃ g : Fab, ((s.fab.tile t).hop = r :: rest) ∧
      (g = s.fab.modTile t (fun x => { x with hop := rest })) ∧
      ((g.traceOf (dieOf t)).put (dieOf t) r (g.oD (dieOf t) O.TRACE_MODE == 1) = none) :=
  ⟨st (({ base with quarter := [(0, { Quarter.reset with count := 12288 })] }.setO .inst 0 O.TRACE_MODE 0 1).modTile 0 fun x => { x with hop := [5] }),
    0, 5, [], _, by decide +kernel, rfl, rfl⟩

theorem witness_CountersAndTrace_6 :
    ∃ q : Quarter, ∃ d r : Nat, ∃ stop : Bool, (q.count ≤ 12288) ∧ (q.nextE < 12288) ∧ (∃ p,
      (q.put d r stop = some p) ∧ (∃ e, (e ≠ q.nextE))) :=
  ⟨{ Quarter.reset with count := 12288, nextE := 12287 }, 0, 0, false, by decide +kernel, by decide +kernel, _, rfl,
    0, by decide +kernel⟩

theorem witness_CountersAndTrace_7 :
    ∃ s : State, ∃ t : Nat, ((s.fab.tile t).hop = []) :=
  ⟨st base, 0, by decide +kernel⟩

theorem witness_CountersAndTrace_8 :
    ∃ s : State, ∃ v : Nat, (v ≠ 0) ∧ ((∀ d, d < 4 → s.fab.bcastUp d = true)) :=
  ⟨st base, 1, by decide +kernel, by decide +kernel⟩

theorem witness_Snapshots_0 :
    ∃ s : State, ∃ tm : Nat,
      (tm < s.fab.dieTime 0 + us 10 ∨ s.fab.dieTime 0 + ms 10000 < tm ∨ s.fab.oI O.SNAPSHOT_STATE = 1 ∨ s.fab.oI O.COLLECT_PERIOD ≠ 0) :=
  ⟨st base, 0, by decide +kernel⟩

theorem witness_Snapshots_1 :
    ∃ s : State, ∃ tm : Nat, (s.fab.dieTime 0 + us 10 ≤ tm) ∧ (tm ≤ s.fab.dieTime 0 + ms 10000) ∧
      (s.fab.oI O.SNAPSHOT_STATE ≠ 1) ∧ (s.fab.oI O.COLLECT_PERIOD = 0) ∧ ((∀ d, d < 4 → s.fab.bcastUp d = true)) :=
  ⟨st base, us 10, by decide +kernel, by decide +kernel, by decide +kernel, by decide +kernel, by decide +kernel⟩

theorem witness_Snapshots_2 :
    ∃ f : Fab, ∃ t : Nat, (t < 256) ∧ (f.bcastUp (dieOf t) = true) ∧ (f.bypassed t = false) :=
  ⟨base, 255, by decide +kernel, by decide +kernel, by decide +kernel⟩

theorem witness_Snapshots_3 :
    ∃ s : State, ∃ t tm : Nat, (t < 256) ∧ ((s.fab.tile t).snap = some tm) :=
  ⟨st (base.modTile 255 fun x => { x with snap := some 0 }), 255, 0, by decide +kernel, by decide +kernel⟩

theorem witness_Snapshots_4 :
    ∃ s : State, (s.fab.oI O.SNAPSHOT_STATE = 1) ∧ (s.fab.coll.armed = none) ∧
      (s.fab.oI O.SNAPSHOT_AT + us 1 ≤ s.fab.dieTime 0) :=
  ⟨st (({ base with lan := [(0, { Lantern.reset with acc := 2 ^ 100 })] }).setO .inst 0 O.SNAPSHOT_STATE 0 1),
    by decide +kernel, by decide +kernel, by decide +kernel⟩

theorem witness_Snapshots_5 :
    ∃ s : State, ∃ t tm : Nat, (t < 256) ∧ ((s.fab.tile t).snap = some tm) ∧ (tm ≤ s.fab.time t) ∧ ((s.fab.tile
      t).st = .t0) :=
  ⟨st (base.modTile 255 fun x => { x with snap := some 0 }), 255, 0, by decide +kernel, by decide +kernel,
    by decide +kernel, by decide +kernel⟩

theorem witness_Snapshots_6 :
    ∃ s : State, (s.fab.oI O.SNAPSHOT_STATE = 1) ∧ (s.fab.coll.armed = none) ∧
      (s.fab.dieTime 0 < s.fab.oI O.SNAPSHOT_AT + us 1) :=
  ⟨atObj .inst 0 O.SNAPSHOT_STATE 1, by decide +kernel, by decide +kernel, by decide +kernel⟩

theorem witness_Snapshots_7 :
    ∃ s : State, ∃ t tm : Nat, (t < 256) ∧ ((s.fab.tile t).snap = some tm) ∧ (s.fab.time t < tm) :=
  ⟨st (base.modTile 255 fun x => { x with snap := some 1 }), 255, 1, by decide +kernel, by decide +kernel,
    by decide +kernel⟩

theorem witness_Snapshots_8 :
    ∃ s : State, ∃ p tm : Nat, (p = us (s.fab.oI O.COLLECT_PERIOD)) ∧ (p ≠ 0) ∧ (s.fab.coll.armed = none) ∧
      (s.fab.coll.reading = none) ∧ (s.fab.oI O.SNAPSHOT_STATE ≠ 1) ∧ (tm % p = 0) ∧ (s.fab.dieTime 0 + us 10 ≤ tm) ∧
      (tm < s.fab.dieTime 0 + us 10 + p) :=
  ⟨atObj .inst 0 O.COLLECT_PERIOD 10, us 10, us 10, by decide +kernel, by decide +kernel, by decide +kernel,
    by decide +kernel, by decide +kernel, by decide +kernel, by decide +kernel, by decide +kernel⟩

theorem witness_Snapshots_9 :
    ∃ s : State, ∃ tm : Nat, (s.fab.coll.reading = some tm) ∧ (s.fab.coll.next = 768) ∧ ((∀ tag,
      8 ≤ tag → tag < 12 → s.fab.guy.ring.lookup tag = none)) ∧ (∃ g : Fab,
      (g = s.fab.modColl (fun c => { c with reading := none, got := [], next := 0 })) ∧
      (s.fab.collMayWrite = false)) :=
  ⟨st ({ base with coll := { base.coll with reading := some 0, next := 768 }, wd := { base.wd with patch := some (4, 1) } }.setO .inst 0 O.COLLECT_ADDR 0 0x20000000),
    0, by decide +kernel, by decide +kernel, fun _ _ _ => rfl, _, rfl, by decide +kernel⟩

theorem witness_Snapshots_10 :
    ∃ s : State, ∃ tm : Nat, (s.fab.coll.reading = some tm) ∧ (s.fab.coll.next = 768) ∧ ((∀ tag,
      8 ≤ tag → tag < 12 → s.fab.guy.ring.lookup tag = none)) ∧ (∃ g : Fab,
      (g = s.fab.modColl (fun c => { c with reading := none, got := [], next := 0 })) ∧
      (s.fab.collMayWrite = true)) :=
  ⟨atColl fun c => { c with reading := some 0, next := 768 }, 0, by decide +kernel, by decide +kernel,
    fun _ _ _ => rfl, _, rfl, by decide +kernel⟩

theorem witness_Snapshots_11 :
    ∃ s : State, (s.fab.oI O.SNAPSHOT_STATE = 1) ∧ (s.fab.coll.armed = none) :=
  ⟨atObj .inst 0 O.SNAPSHOT_STATE 1, by decide +kernel, by decide +kernel⟩

theorem witness_Snapshots_12 :
    ∃ s : State, ∃ v : Nat, (s.fab.oI O.SNAPSHOT_STATE ≠ 1) ∧ (judgeWrite .inst O.COLLECT_PERIOD 0 v = some (v, 0)) :=
  ⟨st base, 0, by decide +kernel, by decide +kernel⟩

end Sys2Proof.Tests
end

/-! Proofs: exclusive loads at a Commons bank (R252, R283, R286). -/

namespace Sys2Proof.Machine

/-! ## Frames of the shared operations: the banks stay -/

@[simp] theorem Fab.event_cmnOf (f : Fab) (t code q k n : Nat) : (f.event t code q k).cmnOf n = f.cmnOf n := by
  rw [Fab.event_frame]; rfl

@[simp] theorem Fab.bump_cmnOf (f : Fab) (sc : Scope) (num idx sub k n : Nat) :
    (f.bump sc num idx sub k).cmnOf n = f.cmnOf n := by
  rw [Fab.bump_frame]; rfl

@[simp] theorem Fab.cmnTake_cmnOf (f : Fab) (m n : Nat) : (f.cmnTake m).cmnOf n = f.cmnOf n := by
  rw [Fab.cmnTake_frame]; rfl

/-- A hop record goes to a tile, or is counted as lost: the banks do not see it (R609). -/
@[simp] theorem Fab.hopRecord_cmnOf (f : Fab) (t kind inp outp : Nat) (esc : Bool) (wait credits : Nat) (p : Packet)
    (n : Nat) : (f.hopRecord t kind inp outp esc wait credits p).cmnOf n = f.cmnOf n := by
  simp only [Fab.hopRecord]
  split
  · split <;> simp
  · rfl

@[simp] theorem Fab.cmnBegin_cmnOf (f : Fab) (m : Nat) (p : Packet) (ce n : Nat) :
    (f.cmnBegin m p ce).cmnOf n = f.cmnOf n := by
  simp [Fab.cmnBegin]

/-! ## Commands of a bank -/

/-- A command of a bank applies to the oldest packet, when that calls for its operation and the answer fits (R664). -/
theorem Fab.cmnWhen_of_front {f : Fab} {n : Nat} {op : CmnOp} {p : Packet} (go : Fab → Packet → Fab)
    (hfront : f.cmnFront n = some p) (hlen : p.length = lenOf p) (hop : cmnOp p = op)
    (hroom : f.cmnRoom n (cmnFlits p) (if (cmnPart p).isSome then 1 else 0) = true) :
    f.cmnWhen n op go = go f p := by
  unfold Fab.cmnWhen
  rw [hfront]
  exact if_pos ⟨hlen, hop, hroom⟩

/-- Only opcode 0x11 of message class 0 is an exclusive load (R264, R283). -/
theorem header_of_cmnOp_xld {p : Packet} (h : cmnOp p = .xld) : mcOf p = 0 ∧ opcOf p = 0x11 := by
  unfold cmnOp at h
  split at h
  case h_10 hmc hopc => exact ⟨hmc, hopc⟩
  case h_8 | h_9 | h_11 => split at h <;> cases h
  all_goals cases h

/-- An exclusive load has an answer: its data part (R283). -/
theorem cmnPart_of_cmnOp_xld {p : Packet} (h : cmnOp p = .xld) :
    cmnPart p = some ⟨3, 0x10, 0, 0, bcntOf p⟩ := by
  obtain ⟨hmc, hopc⟩ := header_of_cmnOp_xld h
  simp [cmnPart, hmc, hopc]

/-- A read with no uncorrectable word answers with the bytes of the bank. -/
theorem Fab.cmnReadAnswer_of_part {f : Fab} {n : Nat} {p : Packet} {a : Part} (h : cmnPart p = some a) :
    f.cmnReadAnswer n p none =
      f.cmnAnswer n p 0 false (memRead (f.cmnOf n).mem (cmnOffset p) (cmnBytes p)) (cmnPart p).toList := by
  simp [Fab.cmnReadAnswer, h]

/-! ## Setting a reservation (R286) -/

/-- The reservations of a bank that other identifiers than the one of `p` hold, oldest first. -/
def Fab.otherResv (f : Fab) (n : Nat) (p : Packet) : List Resv := (f.cmnOf n).resv.filter (fun x => !x.mine p)

/-- The reservation that an exclusive load `p` sets: its identifier on the granule of its address. -/
def Fab.newResv (f : Fab) (n : Nat) (p : Packet) : Resv :=
  ⟨srcTile p, srcSlot p, oidOf p, cmnOffset p - cmnOffset p % f.resvGran n⟩

theorem Fab.not_mine_of_mem_otherResv {f : Fab} {n : Nat} {p : Packet} {x : Resv} (h : x ∈ f.otherResv n p) :
    x.mine p = false := by
  simpa using (List.mem_filter.mp h).2

/-- Below 256 reservations of others, the new one is added and no object changes. -/
theorem Fab.setResv_of_room {f : Fab} {n : Nat} {p : Packet} (h : (f.otherResv n p).length < 256) :
    f.setResv n p = f.modCmn n (fun c => { c with resv := f.otherResv n p ++ [f.newResv n p] }) :=
  if_neg (Nat.not_le.mpr h)

/-- At 256 reservations of others, the oldest goes and is counted. -/
theorem Fab.setResv_of_full {f : Fab} {n : Nat} {p : Packet} (h : 256 ≤ (f.otherResv n p).length) :
    f.setResv n p =
      (f.modCmn n (fun c => { c with resv := (f.otherResv n p).drop 1 ++ [f.newResv n p] })).bump .cmn n
        O.CMN_RESV_EVICT 0 :=
  if_pos h

/-- The reservations after an exclusive load: those of others, less the oldest of 256, and then the new one. -/
theorem Fab.setResv_resv (f : Fab) (n : Nat) (p : Packet) :
    ((f.setResv n p).cmnOf n).resv =
      (f.otherResv n p).drop (if 256 ≤ (f.otherResv n p).length then 1 else 0) ++ [f.newResv n p] := by
  split
  case isTrue h => simp [Fab.setResv_of_full h]
  case isFalse h => simp [Fab.setResv_of_room (Nat.not_le.mp h)]

/-- Setting a reservation changes no byte of the bank. -/
@[simp] theorem Fab.setResv_mem (f : Fab) (n : Nat) (p : Packet) :
    ((f.setResv n p).cmnOf n).mem = (f.cmnOf n).mem := by
  by_cases h : 256 ≤ (f.otherResv n p).length
  · simp [Fab.setResv_of_full h]
  · simp [Fab.setResv_of_room (Nat.not_le.mp h)]

/-- CMN_RESV_EVICT is a 64-bit counter that stops at its largest value (R524). -/
theorem Fab.bump_resvEvict (f : Fab) (n : Nat) :
    (f.bump .cmn n O.CMN_RESV_EVICT 0).o .cmn n O.CMN_RESV_EVICT =
      min (2 ^ 64 - 1) (f.o .cmn n O.CMN_RESV_EVICT + 1) :=
  Fab.setO_own ..

/-- The one reservation of the load's identifier that stands afterwards is the new one. -/
theorem Fab.eq_newResv_of_mem_setResv {f : Fab} {n : Nat} {p : Packet} {x : Resv}
    (hx : x ∈ ((f.setResv n p).cmnOf n).resv) (hmine : x.mine p = true) : x = f.newResv n p := by
  rw [Fab.setResv_resv, List.mem_append, List.mem_singleton] at hx
  refine hx.resolve_left fun hother => ?_
  rw [Fab.not_mine_of_mem_otherResv (List.mem_of_mem_drop hother)] at hmine
  exact Bool.false_ne_true hmine

/-! ## CMN_XLD -/

/-- An exclusive load with no uncorrectable word begins its access, sets its reservation, and answers with the bytes
that the bank held before it. -/
theorem exec_cmnXld_of_front {s : State} {n ce : Nat} {p : Packet} (hfront : s.fab.cmnFront n = some p)
    (hlen : p.length = lenOf p) (hop : cmnOp p = .xld)
    (hroom : s.fab.cmnRoom n (cmnFlits p) (if (cmnPart p).isSome then 1 else 0) = true) :
    exec (.cmnXld n ce none) s = .next (s.onFab (fun f =>
      ((f.cmnBegin n p ce).setResv n p).cmnAnswer n p 0 false
        (memRead (f.cmnOf n).mem (cmnOffset p) (cmnBytes p)) (cmnPart p).toList)) := by
  simp only [exec_cmnXld, execCmnXld, State.onFab, Fab.cmnWhen_of_front _ hfront hlen hop hroom,
    Fab.cmnReadAnswer_of_part (cmnPart_of_cmnOp_xld hop), Fab.setResv_mem, Fab.cmnBegin_cmnOf]

/-- Settles O26, from what `exec` gives for CMN_XLD and the two forms of `setResv`. -/
theorem exclusiveLoads : Obligations.ExclusiveLoads := by
  unfold Obligations.ExclusiveLoads
  refine ⟨fun s n ce p => exec_cmnXld_of_front, fun f n p => ⟨f.setResv_mem n p, fun hroom => ?_, fun hfull => ?_,
    fun x => Fab.eq_newResv_of_mem_setResv⟩⟩
  · rw [Fab.setResv_of_room hroom]
    exact ⟨congrArg Cmn.resv (Fab.modCmn_own ..), rfl⟩
  · rw [Fab.setResv_of_full hfull, Fab.bump_cmnOf]
    exact ⟨congrArg Cmn.resv (Fab.modCmn_own ..), Fab.bump_resvEvict ..⟩

end Sys2Proof.Machine

/-! Proofs: programming of one-time storage and completed records (R539, R564, R565). -/

namespace Sys2Proof.Machine

/-! ## Bits of cleared values and of array words -/

/-- The bits of `clearBits v m`: those of `v` that `m` does not hold. -/
@[simp] theorem testBit_clearBits (v m k : Nat) : (clearBits v m).testBit k = (v.testBit k && !m.testBit k) := by
  unfold clearBits
  induction k generalizing v m with
  | zero =>
    have hle : v &&& m ≤ v := Nat.and_le_left
    have hodd : (v &&& m) % 2 = 1 ↔ v % 2 = 1 ∧ m % 2 = 1 := Nat.and_mod_two_eq_one
    simp only [Nat.testBit_zero]
    grind
  | succ k ih =>
    have hle : v &&& m ≤ v := Nat.and_le_left
    have hodd : (v &&& m) % 2 = 1 → v % 2 = 1 := fun h => (Nat.and_mod_two_eq_one.mp h).1
    have hhalf : (v - (v &&& m)) / 2 = v / 2 - (v / 2 &&& m / 2) := by
      rw [← Nat.and_div_two]; omega
    rw [Nat.testBit_succ, hhalf, ih, Nat.testBit_succ, Nat.testBit_succ]

/-- FAIL is no part of the array. -/
@[simp] theorem Otp.setFail_word (o : Otp) (b : Bool) (w : Nat) : ({ o with fail := b } : Otp).word w = o.word w := rfl

/-- Programming changes the word it names and no other (R564). -/
theorem Otp.program_word (o : Otp) (w v x : Nat) :
    (o.program w v).word x = if x = w then o.word w ||| v % 2 ^ 32 else o.word x :=
  SMap.get_set ..

/-- Programming a word sets its bits that the value holds, and clears none (R539). -/
theorem Otp.testBit_program_word (o : Otp) (w v x k : Nat) :
    ((o.program w v).word x).testBit k =
      ((o.word x).testBit k || (decide (x = w) && decide (k < 32) && v.testBit k)) := by
  rw [Otp.program_word]
  split
  case isTrue h => rw [Nat.testBit_or, Nat.testBit_mod_two_pow, h, decide_eq_true rfl, Bool.true_and]
  case isFalse h => simp [h]

/-! ## The refusal rule (R565) -/

/-- Whether word `w` stands in a slot whose DONE word reads its value (R559, R565). -/
def Otp.completed (o : Otp) (w : Nat) : Prop := o.word (512 * (w / 512) + 510) = 0xA5C35A3C

/-- Whether bit `k` of word `w` is outside the seal field: bits [31:16] of word 1 of a slot (R565). -/
def outsideSeal (w k : Nat) : Prop := w % 512 = 1 → k < 16

/-- The controller refuses exactly a value with a bit, outside the seal field, that a completed record lacks. -/
theorem Otp.refuses_iff (o : Otp) (w v : Nat) :
    o.refuses w v = true ↔
      o.completed w ∧ ∃ k < 32, v.testBit k = true ∧ (o.word w).testBit k = false ∧ outsideSeal w k := by
  have hbits : ∀ n : Nat, n ≠ 0 ↔ ∃ k, n.testBit k = true := fun n =>
    ⟨Nat.exists_testBit_of_ne_zero, fun ⟨_, hk⟩ h0 => by simp [h0] at hk⟩
  simp only [Otp.refuses, Bool.and_eq_true, beq_iff_eq, bne_iff_ne, hbits, Otp.completed, outsideSeal]
  refine and_congr_right fun _ => exists_congr fun k => ?_
  split
  case isTrue h =>
    simp only [Nat.testBit_mod_two_pow, testBit_clearBits, Bool.and_eq_true, decide_eq_true_eq, Bool.not_eq_true', h,
      true_imp_iff]
    exact ⟨fun ⟨hseal, ⟨hk32, hv⟩, hbit⟩ => ⟨hk32, hv, hbit, hseal⟩,
      fun ⟨hk32, hv, hbit, hseal⟩ => ⟨hseal, ⟨hk32, hv⟩, hbit⟩⟩
  case isFalse h =>
    simp only [Nat.testBit_mod_two_pow, testBit_clearBits, Bool.and_eq_true, decide_eq_true_eq, Bool.not_eq_true', h,
      false_imp_iff, and_true, and_assoc]

/-- A value that is not refused sets no bit of a completed record outside its seal field. -/
theorem Otp.testBit_word_of_not_refuses {o : Otp} {w v k : Nat} (href : o.refuses w v = false) (hdone : o.completed w)
    (hk : outsideSeal w k) (hk32 : k < 32) (hv : v.testBit k = true) : (o.word w).testBit k = true := by
  refine Bool.of_not_eq_false fun hbit => ?_
  have : o.refuses w v = true := (o.refuses_iff w v).mpr ⟨hdone, k, hk32, hv, hbit, hk⟩
  exact Bool.false_ne_true (href.symm.trans this)

/-- A value with seal bits alone is not refused. -/
theorem Otp.refuses_sealBit {o : Otp} {w k : Nat} (hw : w % 512 = 1) (hk : 16 ≤ k) : o.refuses w (2 ^ k) = false := by
  refine Bool.of_not_eq_true fun href => ?_
  obtain ⟨-, j, -, hj, -, hseal⟩ := (o.refuses_iff w (2 ^ k)).mp href
  have hjk : k = j := by simpa [Nat.testBit_two_pow] using hj
  have := hseal hw
  omega

/-! ## A PROGRAM command -/

/-- A measured change leaves one-time storage as it is. -/
@[simp] theorem Fab.measured_otp (f : Fab) : f.measured.otp = f.otp := Fab.modWd_otp ..

/-- Mirroring the seal leaves one-time storage as it is. -/
@[simp] theorem Fab.readSeal_otp (f : Fab) : f.readSeal.otp = f.otp := by
  simp only [Fab.readSeal]
  split
  · rfl
  · rw [Fab.measured_otp, Fab.setO_otp]

/-- A refused command only sets FAIL. -/
theorem Fab.otpCmd_of_refuses {f : Fab} (miss : Nat) (h : f.otp.refuses f.otp.addr f.otp.wdata = true) :
    f.otpCmd miss = f.modOtp (fun o => { o with fail := true }) :=
  if_pos h

/-- A command that is not refused programs the bits that take, and FAIL tells whether the word misses one. -/
theorem Fab.otpCmd_otp_of_not_refuses {f : Fab} (miss : Nat) (h : f.otp.refuses f.otp.addr f.otp.wdata = false) :
    (f.otpCmd miss).otp = { f.otp.program f.otp.addr (clearBits f.otp.wdata miss) with
      fail := decide (f.otp.word f.otp.addr ||| clearBits f.otp.wdata miss ≠
        f.otp.word f.otp.addr ||| f.otp.wdata) } := by
  simp [Fab.otpCmd, h]

/-- A command keeps every bit of a completed record outside its seal field. -/
theorem Fab.otpCmd_keeps_completed {f : Fab} {w k : Nat} (miss : Nat) (hdone : f.otp.completed w)
    (hk : outsideSeal w k) : ((f.otpCmd miss).otp.word w).testBit k = (f.otp.word w).testBit k := by
  cases href : f.otp.refuses f.otp.addr f.otp.wdata with
  | true => rw [Fab.otpCmd_of_refuses miss href, Fab.modOtp_otp, Otp.setFail_word]
  | false =>
    rw [Fab.otpCmd_otp_of_not_refuses miss href, Otp.setFail_word, Otp.testBit_program_word, Bool.or_eq_left_iff_imp]
    simp only [Bool.and_eq_true, decide_eq_true_eq, testBit_clearBits]
    rintro ⟨⟨rfl, hk32⟩, hv, -⟩
    exact Otp.testBit_word_of_not_refuses href hdone hk hk32 hv

/-- A seal bit is programmed, and FAIL is clear, when every bit takes. -/
theorem Fab.otpCmd_programs_sealBit {f : Fab} {k : Nat} (hw : f.otp.addr % 512 = 1) (hk : 16 ≤ k) (hk32 : k < 32)
    (hv : f.otp.wdata = 2 ^ k) :
    ((f.otpCmd 0).otp.word f.otp.addr).testBit k = true ∧ (f.otpCmd 0).otp.fail = false := by
  have hall : clearBits f.otp.wdata 0 = f.otp.wdata := by simp [clearBits]
  rw [Fab.otpCmd_otp_of_not_refuses 0 (hv ▸ Otp.refuses_sealBit hw hk), hall]
  exact ⟨by simp [Otp.testBit_program_word, hk32, hv], by simp⟩

/-- Settles O52: the refusal by `refuses_iff`, the frame bit for bit, and the seal bit as the exception. -/
theorem completedRecords : Obligations.CompletedRecords := by
  unfold Obligations.CompletedRecords
  refine ⟨fun s miss k hdone hk32 hv hbit hseal => ?_, fun s miss w t hnext hdone => ?_,
    fun s k hw hk hk32 hv => ⟨_, rfl, Fab.otpCmd_programs_sealBit hw hk hk32 hv⟩⟩
  · have href := (s.fab.otp.refuses_iff _ _).mpr ⟨hdone, k, hk32, hv, hbit, hseal⟩
    simp only [exec_otpCmdProgram, execOtpCmdProgram, State.onFab, Fab.otpCmd_of_refuses miss href]
  · have hkeeps : ∀ k, outsideSeal w k → (t.fab.otp.word w).testBit k = (s.fab.otp.word w).testBit k := by
      cases hnext
      exact fun k => Fab.otpCmd_keeps_completed miss hdone
    refine ⟨fun hw => Nat.eq_of_testBit_eq fun k => hkeeps k fun h => absurd h hw, fun _ => ?_⟩
    refine Nat.eq_of_testBit_eq fun k => ?_
    simp only [Nat.testBit_mod_two_pow]
    by_cases hk : k < 16
    · rw [hkeeps k fun _ => hk]
    · simp [hk]

end Sys2Proof.Machine

/-! Proofs: forced faults (R535, R570, R573). -/

namespace Sys2Proof.Machine

/-! ## The bits of a word with one bit set -/

/-- The bits of `setBit v k`: those of `v`, and bit `k`. -/
@[simp] theorem testBit_setBit (v k j : Nat) : (setBit v k).testBit j = (v.testBit j || decide (k = j)) := by
  simp [setBit, mask, Nat.testBit_two_pow]

/-- The codes below `n` whose bit `2 ^ k` holds: `k`, when it is below `n`. -/
theorem filter_range_bit_two_pow (n k : Nat) :
    (List.range n).filter (fun j => bit (2 ^ k) j) = if k < n then [k] else [] := by
  induction n with
  | zero => rfl
  | succ n ih =>
    rw [List.range_succ, List.filter_append, ih]
    by_cases hkn : k = n
    · subst hkn
      simp only [bit, Nat.lt_irrefl, Nat.lt_succ_self, if_true, if_false, List.nil_append, List.filter_cons,
        List.filter_nil, Nat.testBit_two_pow_self]
    · have hlt : k < n + 1 ↔ k < n := by omega
      simp only [bit, hlt, List.filter_cons, List.filter_nil, Nat.testBit_two_pow_of_ne hkn, Bool.false_eq_true,
        if_false, List.append_nil]

/-! ## Raising and forcing a source (R570, R573) -/

/-- A raise with the latch free captures the source, and leaves OVF as it is. -/
theorem Fam.raise_of_free {x : Fam} (k : Nat) (info : List Nat) (h : x.first.testBit 15 = false) :
    x.raise k info = { x with pend := setBit x.pend k, first := k + 2 ^ 15, info := info } :=
  if_neg (Bool.eq_false_iff.mp h)

/-- A raise with the latch held sets OVF, and leaves FIRST and INFO as they are. -/
theorem Fam.raise_of_held {x : Fam} (k : Nat) (info : List Nat) (h : x.first.testBit 15 = true) :
    x.raise k info = { x with pend := setBit x.pend k, ovf := true } :=
  if_pos h

/-- A raise sets the bit of its source in PEND, whatever the latch holds. -/
@[simp] theorem Fam.raise_pend (x : Fam) (k : Nat) (info : List Nat) : (x.raise k info).pend = setBit x.pend k := by
  cases h : x.first.testBit 15 with
  | false => rw [Fam.raise_of_free k info h]
  | true => rw [Fam.raise_of_held k info h]

/-- Forcing a source sets its bit in PEND. -/
theorem Fam.force_pend (x : Fam) (k ns : Nat) : (x.force k ns).pend = setBit x.pend k :=
  x.raise_pend k [0, 0, 0, ns]

/-- Forcing a source captures as a raise with INFO0 to INFO2 zero does. -/
theorem Fam.force_capture (x : Fam) (k ns : Nat) :
    (x.force k ns).first = (x.raise k [0, 0, 0, ns]).first ∧ (x.force k ns).info = (x.raise k [0, 0, 0, ns]).info ∧
      (x.force k ns).ovf = (x.raise k [0, 0, 0, ns]).ovf :=
  ⟨rfl, rfl, rfl⟩

/-! ## Writes and reads of FORCE -/

/-- A word with bit `k` alone forces source `k` of a family that is not in reset. -/
theorem Fab.forceFam_two_pow {f : Fab} {key k : Nat} (hk : k < famSources key) (hrst : f.famInReset key = false) :
    f.forceFam key (2 ^ k) = f.modFam key (fun x => x.force k (f.famNs key)) := by
  simp only [Fab.forceFam, hrst, filter_range_bit_two_pow, hk, Bool.false_eq_true, if_false, if_true, List.foldl_cons,
    List.foldl_nil]

/-- A write of an object that exists goes to the writer, and its code to the requester (R495). -/
theorem Fab.objWrite_of_exists {f : Fab} {sc : Scope} {num idx sub : Nat} (who : Nat) (w : Fab → Fab × Nat)
    (h : objExists sc num idx sub = true) : f.objWrite who sc num idx sub w = (w f).1.answer who (w f).2 :=
  if_pos h

/-- The object of a family is FAULT or FAULT_LANTERN. -/
theorem famIdx_eq_or (l : Bool) : famIdx l = O.FAULT ∨ famIdx l = O.FAULT_LANTERN := by
  cases l with
  | false => exact .inl rfl
  | true => exact .inr rfl

/-- FORCE reads zero in every scope (R573). -/
theorem Fab.readObj_force (f : Fab) (sc : Scope) (num elem : Nat) (l : Bool) :
    f.readObj sc num (famIdx l) 4 elem = 0 := by
  unfold Fab.readObj
  cases objRow sc (famIdx l) 4 with
  | none => rfl
  | some r => simp [famIdx_eq_or l, Fab.readFault]

/-- Settles O55: the write by `forceFam_two_pow`, PEND bit for bit, and the latch by the two forms of a raise. -/
theorem forcedFaults : Obligations.ForcedFaults := by
  unfold Obligations.ForcedFaults
  refine ⟨fun s who num k sc l key hex hkey hk hrst => ?_, fun x k ns _ => ?_, Fab.readObj_force⟩
  · subst hkey
    simp only [exec_faultForce, execFaultForce, State.onFab, Fab.objWrite_of_exists _ _ hex, Fab.wForce,
      Fab.forceFam_two_pow hk hrst, cOk]
  · obtain ⟨hfirst, hinfo, hovf⟩ := x.force_capture k ns
    rw [hfirst, hinfo, hovf, Fam.force_pend]
    refine ⟨by simp, fun j hj => by simp [hj.symm], fun hfree => ?_, fun hheld => ?_⟩
    · rw [Fam.raise_of_free k _ hfree]
      exact ⟨rfl, rfl, rfl⟩
    · rw [Fam.raise_of_held k _ hheld]
      exact ⟨rfl, rfl, rfl⟩

end Sys2Proof.Machine

/-! Proofs: what a sparse map lists after a write. -/

namespace Sys2Proof.SMap

/-- The value of an entry that a map lists after a write is the one written, or one it listed before. -/
theorem all_set {α : Type} [DecidableEq α] (d : Nat → α) (m : SMap α) (k : Nat) (v : α) (p : α → Bool)
    (hv : p v = true) (hm : m.all (fun kv => p kv.2) = true) : (set d m k v).all (fun kv => p kv.2) = true := by
  unfold set
  split
  · induction m with
    | nil => rfl
    | cons e m ih =>
      rw [List.all_cons, Bool.and_eq_true] at hm
      unfold erase
      split
      · exact ih hm.2
      · rw [List.all_cons, Bool.and_eq_true]
        exact ⟨hm.1, ih hm.2⟩
  · induction m with
    | nil => simpa [insert] using hv
    | cons e m ih =>
      have hall := hm
      rw [List.all_cons, Bool.and_eq_true] at hm
      unfold insert
      split
      · rw [List.all_cons, Bool.and_eq_true]
        exact ⟨hv, hall⟩
      · split
        · rw [List.all_cons, Bool.and_eq_true]
          exact ⟨hv, hm.2⟩
        · rw [List.all_cons, Bool.and_eq_true]
          exact ⟨hm.1, ih hm.2⟩

/-- A unit read from a map has what every listed unit and every unlisted one has. -/
theorem get_of_all {α : Type} (d : Nat → α) (m : SMap α) (k : Nat) (p : α → Bool) (hd : p (d k) = true)
    (hm : m.all (fun kv => p kv.2) = true) : p (get d m k) = true := by
  induction m with
  | nil => exact hd
  | cons e m ih =>
    rw [List.all_cons, Bool.and_eq_true] at hm
    unfold get
    split
    · exact hm.1
    · exact ih hm.2

end Sys2Proof.SMap

/-! Proofs: the operations that leave one-time storage, the Commons banks and the Warden SRAM as they are. -/

namespace Sys2Proof.Machine

/-- The parts of the fabric that the claims about storage look at: the array of one-time storage, the Commons banks and
the Warden SRAM. -/
def Fab.storage (f : Fab) : SMap Nat × SMap Cmn × List Host.Cell := (f.otp.arr, f.cmn, f.wd.sram)

@[simp] theorem Fab.storage_mk (tiles : SMap Tile) (objs : SMap Nat) (flt : SMap Fam) (bind : Bind)
    (copy : SMap FamCopy) (lan : SMap Lantern) (quarter : SMap Quarter) (cross : SMap CrossSide)
    (side : SMap SeamSide) (sp : SMap Sp) (cmn : SMap Cmn) (sk : SMap Sk) (answers : List Ans) (nonce : Nat)
    (dies : SMap Die) (repair : SMap Nat) (cdc : SMap CdcSt) (boot : Bool) (bootAt : Nat) (modeDue : List Nat)
    (defaultMode : Nat) (guyBreaks : Nat) (coldLow : Bool) (warmLow : Bool) (fresh : Nat) (guy : Guy)
    (mbx : SMap Mbx) (map : MapRegs) (xb : Xbar) (otp : Otp) (ve : Ve) (wd : Warden) (rsts : List Rst)
    (coll : Coll) :
    Fab.storage ⟨tiles, objs, flt, bind, copy, lan, quarter, cross, side, sp, cmn, sk, answers, nonce, dies, repair,
      cdc, boot, bootAt, modeDue, defaultMode, guyBreaks, coldLow, warmLow, fresh, guy, mbx, map, xb, otp, ve, wd,
      rsts, coll⟩ = (otp.arr, cmn, wd.sram) := rfl

@[simp] theorem Fab.storage_eta (f : Fab) : (f.otp.arr, f.cmn, f.wd.sram) = f.storage := rfl

/-- An operation that writes none of the three units leaves storage as it is. -/
theorem Fab.storage_congr {f g : Fab} (hotp : g.otp = f.otp) (hcmn : g.cmn = f.cmn) (hwd : g.wd = f.wd) :
    g.storage = f.storage := by
  simp only [Fab.storage, hotp, hcmn, hwd]

/-- A fold of operations that leave storage as it is leaves storage as it is. -/
@[simp] theorem Fab.foldl_storage {α : Type} (g : Fab → α → Fab) (h : ∀ f a, (g f a).storage = f.storage)
    (l : List α) (f : Fab) :
    (l.foldl g f).storage = f.storage := by
  induction l generalizing f with
  | nil => rfl
  | cons a l ih => rw [List.foldl_cons, ih, h]

@[simp] theorem Fab.storage_ite (c : Prop) [Decidable c] (a b : Fab) :
    (if c then a else b).storage = if c then a.storage else b.storage :=
  apply_ite Fab.storage c a b

@[simp] theorem Fab.storage_fst_ite {β : Type} (c : Prop) [Decidable c] (a b : Fab × β) :
    (if c then a else b).1.storage = if c then a.1.storage else b.1.storage :=
  apply_ite (fun x : Fab × β => x.1.storage) c a b

/-- The fabric that a match on a pair names. -/
theorem Fab.storage_of_eq {β : Type} {x : Fab × β} {g : Fab} {b : β} (h : x = (g, b)) : g.storage = x.1.storage := by
  rw [h]

/-- A fold over a pair of a fabric and a result leaves storage as it is when its step does. -/
theorem Fab.foldl_fst_storage {α β : Type} (g : Fab × β → α → Fab × β)
    (h : ∀ x a, (g x a).1.storage = x.1.storage) (l : List α) (x : Fab × β) :
    (l.foldl g x).1.storage = x.1.storage := by
  induction l generalizing x with
  | nil => rfl
  | cons a l ih => rw [List.foldl_cons, ih, h]

/-- Where an operation that may not apply leaves storage as it is, so does trying it. -/
theorem Fab.getD_storage {o : Option Fab} {f : Fab} (h : ∀ g, o = some g → g.storage = f.storage) :
    (o.getD f).storage = f.storage := by
  cases o with
  | none => rfl
  | some g => exact h g rfl

/-- Of the outcome chosen so far and a further one, the one that stands earlier; the first on a tie. -/
def Fab.earlier (b : Option (Nat × Fab)) (x : Nat × Option Fab) : Option (Nat × Fab) :=
  match x.2, b with
  | some g, some (q, _) => if x.1 < q then some (x.1, g) else b
  | some g, none => some (x.1, g)
  | none, _ => b

/-- What can be done at a service port, with its place in program order: its accesses that wait, and its entries. -/
def Fab.spChoices (f : Fab) (d : Nat) (bad : List (Nat × Nat)) : List (Nat × Option Fab) :=
  ((f.spOf d).acc.filter (fun a => a.st.waits)).map (fun a => (a.seq, f.tryAcc d bad a)) ++
    (f.spOf d).pwb.map (fun e => (e.seq, f.tryEnt d bad e))

/-- An advance of a service port makes its entries eligible, and then does the earliest of what can be done. -/
theorem Fab.spAdvance_eq (f : Fab) (d : Nat) (bad : List (Nat × Nat)) :
    f.spAdvance d bad =
      match ((f.wakeEntries d).spChoices d bad).foldl Fab.earlier none with
      | some (_, g) => g
      | none => f.wakeEntries d := rfl

/-- What `earlier` chooses is the one to start with, or stands in the list. -/
theorem Fab.eq_or_mem_of_foldl_earlier {l : List (Nat × Option Fab)} {b : Option (Nat × Fab)} {q : Nat} {g : Fab}
    (h : l.foldl Fab.earlier b = some (q, g)) : b = some (q, g) ∨ (q, some g) ∈ l := by
  induction l generalizing b with
  | nil => exact .inl h
  | cons x l ih =>
    obtain hb | hl := ih h
    · obtain ⟨n, o⟩ := x
      unfold Fab.earlier at hb
      split at hb
      · split at hb
        · cases hb
          simp_all
        · exact .inl hb
      · cases hb
        simp_all
      · exact .inl hb
    · exact .inr (List.mem_cons_of_mem _ hl)

/-! ### Ops -/

@[simp] theorem Fab.modCdc_storage (f : Fab) (x : Cdc) (g : CdcSt → CdcSt) :
    (f.modCdc x g).storage = f.storage := by
  simp [Fab.modCdc]

@[simp] theorem Fab.setTile_storage (f : Fab) (t : Nat) (x : Tile) :
    (f.setTile t x).storage = f.storage := by
  simp [Fab.setTile]

@[simp] theorem Fab.modTile_storage (f : Fab) (t : Nat) (g : Tile → Tile) :
    (f.modTile t g).storage = f.storage := by
  simp [Fab.modTile]

@[simp] theorem Fab.modNi_storage (f : Fab) (t : Nat) (g : Ni → Ni) :
    (f.modNi t g).storage = f.storage := by
  simp [Fab.modNi]

@[simp] theorem Fab.modCopy_storage (f : Fab) (d : Nat) (g : FamCopy → FamCopy) :
    (f.modCopy d g).storage = f.storage := by
  simp [Fab.modCopy]

@[simp] theorem Fab.modLan_storage (f : Fab) (d : Nat) (g : Lantern → Lantern) :
    (f.modLan d g).storage = f.storage := by
  simp [Fab.modLan]

@[simp] theorem Fab.modBind_storage (f : Fab) (g : Bind → Bind) :
    (f.modBind g).storage = f.storage := by
  simp [Fab.modBind]

@[simp] theorem Fab.modDie_storage (f : Fab) (d : Nat) (g : Die → Die) :
    (f.modDie d g).storage = f.storage := by
  simp [Fab.modDie]

@[simp] theorem Fab.modSp_storage (f : Fab) (d : Nat) (g : Sp → Sp) :
    (f.modSp d g).storage = f.storage := by
  simp [Fab.modSp]

@[simp] theorem Fab.modSk_storage (f : Fab) (n : Nat) (g : Sk → Sk) :
    (f.modSk n g).storage = f.storage := by
  simp [Fab.modSk]

@[simp] theorem Fab.answer_storage (f : Fab) (who code : Nat) (data : Nat) :
    (f.answer who code data).storage = f.storage := by
  simp [Fab.answer]

@[simp] theorem Fab.setO_storage (f : Fab) (sc : Scope) (num idx sub v : Nat) :
    (f.setO sc num idx sub v).storage = f.storage := by
  simp [Fab.setO]

@[simp] theorem Fab.bump_storage (f : Fab) (sc : Scope) (num idx sub : Nat) (n : Nat) :
    (f.bump sc num idx sub n).storage = f.storage := by
  simp [Fab.bump]

@[simp] theorem Fab.bumpT_storage (f : Fab) (t idx : Nat) (n : Nat) :
    (f.bumpT t idx n).storage = f.storage := by
  simp [Fab.bumpT]

@[simp] theorem Fab.peak_storage (f : Fab) (sc : Scope) (num idx v : Nat) :
    (f.peak sc num idx v).storage = f.storage := by
  simp [Fab.peak]

@[simp] theorem Fab.cdcEvent_storage (f : Fab) (x : Cdc) :
    (f.cdcEvent x).storage = f.storage := by
  simp [Fab.cdcEvent]

@[simp] theorem Fab.cdcCarry_storage (f : Fab) (x : Cdc) (v : Nat) :
    (f.cdcCarry x v).storage = f.storage := by
  simp [Fab.cdcCarry]

@[simp] theorem Fab.event_storage (f : Fab) (t code q : Nat) (n : Nat) :
    (f.event t code q n).storage = f.storage := by
  simp [Fab.event]

@[simp] theorem Fab.dropObjs_storage (f : Fab) (p : Nat → Bool) :
    (f.dropObjs p).storage = f.storage := by
  simp [Fab.dropObjs]

@[simp] theorem Fab.askWake_storage (f : Fab) (t : Nat) :
    (f.askWake t).storage = f.storage := by
  simp [Fab.askWake]

@[simp] theorem Fab.setFam_storage (f : Fab) (k : Nat) (x : Fam) :
    (f.setFam k x).storage = f.storage := by
  simp [Fab.setFam]

@[simp] theorem Fab.modFam_storage (f : Fab) (k : Nat) (g : Fam → Fam) :
    (f.modFam k g).storage = f.storage := by
  simp [Fab.modFam]

@[simp] theorem Fab.raise_storage (f : Fab) (key code i0 i1 i2 : Nat) :
    (f.raise key code i0 i1 i2).storage = f.storage := by
  simp [Fab.raise]

@[simp] theorem Fab.raiseC_storage (f : Fab) (key code i0 i1 i2 : Nat) :
    (f.raiseC key code i0 i1 i2).storage = f.storage := by
  simp [Fab.raiseC]

@[simp] theorem Fab.raiseMore_storage (f : Fab) (key code i0 i1 i2 : Nat) :
    (f.raiseMore key code i0 i1 i2).storage = f.storage := by
  simp [Fab.raiseMore]

@[simp] theorem Fab.endC_storage (f : Fab) (key code : Nat) :
    (f.endC key code).storage = f.storage := by
  simp [Fab.endC]

@[simp] theorem Fab.raiseT_storage (f : Fab) (t code i0 i1 i2 : Nat) :
    (f.raiseT t code i0 i1 i2).storage = f.storage := by
  simp [Fab.raiseT]

/-! ### MgmtOps -/

@[simp] theorem Fab.modMap_storage (f : Fab) (g : MapRegs → MapRegs) :
    (f.modMap g).storage = f.storage := by
  simp [Fab.modMap]

@[simp] theorem Fab.modWd_storage (f : Fab) (g : Warden → Warden) (h : (g f.wd).sram = f.wd.sram) :
    (f.modWd g).storage = f.storage := by
  simp only [Fab.modWd, Fab.storage, h]

@[simp] theorem Fab.measured_storage (f : Fab) :
    (f.measured).storage = f.storage := by
  simp [Fab.measured]

@[simp] theorem Fab.newPasses_storage (f : Fab) :
    (f.newPasses).storage = f.storage := by
  simp [Fab.newPasses]

@[simp] theorem Fab.startPass_storage (f : Fab) (q : Nat) :
    (f.startPass q).storage = f.storage := by
  simp [Fab.startPass]

@[simp] theorem Fab.configChange_storage (f : Fab) :
    (f.configChange).storage = f.storage := by
  simp [Fab.configChange]

@[simp] theorem Fab.shadowDie_storage (f : Fab) (d : Nat) (sc : Scope) (num idx sub v : Nat) :
    (f.shadowDie d sc num idx sub v).storage = f.storage := by
  simp [Fab.shadowDie]

@[simp] theorem Fab.shadowAll_storage (f : Fab) (sc : Scope) (num idx sub v : Nat) :
    (f.shadowAll sc num idx sub v).storage = f.storage := by
  simp [Fab.shadowAll]

/-! ### SeamOps -/

@[simp] theorem Fab.modX_storage (f : Fab) (ss c : Nat) (g : CrossSide → CrossSide) :
    (f.modX ss c g).storage = f.storage := by
  simp [Fab.modX]

@[simp] theorem Fab.modSide_storage (f : Fab) (ss : Nat) (g : SeamSide → SeamSide) :
    (f.modSide ss g).storage = f.storage := by
  simp [Fab.modSide]

@[simp] theorem Fab.sbCode_storage (f : Fab) (ss : Nat) (m : SbMsg) :
    (f.sbCode ss m).storage = f.storage := by
  simp [Fab.sbCode]

@[simp] theorem Fab.sbSend_storage (f : Fab) (ss : Nat) (m : SbMsg) :
    (f.sbSend ss m).storage = f.storage := by
  simp [Fab.sbSend]

@[simp] theorem Fab.launch_storage (f : Fab) (ss c : Nat) (fr : Frame) :
    (f.launch ss c fr).storage = f.storage := by
  simp [Fab.launch]

@[simp] theorem Fab.emit_storage (f : Fab) (ss c : Nat) (x0 : Nat) :
    (f.emit ss c x0).storage = f.storage := by
  induction x0 generalizing f with
  | zero => rfl
  | succ n ih =>
    unfold Fab.emit
    split
    · split <;> simp [ih]
    · rfl

@[simp] theorem Fab.emitNull_storage (f : Fab) (ss c : Nat) :
    (f.emitNull ss c).storage = f.storage := by
  simp [Fab.emitNull]

@[simp] theorem Fab.seamSend_storage (f : Fab) (ss c : Nat) (ph : List (Nat × Flit)) :
    (f.seamSend ss c ph).storage = f.storage := by
  simp [Fab.seamSend]

@[simp] theorem Fab.seamCredit_storage (f : Fab) (ss c vc : Nat) :
    (f.seamCredit ss c vc).storage = f.storage := by
  simp [Fab.seamCredit]

@[simp] theorem Fab.seamCmd_storage (f : Fab) (ss c : Nat) (cmd : LaneCmd) (arg : Nat) :
    (f.seamCmd ss c cmd arg).storage = f.storage := by
  simp [Fab.seamCmd]

@[simp] theorem Fab.driveAwake_storage (f : Fab) (ss c : Nat) (level : Bool) :
    (f.driveAwake ss c level).storage = f.storage := by
  simp [Fab.driveAwake]

@[simp] theorem Fab.modSeamOut_storage (f : Fab) (ss c : Nat) (g : OutPort → OutPort) :
    (f.modSeamOut ss c g).storage = f.storage := by
  simp [Fab.modSeamOut]

@[simp] theorem Fab.takeAwake_storage (f : Fab) (ss c : Nat) (level : Bool) :
    (f.takeAwake ss c level).storage = f.storage := by
  simp [Fab.takeAwake]

/-! ### Router -/

@[simp] theorem Fab.modOut_storage (f : Fab) (t p : Nat) (g : OutPort → OutPort) :
    (f.modOut t p g).storage = f.storage := by
  simp [Fab.modOut]

@[simp] theorem Fab.modIn_storage (f : Fab) (t p vc : Nat) (g : InVC → InVC) :
    (f.modIn t p vc g).storage = f.storage := by
  simp [Fab.modIn]

@[simp] theorem Fab.setWire_storage (f : Fab) (t p : Nat) (w : List (List (Nat × Flit))) :
    (f.setWire t p w).storage = f.storage := by
  simp [Fab.setWire]

@[simp] theorem Fab.sendPhit_storage (f : Fab) (t p : Nat) (ph : List (Nat × Flit)) :
    (f.sendPhit t p ph).storage = f.storage := by
  simp [Fab.sendPhit]

@[simp] theorem Fab.creditStart_storage (f : Fab) (t snd vc : Nat) :
    (f.creditStart t snd vc).storage = f.storage := by
  simp [Fab.creditStart]

@[simp] theorem Fab.freeIn_storage (f : Fab) (t p vc : Nat) :
    (f.freeIn t p vc).storage = f.storage := by
  unfold Fab.freeIn
  split <;> simp

@[simp] theorem Fab.hopRecord_storage (f : Fab) (t kind inp outp : Nat) (esc : Bool) (wait credits : Nat)
    (p : Packet) :
    (f.hopRecord t kind inp outp esc wait credits p).storage = f.storage := by
  simp [Fab.hopRecord]

@[simp] theorem Fab.countDiscard_storage (f : Fab) (t inp p : Nat) (h : Flit) :
    (f.countDiscard t inp p h).storage = f.storage := by
  simp only [Fab.countDiscard]
  repeat' split
  all_goals simp

@[simp] theorem Fab.cutOutput_storage (f : Fab) (t p : Nat) (cnt : Fab → Fab)
    (h : ∀ g, (cnt g).storage = g.storage) : (f.cutOutput t p cnt).storage = f.storage := by
  simp [Fab.cutOutput, h]

@[simp] theorem Fab.adapterSlot_storage (f : Fab) (t p ss c slot : Nat) (vf : Nat × Flit) (e : Lchk) :
    (f.adapterSlot t p ss c slot vf e).1.storage = f.storage := by
  simp only [Fab.adapterSlot]
  repeat' split
  all_goals simp

@[simp] theorem Fab.adapterPhit_storage (f : Fab) (t p ss c : Nat) (link : Nat → Lchk) (x0 : Nat) (x1 : List
    (Nat × Flit)) :
    (f.adapterPhit t p ss c link x0 x1).1.storage = f.storage := by
  induction x1 generalizing f x0 with
  | nil => rfl
  | cons vf rest ih => simp [Fab.adapterPhit, ih]

@[simp] theorem Fab.deliver_storage (f : Fab) (t p : Nat) (link : Nat → Lchk) (ph : List (Nat × Flit)) :
    (f.deliver t p link ph).storage = f.storage := by
  unfold Fab.deliver
  repeat' split
  all_goals simp

@[simp] theorem Fab.grant_storage (f : Fab) (t : Nat) (r : Req) :
    (f.grant t r).1.storage = f.storage := by
  simp only [Fab.grant]
  repeat' split
  all_goals simp

@[simp] theorem Fab.allocSlot_storage (rs : List Req) (t p : Nat) (fa : Fab × Alloc) :
    (Fab.allocSlot rs t p fa).1.storage = fa.1.storage := by
  unfold Fab.allocSlot
  dsimp only
  split <;> simp

@[simp] theorem Fab.knock_storage (f : Fab) (t : Nat) (rs : List Req) :
    (f.knock t rs).storage = f.storage := by
  simp [Fab.knock]

@[simp] theorem Fab.ageHeads_storage (f : Fab) (t : Nat) (credit : Req → Bool) (rs : List Req) :
    (f.ageHeads t credit rs).storage = f.storage := by
  simp [Fab.ageHeads]

@[simp] theorem Fab.outputEvents_storage (f : Fab) (t : Nat) (rs : List Req) :
    (f.outputEvents t rs).storage = f.storage := by
  simp [Fab.outputEvents]

@[simp] theorem Fab.pumpNi_storage (f : Fab) (t : Nat) :
    (f.pumpNi t).storage = f.storage := by
  simp [Fab.pumpNi]

@[simp] theorem Fab.pumpUnit_storage (f : Fab) (t : Nat) :
    (f.pumpUnit t).storage = f.storage := by
  simp [Fab.pumpUnit]

@[simp] theorem Fab.modEject_storage (f : Fab) (t slot : Nat) (g : Eject → Eject) :
    (f.modEject t slot g).storage = f.storage := by
  simp [Fab.modEject]

@[simp] theorem Fab.drainList_storage (f : Fab) (t slot : Nat) (room : Tile → Nat → Flit → Bool) (x0 : List Nat)
    (x1 : List (Nat × Flit)) :
    (f.drainList t slot room x0 x1).storage = f.storage := by
  induction x1 generalizing f x0 with
  | nil => rfl
  | cons vx rest ih =>
    unfold Fab.drainList
    split <;> simp [ih]

@[simp] theorem Fab.drain_storage (f : Fab) (t slot : Nat) (room : Tile → Nat → Flit → Bool) :
    (f.drain t slot room).storage = f.storage := by
  simp [Fab.drain]

@[simp] theorem Fab.drainNi_storage (f : Fab) (t : Nat) :
    (f.drainNi t).storage = f.storage := by
  simp [Fab.drainNi]

@[simp] theorem Fab.drainUnit_storage (f : Fab) (t : Nat) :
    (f.drainUnit t).storage = f.storage := by
  simp [Fab.drainUnit]

@[simp] theorem Fab.countCycle_storage (f : Fab) (t k carry : Nat) (x0 : Nat) :
    (f.countCycle t k carry x0).storage = f.storage := by
  induction x0 generalizing f k carry with
  | zero => rfl
  | succ n ih => simp [Fab.countCycle, ih]

@[simp] theorem Fab.idleSettle_storage (f : Fab) (t n : Nat) :
    (f.idleSettle t n).storage = f.storage := by
  simp [Fab.idleSettle]

@[simp] theorem Fab.pdSettle_storage (f : Fab) (t : Nat) :
    (f.pdSettle t).storage = f.storage := by
  simp [Fab.pdSettle]

@[simp] theorem Fab.idleMarks_storage (f : Fab) (t : Nat) :
    (f.idleMarks t).storage = f.storage := by
  simp [Fab.idleMarks]

@[simp] theorem Fab.endCycle_storage (f : Fab) (t : Nat) :
    (f.endCycle t).storage = f.storage := by
  simp [Fab.endCycle]

@[simp] theorem Fab.allocate_storage (f : Fab) (t : Nat) (rs : List Req) :
    (f.allocate t rs).1.storage = f.storage := by
  unfold Fab.allocate
  rw [Fab.foldl_fst_storage _ (by simp), Fab.foldl_fst_storage _ (by simp)]

@[simp] theorem Fab.routerCycle_storage (f : Fab) (t : Nat) (links : List (Nat × Lchk)) :
    (f.routerCycle t links).storage = f.storage := by
  simp [Fab.routerCycle]

@[simp] theorem Fab.takeSlot_storage (f : Fab) (t p slot : Nat) (vf : Nat × Flit) (e : LinkErr) :
    (f.takeSlot t p slot vf e).storage = f.storage := by
  unfold Fab.takeSlot
  split <;> simp

@[simp] theorem Fab.takePhit_storage (f : Fab) (t p : Nat) (ph : List (Nat × Flit)) (ea eb : LinkErr) :
    (f.takePhit t p ph ea eb).storage = f.storage := by
  unfold Fab.takePhit
  split <;> simp

@[simp] theorem Fab.leaveLanding_storage (f : Fab) (t p ss c : Nat) (ea eb : LinkErr) :
    (f.leaveLanding t p ss c ea eb).storage = f.storage := by
  simp [Fab.leaveLanding]

@[simp] theorem Fab.awakeRise_storage (f : Fab) (t p : Nat) :
    (f.awakeRise t p).storage = f.storage := by
  simp [Fab.awakeRise]

/-! ### Sched -/

@[simp] theorem Fab.modSched_storage (f : Fab) (w : Who) (dir : Nat) (g : Sched → Sched) :
    (f.modSched w dir g).storage = f.storage := by
  unfold Fab.modSched
  split <;> simp

@[simp] theorem Fab.modCl_storage (f : Fab) (w : Who) (dir s : Nat) (g : ClassState → ClassState) :
    (f.modCl w dir s g).storage = f.storage := by
  simp [Fab.modCl]

@[simp] theorem Fab.join_storage (f : Fab) (w : Who) (dir : Nat) (p : Packet) (stg : Option Nat) (seq : Nat)
    (ans own : Bool) :
    (f.join w dir p stg seq ans own).storage = f.storage := by
  simp [Fab.join]

@[simp] theorem Fab.takeSeq_storage (f : Fab) (w : Who) (dir : Nat) :
    (f.takeSeq w dir).1.storage = f.storage := by
  simp [Fab.takeSeq]

@[simp] theorem Fab.joinLast_storage (f : Fab) (w : Who) (dir : Nat) (p : Packet) :
    (f.joinLast w dir p).storage = f.storage := by
  simp [Fab.joinLast]

@[simp] theorem Fab.refill_storage (f : Fab) (w : Who) (dir s : Nat) :
    (f.refill w dir s).storage = f.storage := by
  simp [Fab.refill]

@[simp] theorem Fab.countWaits_storage (f : Fab) (w : Who) (dir s : Nat) :
    (f.countWaits w dir s).storage = f.storage := by
  unfold Fab.countWaits
  refine Fab.foldl_storage _ (fun f mc => ?_) _ _
  split <;> simp

@[simp] theorem Fab.markDormant_storage (f : Fab) (w : Who) (dir s : Nat) :
    (f.markDormant w dir s).storage = f.storage := by
  simp [Fab.markDormant]

@[simp] theorem Fab.refresh_storage (f : Fab) (w : Who) (dir : Nat) :
    (f.refresh w dir).storage = f.storage := by
  simp [Fab.refresh]

@[simp] theorem Fab.wakeQueues_storage (f : Fab) (w : Who) (dir : Nat) (elig : List Nat) :
    (f.wakeQueues w dir elig).storage = f.storage := by
  simp [Fab.wakeQueues]

@[simp] theorem Fab.settleSched_storage (f : Fab) (w : Who) (dir : Nat) (ok : Nat → Nat → QPkt → Bool) :
    (f.settleSched w dir ok).storage = f.storage := by
  simp [Fab.settleSched]

@[simp] theorem Fab.selectPkt_storage (f : Fab) (w : Who) (dir : Nat) (ok : Nat → Nat → QPkt → Bool) :
    (f.selectPkt w dir ok).1.storage = f.storage := by
  simp only [Fab.selectPkt]
  repeat' split
  all_goals simp

@[simp] theorem Fab.histSample_storage (f : Fab) (w : Who) (dir : Nat) :
    (f.histSample w dir).storage = f.storage := by
  simp [Fab.histSample]

/-! ### Fam -/

@[simp] theorem Fab.famUe_storage (f : Fab) (d info : Nat) :
    (f.famUe d info).storage = f.storage := by
  simp [Fab.famUe]

@[simp] theorem Fab.violation_storage (f : Fab) (sc : Scope) (num src addr kind master region : Nat) :
    (f.violation sc num src addr kind master region).storage = f.storage := by
  simp [Fab.violation]

/-! ### NiOps -/

@[simp] theorem Fab.settleKnock_storage (f : Fab) (t : Nat) :
    (f.settleKnock t).storage = f.storage := by
  simp [Fab.settleKnock]

@[simp] theorem Fab.stgFree_storage (f : Fab) (t mc n : Nat) :
    (f.stgFree t mc n).storage = f.storage := by
  simp [Fab.stgFree]

@[simp] theorem Fab.stgDrop_storage (f : Fab) (t mc n : Nat) (odd : List Nat) :
    (f.stgDrop t mc n odd).storage = f.storage := by
  simp [Fab.stgDrop]

@[simp] theorem Fab.dropStaged_storage (f : Fab) (t : Nat) (s : Staged) :
    (f.dropStaged t s).storage = f.storage := by
  simp [Fab.dropStaged]

@[simp] theorem Fab.stamp_storage (f : Fab) (t : Nat) (s : Staged) :
    (f.stamp t s).1.storage = f.storage := by
  simp [Fab.stamp]

@[simp] theorem Fab.setTag_storage (f : Fab) (t k : Nat) (x : Tag) :
    (f.setTag t k x).storage = f.storage := by
  simp [Fab.setTag]

@[simp] theorem Fab.freeTag_storage (f : Fab) (t k : Nat) :
    (f.freeTag t k).storage = f.storage := by
  simp [Fab.freeTag]

@[simp] theorem Fab.quarTag_storage (f : Fab) (t k : Nat) :
    (f.quarTag t k).storage = f.storage := by
  simp [Fab.quarTag]

@[simp] theorem Fab.useTag_storage (f : Fab) (t k : Nat) :
    (f.useTag t k).storage = f.storage := by
  simp [Fab.useTag]

@[simp] theorem Fab.outTag_storage (f : Fab) (t k : Nat) (req : Flit) (tgt : Option (Nat × Nat)) :
    (f.outTag t k req tgt).storage = f.storage := by
  simp [Fab.outTag]

@[simp] theorem Fab.returnNamed_storage (f : Fab) (t : Nat) (h : Flit) :
    (f.returnNamed t h).storage = f.storage := by
  simp [Fab.returnNamed]

@[simp] theorem Fab.niSend_storage (f : Fab) (t : Nat) (p : Packet) :
    (f.niSend t p).storage = f.storage := by
  simp [Fab.niSend]

@[simp] theorem Fab.niDeliver_storage (f : Fab) (t : Nat) (p : Packet) :
    (f.niDeliver t p).storage = f.storage := by
  simp [Fab.niDeliver]

@[simp] theorem Fab.answerFront_storage (f : Fab) (t : Nat) (ps : List Packet) :
    (f.answerFront t ps).storage = f.storage := by
  simp [Fab.answerFront]

@[simp] theorem Fab.ownAnswer_storage (f : Fab) (t k : Nat) (ps : List Packet) :
    (f.ownAnswer t k ps).storage = f.storage := by
  simp [Fab.ownAnswer]

@[simp] theorem Fab.stray_storage (f : Fab) (t : Nat) (p : Packet) (kind : Nat) :
    (f.stray t p kind).storage = f.storage := by
  simp [Fab.stray]

@[simp] theorem Fab.downAnswer_storage (f : Fab) (t : Nat) (p : Packet) :
    (f.downAnswer t p).storage = f.storage := by
  unfold Fab.downAnswer
  repeat' split
  all_goals simp

@[simp] theorem Fab.modSpq_storage (f : Fab) (t i : Nat) (g : SpillQ → SpillQ) :
    (f.modSpq t i g).storage = f.storage := by
  simp [Fab.modSpq]

@[simp] theorem Fab.egressJoin_storage (f : Fab) (t : Nat) (p : Packet) :
    (f.egressJoin t p).storage = f.storage := by
  unfold Fab.egressJoin
  repeat' split
  all_goals simp

@[simp] theorem Fab.synthesise_storage (f : Fab) (t k : Nat) :
    (f.synthesise t k).1.storage = f.storage := by
  simp [Fab.synthesise]

@[simp] theorem Fab.dropEgressParts_storage (f : Fab) (t k : Nat) :
    (f.dropEgressParts t k).1.storage = f.storage := by
  simp [Fab.dropEgressParts]

@[simp] theorem Fab.unqueue_storage (f : Fab) (t k : Nat) :
    (f.unqueue t k).storage = f.storage := by
  simp [Fab.unqueue]

@[simp] theorem Fab.endFlush_storage (f : Fab) (t : Nat) (h : FlushHold) :
    (f.endFlush t h).storage = f.storage := by
  simp [Fab.endFlush]

@[simp] theorem Fab.endFlushTag_storage (f : Fab) (t k : Nat) :
    (f.endFlushTag t k).storage = f.storage := by
  unfold Fab.endFlushTag
  split <;> simp

@[simp] theorem Fab.toSk_storage (f : Fab) (t : Nat) (k : EnvKind) (i flits seq : Nat) (carried : Packet) :
    (f.toSk t k i flits seq carried).storage = f.storage := by
  unfold Fab.toSk
  split <;> simp

@[simp] theorem Fab.abandonNi_storage (f : Fab) (t i : Nat) (byNi : Bool) :
    (f.abandonNi t i byNi).storage = f.storage := by
  simp [Fab.abandonNi]

@[simp] theorem Fab.goneTag_storage (f : Fab) (t k : Nat) :
    (f.goneTag t k).storage = f.storage := by
  simp [Fab.goneTag]

@[simp] theorem Fab.portBecomesGone_storage (f : Fab) (t cause : Nat) :
    (f.portBecomesGone t cause).storage = f.storage := by
  simp [Fab.portBecomesGone]

@[simp] theorem Fab.portGoneAt_storage (f : Fab) (t d : Nat) :
    (f.portGoneAt t d).storage = f.storage := by
  unfold Fab.portGoneAt
  rw [Fab.foldl_storage _ (fun f h => ?_), Fab.foldl_storage _ (by simp)]
  split <;> simp

/-! ### Ingress -/

@[simp] theorem Fab.dropRx_storage (f : Fab) (t : Nat) (r : RxPkt) (last : Bool) :
    (f.dropRx t r last).storage = f.storage := by
  unfold Fab.dropRx
  repeat' split
  all_goals simp

@[simp] theorem Fab.malformed_storage (f : Fab) (t : Nat) (h : Flit) (beats code : Nat) :
    (f.malformed t h beats code).storage = f.storage := by
  simp [Fab.malformed]

@[simp] theorem Fab.openRx_storage (f : Fab) (t mc : Nat) (first : Bool) (h : Flit) :
    (f.openRx t mc first h).1.storage = f.storage := by
  unfold Fab.openRx
  split <;> simp

@[simp] theorem Fab.beatParity_storage (f : Fab) (t : Nat) (first : Bool) (data fails : Nat) :
    (f.beatParity t first data fails).storage = f.storage := by
  simp [Fab.beatParity]

@[simp] theorem Fab.takeBeat_storage (f : Fab) (t : Nat) (r : RxPkt) (data : BitVec 640) (mc : Nat)
    (first last psn : Bool) (par : Nat) :
    (f.takeBeat t r data mc first last psn par).storage = f.storage := by
  simp [Fab.takeBeat]

@[simp] theorem Fab.police_storage (f : Fab) (t len : Nat) :
    (f.police t len).1.storage = f.storage := by
  simp [Fab.police]

@[simp] theorem Fab.sample_storage (f : Fab) (t : Nat) :
    (f.sample t).1.storage = f.storage := by
  simp [Fab.sample]

@[simp] theorem Fab.injectReady_storage (f : Fab) (t : Nat) (s : Staged) (stg : Option Nat) (dt ds sc : Nat)
    (addr : Option Nat) :
    (f.injectReady t s stg dt ds sc addr).storage = f.storage := by
  unfold Fab.injectReady
  repeat' split
  all_goals simp

@[simp] theorem Fab.claimTag_storage (f : Fab) (t : Nat) (p : Packet) :
    (f.claimTag t p).storage = f.storage := by
  simp [Fab.claimTag]

@[simp] theorem Fab.holdReq_storage (f : Fab) (t : Nat) (p : Packet) :
    (f.holdReq t p).storage = f.storage := by
  simp [Fab.holdReq]

@[simp] theorem Fab.leave_storage (f : Fab) (t : Nat) (s : Staged) (stg : Option Nat) :
    (f.leave t s stg).storage = f.storage := by
  unfold Fab.leave
  split <;> simp

@[simp] theorem Fab.violate_storage (f : Fab) (t : Nat) (s : Staged) (stg : Option Nat)
    (sc kind cause region addr : Nat) (straddle : Bool) :
    (f.violate t s stg sc kind cause region addr straddle).storage = f.storage := by
  simp [Fab.violate]

@[simp] theorem Fab.poisonAnswer_storage (f : Fab) (t : Nat) (s : Staged) (stg : Option Nat) (sc : Nat) :
    (f.poisonAnswer t s stg sc).storage = f.storage := by
  simp [Fab.poisonAnswer]

@[simp] theorem Fab.enterHold_storage (f : Fab) (t : Nat) (s : Staged) (stg : Option Nat) :
    (f.enterHold t s stg).storage = f.storage := by
  simp [Fab.enterHold]

@[simp] theorem Fab.park_storage (f : Fab) (t : Nat) (s : Staged) (stg : Option Nat) (sc : Nat) :
    (f.park t s stg sc).storage = f.storage := by
  simp [Fab.park]

@[simp] theorem Fab.famDecide_storage (f : Fab) (t : Nat) (s : Staged) (stg : Option Nat) (ls : List LensLine) :
    (f.famDecide t s stg ls).storage = f.storage := by
  simp only [Fab.famDecide]
  repeat' split
  all_goals simp

@[simp] theorem Fab.pbrDecide_storage (f : Fab) (t : Nat) (s : Staged) (ue : Bool) :
    (f.pbrDecide t s ue).storage = f.storage := by
  simp [Fab.pbrDecide]

@[simp] theorem Fab.responseReady_storage (f : Fab) (t : Nat) (s : Staged) :
    (f.responseReady t s).storage = f.storage := by
  simp [Fab.responseReady]

@[simp] theorem Fab.famLookup_storage (f : Fab) (t : Nat) (s : Staged) (ue : Bool) :
    (f.famLookup t s ue).storage = f.storage := by
  simp [Fab.famLookup]

@[simp] theorem Fab.stagingError_storage (f : Fab) (t : Nat) (s : Staged) (e : Ecc) :
    (f.stagingError t s e).1.storage = f.storage := by
  unfold Fab.stagingError
  split <;> simp

/-! ### Egress -/

@[simp] theorem Fab.beginHold_storage (f : Fab) (t s : Nat) :
    (f.beginHold t s).storage = f.storage := by
  unfold Fab.beginHold
  split <;> simp

@[simp] theorem Fab.beginFlush_storage (f : Fab) (t : Nat) :
    (f.beginFlush t).storage = f.storage := by
  simp [Fab.beginFlush]

@[simp] theorem Fab.injected_storage (f : Fab) (t : Nat) (e : QPkt) :
    (f.injected t e).1.storage = f.storage := by
  unfold Fab.injected
  split <;> simp

@[simp] theorem Fab.descUe_storage (f : Fab) (t a : Nat) :
    (f.descUe t a).storage = f.storage := by
  simp [Fab.descUe]

@[simp] theorem Fab.loseInjection_storage (f : Fab) (t : Nat) (e : QPkt) (a : Nat) :
    (f.loseInjection t e a).storage = f.storage := by
  unfold Fab.loseInjection
  split <;> simp

@[simp] theorem Fab.injectNi_storage (f : Fab) (t : Nat) (ue : Option Nat) :
    (f.injectNi t ue).storage = f.storage := by
  unfold Fab.injectNi
  dsimp only
  split
  · simp
  · split
    case h_1 heq => simp [Fab.storage_of_eq heq]
    case h_2 heq => split <;> simp [Fab.storage_of_eq heq]

@[simp] theorem Fab.injectSp_storage (f : Fab) (d : Nat) (ue : Option Nat) :
    (f.injectSp d ue).storage = f.storage := by
  unfold Fab.injectSp
  dsimp only
  split
  · simp
  · split
    case h_1 heq => simp [Fab.storage_of_eq heq]
    case h_2 heq => split <;> simp [Fab.storage_of_eq heq]

@[simp] theorem Fab.headerUe_storage (f : Fab) (key t : Nat) (p : Packet) (syn : Nat) :
    (f.headerUe key t p syn).storage = f.storage := by
  simp [Fab.headerUe]

@[simp] theorem Fab.arrived_storage (f : Fab) (t : Nat) (p : Packet) :
    (f.arrived t p).storage = f.storage := by
  simp [Fab.arrived]

@[simp] theorem Fab.partDelivered_storage (f : Fab) (t : Nat) (p : Packet) :
    (f.partDelivered t p).storage = f.storage := by
  simp only [Fab.partDelivered]
  repeat' split
  all_goals simp

@[simp] theorem Fab.eapDeliver_storage (f : Fab) (t : Nat) (p : Packet) :
    (f.eapDeliver t p).storage = f.storage := by
  simp [Fab.eapDeliver]

@[simp] theorem Fab.flushDone_storage (f : Fab) (t : Nat) (p : Packet) :
    (f.flushDone t p).storage = f.storage := by
  simp [Fab.flushDone]

@[simp] theorem Fab.loseEgress_storage (f : Fab) (t : Nat) (p : Packet) (a : Nat) :
    (f.loseEgress t p a).storage = f.storage := by
  simp [Fab.loseEgress]

@[simp] theorem Fab.egressNi_storage (f : Fab) (t : Nat) (ue : Option Nat) :
    (f.egressNi t ue).storage = f.storage := by
  unfold Fab.egressNi
  split
  · rfl
  · split
    case h_1 heq => simp [Fab.storage_of_eq heq]
    case h_2 heq =>
      split
      · simp [Fab.storage_of_eq heq]
      · split <;> simp [Fab.storage_of_eq heq]

@[simp] theorem Fab.egressSp_storage (f : Fab) (d : Nat) (ue : Option Nat) :
    (f.egressSp d ue).storage = f.storage := by
  unfold Fab.egressSp
  dsimp only
  split
  · rfl
  · split
    case h_1 heq => simp [Fab.storage_of_eq heq]
    case h_2 heq => split <;> simp [Fab.storage_of_eq heq]

/-! ### SpOps -/

@[simp] theorem Fab.spAnswer_storage (f : Fab) (d : Nat) (m : SpMsg) :
    (f.spAnswer d m).storage = f.storage := by
  simp [Fab.spAnswer]

@[simp] theorem Fab.spFinish_storage (f : Fab) (d : Nat) (a : SpAcc) (result data : Nat) :
    (f.spFinish d a result data).storage = f.storage := by
  unfold Fab.spFinish
  split <;> simp

@[simp] theorem Fab.setSpTag_storage (f : Fab) (d k : Nat) (x : Tag) :
    (f.setSpTag d k x).storage = f.storage := by
  simp [Fab.setSpTag]

@[simp] theorem Fab.spOut_storage (f : Fab) (d k : Nat) (req : Flit) (tgt : Option (Nat × Nat)) :
    (f.spOut d k req tgt).storage = f.storage := by
  simp [Fab.spOut]

@[simp] theorem Fab.spArrives_storage (f : Fab) (d : Nat) (p : Packet) (hck : Lchk) :
    (f.spArrives d p hck).1.storage = f.storage := by
  unfold Fab.spArrives
  repeat' split
  all_goals simp

@[simp] theorem Fab.buffer_storage (f : Fab) (d stream addr bytes data seq : Nat) :
    (f.buffer d stream addr bytes data seq).storage = f.storage := by
  simp only [Fab.buffer]
  repeat' split
  all_goals simp

@[simp] theorem Fab.makeEligible_storage (f : Fab) (d : Nat) (which : PwbEnt → Bool) :
    (f.makeEligible d which).storage = f.storage := by
  simp [Fab.makeEligible]

@[simp] theorem Fab.spViolate_storage (f : Fab) (d k op addr cause region : Nat) (straddle : Bool) :
    (f.spViolate d k op addr cause region straddle).storage = f.storage := by
  simp [Fab.spViolate]

@[simp] theorem Fab.spPark_storage (f : Fab) (d k : Nat) :
    (f.spPark d k).storage = f.storage := by
  simp [Fab.spPark]

@[simp] theorem Fab.spUnqueue_storage (f : Fab) (d k : Nat) :
    (f.spUnqueue d k).storage = f.storage := by
  simp [Fab.spUnqueue]

@[simp] theorem Fab.storeFault_storage (f : Fab) (d : Nat) (e : PwbEnt) (kind : Nat) :
    (f.storeFault d e kind).storage = f.storage := by
  simp [Fab.storeFault]

@[simp] theorem Fab.setAcc_storage (f : Fab) (d : Nat) (a : SpAcc) :
    (f.setAcc d a).storage = f.storage := by
  simp [Fab.setAcc]

@[simp] theorem Fab.setEnt_storage (f : Fab) (d : Nat) (e : PwbEnt) :
    (f.setEnt d e).storage = f.storage := by
  simp [Fab.setEnt]

@[simp] theorem Fab.dropEnt_storage (f : Fab) (d : Nat) (e : PwbEnt) :
    (f.dropEnt d e).storage = f.storage := by
  simp [Fab.dropEnt]

@[simp] theorem Fab.spJoin_storage (f : Fab) (d : Nat) (p : Packet) (ord : Option Nat) :
    (f.spJoin d p ord).storage = f.storage := by
  unfold Fab.spJoin
  split <;> simp

@[simp] theorem Fab.spPlace_storage (f : Fab) (d : Nat) (ord : Option Nat) :
    (f.spPlace d ord).1.storage = f.storage := by
  unfold Fab.spPlace
  split <;> simp

@[simp] theorem Fab.spAbsent_storage (f : Fab) (d : Nat) (a : SpAcc) :
    (f.spAbsent d a).storage = f.storage := by
  simp [Fab.spAbsent]

@[simp] theorem Fab.decideAcc_storage (f : Fab) (d k : Nat) (a : SpAcc) :
    (f.decideAcc d k a).storage = f.storage := by
  unfold Fab.decideAcc
  split <;> simp

@[simp] theorem Fab.entAbsent_storage (f : Fab) (d : Nat) (e : PwbEnt) :
    (f.entAbsent d e).storage = f.storage := by
  simp [Fab.entAbsent]

@[simp] theorem Fab.decideEnt_storage (f : Fab) (d k : Nat) (e : PwbEnt) :
    (f.decideEnt d k e).storage = f.storage := by
  unfold Fab.decideEnt
  split <;> simp

@[simp] theorem Fab.ackStore_storage (f : Fab) (d : Nat) (a : SpAcc) :
    (f.ackStore d a).storage = f.storage := by
  simp [Fab.ackStore]

theorem Fab.tryAcc_storage (f : Fab) (d : Nat) (bad : List (Nat × Nat)) (a : SpAcc) (g : Fab)
    (h : f.tryAcc d bad a = some g) : g.storage = f.storage := by
  unfold Fab.tryAcc at h
  dsimp only at h
  repeat' split at h
  all_goals cases h
  all_goals simp

theorem Fab.tryEnt_storage (f : Fab) (d : Nat) (bad : List (Nat × Nat)) (e : PwbEnt) (g : Fab)
    (h : f.tryEnt d bad e = some g) : g.storage = f.storage := by
  unfold Fab.tryEnt at h
  dsimp only at h
  repeat' split at h
  all_goals cases h
  all_goals simp

@[simp] theorem Fab.wakeEntries_storage (f : Fab) (d : Nat) :
    (f.wakeEntries d).storage = f.storage := by
  simp [Fab.wakeEntries]

@[simp] theorem Fab.spAdvance_storage (f : Fab) (d : Nat) (bad : List (Nat × Nat)) :
    (f.spAdvance d bad).storage = f.storage := by
  have hacc := fun a g (h : (f.wakeEntries d).tryAcc d bad a = some g) =>
    (Fab.tryAcc_storage _ d bad a g h).trans (f.wakeEntries_storage d)
  have hent := fun e g (h : (f.wakeEntries d).tryEnt d bad e = some g) =>
    (Fab.tryEnt_storage _ d bad e g h).trans (f.wakeEntries_storage d)
  rw [Fab.spAdvance_eq]
  split
  case h_1 q g hbest =>
    rcases Fab.eq_or_mem_of_foldl_earlier hbest with h | h
    · cases h
    · simp only [Fab.spChoices, List.mem_append, List.mem_map, Prod.mk.injEq] at h
      obtain ⟨a, -, -, h⟩ | ⟨e, -, -, h⟩ := h
      · exact hacc a g h
      · exact hent e g h
  case h_2 => exact f.wakeEntries_storage d

@[simp] theorem Fab.spComplete_storage (f : Fab) (d k result : Nat) (expiry : Bool) :
    (f.spComplete d k result expiry).storage = f.storage := by
  simp only [Fab.spComplete]
  repeat' split
  all_goals simp

@[simp] theorem Fab.spExpire_storage (f : Fab) (d k : Nat) :
    (f.spExpire d k).storage = f.storage := by
  simp [Fab.spExpire]

@[simp] theorem Fab.relookAcc_storage (f : Fab) (d : Nat) (bad : List (Nat × Nat)) (k : Nat) (a : SpAcc) :
    (f.relookAcc d bad k a).storage = f.storage := by
  unfold Fab.relookAcc
  split
  · simp
  · split
    · rw [Fab.getD_storage (fun g => Fab.tryAcc_storage _ d bad _ g)]
      simp
    · simp

@[simp] theorem Fab.relookEnt_storage (f : Fab) (d : Nat) (bad : List (Nat × Nat)) (k : Nat) (e : PwbEnt) :
    (f.relookEnt d bad k e).storage = f.storage := by
  unfold Fab.relookEnt
  split
  · simp
  · split
    · rw [Fab.getD_storage (fun g => Fab.tryEnt_storage _ d bad _ g)]
      simp
    · simp

@[simp] theorem Fab.spRelook_storage (f : Fab) (d : Nat) (bad : List (Nat × Nat)) :
    (f.spRelook d bad).storage = f.storage := by
  unfold Fab.spRelook
  rw [Fab.foldl_storage _ (fun f k => ?_), Fab.modSp_storage]
  split <;> simp

/-! ### EdgePort -/

@[simp] theorem Fab.eapCredit_storage (f : Fab) (t mc : Nat) :
    (f.eapCredit t mc).storage = f.storage := by
  simp [Fab.eapCredit]

@[simp] theorem Fab.expire_storage (f : Fab) (t k : Nat) :
    (f.expire t k).storage = f.storage := by
  simp [Fab.expire]

@[simp] theorem Fab.visitTag_storage (f : Fab) (t k : Nat) (ue : Bool) :
    (f.visitTag t k ue).storage = f.storage := by
  simp [Fab.visitTag]

@[simp] theorem Fab.visitSpTag_storage (f : Fab) (d k : Nat) (ue : Bool) :
    (f.visitSpTag d k ue).storage = f.storage := by
  simp [Fab.visitSpTag]

@[simp] theorem Fab.violEnterNi_storage (f : Fab) (t : Nat) :
    (f.violEnterNi t).storage = f.storage := by
  unfold Fab.violEnterNi
  split <;> simp

@[simp] theorem Fab.violEnterSp_storage (f : Fab) (d : Nat) :
    (f.violEnterSp d).storage = f.storage := by
  unfold Fab.violEnterSp
  split <;> simp

@[simp] theorem Fab.violReleaseNi_storage (f : Fab) (t : Nat) :
    (f.violReleaseNi t).storage = f.storage := by
  unfold Fab.violReleaseNi
  split <;> simp

@[simp] theorem Fab.violReleaseSp_storage (f : Fab) (d : Nat) :
    (f.violReleaseSp d).storage = f.storage := by
  unfold Fab.violReleaseSp
  split <;> simp

@[simp] theorem Fab.holdEnterNi_storage (f : Fab) (t : Nat) :
    (f.holdEnterNi t).storage = f.storage := by
  unfold Fab.holdEnterNi
  split <;> simp

@[simp] theorem Fab.holdEnterSp_storage (f : Fab) (d : Nat) :
    (f.holdEnterSp d).storage = f.storage := by
  unfold Fab.holdEnterSp
  split <;> simp

@[simp] theorem Fab.takeCtl_storage (f : Fab) (t opc : Nat) :
    (f.takeCtl t opc).storage = f.storage := by
  simp [Fab.takeCtl]

@[simp] theorem Fab.wEdgeFence_storage (f : Fab) (t v : Nat) :
    (f.wEdgeFence t v).1.storage = f.storage := by
  simp [Fab.wEdgeFence]

@[simp] theorem Fab.done_storage (r : Fab × Nat) (who : Nat) : (Fab.done r who).storage = r.1.storage := by
  simp [Fab.done]

/-! ### Binding -/

@[simp] theorem Fab.wGranule_storage (f : Fab) (v : Nat) :
    (f.wGranule v).1.storage = f.storage := by
  simp [Fab.wGranule]

@[simp] theorem Fab.stageRecords_storage (f : Fab) (rs : List StageRec) :
    (f.stageRecords rs).storage = f.storage := by
  simp [Fab.stageRecords]

@[simp] theorem Fab.wTable_storage (f : Fab) (dbg byTicket : Bool) (table elem v : Nat) :
    (f.wTable dbg byTicket table elem v).1.storage = f.storage := by
  simp [Fab.wTable]

@[simp] theorem Fab.sendLensInv_storage (f : Fab) (t tm : Nat) :
    (f.sendLensInv t tm).storage = f.storage := by
  simp [Fab.sendLensInv]

@[simp] theorem Fab.lensGreet_storage (f : Fab) (t : Nat) :
    (f.lensGreet t).storage = f.storage := by
  simp [Fab.lensGreet]

@[simp] theorem Fab.lensAll_storage (f : Fab) (d tm : Nat) :
    (f.lensAll d tm).storage = f.storage := by
  simp [Fab.lensAll]

@[simp] theorem Fab.armDies_storage (f : Fab) (tm : Nat) :
    (f.armDies tm).storage = f.storage := by
  simp [Fab.armDies]

@[simp] theorem Fab.ticketRejected_storage (f : Fab) (reason kind counter : Nat) :
    (f.ticketRejected reason kind counter).storage = f.storage := by
  simp [Fab.ticketRejected]

@[simp] theorem Fab.endCommitOp_storage (f : Fab) (code : Nat) :
    (f.endCommitOp code).storage = f.storage := by
  simp only [Fab.endCommitOp]
  repeat' split
  all_goals simp

@[simp] theorem Fab.ackJudge_storage (f : Fab) :
    (f.ackJudge).storage = f.storage := by
  simp [Fab.ackJudge]

@[simp] theorem Fab.arm_storage (f : Fab) (tm : Nat) (who : Option Nat) :
    (f.arm tm who).storage = f.storage := by
  simp [Fab.arm]

@[simp] theorem Fab.takeDone_storage (f : Fab) (d kind : Nat) :
    (f.takeDone d kind).1.storage = f.storage := by
  simp [Fab.takeDone]

@[simp] theorem Fab.ackTaken_storage (f : Fab) (d : Nat) (p : Packet) :
    (f.ackTaken d p).storage = f.storage := by
  simp [Fab.ackTaken]

@[simp] theorem Fab.abandonCommit_storage (f : Fab) :
    (f.abandonCommit).storage = f.storage := by
  simp [Fab.abandonCommit]

@[simp] theorem Fab.fenceMissing_storage (f : Fab) (d : Nat) :
    (f.fenceMissing d).storage = f.storage := by
  unfold Fab.fenceMissing
  split <;> simp

@[simp] theorem Fab.relook_storage (f : Fab) (t tm : Nat) (bad : List (Nat × Nat)) :
    (f.relook t tm bad).storage = f.storage := by
  unfold Fab.relook
  rw [Fab.foldl_storage _ (fun f s => ?_), Fab.modNi_storage]
  dsimp only
  split <;> simp

@[simp] theorem Fab.holdError_storage (f : Fab) (t : Nat) (e : Ecc) :
    (f.holdError t e).storage = f.storage := by
  unfold Fab.holdError
  split <;> simp

@[simp] theorem Fab.takeCopy_storage (f : Fab) (d tm : Nat) :
    (f.takeCopy d tm).storage = f.storage := by
  simp [Fab.takeCopy]

@[simp] theorem Fab.takeNi_storage (f : Fab) (t tm : Nat) (bad : List (Nat × Nat)) :
    (f.takeNi t tm bad).storage = f.storage := by
  simp [Fab.takeNi]

@[simp] theorem Fab.takeSp_storage (f : Fab) (d tm : Nat) (bad : List (Nat × Nat)) :
    (f.takeSp d tm bad).storage = f.storage := by
  simp [Fab.takeSp]

@[simp] theorem Fab.commitEnd_storage (f : Fab) (tm : Nat) :
    (f.commitEnd tm).storage = f.storage := by
  simp [Fab.commitEnd]

@[simp] theorem Fab.wStageClear_storage (f : Fab) (v : Nat) :
    (f.wStageClear v).1.storage = f.storage := by
  simp [Fab.wStageClear]

@[simp] theorem Fab.drainJudge_storage (f : Fab) :
    (f.drainJudge).storage = f.storage := by
  simp [Fab.drainJudge]

@[simp] theorem Fab.drainReported_storage (f : Fab) (ni expired : Nat) :
    (f.drainReported ni expired).storage = f.storage := by
  simp [Fab.drainReported]

@[simp] theorem Fab.sendMark_storage (f : Fab) (t : Nat) :
    (f.sendMark t).storage = f.storage := by
  simp [Fab.sendMark]

@[simp] theorem Fab.famResend_storage (f : Fab) (d : Nat) :
    (f.famResend d).storage = f.storage := by
  simp [Fab.famResend]

@[simp] theorem Fab.wDrain_storage (f : Fab) (d : Nat) :
    (f.wDrain d).1.storage = f.storage := by
  simp [Fab.wDrain]

@[simp] theorem Fab.sendReport_storage (f : Fab) (t : Nat) (d : DrainMark) :
    (f.sendReport t d).storage = f.storage := by
  simp [Fab.sendReport]

@[simp] theorem Fab.takeMark_storage (f : Fab) (t d seq : Nat) :
    (f.takeMark t d seq).storage = f.storage := by
  simp [Fab.takeMark]

@[simp] theorem Fab.oweLess_storage (f : Fab) :
    (f.oweLess).storage = f.storage := by
  simp [Fab.oweLess]

@[simp] theorem Fab.wViolClear_storage (f : Fab) (sc : Scope) (num v : Nat) :
    (f.wViolClear sc num v).1.storage = f.storage := by
  simp [Fab.wViolClear]

/-! ### ServicePort -/

@[simp] theorem Fab.spMalformed_storage (f : Fab) (d op rid reason addr : Nat) :
    (f.spMalformed d op rid reason addr).storage = f.storage := by
  simp [Fab.spMalformed]

@[simp] theorem Fab.spRefuse_storage (f : Fab) (d : Nat) (h : SpHead) (reason : Nat) :
    (f.spRefuse d h reason).storage = f.storage := by
  simp [Fab.spRefuse]

@[simp] theorem Fab.spTake_storage (f : Fab) (d : Nat) (is : Nat → Bool) (may : SpHead → Nat → Bool)
    (go : Fab → SpHead → Nat → Nat → Fab) (hgo : ∀ f h v q, (go f h v q).storage = f.storage) :
    (f.spTake d is may go).storage = f.storage := by
  unfold Fab.spTake
  dsimp only
  split
  · rfl
  · split
    · rfl
    · split
      · rfl
      · split <;> simp [hgo]

@[simp] theorem Fab.spStand_storage (f : Fab) (d : Nat) (a : SpAcc) :
    (f.spStand d a).storage = f.storage := by
  simp [Fab.spStand]

@[simp] theorem Fab.spAccess_storage (f : Fab) (d : Nat) (bad : List (Nat × Nat)) (rid : Option Nat)
    (op addr bytes stream data seq : Nat) :
    (f.spAccess d bad rid op addr bytes stream data seq).storage = f.storage := by
  unfold Fab.spAccess
  rw [Fab.getD_storage (fun g => Fab.tryAcc_storage _ d bad _ g), Fab.spStand_storage]

@[simp] theorem Fab.spBarrier_storage (f : Fab) (d op : Nat) (h : SpHead) (seq : Nat) :
    (f.spBarrier d op h seq).storage = f.storage := by
  simp [Fab.spBarrier]

@[simp] theorem Fab.spTakeRsp_storage (f : Fab) (d : Nat) :
    (f.spTakeRsp d).1.storage = f.storage := by
  simp [Fab.spTakeRsp]

@[simp] theorem Fab.spAccept_storage (f : Fab) (d k : Nat) (x : Tag) (p : Packet) :
    (f.spAccept d k x p).storage = f.storage := by
  unfold Fab.spAccept
  repeat' split
  all_goals simp

@[simp] theorem Fab.spStray_storage (f : Fab) (d : Nat) (p : Packet) (kind : Nat) :
    (f.spStray d p kind).storage = f.storage := by
  simp [Fab.spStray]

@[simp] theorem Fab.excStart_storage (f : Fab) (d : Nat) :
    (f.excStart d).storage = f.storage := by
  simp [Fab.excStart]

@[simp] theorem Fab.excSample_storage (f : Fab) (d : Nat) :
    (f.excSample d).storage = f.storage := by
  simp [Fab.excSample]

@[simp] theorem Fab.spReset_storage (f : Fab) (d : Nat) :
    (f.spReset d).storage = f.storage := by
  simp [Fab.spReset]

@[simp] theorem Fab.slotReset_storage (f : Fab) (t : Nat) :
    (f.slotReset t).storage = f.storage := by
  simp [Fab.slotReset]

@[simp] theorem Fab.spWait_storage (f : Fab) (d : Nat) :
    (f.spWait d).storage = f.storage := by
  simp [Fab.spWait]

@[simp] theorem Fab.spLeave_storage (f : Fab) (d : Nat) (inst : Bool) :
    (f.spLeave d inst).storage = f.storage := by
  simp [Fab.spLeave]

@[simp] theorem Fab.spPowerDown_storage (f : Fab) (d : Nat) :
    (f.spPowerDown d).storage = f.storage := by
  simp [Fab.spPowerDown]

/-! ### Cycle -/

@[simp] theorem Fab.schedCycleNi_storage (f : Fab) (t : Nat) :
    (f.schedCycleNi t).storage = f.storage := by
  simp [Fab.schedCycleNi]

@[simp] theorem Fab.schedCycleSp_storage (f : Fab) (d : Nat) :
    (f.schedCycleSp d).storage = f.storage := by
  simp [Fab.schedCycleSp]

@[simp] theorem Fab.schedCycle_storage (f : Fab) (t : Nat) :
    (f.schedCycle t).storage = f.storage := by
  unfold Fab.schedCycle
  split <;> simp

/-! ### Commons -/

@[simp] theorem Fab.cmnTake_storage (f : Fab) (n : Nat) :
    (f.cmnTake n).storage = f.storage := by
  simp [Fab.cmnTake]

@[simp] theorem Fab.cmnAnswer_storage (f : Fab) (n : Nat) (p : Packet) (status : Nat) (psn : Bool) (data : Nat)
    (parts : List Part) :
    (f.cmnAnswer n p status psn data parts).storage = f.storage := by
  simp [Fab.cmnAnswer]

@[simp] theorem Fab.cmnBegin_storage (f : Fab) (n : Nat) (p : Packet) (ce : Nat) :
    (f.cmnBegin n p ce).storage = f.storage := by
  simp [Fab.cmnBegin]

@[simp] theorem Fab.cmnUe_storage (f : Fab) (n : Nat) (p : Packet) (off : Nat) (write : Bool) :
    (f.cmnUe n p off write).storage = f.storage := by
  simp [Fab.cmnUe]

@[simp] theorem Fab.cmnReadAnswer_storage (f : Fab) (n : Nat) (p : Packet) (ue : Option Nat) :
    (f.cmnReadAnswer n p ue).storage = f.storage := by
  unfold Fab.cmnReadAnswer
  split <;> simp

@[simp] theorem Fab.cmnWhen_storage (f : Fab) (n : Nat) (op : CmnOp) (go : Fab → Packet → Fab)
    (h : ∀ f p, (go f p).storage = f.storage) : (f.cmnWhen n op go).storage = f.storage := by
  unfold Fab.cmnWhen
  split
  · rfl
  · split <;> simp [h]

@[simp] theorem Fab.cmnDiscard_storage (f : Fab) (n : Nat) :
    (f.cmnDiscard n).storage = f.storage := by
  simp only [Fab.cmnDiscard]
  repeat' split
  all_goals simp

/-! ### SchedObjects -/

@[simp] theorem Fab.wPlain_storage (f : Fab) (sc : Scope) (num idx sub v : Nat) :
    (f.wPlain sc num idx sub v).1.storage = f.storage := by
  unfold Fab.wPlain
  split <;> simp

@[simp] theorem Fab.objWrite_storage (f : Fab) (who : Nat) (sc : Scope) (num idx sub : Nat) (w : Fab → Fab × Nat)
    (h : ∀ f, (w f).1.storage = f.storage) : (f.objWrite who sc num idx sub w).storage = f.storage := by
  simp [Fab.objWrite, h]

@[simp] theorem Fab.wShaper_storage (f : Fab) (w : Who) (idx sub v : Nat) :
    (f.wShaper w idx sub v).1.storage = f.storage := by
  simp [Fab.wShaper]

@[simp] theorem Fab.wBurst_storage (f : Fab) (w : Who) (sub v : Nat) :
    (f.wBurst w sub v).1.storage = f.storage := by
  simp [Fab.wBurst]

@[simp] theorem Fab.wShaperClear_storage (f : Fab) (w : Who) (sub v : Nat) :
    (f.wShaperClear w sub v).1.storage = f.storage := by
  simp [Fab.wShaperClear]

@[simp] theorem Fab.refillPolicer_storage (f : Fab) (t : Nat) :
    (f.refillPolicer t).storage = f.storage := by
  simp [Fab.refillPolicer]

@[simp] theorem Fab.wPoliceCir_storage (f : Fab) (t v : Nat) :
    (f.wPoliceCir t v).1.storage = f.storage := by
  simp [Fab.wPoliceCir]

@[simp] theorem Fab.wPoliceCbs_storage (f : Fab) (t v : Nat) :
    (f.wPoliceCbs t v).1.storage = f.storage := by
  simp [Fab.wPoliceCbs]

@[simp] theorem Fab.wGateApply_storage (f : Fab) (w : Who) (sub v : Nat) :
    (f.wGateApply w sub v).1.storage = f.storage := by
  simp [Fab.wGateApply]

@[simp] theorem Fab.wGateEn_storage (f : Fab) (w : Who) (sub v : Nat) :
    (f.wGateEn w sub v).1.storage = f.storage := by
  simp [Fab.wGateEn]

@[simp] theorem Fab.setHistAt_storage (f : Fab) (c : Nat) (x0 : Who) :
    (f.setHistAt c x0).storage = f.storage := by
  unfold Fab.setHistAt
  split <;> simp

@[simp] theorem Fab.everyClass_storage (f : Fab) (w : Who) (g : Fab → Nat → Nat → Fab)
    (h : ∀ f dir s, (g f dir s).storage = f.storage) : (f.everyClass w g).storage = f.storage := by
  simp [Fab.everyClass, h]

@[simp] theorem Fab.beforeStep_storage (f : Fab) (w : Who) :
    (f.beforeStep w).storage = f.storage := by
  unfold Fab.beforeStep
  split <;> simp

@[simp] theorem Fab.afterStep_storage (f : Fab) (w : Who) :
    (f.afterStep w).storage = f.storage := by
  unfold Fab.afterStep
  split <;> simp

/-! ### Spill -/

@[simp] theorem Fab.ask_storage (f : Fab) (t i : Nat) :
    (f.ask t i).storage = f.storage := by
  simp [Fab.ask]

@[simp] theorem Fab.takeEnv_storage (f : Fab) (t : Nat) (k : EnvKind) :
    (f.takeEnv t k).1.storage = f.storage := by
  simp only [Fab.takeEnv]
  repeat' split
  all_goals simp

@[simp] theorem Fab.abandonAtNi_storage (f : Fab) (t : Nat) :
    (f.abandonAtNi t).storage = f.storage := by
  simp only [Fab.abandonAtNi]
  repeat' split
  all_goals simp

@[simp] theorem Fab.wSpillPort_storage (f : Fab) (t v : Nat) :
    (f.wSpillPort t v).1.storage = f.storage := by
  simp [Fab.wSpillPort]

/-! ### SpillPort -/

@[simp] theorem Fab.modSkQ_storage (f : Fab) (n q : Nat) (g : SkQueue → SkQueue) :
    (f.modSkQ n q g).storage = f.storage := by
  simp [Fab.modSkQ]

@[simp] theorem Fab.useChunk_storage (f : Fab) (n c : Nat) :
    (f.useChunk n c).storage = f.storage := by
  simp [Fab.useChunk]

@[simp] theorem Fab.dropChunk_storage (f : Fab) (n c : Nat) :
    (f.dropChunk n c).storage = f.storage := by
  simp [Fab.dropChunk]

@[simp] theorem Fab.skCmd_storage (f : Fab) (n : Nat) (write : Bool) (addr beats : Nat) (data : List Nat) (q : Nat)
    (why : SkWhy) :
    (f.skCmd n write addr beats data q why).storage = f.storage := by
  simp [Fab.skCmd]

@[simp] theorem Fab.skSend_storage (f : Fab) (n q : Nat) (k : EnvKind) (flits seq : Nat) (plast : Bool)
    (carried : Packet) :
    (f.skSend n q k flits seq plast carried).storage = f.storage := by
  simp [Fab.skSend]

@[simp] theorem Fab.skTake_storage (f : Fab) (n : Nat) (k : EnvKind) :
    (f.skTake n k).1.storage = f.storage := by
  simp [Fab.skTake]

@[simp] theorem Fab.skAbandon_storage (f : Fab) (n q : Nat) (tell : Bool) :
    (f.skAbandon n q tell).storage = f.storage := by
  have hdrop (l : List Nat) : (l.foldl (fun f c => f.dropChunk n c) f).storage = f.storage :=
    Fab.foldl_storage _ (by simp) l f
  unfold Fab.skAbandon
  dsimp only
  split
  · rfl
  · split <;> simp only [Fab.skSend_storage, Fab.bump_storage, Fab.modSk_storage, hdrop]

@[simp] theorem Fab.skAbandonAll_storage (f : Fab) (n : Nat) :
    (f.skAbandonAll n).storage = f.storage := by
  simp [Fab.skAbandonAll]

@[simp] theorem Fab.skFail_storage (f : Fab) (n : Nat) :
    (f.skFail n).storage = f.storage := by
  simp [Fab.skFail]

@[simp] theorem Fab.skGrant_storage (f : Fab) (n q want : Nat) :
    (f.skGrant n q want).1.storage = f.storage := by
  unfold Fab.skGrant
  split <;> simp

@[simp] theorem Fab.flushDesc_storage (f : Fab) (n q : Nat) :
    (f.flushDesc n q).storage = f.storage := by
  simp only [Fab.flushDesc]
  repeat' split
  all_goals simp

@[simp] theorem Fab.openChunk_storage (f : Fab) (n q : Nat) :
    (f.openChunk n q).1.storage = f.storage := by
  simp only [Fab.openChunk]
  repeat' split
  all_goals simp

@[simp] theorem Fab.skStore_storage (f : Fab) (n q seq : Nat) (p : Packet) :
    (f.skStore n q seq p).storage = f.storage := by
  simp only [Fab.skStore]
  repeat' split
  all_goals simp

@[simp] theorem Fab.skEmpty_storage (f : Fab) (n q : Nat) :
    (f.skEmpty n q).storage = f.storage := by
  simp [Fab.skEmpty]

@[simp] theorem Fab.skServe_storage (k : Nat) (f : Fab) (n q : Nat) :
    (Fab.skServe k f n q).storage = f.storage := by
  induction k generalizing f with
  | zero => rfl
  | succ k ih =>
    unfold Fab.skServe
    dsimp only
    repeat' split
    all_goals simp [ih]

@[simp] theorem Fab.skFetch_storage (f : Fab) (n q : Nat) :
    (f.skFetch n q).storage = f.storage := by
  simp only [Fab.skFetch]
  repeat' split
  all_goals simp

@[simp] theorem Fab.skPump_storage (f : Fab) (n q : Nat) :
    (f.skPump n q).storage = f.storage := by
  simp [Fab.skPump]

@[simp] theorem Fab.stageUe_storage (f : Fab) (n part a : Nat) :
    (f.stageUe n part a).storage = f.storage := by
  simp [Fab.stageUe]

@[simp] theorem Fab.skAnswered_storage (f : Fab) (n q : Nat) (write : Bool) :
    (f.skAnswered n q write).1.storage = f.storage := by
  simp [Fab.skAnswered]

@[simp] theorem Fab.metaUe_storage (f : Fab) (n q addr : Nat) (crc desc : Bool) :
    (f.metaUe n q addr crc desc).storage = f.storage := by
  simp [Fab.metaUe]

@[simp] theorem Fab.packetRead_storage (f : Fab) (n q addr d : Nat) (beats : List (Nat × Bool)) :
    (f.packetRead n q addr d beats).storage = f.storage := by
  simp [Fab.packetRead]

@[simp] theorem Fab.skBeatTaken_storage (f : Fab) (n q : Nat) (c : SkCmd) :
    (f.skBeatTaken n q c).storage = f.storage := by
  simp [Fab.skBeatTaken]

@[simp] theorem Fab.wSkRecover_storage (f : Fab) (n v : Nat) :
    (f.wSkRecover n v).1.storage = f.storage := by
  simp [Fab.wSkRecover]

@[simp] theorem Fab.wSkEnable_storage (f : Fab) (n v : Nat) :
    (f.wSkEnable n v).1.storage = f.storage := by
  simp [Fab.wSkEnable]

@[simp] theorem Fab.wSkRegion_storage (f : Fab) (n idx v : Nat) :
    (f.wSkRegion n idx v).1.storage = f.storage := by
  simp [Fab.wSkRegion]

@[simp] theorem Fab.abandonAtSk_storage (f : Fab) (n : Nat) :
    (f.abandonAtSk n).storage = f.storage := by
  unfold Fab.abandonAtSk
  split
  case h_1 heq => simp [Fab.storage_of_eq heq]
  case h_2 heq =>
    split
    · simp [Fab.storage_of_eq heq]
    · split <;> simp [Fab.storage_of_eq heq]

/-! ### SeamDir -/

@[simp] theorem Fab.seamRaise_storage (f : Fab) (ss c lane : Nat) (tx : Bool) (code i1 : Nat) :
    (f.seamRaise ss c lane tx code i1).storage = f.storage := by
  simp [Fab.seamRaise]

@[simp] theorem Fab.seamCond_storage (f : Fab) (ss c lane : Nat) (tx : Bool) (code i1 : Nat) :
    (f.seamCond ss c lane tx code i1).storage = f.storage := by
  simp [Fab.seamCond]

@[simp] theorem Fab.seamSettle_storage (f : Fab) (ss : Nat) :
    (f.seamSettle ss).storage = f.storage := by
  simp [Fab.seamSettle]

@[simp] theorem Fab.pllSettle_storage (f : Fab) (ss : Nat) :
    (f.pllSettle ss).storage = f.storage := by
  simp [Fab.pllSettle]

@[simp] theorem Fab.abandon_storage (f : Fab) (ss c : Nat) :
    (f.abandon ss c).storage = f.storage := by
  simp [Fab.abandon]

@[simp] theorem Fab.modRoute_storage (f : Fab) (ss c : Nat) (g : CrossSide → CrossSide) :
    (f.modRoute ss c g).storage = f.storage := by
  simp [Fab.modRoute]

@[simp] theorem Fab.downHalf_storage (f : Fab) (ss c : Nat) (tx : Bool) (why : Nat) :
    (f.downHalf ss c tx why).storage = f.storage := by
  simp [Fab.downHalf]

@[simp] theorem Fab.takeDown_storage (f : Fab) (ss c why : Nat) :
    (f.takeDown ss c why).storage = f.storage := by
  simp [Fab.takeDown]

@[simp] theorem Fab.crossDown_storage (f : Fab) (ss c why : Nat) :
    (f.crossDown ss c why).storage = f.storage := by
  simp [Fab.crossDown]

@[simp] theorem Fab.startTraining_storage (f : Fab) (ss c : Nat) (full half keep : Bool) :
    (f.startTraining ss c full half keep).storage = f.storage := by
  simp [Fab.startTraining]

@[simp] theorem Fab.retrain_storage (f : Fab) (ss c : Nat) (full : Bool) :
    (f.retrain ss c full).storage = f.storage := by
  simp [Fab.retrain]

@[simp] theorem Fab.failTraining_storage (f : Fab) (ss c : Nat) (tr : Training) (excl : Nat) (noPll : Bool) :
    (f.failTraining ss c tr excl noPll).storage = f.storage := by
  simp [Fab.failTraining]

@[simp] theorem Fab.raiseAwake_storage (f : Fab) (ss c : Nat) :
    (f.raiseAwake ss c).storage = f.storage := by
  simp [Fab.raiseAwake]

@[simp] theorem Fab.resend_storage (f : Fab) (ss c : Nat) :
    (f.resend ss c).storage = f.storage := by
  simp [Fab.resend]

@[simp] theorem Fab.endTraining_storage (f : Fab) (ss c : Nat) (tr : Training) (excl : Nat) :
    (f.endTraining ss c tr excl).storage = f.storage := by
  simp [Fab.endTraining]

@[simp] theorem Fab.tryTrain_storage (f : Fab) (ss c : Nat) :
    (f.tryTrain ss c).storage = f.storage := by
  simp [Fab.tryTrain]

@[simp] theorem Fab.noSpare_storage (f : Fab) (ss c : Nat) :
    (f.noSpare ss c).storage = f.storage := by
  simp [Fab.noSpare]

@[simp] theorem Fab.requestRepair_storage (f : Fab) (ss c lane : Nat) :
    (f.requestRepair ss c lane).storage = f.storage := by
  simp only [Fab.requestRepair]
  repeat' split
  all_goals simp

@[simp] theorem Fab.nextRepair_storage (f : Fab) (ss c : Nat) (x0 : List Nat) :
    (f.nextRepair ss c x0).storage = f.storage := by
  induction x0 with
  | nil => simp [Fab.nextRepair]
  | cons lane rest ih =>
    unfold Fab.nextRepair
    dsimp only
    split
    · exact ih
    · split <;> simp

@[simp] theorem Fab.beginRepair_storage (f : Fab) (ss c lane : Nat) :
    (f.beginRepair ss c lane).storage = f.storage := by
  simp only [Fab.beginRepair]
  repeat' split
  all_goals simp

@[simp] theorem Fab.autoRepair_storage (f : Fab) (ss c lane : Nat) :
    (f.autoRepair ss c lane).storage = f.storage := by
  simp [Fab.autoRepair]

@[simp] theorem Fab.wakeDir_storage (f : Fab) (ss c : Nat) :
    (f.wakeDir ss c).storage = f.storage := by
  simp only [Fab.wakeDir]
  repeat' split
  all_goals simp

@[simp] theorem Fab.peerReset_storage (f : Fab) (ss c : Nat) (all : Bool) (first : Bool) :
    (f.peerReset ss c all first).storage = f.storage := by
  simp [Fab.peerReset]

@[simp] theorem Fab.peerAck_storage (f : Fab) (ss c : Nat) :
    (f.peerAck ss c).storage = f.storage := by
  simp [Fab.peerAck]

@[simp] theorem Fab.resetCross_storage (f : Fab) (ss c : Nat) (cold : Bool) :
    (f.resetCross ss c cold).storage = f.storage := by
  simp [Fab.resetCross]

@[simp] theorem Fab.releaseCross_storage (f : Fab) (ss c : Nat) :
    (f.releaseCross ss c).storage = f.storage := by
  simp [Fab.releaseCross]

theorem Fab.takeSb_storage (f : Fab) (ss : Nat) (g : Fab → SbMsg → Option Fab)
    (h : ∀ f m f', g f m = some f' → f'.storage = f.storage) : (f.takeSb ss g).storage = f.storage := by
  unfold Fab.takeSb
  split
  · rfl
  · split
    case h_1 heq => rw [h _ _ _ heq, Fab.modSide_storage]
    case h_2 => rfl

/-! ### Seams -/

@[simp] theorem Fab.laneCorr_storage (f : Fab) (ss c lane : Nat) :
    (f.laneCorr ss c lane).storage = f.storage := by
  simp [Fab.laneCorr]

@[simp] theorem Fab.frameCorr_storage (f : Fab) (ss c : Nat) (syms : List Nat) :
    (f.frameCorr ss c syms).storage = f.storage := by
  unfold Fab.frameCorr
  refine Fab.foldl_storage _ (fun f s => ?_) _ _
  rw [Fab.foldl_storage _ (fun f k => ?_), Fab.bump_storage]
  split <;> simp

@[simp] theorem Fab.refuseFrame_storage (f : Fab) (ss c : Nat) (fr : Frame) :
    (f.refuseFrame ss c fr).storage = f.storage := by
  simp [Fab.refuseFrame]

@[simp] theorem Fab.takeAck_storage (f : Fab) (ss c : Nat) (fr : Frame) :
    (f.takeAck ss c fr).storage = f.storage := by
  simp only [Fab.takeAck]
  repeat' split
  all_goals simp

@[simp] theorem Fab.landFlit_storage (f : Fab) (ss c : Nat) (vf : Nat × Flit) :
    (f.landFlit ss c vf).1.storage = f.storage := by
  simp [Fab.landFlit]

@[simp] theorem Fab.land_storage (f : Fab) (ss c : Nat) (slots : List (Nat × Flit)) :
    (f.land ss c slots).storage = f.storage := by
  unfold Fab.land
  rw [Fab.sendPhit_storage]
  exact Fab.foldl_fst_storage _ (by simp) _ _

@[simp] theorem Fab.acceptFrame_storage (f : Fab) (ss c : Nat) (fr : Frame) :
    (f.acceptFrame ss c fr).storage = f.storage := by
  simp [Fab.acceptFrame]

@[simp] theorem Fab.goodFrame_storage (f : Fab) (ss c : Nat) (fr : Frame) :
    (f.goodFrame ss c fr).storage = f.storage := by
  unfold Fab.goodFrame
  repeat' split
  all_goals simp

theorem Fab.judgeFraming_storage (f : Fab) (ss c : Nat) (runs : List LaneRun) (g : Fab)
    (h : f.judgeFraming ss c runs = some g) : g.storage = f.storage := by
  unfold Fab.judgeFraming at h
  dsimp only at h
  split at h
  · cases h
    simp
  · split at h <;> cases h
    simp

@[simp] theorem Fab.laneScan_storage (f : Fab) (ss c lane : Nat) (tog : List ScanPoint) :
    (f.laneScan ss c lane tog).storage = f.storage := by
  simp [Fab.laneScan]

@[simp] theorem Fab.takeCmd_storage (f : Fab) (ss c : Nat) (cmd : LaneCmd) (g : Fab → Nat → Fab)
    (h : ∀ f arg, (g f arg).storage = f.storage) : (f.takeCmd ss c cmd g).storage = f.storage := by
  unfold Fab.takeCmd
  split
  · rfl
  · split <;> simp [h]

@[simp] theorem Fab.heldRepair_storage (f : Fab) (ss c : Nat) (x0 : List Nat) :
    (f.heldRepair ss c x0).storage = f.storage := by
  induction x0 with
  | nil => simp [Fab.heldRepair]
  | cons lane rest ih =>
    unfold Fab.heldRepair
    split
    · simp
    · exact ih

@[simp] theorem Fab.wRepairLane_storage (f : Fab) (ss c v : Nat) :
    (f.wRepairLane ss c v).1.storage = f.storage := by
  unfold Fab.wRepairLane
  split <;> simp

@[simp] theorem Fab.retrainDir_storage (f : Fab) (ss c : Nat) (full : Bool) :
    (f.retrainDir ss c full).storage = f.storage := by
  simp only [Fab.retrainDir]
  repeat' split
  all_goals simp

@[simp] theorem Fab.wRetrain_storage (f : Fab) (ss c v : Nat) :
    (f.wRetrain ss c v).1.storage = f.storage := by
  unfold Fab.wRetrain
  split <;> simp

/-! ### Lantern -/

@[simp] theorem Fab.lanRaise_storage (f : Fab) (d code i0 i1 : Nat) :
    (f.lanRaise d code i0 i1).storage = f.storage := by
  simp [Fab.lanRaise]

@[simp] theorem Fab.lanCond_storage (f : Fab) (d code i0 i1 : Nat) :
    (f.lanCond d code i0 i1).storage = f.storage := by
  simp [Fab.lanCond]

@[simp] theorem Fab.lanEnd_storage (f : Fab) (d code : Nat) :
    (f.lanEnd d code).storage = f.storage := by
  simp [Fab.lanEnd]

@[simp] theorem Fab.holdover_storage (f : Fab) (d cause : Nat) :
    (f.holdover d cause).storage = f.storage := by
  simp [Fab.holdover]

@[simp] theorem Fab.acquire_storage (f : Fab) (d : Nat) :
    (f.acquire d).storage = f.storage := by
  simp [Fab.acquire]

@[simp] theorem Fab.chooseUpstream_storage (f : Fab) (d : Nat) :
    (f.chooseUpstream d).storage = f.storage := by
  simp only [Fab.chooseUpstream]
  repeat' split
  all_goals simp

@[simp] theorem Fab.missed_storage (f : Fab) (d : Nat) :
    (f.missed d).storage = f.storage := by
  simp [Fab.missed]

@[simp] theorem Fab.follow_storage (f : Fab) (d : Nat) (theta : Int) :
    (f.follow d theta).storage = f.storage := by
  unfold Fab.follow
  split <;> simp

@[simp] theorem Fab.sendStep_storage (f : Fab) (d a : Nat) (amount : Int) :
    (f.sendStep d a amount).storage = f.storage := by
  simp [Fab.sendStep]

@[simp] theorem Fab.requestStep_storage (f : Fab) (amount : Int) :
    (f.requestStep amount).storage = f.storage := by
  simp [Fab.requestStep]

@[simp] theorem Fab.wLanternStep_storage (f : Fab) (v : Nat) :
    (f.wLanternStep v).1.storage = f.storage := by
  simp [Fab.wLanternStep]

@[simp] theorem Fab.wLanternSet_storage (f : Fab) (v : Nat) :
    (f.wLanternSet v).1.storage = f.storage := by
  simp [Fab.wLanternSet]

@[simp] theorem Fab.servo_storage (f : Fab) (e : Int) :
    (f.servo e).storage = f.storage := by
  simp [Fab.servo]

@[simp] theorem Fab.leadReturns_storage (f : Fab) :
    (f.leadReturns).storage = f.storage := by
  simp [Fab.leadReturns]

@[simp] theorem Fab.wLanternSource_storage (f : Fab) (v : Nat) :
    (f.wLanternSource v).1.storage = f.storage := by
  simp [Fab.wLanternSource]

@[simp] theorem Fab.wUpPort_storage (f : Fab) (v : Nat) :
    (f.wUpPort v).1.storage = f.storage := by
  simp [Fab.wUpPort]

@[simp] theorem Fab.useUpstream_storage (f : Fab) (e : Int) :
    (f.useUpstream e).storage = f.storage := by
  simp [Fab.useUpstream]

@[simp] theorem Fab.sendOffset_storage (f : Fab) (d : Nat) (e : Int) (seq : Nat) :
    (f.sendOffset d e seq).storage = f.storage := by
  unfold Fab.sendOffset
  split <;> simp

/-! ### Power -/

@[simp] theorem Fab.modPw_storage (f : Fab) (t : Nat) (g : TilePow → TilePow) :
    (f.modPw t g).storage = f.storage := by
  simp [Fab.modPw]

@[simp] theorem Fab.setQp_storage (f : Fab) (q : Nat) (b : Bool) :
    (f.setQp q b).storage = f.storage := by
  simp [Fab.setQp]

@[simp] theorem Fab.relock_storage (f : Fab) (q : Nat) :
    (f.relock q).storage = f.storage := by
  simp [Fab.relock]

@[simp] theorem Fab.accTime_storage (f : Fab) (t : Nat) :
    (f.accTime t).storage = f.storage := by
  unfold Fab.accTime
  split <;> simp

@[simp] theorem Fab.startWake_storage (f : Fab) (t : Nat) :
    (f.startWake t).storage = f.storage := by
  simp [Fab.startWake]

@[simp] theorem Fab.resetSched_storage (f : Fab) (w : Who) :
    (f.resetSched w).storage = f.storage := by
  simp [Fab.resetSched]

@[simp] theorem Fab.loadOwed_storage (f : Fab) (t : Nat) :
    (f.loadOwed t).storage = f.storage := by
  simp [Fab.loadOwed]

@[simp] theorem Fab.toRun_storage (f : Fab) (t : Nat) :
    (f.toRun t).storage = f.storage := by
  simp [Fab.toRun]

@[simp] theorem Fab.schedsWake_storage (f : Fab) (w : Who) :
    (f.schedsWake w).storage = f.storage := by
  simp [Fab.schedsWake]

@[simp] theorem Fab.queuesWake_storage (f : Fab) (t : Nat) :
    (f.queuesWake t).storage = f.storage := by
  simp [Fab.queuesWake]

@[simp] theorem Fab.raiseSeams_storage (f : Fab) (t : Nat) :
    (f.raiseSeams t).storage = f.storage := by
  unfold Fab.raiseSeams
  refine Fab.foldl_storage _ (fun f p => ?_) _ _
  split <;> simp

@[simp] theorem Fab.dropSeams_storage (f : Fab) (t : Nat) :
    (f.dropSeams t).storage = f.storage := by
  unfold Fab.dropSeams
  refine Fab.foldl_storage _ (fun f p => ?_) _ _
  split <;> simp

@[simp] theorem Fab.dropAwake_storage (f : Fab) (t : Nat) :
    (f.dropAwake t).storage = f.storage := by
  unfold Fab.dropAwake
  rw [Fab.dropSeams_storage, Fab.foldl_storage _ (by simp), Fab.foldl_storage _ (fun f p => ?_)]
  split <;> simp

@[simp] theorem Fab.pdTile_storage (f : Fab) (t : Nat) (g : TilePow → TilePow) :
    (f.pdTile t g).storage = f.storage := by
  simp [Fab.pdTile]

@[simp] theorem Fab.uqCheck_storage (f : Fab) :
    (f.uqCheck).storage = f.storage := by
  simp [Fab.uqCheck]

@[simp] theorem Fab.wQpllHold_storage (f : Fab) (q v : Nat) :
    (f.wQpllHold q v).1.storage = f.storage := by
  simp [Fab.wQpllHold]

@[simp] theorem Fab.wQclkFreq_storage (f : Fab) (v : Nat) :
    (f.wQclkFreq v).1.storage = f.storage := by
  simp [Fab.wQclkFreq]

@[simp] theorem Fab.obeyDeepest_storage (f : Fab) (t : Nat) :
    (f.obeyDeepest t).storage = f.storage := by
  simp [Fab.obeyDeepest]

@[simp] theorem Fab.wTileHold_storage (f : Fab) (t v : Nat) :
    (f.wTileHold t v).1.storage = f.storage := by
  simp [Fab.wTileHold]

@[simp] theorem Fab.wTileDeepest_storage (f : Fab) (t v : Nat) :
    (f.wTileDeepest t v).1.storage = f.storage := by
  simp [Fab.wTileDeepest]

@[simp] theorem Fab.applyMode_storage (f : Fab) (v d : Nat) :
    (f.applyMode v d).storage = f.storage := by
  simp [Fab.applyMode]

@[simp] theorem Fab.endLatency_storage (f : Fab) :
    (f.endLatency).storage = f.storage := by
  simp [Fab.endLatency]

@[simp] theorem Fab.wFabricMode_storage (f : Fab) (v : Nat) :
    (f.wFabricMode v).1.storage = f.storage := by
  simp [Fab.wFabricMode]

/-! ### Crossings -/

@[simp] theorem Fab.cdcEffect_storage (f : Fab) (x0 : Cdc) :
    (f.cdcEffect x0).storage = f.storage := by
  unfold Fab.cdcEffect
  split <;> simp

@[simp] theorem Fab.cdcLift_storage (f : Fab) (x0 : Cdc) :
    (f.cdcLift x0).storage = f.storage := by
  cases x0 <;> simp [Fab.cdcLift, Fab.cdcLift.liftTile]

@[simp] theorem Fab.cdcClear_storage (f : Fab) (key : Nat) :
    (f.cdcClear key).storage = f.storage := by
  simp [Fab.cdcClear]

@[simp] theorem Fab.peerEnter_storage (f : Fab) (x : Cdc) :
    (f.peerEnter x).storage = f.storage := by
  simp [Fab.peerEnter]

@[simp] theorem Fab.peerEnd_storage (f : Fab) (x : Cdc) :
    (f.peerEnd x).storage = f.storage := by
  simp [Fab.peerEnd]

/-! ### Objects -/

@[simp] theorem Fab.readSide_storage (f : Fab) (sc : Scope) (num idx sub : Nat) :
    (f.readSide sc num idx sub).storage = f.storage := by
  unfold Fab.readSide
  split <;> simp

/-! ### Faults -/

@[simp] theorem Fab.wFirst_storage (f : Fab) (key v : Nat) :
    (f.wFirst key v).1.storage = f.storage := by
  simp [Fab.wFirst]

@[simp] theorem Fab.clearFam_storage (f : Fab) (key ones : Nat) (clk : Bool) :
    (f.clearFam key ones clk).storage = f.storage := by
  unfold Fab.clearFam
  split <;> simp

@[simp] theorem Fab.wPend_storage (f : Fab) (key ones : Nat) (clk : Bool) :
    (f.wPend key ones clk).1.storage = f.storage := by
  simp [Fab.wPend]

@[simp] theorem Fab.wOvf_storage (f : Fab) (key v : Nat) :
    (f.wOvf key v).1.storage = f.storage := by
  simp [Fab.wOvf]

@[simp] theorem Fab.forceFam_storage (f : Fab) (key v : Nat) :
    (f.forceFam key v).storage = f.storage := by
  simp [Fab.forceFam]

@[simp] theorem Fab.wForce_storage (f : Fab) (key v : Nat) :
    (f.wForce key v).1.storage = f.storage := by
  simp [Fab.wForce]

@[simp] theorem Fab.wEn_storage (f : Fab) (key v : Nat) :
    (f.wEn key v).1.storage = f.storage := by
  simp [Fab.wEn]

@[simp] theorem Fab.wFault_storage (f : Fab) (key sub v : Nat) (clk : Bool) :
    (f.wFault key sub v clk).1.storage = f.storage := by
  unfold Fab.wFault
  split <;> simp

/-! ### Counters -/

@[simp] theorem Fab.settleCounters_storage (f : Fab) (t : Nat) :
    (f.settleCounters t).storage = f.storage := by
  simp [Fab.settleCounters]

@[simp] theorem Fab.wCntEvent_storage (f : Fab) (t k v : Nat) :
    (f.wCntEvent t k v).1.storage = f.storage := by
  simp [Fab.wCntEvent]

@[simp] theorem Fab.wCntValue_storage (f : Fab) (t k v : Nat) :
    (f.wCntValue t k v).1.storage = f.storage := by
  simp [Fab.wCntValue]

@[simp] theorem Fab.wCntSetting_storage (f : Fab) (t idx sub v : Nat) :
    (f.wCntSetting t idx sub v).1.storage = f.storage := by
  simp [Fab.wCntSetting]

@[simp] theorem Fab.armSnapshot_storage (f : Fab) (tm : Nat) :
    (f.armSnapshot tm).storage = f.storage := by
  simp [Fab.armSnapshot]

@[simp] theorem Fab.wSnapshotAt_storage (f : Fab) (tm : Nat) :
    (f.wSnapshotAt tm).1.storage = f.storage := by
  simp [Fab.wSnapshotAt]

@[simp] theorem Fab.takeSnapshot_storage (f : Fab) (t : Nat) :
    (f.takeSnapshot t).storage = f.storage := by
  unfold Fab.takeSnapshot
  split <;> simp

@[simp] theorem Fab.setTrace_storage (f : Fab) (d : Nat) (q : Quarter) :
    (f.setTrace d q).storage = f.storage := by
  simp [Fab.setTrace]

@[simp] theorem Fab.wTraceClear_storage (f : Fab) (v : Nat) :
    (f.wTraceClear v).1.storage = f.storage := by
  simp [Fab.wTraceClear]

@[simp] theorem Fab.wCollectPeriod_storage (f : Fab) (v : Nat) :
    (f.wCollectPeriod v).1.storage = f.storage := by
  simp [Fab.wCollectPeriod]

@[simp] theorem Fab.wCollectAddr_storage (f : Fab) (v : Nat) :
    (f.wCollectAddr v).1.storage = f.storage := by
  simp [Fab.wCollectAddr]

/-! ### Security -/

@[simp] theorem Fab.modOtp_storage (f : Fab) (g : Otp → Otp) (h : (g f.otp).arr = f.otp.arr) :
    (f.modOtp g).storage = f.storage := by
  simp only [Fab.modOtp, Fab.storage, h]

@[simp] theorem Fab.modVe_storage (f : Fab) (g : Ve → Ve) :
    (f.modVe g).storage = f.storage := by
  simp [Fab.modVe]

@[simp] theorem Fab.raiseW_storage (f : Fab) (code i0 i1 : Nat) :
    (f.raiseW code i0 i1).storage = f.storage := by
  simp [Fab.raiseW]

@[simp] theorem Fab.readSeal_storage (f : Fab) :
    (f.readSeal).storage = f.storage := by
  simp [Fab.readSeal]

@[simp] theorem Fab.otpLoad_storage (f : Fab) :
    (f.otpLoad).storage = f.storage := by
  have hraise (l : List Nat) (m : Nat) (f : Fab) : (l.foldl (fun f _ => f.raiseW 10 m 0) f).storage = f.storage :=
    Fab.foldl_storage _ (by simp) l f
  have hasym (v : Nat → Nat) (f : Fab) : ((List.range 4).foldl (fun f d => (List.range 4).foldl (fun f s =>
      f.setO .inst d O.LANTERN_ASYM s (v s)) f) f).storage = f.storage :=
    Fab.foldl_storage _ (fun f d => Fab.foldl_storage _ (by simp) _ f) _ f
  have hnow (g : Fab) (m : SMap Nat) (v : Nat) : { g with repair := m, defaultMode := v }.storage = g.storage := rfl
  unfold Fab.otpLoad
  rw [Fab.measured_storage, Fab.setO_storage, hasym, hnow, Fab.storage_ite, Fab.raiseC_storage, ite_self, hraise]
  exact Fab.modOtp_storage _ _ rfl

@[simp] theorem Fab.beginProgram_storage (f : Fab) (who idx v : Nat) :
    (f.beginProgram who idx v).storage = f.storage := by
  simp [Fab.beginProgram]

@[simp] theorem Fab.wProgram_storage (f : Fab) (who idx v : Nat) :
    (f.wProgram who idx v).storage = f.storage := by
  simp [Fab.wProgram]

@[simp] theorem Fab.veCmd_storage (f : Fab) (g : Ve → Ve) :
    (f.veCmd g).storage = f.storage := by
  simp [Fab.veCmd]

@[simp] theorem Fab.abortTicket_storage (f : Fab) :
    (f.abortTicket).storage = f.storage := by
  unfold Fab.abortTicket
  split <;> simp

@[simp] theorem Fab.wRwt_storage (f : Fab) (byTicket : Bool) (sc : Scope) (num idx sub v : Nat) :
    (f.wRwt byTicket sc num idx sub v).1.storage = f.storage := by
  unfold Fab.wRwt
  repeat' split
  all_goals simp

theorem Fab.tkOp_storage (f : Fab) (op : Nat) (g : Fab)
    (h : f.tkOp op = some g) : g.storage = f.storage := by
  unfold Fab.tkOp at h
  dsimp only at h
  split at h
  · split at h <;> cases h
    simp
  · split at h <;> cases h
    simp
  · split at h
    · cases h
    · split at h <;> cases h
      simp
  · split at h
    · cases h
    · split at h
      · cases h
      · split at h
        · split at h <;> cases h
          simp
        · split at h
          · split at h <;> cases h
            simp
          · cases h

theorem Fab.tkApply_storage (f : Fab) (x0 : List Nat) (g : Fab)
    (h : f.tkApply x0 = some g) : g.storage = f.storage := by
  induction x0 generalizing f with
  | nil =>
    cases h
    rfl
  | cons op ops ih =>
    unfold Fab.tkApply at h
    split at h
    case h_1 => cases h
    case h_2 heq => exact (ih _ h).trans (Fab.tkOp_storage f op _ heq)

@[simp] theorem Fab.ticketAccepted_storage (f : Fab) (counter : Nat) :
    (f.ticketAccepted counter).storage = f.storage := by
  simp [Fab.ticketAccepted]

theorem Fab.tkLate_storage (f : Fab) (tk : Nat) (g : Fab)
    (h : f.tkLate tk = .ok g) : g.storage = f.storage := by
  unfold Fab.tkLate at h
  cases happly : f.tkApply (tkOps tk) with
  | none =>
    simp only [happly] at h
    repeat' split at h
    all_goals cases h
    · exact ((Fab.ticketAccepted_storage ..).trans (Fab.modWd_storage _ _ rfl)).trans (Fab.setO_storage ..)
    · exact (Fab.ticketAccepted_storage ..).trans (Fab.modWd_storage _ _ rfl)
  | some g' =>
    simp only [happly] at h
    have hg := Fab.tkApply_storage f _ _ happly
    repeat' split at h
    all_goals cases h
    · simp [hg]
    · simp [hg]
    · exact ((Fab.ticketAccepted_storage ..).trans (Fab.modWd_storage _ _ rfl)).trans (Fab.setO_storage ..)
    · exact (Fab.ticketAccepted_storage ..).trans (Fab.modWd_storage _ _ rfl)

@[simp] theorem Fab.wTicketSubmit_storage (f : Fab) (v : Nat) :
    (f.wTicketSubmit v).1.storage = f.storage := by
  simp [Fab.wTicketSubmit]

@[simp] theorem Fab.wardenServe_storage (f : Fab) (who idx v : Nat) :
    (f.wardenServe who idx v).storage = f.storage := by
  simp [Fab.wardenServe]

@[simp] theorem Fab.wardenNext_storage (f : Fab) :
    (f.wardenNext).storage = f.storage := by
  simp [Fab.wardenNext]

/-! ### ObjWrite -/

@[simp] theorem Fab.wFabricBase_storage (f : Fab) (v : Nat) :
    (f.wFabricBase v).1.storage = f.storage := by
  simp [Fab.wFabricBase]

@[simp] theorem Fab.wInstPlain_storage (f : Fab) (d idx sub v : Nat) :
    (f.wInstPlain d idx sub v).1.storage = f.storage := by
  simp [Fab.wInstPlain]

@[simp] theorem Fab.wSched_storage (f : Fab) (w : Who) (idx sub v : Nat) :
    (f.wSched w idx sub v).1.storage = f.storage := by
  simp [Fab.wSched]

@[simp] theorem Fab.wTileObj_storage (f : Fab) (t idx sub v : Nat) :
    (f.wTileObj t idx sub v).1.storage = f.storage := by
  simp [Fab.wTileObj]

@[simp] theorem Fab.wSpObj_storage (f : Fab) (d idx sub v : Nat) :
    (f.wSpObj d idx sub v).1.storage = f.storage := by
  simp [Fab.wSpObj]

@[simp] theorem Fab.wSkObj_storage (f : Fab) (n idx sub v : Nat) :
    (f.wSkObj n idx sub v).1.storage = f.storage := by
  simp [Fab.wSkObj]

@[simp] theorem Fab.wSeamObj_storage (f : Fab) (ss idx sub v : Nat) :
    (f.wSeamObj ss idx sub v).1.storage = f.storage := by
  simp [Fab.wSeamObj]

/-! ### Guyline -/

@[simp] theorem Fab.modGuy_storage (f : Fab) (g : Guy → Guy) :
    (f.modGuy g).storage = f.storage := by
  simp [Fab.modGuy]

@[simp] theorem Fab.launchFrame_storage (f : Fab) (tag : Nat) (x : GFrame) :
    (f.launchFrame tag x).storage = f.storage := by
  simp [Fab.launchFrame]

@[simp] theorem Fab.sendFrame_storage (f : Fab) (tag : Nat) (x : GFrame) :
    (f.sendFrame tag x).storage = f.storage := by
  simp only [Fab.sendFrame]
  repeat' split
  all_goals simp

@[simp] theorem Fab.doRead_storage (f : Fab) (dbg : Bool) (sc : Scope) (num idx sub elem len : Nat)
    (collector ue : Bool) :
    (f.doRead dbg sc num idx sub elem len collector ue).1.storage = f.storage := by
  simp [Fab.doRead]

@[simp] theorem Fab.respond_storage (f : Fab) (tag st : Nat) (x : GFrame) (status data : Nat) :
    (f.respond tag st x status data).storage = f.storage := by
  simp [Fab.respond]

@[simp] theorem Fab.accessCarry_storage (f : Fab) (st : Nat) (x : GFrame) (logic : Bool) :
    (f.accessCarry st x logic).storage = f.storage := by
  simp [Fab.accessCarry]

@[simp] theorem Fab.withdraw_storage (f : Fab) (table elem v : Nat) :
    (f.withdraw table elem v).storage = f.storage := by
  simp [Fab.withdraw]

@[simp] theorem Fab.modColl_storage (f : Fab) (g : Coll → Coll) :
    (f.modColl g).storage = f.storage := by
  simp [Fab.modColl]

@[simp] theorem Fab.collPump_storage (f : Fab) :
    (f.collPump).storage = f.storage := by
  simp [Fab.collPump]

@[simp] theorem Fab.collTake_storage (f : Fab) (x : GFrame) (status data : Nat) :
    (f.collTake x status data).storage = f.storage := by
  simp [Fab.collTake]

@[simp] theorem Fab.dropTag_storage (f : Fab) (tag : Nat) :
    (f.dropTag tag).storage = f.storage := by
  simp only [Fab.dropTag]
  repeat' split
  all_goals simp

@[simp] theorem Fab.guyEnd_storage (f : Fab) (tag : Nat) (x : GFrame) (status data : Nat) :
    (f.guyEnd tag x status data).storage = f.storage := by
  simp [Fab.guyEnd]

@[simp] theorem Fab.again_storage (f : Fab) (tag : Nat) (x : GFrame) :
    (f.again tag x).storage = f.storage := by
  unfold Fab.again
  split <;> simp

@[simp] theorem Fab.bcastEnd_storage (f : Fab) (tag : Nat) (x : GFrame) :
    (f.bcastEnd tag x).storage = f.storage := by
  unfold Fab.bcastEnd
  repeat' split
  all_goals simp

@[simp] theorem Fab.modeAgain_storage (f : Fab) :
    (f.modeAgain).storage = f.storage := by
  simp [Fab.modeAgain]

@[simp] theorem Fab.openBypass_storage (f : Fab) (t : Nat) :
    (f.openBypass t).storage = f.storage := by
  simp [Fab.openBypass]

/-! ### Mailbox -/

@[simp] theorem Fab.modMbx_storage (f : Fab) (m : Nat) (g : Mbx → Mbx) :
    (f.modMbx m g).storage = f.storage := by
  simp [Fab.modMbx]

@[simp] theorem Fab.mapRaise_storage (f : Fab) (code off : Nat) (wr : Bool) (size data : Nat) :
    (f.mapRaise code off wr size data).storage = f.storage := by
  simp [Fab.mapRaise]

@[simp] theorem Fab.endMbx_storage (f : Fab) (m : Nat) (op : MbxOp) (code data : Nat) :
    (f.endMbx m op code data).storage = f.storage := by
  simp [Fab.endMbx]

@[simp] theorem Fab.forget_storage (f : Fab) (m : Nat) :
    (f.forget m).storage = f.storage := by
  unfold Fab.forget
  rw [Fab.modGuy_storage, Fab.modWd_storage _ _ rfl, Fab.modBind_storage]
  exact Fab.storage_congr rfl rfl rfl

@[simp] theorem Fab.wardenUp_storage (f : Fab) :
    (f.wardenUp).storage = f.storage := by
  simp [Fab.wardenUp]

@[simp] theorem Fab.serveRead_storage (f : Fab) (m : Nat) (dbg : Bool) (t : MbxTarget) :
    (f.serveRead m dbg t).storage = f.storage := by
  simp [Fab.serveRead]

@[simp] theorem Fab.serveWarden_storage (f : Fab) (m : Nat) (t : MbxTarget) (len v : Nat) :
    (f.serveWarden m t len v).storage = f.storage := by
  simp [Fab.serveWarden]

@[simp] theorem Fab.serveCommit_storage (f : Fab) (m len v : Nat) :
    (f.serveCommit m len v).storage = f.storage := by
  simp [Fab.serveCommit]

@[simp] theorem Fab.beginMbx_storage (f : Fab) (m : Nat) (op : MbxOp) :
    (f.beginMbx m op).storage = f.storage := by
  simp [Fab.beginMbx]

@[simp] theorem Fab.cmdRead_storage (f : Fab) (m : Nat) (dbg : Bool) (t : MbxTarget) (off len : Nat) :
    (f.cmdRead m dbg t off len).storage = f.storage := by
  simp [Fab.cmdRead]

@[simp] theorem Fab.cmdSeg_storage (f : Fab) (m : Nat) (t : MbxTarget) (off len : Nat) :
    (f.cmdSeg m t off len).storage = f.storage := by
  simp only [Fab.cmdSeg]
  repeat' split
  all_goals simp

@[simp] theorem Fab.guardOf_storage (f : Fab) (m cmd : Nat) (t : MbxTarget) :
    (f.guardOf m cmd t).1.storage = f.storage := by
  simp [Fab.guardOf]

/-! ### Resets -/

@[simp] theorem Fab.clearUnit_storage (f : Fab) (u : Scope × Nat) (cold : Bool) :
    (f.clearUnit u cold).storage = f.storage := by
  simp [Fab.clearUnit]

@[simp] theorem Fab.linkPeerReset_storage (f : Fab) (u q : Nat) :
    (f.linkPeerReset u q).storage = f.storage := by
  simp [Fab.linkPeerReset]

@[simp] theorem Fab.unfence_storage (f : Fab) (x : Cdc) :
    (f.unfence x).storage = f.storage := by
  simp [Fab.unfence]

@[simp] theorem Fab.unfenceSeam_storage (f : Fab) (ss c : Nat) :
    (f.unfenceSeam ss c).storage = f.storage := by
  simp [Fab.unfenceSeam]

@[simp] theorem Fab.enterCross_storage (f : Fab) (ss c : Nat) (cold : Bool) :
    (f.enterCross ss c cold).storage = f.storage := by
  simp [Fab.enterCross]

@[simp] theorem Fab.enterCrossings_storage (f : Fab) (ts : List Nat) (cold : Bool) :
    (f.enterCrossings ts cold).storage = f.storage := by
  unfold Fab.enterCrossings
  refine Fab.foldl_storage _ (fun f t => Fab.foldl_storage _ (fun f p => ?_) _ _) _ _
  split <;> simp

@[simp] theorem Fab.enterSide_storage (f : Fab) (ss : Nat) (cold : Bool) :
    (f.enterSide ss cold).storage = f.storage := by
  simp [Fab.enterSide]

@[simp] theorem Fab.enterQuad_storage (f : Fab) (q : Nat) :
    (f.enterQuad q).storage = f.storage := by
  simp [Fab.enterQuad]

@[simp] theorem Fab.enterDie_storage (f : Fab) (d : Nat) (cold : Bool) :
    (f.enterDie d cold).storage = f.storage := by
  simp [Fab.enterDie]

@[simp] theorem Fab.coldLanterns_storage (f : Fab) :
    (f.coldLanterns).storage = f.storage := by
  simp [Fab.coldLanterns]

@[simp] theorem Fab.leaveUnit_storage (f : Fab) (u : Scope × Nat) (inst : Bool) :
    (f.leaveUnit u inst).storage = f.storage := by
  unfold Fab.leaveUnit
  split <;> simp

@[simp] theorem Fab.reloadRwt_storage (f : Fab) (u : Scope × Nat) :
    (f.reloadRwt u).storage = f.storage := by
  unfold Fab.reloadRwt
  split <;> simp

@[simp] theorem Fab.leaveTile_storage (f : Fab) (t : Nat) (inst : Bool) :
    (f.leaveTile t inst).storage = f.storage := by
  simp only [Fab.leaveTile]
  repeat' split
  all_goals simp

@[simp] theorem Fab.leaveCrossings_storage (f : Fab) (t : Nat) :
    (f.leaveCrossings t).storage = f.storage := by
  unfold Fab.leaveCrossings
  refine Fab.foldl_storage _ (fun f p => ?_) _ _
  split <;> simp

@[simp] theorem Fab.leaveDie_storage (f : Fab) (d : Nat) :
    (f.leaveDie d).storage = f.storage := by
  simp [Fab.leaveDie]

@[simp] theorem Fab.leaveQuad_storage (f : Fab) (q : Nat) :
    (f.leaveQuad q).storage = f.storage := by
  simp [Fab.leaveQuad]

@[simp] theorem Fab.startLanterns_storage (f : Fab) :
    (f.startLanterns).storage = f.storage := by
  simp [Fab.startLanterns]

@[simp] theorem Fab.leaveInstance_storage (f : Fab) (cold : Bool) :
    (f.leaveInstance cold).storage = f.storage := by
  have hao (f : Fab) (d : Nat) : (if (f.die d).ao then f.leaveDie d else f).storage = f.storage := by simp
  have htiles (f : Fab) (t : Nat) : (f.leaveTile t true).storage = f.storage := by simp
  have hcross (f : Fab) (t : Nat) : (if (f.die (dieOf t)).ao then f.leaveCrossings t else f).storage = f.storage := by
    simp
  have hend (g : Fab) (n : Nat) : { g with
      boot := true, bootAt := n, mbx := [], map := MapRegs.reset, answers := [] }.newPasses.storage = g.storage :=
    Fab.newPasses_storage _
  unfold Fab.leaveInstance
  rw [hend, Fab.foldl_storage _ hcross, Fab.foldl_storage _ htiles, Fab.foldl_storage _ hao]
  split <;> simp

@[simp] theorem Fab.peerUnsupplied_storage (f : Fab) (ss : Nat) :
    (f.peerUnsupplied ss).storage = f.storage := by
  simp [Fab.peerUnsupplied]

@[simp] theorem Fab.guardedWrite_storage (f : Fab) (off size v : Nat) (g : Fab → Fab × Bool)
    (h : ∀ f, (g f).1.storage = f.storage) : (f.guardedWrite off size v g).storage = f.storage := by
  simp [Fab.guardedWrite, h]

/-! ### Map -/

@[simp] theorem Fab.readReg_storage (f : Fab) (off : Nat) :
    (f.readReg off).1.storage = f.storage := by
  simp [Fab.readReg]

@[simp] theorem Fab.wKey_storage (f : Fab) (size v : Nat) :
    (f.wKey size v).storage = f.storage := by
  simp [Fab.wKey]

@[simp] theorem Fab.wCrcCtl_storage (f : Fab) (v : Nat) :
    (f.wCrcCtl v).storage = f.storage := by
  simp [Fab.wCrcCtl]

@[simp] theorem Fab.wCrcRef_storage (f : Fab) (size v : Nat) :
    (f.wCrcRef size v).storage = f.storage := by
  simp [Fab.wCrcRef]

@[simp] theorem Fab.wMapFirst_storage (f : Fab) (v : Nat) :
    (f.wMapFirst v).storage = f.storage := by
  simp [Fab.wMapFirst]

@[simp] theorem Fab.busFault_storage (f : Fab) (code off : Nat) (wr : Bool) (size v : Nat) :
    (f.busFault code off wr size v).storage = f.storage := by
  simp [Fab.busFault]

@[simp] theorem Fab.busRead_storage (f : Fab) (off size : Nat) :
    (f.busRead off size).1.storage = f.storage := by
  simp [Fab.busRead]

@[simp] theorem Fab.passDone_storage (f : Fab) (d crc : Nat) :
    (f.passDone d crc).storage = f.storage := by
  simp [Fab.passDone]

/-! ### Xbar -/

@[simp] theorem Fab.modXb_storage (f : Fab) (g : Xbar → Xbar) :
    (f.modXb g).storage = f.storage := by
  simp [Fab.modXb]

@[simp] theorem Fab.vePut_storage (f : Fab) (o v : Nat) :
    (f.vePut o v).storage = f.storage := by
  unfold Fab.vePut
  repeat' split
  all_goals simp

@[simp] theorem Fab.xLoad_storage (f : Fab) (n o size : Nat) :
    (f.xLoad n o size).1.storage = f.storage := by
  unfold Fab.xLoad
  repeat' split
  all_goals simp

@[simp] theorem Fab.xCarry_storage (f : Fab) (r : XReq) (n : Nat) :
    (f.xCarry r n).storage = f.storage := by
  simp [Fab.xCarry]

@[simp] theorem Fab.windowStart_storage (f : Fab) (r : XReq) (o : Nat) :
    (f.windowStart r o).storage = f.storage := by
  simp [Fab.windowStart]

end Sys2Proof.Machine

/-! Proofs: what the operations on one-time storage, the Commons banks and the Warden SRAM keep (R283, R508, R539, R558). -/

namespace Sys2Proof.Machine

/-! ## What every operation keeps of storage -/

/-- What a command keeps of storage: it clears no bit of one-time storage and leaves its words words (R539), and it
leaves the byte memories in canonical form. -/
structure Fab.Keeps (f g : Fab) : Prop where
  bits : f.otp.keepsBits g.otp
  words : f.otp.wordsOk → g.otp.wordsOk
  mems : f.memoriesWf = true → g.memoriesWf = true

/-- An operation that leaves storage as it is keeps it. -/
theorem Fab.Keeps.of_storage {f g : Fab} (h : g.storage = f.storage) : f.Keeps g := by
  simp only [Fab.storage, Prod.mk.injEq] at h
  obtain ⟨harr, hcmn, hsram⟩ := h
  refine ⟨fun w k hk => ?_, fun hw w => ?_, fun hm => ?_⟩
  · simpa only [Otp.word, harr] using hk
  · simpa only [Otp.word, harr] using hw w
  · simpa only [Fab.memoriesWf, hcmn, hsram] using hm

theorem Fab.Keeps.refl (f : Fab) : f.Keeps f := .of_storage rfl

theorem Fab.Keeps.trans {f g h : Fab} (hfg : f.Keeps g) (hgh : g.Keeps h) : f.Keeps h :=
  ⟨fun w k hk => hgh.bits w k (hfg.bits w k hk), fun hw => hgh.words (hfg.words hw), fun hm => hgh.mems (hfg.mems hm)⟩

/-- What is kept up to an operation is kept by it, when it leaves storage as it is. -/
theorem Fab.Keeps.congr_right {f g h : Fab} (hfg : f.Keeps g) (heq : h.storage = g.storage) : f.Keeps h :=
  hfg.trans (.of_storage heq)

/-- What is kept from an operation on is kept from before it, when it leaves storage as it is. -/
theorem Fab.Keeps.congr_left {f g h : Fab} (hgh : g.Keeps h) (heq : g.storage = f.storage) : f.Keeps h :=
  .trans (.of_storage heq) hgh

theorem Fab.Keeps.ite {f a b : Fab} {c : Prop} [Decidable c] (ha : f.Keeps a) (hb : f.Keeps b) :
    f.Keeps (if c then a else b) := by
  split
  · exact ha
  · exact hb

theorem Fab.Keeps.fst_ite {β : Type} {f : Fab} {a b : Fab × β} {c : Prop} [Decidable c] (ha : f.Keeps a.1)
    (hb : f.Keeps b.1) : f.Keeps (if c then a else b).1 := by
  split
  · exact ha
  · exact hb

/-- A fold of operations keeps what each of them keeps. -/
theorem Fab.Keeps.foldl {α : Type} {g : Fab → α → Fab} (h : ∀ (f : Fab) (a : α), f.Keeps (g f a)) (l : List α) (f : Fab) :
    f.Keeps (l.foldl g f) := by
  induction l generalizing f with
  | nil => exact .refl f
  | cons a l ih => exact (h f a).trans (ih (g f a))

/-! ### One-time storage -/

/-- An array of one-time storage that only gained bits, in words of 32 bits. -/
def Otp.Gains (a b : Otp) : Prop := a.keepsBits b ∧ (a.wordsOk → b.wordsOk)

theorem Otp.Gains.refl (o : Otp) : o.Gains o := ⟨fun _ _ h => h, id⟩

theorem Otp.Gains.trans {a b c : Otp} (hab : a.Gains b) (hbc : b.Gains c) : a.Gains c :=
  ⟨fun w k h => hbc.1 w k (hab.1 w k h), fun h => hbc.2 (hab.2 h)⟩

/-- Programming a word only gains bits. -/
theorem Otp.gains_program (o : Otp) (w v : Nat) : o.Gains (o.program w v) := by
  refine ⟨fun x k hk => ?_, fun hw x => ?_⟩
  · rw [Otp.testBit_program_word, hk, Bool.true_or]
  · rw [Otp.program_word]
    split
    · exact Nat.or_lt_two_pow (hw w) (Nat.mod_lt _ (by decide))
    · exact hw x

/-- So does programming many. -/
theorem Otp.gains_foldl_program {α : Type} (l : List α) (w v : α → Nat) (o : Otp) :
    o.Gains (l.foldl (fun o a => o.program (w a) (v a)) o) := by
  induction l generalizing o with
  | nil => exact .refl o
  | cons a l ih => exact (o.gains_program _ _).trans (ih _)

theorem Otp.gains_programRecord (o : Otp) (slot record n : Nat) (fails : List (Nat × Nat)) :
    o.Gains (o.programRecord slot record n fails) :=
  Otp.gains_foldl_program ..

theorem Otp.gains_burnSeal (o : Otp) (m : Nat) : o.Gains (o.burnSeal m) := Otp.gains_foldl_program ..

/-- A change of one-time storage that only gains bits is kept. -/
theorem Fab.keeps_modOtp (f : Fab) (g : Otp → Otp) (h : f.otp.Gains (g f.otp)) : f.Keeps (f.modOtp g) :=
  ⟨h.1, h.2, id⟩

theorem Fab.keeps_otpCmd (f : Fab) (miss : Nat) : f.Keeps (f.otpCmd miss) := by
  unfold Fab.otpCmd
  dsimp only
  split
  · exact f.keeps_modOtp _ (.refl f.otp)
  · refine .congr_right (f.keeps_modOtp _ ?_) (Fab.readSeal_storage _)
    exact f.otp.gains_program f.otp.addr (clearBits f.otp.wdata miss)

theorem Fab.keeps_otpPut (f : Fab) (o v miss : Nat) : f.Keeps (f.otpPut o v miss) := by
  unfold Fab.otpPut
  exact .ite (.ite (f.keeps_otpCmd miss) (.refl f)) (.of_storage (by simp [Fab.modOtp_storage]))

/-- What a restart or a cold reset cuts short stands as far as it came. -/
theorem Fab.keeps_cutOtp (f : Fab) : f.Keeps f.cutOtp := by
  have hburn (f : Fab) (v : Nat) : f.Keeps (match f.wd.burn with
      | some _ => f.modOtp (fun o => o.burnSeal v)
      | none => f) := by
    split
    · exact f.keeps_modOtp _ (f.otp.gains_burnSeal _)
    · exact .refl f
  have hprog (f : Fab) (n : Nat) : f.Keeps (match f.wd.prog with
      | some j => f.modOtp (fun o => o.programRecord j.slot j.record n [])
      | none => f) := by
    split
    · exact f.keeps_modOtp _ (f.otp.gains_programRecord ..)
    · exact .refl f
  have hend (f : Fab) (n : Nat) (used : Bool) :
      (let g := f.modWd (fun w => { w with burn := none, prog := none })
       if used then { g with fresh := n } else g).storage = f.storage := by
    cases used <;> simp
  exact ((hburn f _).trans (hprog _ _)).congr_right (hend _ _ _)

/-! ### Commons banks -/

/-- A change of a bank that keeps its memory canonical keeps storage. -/
theorem Fab.keeps_modCmn (f : Fab) (n : Nat) (g : Cmn → Cmn)
    (h : ∀ c, SMap.wf emptyByte c.mem = true → SMap.wf emptyByte (g c).mem = true) : f.Keeps (f.modCmn n g) := by
  refine ⟨fun _ _ hk => hk, id, fun hm => ?_⟩
  simp only [Fab.memoriesWf, Bool.and_eq_true] at hm ⊢
  have hbank : SMap.wf emptyByte (f.cmnOf n).mem = true :=
    SMap.get_of_all _ _ n (fun c : Cmn => SMap.wf emptyByte c.mem) rfl hm.1
  refine ⟨?_, hm.2⟩
  exact SMap.all_set (fun _ => Cmn.reset) f.cmn n (g (f.cmnOf n)) (fun c : Cmn => SMap.wf emptyByte c.mem) (h _ hbank) hm.1

/-- A change of the Warden that keeps its SRAM canonical keeps storage. -/
theorem Fab.keeps_modWd (f : Fab) (g : Warden → Warden)
    (h : SMap.wf emptyByte f.wd.sram = true → SMap.wf emptyByte (g f.wd).sram = true) : f.Keeps (f.modWd g) := by
  refine ⟨fun _ _ hk => hk, id, fun hm => ?_⟩
  simp only [Fab.memoriesWf, Bool.and_eq_true] at hm ⊢
  exact ⟨hm.1, h hm.2⟩

theorem Fab.keeps_clearResv (f : Fab) (n off len : Nat) : f.Keeps (f.clearResv n off len) := by
  unfold Fab.clearResv
  exact f.keeps_modCmn n _ (fun _ h => h)

theorem Fab.keeps_clearAllResv (f : Fab) (n : Nat) : f.Keeps (f.clearAllResv n) := by
  unfold Fab.clearAllResv
  exact f.keeps_modCmn n _ (fun _ h => h)

theorem Fab.keeps_cmnStore (f : Fab) (n : Nat) (p : Packet) : f.Keeps (f.cmnStore n p) := by
  unfold Fab.cmnStore
  exact (f.keeps_modCmn n _ (fun _ h => memWrite_wf _ _ _ _ _ h)).trans (Fab.keeps_clearResv ..)

theorem Fab.keeps_setResv (f : Fab) (n : Nat) (p : Packet) : f.Keeps (f.setResv n p) := by
  by_cases h : 256 ≤ (f.otherResv n p).length
  · rw [Fab.setResv_of_full h]
    refine .congr_right ?_ (Fab.bump_storage ..)
    exact f.keeps_modCmn n _ (fun _ h => h)
  · rw [Fab.setResv_of_room (Nat.not_le.mp h)]
    exact f.keeps_modCmn n _ (fun _ h => h)

theorem Fab.keeps_cmnWrite (f : Fab) (n : Nat) (p : Packet) (ue : Option Nat) : f.Keeps (f.cmnWrite n p ue) := by
  unfold Fab.cmnWrite
  dsimp only
  split
  · exact .of_storage (by simp)
  · exact (f.keeps_cmnStore n p).congr_right (Fab.cmnAnswer_storage ..)

theorem Fab.keeps_cmnWhen (f : Fab) (n : Nat) (op : CmnOp) (go : Fab → Packet → Fab)
    (h : ∀ (f : Fab) (p : Packet), f.Keeps (go f p)) : f.Keeps (f.cmnWhen n op go) := by
  unfold Fab.cmnWhen
  split
  · exact .refl f
  · exact .ite (h f _) (.refl f)

theorem Fab.keeps_wResvGran (f : Fab) (n v : Nat) : f.Keeps (f.wResvGran n v).1 := by
  unfold Fab.wResvGran
  exact .fst_ite (.refl f) ((Fab.keeps_clearAllResv _ n).congr_left (by simp))

theorem Fab.keeps_wResvClear (f : Fab) (n v : Nat) : f.Keeps (f.wResvClear n v).1 :=
  .ite (.refl f) (f.keeps_clearAllResv n)

/-! ### Sleep, the Warden, and writes of objects -/

theorem Fab.keeps_enterDeep (f : Fab) (t : Nat) : f.Keeps (f.enterDeep t) := by
  unfold Fab.enterDeep
  dsimp only
  split
  · exact (Fab.keeps_clearAllResv _ _).congr_left (by simp)
  · exact .of_storage (by simp)

theorem Fab.keeps_beginNap (f : Fab) (t : Nat) : f.Keeps (f.beginNap t) := by
  unfold Fab.beginNap
  refine .congr_right (.congr_right (.congr_left (Fab.keeps_enterDeep _ t) ?_) (Fab.dropAwake_storage ..))
    (Fab.oweLess_storage _)
  simp

theorem Fab.keeps_beginOff (f : Fab) (t : Nat) : f.Keeps (f.beginOff t) := by
  unfold Fab.beginOff
  refine .congr_right (.congr_right (.congr_left (Fab.keeps_enterDeep _ t) ?_) (Fab.dropAwake_storage ..))
    (Fab.oweLess_storage _)
  simp

theorem Fab.keeps_wardenRestart (f : Fab) : f.Keeps f.wardenRestart := by
  unfold Fab.wardenRestart
  refine .congr_right (.congr_right f.keeps_cutOtp ?_) (Fab.readSeal_storage _)
  rw [Fab.modWd_storage _ _ rfl, Fab.foldl_storage _ (by simp), Fab.abortTicket_storage]

theorem Fab.keeps_doRemap (f : Fab) : f.Keeps f.doRemap := by
  unfold Fab.doRemap
  refine .congr_right (.congr_left (Fab.keeps_wardenRestart _) ?_) (Fab.shadowAll_storage ..)
  rw [Fab.modWd_storage _ _ rfl, Fab.setO_storage, Fab.setO_storage]

theorem Fab.keeps_remapIfDue (f : Fab) : f.Keeps f.remapIfDue := .ite f.keeps_doRemap (.refl f)

theorem Fab.keeps_wRemap (f : Fab) (v : Nat) : f.Keeps (f.wRemap v).1 := by
  unfold Fab.wRemap
  exact .fst_ite (.refl f) (.fst_ite (.of_storage (by simp)) (.fst_ite (.of_storage (by simp)) f.keeps_doRemap))

theorem Fab.keeps_wInst (f : Fab) (d idx sub v : Nat) : f.Keeps (f.wInst d idx sub v).1 := by
  unfold Fab.wInst
  refine .fst_ite (.of_storage (by simp)) (.fst_ite (.of_storage (by simp)) (.fst_ite (f.keeps_wRemap v)
    (.of_storage (by simp))))

theorem Fab.keeps_wObj (f : Fab) (d : Nat) (dbg : Bool) (sc : Scope) (num idx sub elem v : Nat) (clk : Bool) :
    f.Keeps (f.wObj d dbg sc num idx sub elem v clk).1 := by
  unfold Fab.wObj
  split
  · exact .of_storage (by simp)
  · refine .fst_ite (.of_storage (by simp)) ?_
    cases sc
    case inst => exact f.keeps_wInst d idx sub v
    case cmn =>
      exact .fst_ite (f.keeps_wResvGran num v) (.fst_ite (f.keeps_wResvClear num v) (.of_storage (by simp)))
    all_goals exact .of_storage (by simp)

theorem Fab.keeps_wChecked (f : Fab) (d : Nat) (dbg : Bool) (sc : Scope) (num idx sub elem len v : Nat) (clk : Bool) :
    f.Keeps (f.wChecked d dbg sc num idx sub elem len v clk).1 := by
  unfold Fab.wChecked
  exact .fst_ite (.refl f) (.fst_ite (.refl f) (.fst_ite (.refl f) (f.keeps_wObj ..)))

theorem Fab.keeps_objWrite (f : Fab) (who : Nat) (sc : Scope) (num idx sub : Nat) (w : Fab → Fab × Nat)
    (h : ∀ f : Fab, f.Keeps (w f).1) : f.Keeps (f.objWrite who sc num idx sub w) :=
  .ite ((h f).congr_right (Fab.answer_storage ..)) (.of_storage (by simp))

theorem Fab.keeps_access (f : Fab) (tag st : Nat) (x : GFrame) (ue clk : Bool) : f.Keeps (f.access tag st x ue clk) := by
  unfold Fab.access
  refine .ite (.of_storage (by simp)) (.ite (.of_storage (by simp)) ?_)
  refine .congr_right (.congr_left (Fab.keeps_wChecked ..) ?_) (Fab.respond_storage ..)
  simp

theorem Fab.keeps_bcastApply (f : Fab) (d : Nat) (x : GFrame) (clk : Bool) : f.Keeps (f.bcastApply d x clk).1 :=
  .fst_ite (f.keeps_wChecked ..) (.refl f)

theorem Fab.keeps_serveWrite (f : Fab) (m : Nat) (dbg : Bool) (t : MbxTarget) (len v : Nat) (guard : Bool) :
    f.Keeps (f.serveWrite m dbg t len v guard) := by
  unfold Fab.serveWrite
  refine .ite (.of_storage (by simp)) (.ite ?_ (.of_storage (by simp)))
  exact (f.keeps_wChecked ..).congr_right (Fab.done_storage ..)

theorem Fab.keeps_cmdWrite (f : Fab) (m : Nat) (dbg : Bool) (t : MbxTarget) (off len guard : Nat) :
    f.Keeps (f.cmdWrite m dbg t off len guard) := by
  unfold Fab.cmdWrite
  refine .ite (.of_storage (by simp)) (.ite ((Fab.keeps_serveWrite ..).congr_left (by simp)) ?_)
  split
  · exact .of_storage (by simp)
  · exact (Fab.keeps_serveWrite ..).congr_left (by simp)

theorem Fab.keeps_mbxGo (f : Fab) (m cmd : Nat) (dbg : Bool) : f.Keeps (f.mbxGo m cmd dbg) := by
  unfold Fab.mbxGo
  refine .ite (.of_storage (by simp)) (.ite (.of_storage (by simp)) (.ite (.of_storage (by simp)) ?_))
  split
  · exact .of_storage (by simp)
  · refine .ite (.of_storage (by simp)) (.ite (.of_storage (by simp)) ?_)
    exact (Fab.keeps_cmdWrite ..).congr_left (by simp)

theorem Fab.keeps_wMbxCmd (f : Fab) (m cmd : Nat) (dbg : Bool) : f.Keeps (f.wMbxCmd m cmd dbg) := by
  unfold Fab.wMbxCmd
  exact .ite (.of_storage (by simp)) (.ite (f.keeps_mbxGo m cmd dbg) (.of_storage (by simp)))

/-! ### Resets -/

theorem Fab.keeps_resetUnit (f : Fab) (u : Scope × Nat) : f.Keeps (f.resetUnit u) := by
  unfold Fab.resetUnit
  split
  case h_3 => exact f.keeps_modCmn _ _ (fun _ _ => rfl)
  all_goals exact .of_storage (by simp)

theorem Fab.keeps_enterTile (f : Fab) (t : Nat) (cold off : Bool) : f.Keeps (f.enterTile t cold off) := by
  unfold Fab.enterTile
  refine .congr_right (.congr_right (.foldl (fun f u => ?_) _ f) (Fab.modTile_storage ..)) (Fab.modGuy_storage ..)
  refine (f.keeps_resetUnit u).congr_right ?_
  simp

theorem Fab.keeps_enterTiles (f : Fab) (ts : List Nat) (cold : Bool) : f.Keeps (f.enterTiles ts cold) := by
  have hpeer (f : Fab) (t : Nat) : ((((List.range 6).foldl (fun f p => match neighbour t p with
      | some (u, q) => f.linkPeerReset u q
      | none => f) f).peerEnter (.station t)).peerEnter (.cell t)).storage = f.storage := by
    rw [Fab.peerEnter_storage, Fab.peerEnter_storage, Fab.foldl_storage _ (fun f p => ?_)]
    split <;> simp
  unfold Fab.enterTiles
  refine .congr_right (.foldl (fun f t => f.keeps_enterTile t cold false) ts f) ?_
  rw [Fab.oweLess_storage]
  exact Fab.foldl_storage _ hpeer _ _

/-- The Warden leaves an INSTANCE reset with its SRAM empty; one-time storage and the banks stay. -/
theorem Fab.Keeps.of_empty_sram {f g : Fab} (hotp : g.otp.arr = f.otp.arr) (hcmn : g.cmn = f.cmn)
    (hsram : g.wd.sram = []) : f.Keeps g := by
  refine ⟨fun w k hk => ?_, fun hw w => ?_, fun hm => ?_⟩
  · simpa only [Otp.word, hotp] using hk
  · simpa only [Otp.word, hotp] using hw w
  · simp only [Fab.memoriesWf, Bool.and_eq_true] at hm
    simp only [Fab.memoriesWf, hcmn, hsram, Bool.and_eq_true]
    exact ⟨hm.1, rfl⟩

/-- A warm or cold INSTANCE reset: what is being programmed is cut short, and the tiles enter reset one by one. -/
theorem Fab.keeps_enterInstance (f : Fab) (cold off : Bool) : f.Keeps (f.enterInstance cold off) := by
  have hticket (f : Fab) : (if cold then f else f.abortTicket).storage = f.storage := by simp
  have hdies (f : Fab) : ((List.range 4).foldl (fun f d => f.modDie d (fun x => { x with
      rst := true, qpReq := List.replicate 4 false, famReq := !off })) f).storage = f.storage :=
    Fab.foldl_storage _ (by simp) _ f
  have hsides (f : Fab) : ((List.range 8).foldl (fun f ss => f.enterSide ss cold) f).storage = f.storage :=
    Fab.foldl_storage _ (by simp) _ f
  have hsb (f : Fab) :
      ((List.range 8).foldl (fun f ss => f.modSide ss (fun x => { x with sb := [] })) f).storage = f.storage :=
    Fab.foldl_storage _ (by simp) _ f
  have hcold (f : Fab) : (if cold then
      ({ f with nonce := 0 }.coldLanterns).modOtp (fun o => { o with slot := none, loaded := false })
      else f).storage = f.storage := by
    split
    · exact (Fab.modOtp_storage _ _ rfl).trans (Fab.coldLanterns_storage _)
    · rfl
  have htiles (ts : List Nat) (g : Fab) (hg : f.Keeps g) : f.Keeps (ts.foldl (fun f t => f.enterTile t cold off) g) :=
    hg.trans (.foldl (fun f t => f.keeps_enterTile t cold off) ts g)
  unfold Fab.enterInstance
  generalize List.range 256 = ts
  refine .congr_right ?_ (hcold _)
  have hstart := htiles ts _ ((f.keeps_cutOtp.congr_right (hticket _)).congr_right
    ((hsb _).trans ((hsides _).trans (hdies _))))
  revert hstart
  generalize List.foldl (fun (f : Fab) t => f.enterTile t cold off) _ ts = g
  intro hstart
  replace hstart := hstart.congr_right (g.dropObjs_storage (fun k => cold || !keptWarm (keyIdx k)))
  revert hstart
  generalize g.dropObjs _ = g'
  exact fun hstart => hstart.trans (.of_empty_sram rfl rfl rfl)

theorem Fab.keeps_startReset (f : Fab) (sc : Scope) (num : Nat) (cold viaMap : Bool) :
    f.Keeps (f.startReset sc num cold viaMap) := by
  have hrsts (g : Fab) (l : List Rst) : { g with rsts := l }.storage = g.storage := rfl
  have hticket (c : Bool) (f : Fab) : (if c then f.abortTicket else f).storage = f.storage := by simp
  cases sc
  case inst => exact .congr_right (.congr_left (Fab.keeps_enterInstance ..) (hticket _ f)) (hrsts _ _)
  case die =>
    exact .congr_right (.congr_left (Fab.keeps_enterTiles ..) (hticket _ f)) ((hrsts _ _).trans (Fab.enterDie_storage ..))
  case quad =>
    exact .congr_right (.congr_left (Fab.keeps_enterTiles ..) (hticket _ f))
      ((hrsts _ _).trans ((Fab.enterQuad_storage ..).trans (Fab.enterCrossings_storage ..)))
  case tile =>
    exact .congr_right (.congr_left (Fab.keeps_enterTiles ..) (hticket _ f))
      ((hrsts _ _).trans (Fab.enterCrossings_storage ..))
  all_goals exact .of_storage (hticket _ f)

theorem Fab.keeps_mapReset (f : Fab) (v : Nat) : f.Keeps (f.mapReset v).1 := by
  unfold Fab.mapReset
  exact .fst_ite (.refl f) (.congr_left (Fab.keeps_startReset ..) (Fab.modMap_storage ..))

theorem Fab.keeps_guardedWrite (f : Fab) (off size v : Nat) (g : Fab → Fab × Bool) (h : ∀ f : Fab, f.Keeps (g f).1) :
    f.Keeps (f.guardedWrite off size v g) := by
  unfold Fab.guardedWrite
  exact .ite (.congr_right (.congr_left (h _) (Fab.modMap_storage ..)) (Fab.modMap_storage ..)) (.of_storage (by simp))

/-! ### The control bus of the MAP and the management crossbar -/

theorem Fab.keeps_writeReg (f : Fab) (off size v : Nat) (clk : Bool) : f.Keeps (f.writeReg off size v clk) := by
  unfold Fab.writeReg
  split
  · split
    · exact .ite (f.keeps_wMbxCmd ..) (.refl f)
    · exact .refl f
  · split
    · exact .ite (.of_storage (by simp)) (.ite (f.keeps_wMbxCmd ..) (.of_storage (by simp)))
    · iterate 8 refine .ite (.of_storage (by simp)) ?_
      exact .ite (f.keeps_guardedWrite _ _ _ _ (fun f => f.keeps_mapReset v)) (.refl f)

theorem Fab.keeps_busWrite (f : Fab) (off size v : Nat) (clk : Bool) : f.Keeps (f.busWrite off size v clk) := by
  unfold Fab.busWrite
  exact .ite (.of_storage (by simp)) (.ite (.of_storage (by simp)) (f.keeps_writeReg ..))

theorem Fab.keeps_xPut (f : Fab) (n o v miss : Nat) (dbg : Bool) : f.Keeps (f.xPut n o v miss dbg) := by
  unfold Fab.xPut
  exact .ite (f.keeps_otpPut ..) (.ite (.of_storage (by simp)) (.ite (.refl f)
    (.ite (f.keeps_wMbxCmd ..) (.of_storage (by simp)))))

theorem Fab.keeps_xStore (f : Fab) (r : XReq) (n o v miss : Nat) : f.Keeps (f.xStore r n o v miss) := by
  unfold Fab.xStore
  exact .ite (f.keeps_modWd _ (fun h => memWrite_wf _ _ _ _ _ h)) (f.keeps_xPut ..)

/-- A fold over a pair of a fabric and a result keeps what each step keeps. -/
theorem Fab.Keeps.foldl_fst {α β : Type} {g : Fab × β → α → Fab × β} (h : ∀ (x : Fab × β) (a : α), x.1.Keeps (g x a).1)
    (l : List α) (x : Fab × β) : x.1.Keeps (l.foldl g x).1 := by
  induction l generalizing x with
  | nil => exact .refl x.1
  | cons a l ih => exact (h x a).trans (ih (g x a))

theorem Fab.keeps_xPerform (f : Fab) (r : XReq) (n o miss : Nat) : f.Keeps (f.xPerform r n o miss).1 :=
  .foldl_fst (fun x _ => .fst_ite (x.1.keeps_xStore ..) (.of_storage (by simp))) _ (f, [])

theorem Fab.keeps_xAnswer (f : Fab) (r : XReq) (err : Bool) (data : List Nat) : f.Keeps (f.xAnswer r err data) := by
  unfold Fab.xAnswer
  refine .congr_left (Fab.keeps_remapIfDue _) ?_
  simp

theorem Fab.keeps_windowEnd (f : Fab) : f.Keeps f.windowEnd := by
  unfold Fab.windowEnd
  split
  · refine .congr_left (Fab.keeps_xAnswer ..) ?_
    simp
  · exact .refl f

theorem Fab.keeps_xPresent (f : Fab) (r : XReq) : f.Keeps (f.xPresent r) := by
  unfold Fab.xPresent
  split
  · exact .refl f
  · split
    · exact .ite (.of_storage (by simp)) (.congr_left (Fab.keeps_xAnswer ..) (Fab.raiseW_storage ..))
    · exact .congr_left (Fab.keeps_xAnswer ..) (Fab.raiseW_storage ..)

theorem Fab.keeps_memUe (f : Fab) (r : XReq) (n : Nat) : f.Keeps (f.memUe r n) := by
  unfold Fab.memUe
  refine .congr_left (Fab.keeps_wardenRestart _) ?_
  simp

theorem Fab.keeps_xGrant (f : Fab) (n : Nat) (ans : Bool) (ue : Option (List Nat)) (miss : Nat) :
    f.Keeps (f.xGrant n ans ue miss) := by
  unfold Fab.xGrant
  split
  · exact .refl f
  · split
    · exact .refl f
    · split
      · exact .refl f
      · dsimp only
        refine .ite (.congr_left (Fab.keeps_xAnswer ..) ?_) (.ite (.of_storage ?_) (.ite (.of_storage ?_) ?_))
        · simp
        · simp
        · simp
        · split
          · refine .ite (.trans (.trans (.congr_left (Fab.keeps_xPerform ..) ?_) (Fab.keeps_xAnswer ..)) (Fab.keeps_memUe ..))
              (.trans (.congr_left (Fab.keeps_xPerform ..) ?_) (Fab.keeps_xAnswer ..)) <;> simp
          · refine .trans (.congr_left (Fab.keeps_xPerform ..) ?_) (Fab.keeps_xAnswer ..)
            simp

end Sys2Proof.Machine

/-! Proofs: the commands go on, and what each of them keeps (R539, R565). -/

namespace Sys2Proof.Machine

/-! ## What every command keeps -/

/-- A command goes on when it completes, leaves the rest of the queue alone, and keeps storage. -/
def State.GoesOn (s : State) (o : Host.Outcome State Fault Refusal) : Prop :=
  ∃ g, o = .next ⟨s.pending, g⟩ ∧ s.fab.Keeps g

theorem State.goesOn_onFab (s : State) {g : Fab → Fab} (h : ∀ f : Fab, f.Keeps (g f)) :
    s.GoesOn (.next (s.onFab g)) :=
  ⟨g s.fab, rfl, h s.fab⟩

theorem State.goesOn_of_storage (s : State) {g : Fab → Fab} (h : ∀ f : Fab, (g f).storage = f.storage) :
    s.GoesOn (.next (s.onFab g)) :=
  s.goesOn_onFab (fun f => .of_storage (h f))

/-- A ticket that is accepted or rejected leaves storage as its last check does. -/
theorem Fab.tkEnd_storage_of {f : Fab} {tk : Nat} {o : Except Nat Fab} (h : ∀ g, o = .ok g → g.storage = f.storage) :
    (f.tkEnd tk o).storage = f.storage := by
  cases o with
  | error r => exact Fab.ticketRejected_storage ..
  | ok g => exact h g rfl

/-! ### Commands that leave storage as it is -/

theorem execIngressPacketCheck_goesOn (t : Nat) (e : Ecc) (ue : Bool) (s : State) : s.GoesOn (execIngressPacketCheck t e ue s) := by
  refine s.goesOn_of_storage (fun f => ?_)
  split
  · rfl
  · split
    · rfl
    · dsimp only
      split
      case h_1 heq => simp [Fab.storage_of_eq heq]
      case h_2 heq =>
        split
        · simp [Fab.storage_of_eq heq]
        · split
          · simp [Fab.storage_of_eq heq]
          · split <;> simp [Fab.storage_of_eq heq]

theorem execLensAckReceive_goesOn (x : Nat × Lchk) (s : State) : s.GoesOn (execLensAckReceive x s) := by
  refine s.goesOn_of_storage (fun f => ?_)
  obtain ⟨d, hck⟩ := x
  split
  case h_1 heq => simp [Fab.storage_of_eq heq]
  case h_2 heq =>
    split
    case h_1 heq' => simp [Fab.storage_of_eq heq', Fab.storage_of_eq heq]
    case h_2 heq' => simp [Fab.storage_of_eq heq', Fab.storage_of_eq heq]

theorem execDrainDoneReceive_goesOn (x : Nat × Lchk) (s : State) : s.GoesOn (execDrainDoneReceive x s) := by
  refine s.goesOn_of_storage (fun f => ?_)
  obtain ⟨d, hck⟩ := x
  split
  case h_1 heq => simp [Fab.storage_of_eq heq]
  case h_2 heq =>
    split
    case h_1 heq' => simp [Fab.storage_of_eq heq', Fab.storage_of_eq heq]
    case h_2 heq' => simp [Fab.storage_of_eq heq', Fab.storage_of_eq heq]

theorem execPwbMergeHoldExpiry_goesOn (x : Nat × List (Nat × Nat)) (s : State) : s.GoesOn (execPwbMergeHoldExpiry x s) := by
  refine s.goesOn_of_storage (fun f => ?_)
  split
  · rfl
  · dsimp only
    rw [Fab.getD_storage (fun g => Fab.tryEnt_storage _ x.1 x.2 _ g), Fab.setEnt_storage]

theorem execSpResponseArrive_goesOn (d : Nat) (hck : Lchk) (s : State) : s.GoesOn (execSpResponseArrive d hck s) := by
  refine s.goesOn_of_storage (fun f => ?_)
  split
  · rfl
  · split
    case h_1 heq => simp [Fab.storage_of_eq heq]
    case h_2 heq =>
      split
      case h_1 heq' => simp [Fab.storage_of_eq heq', Fab.storage_of_eq heq]
      case h_2 heq' => simp [Fab.storage_of_eq heq', Fab.storage_of_eq heq]

theorem execSpillAsk_goesOn (n : Nat) (s : State) : s.GoesOn (execSpillAsk n s) := by
  refine s.goesOn_of_storage (fun f => ?_)
  split
  case h_1 heq => simp [Fab.storage_of_eq heq]
  case h_2 heq => split <;> simp [Fab.storage_of_eq heq]

theorem execSpillPull_goesOn (n : Nat) (s : State) : s.GoesOn (execSpillPull n s) := by
  refine s.goesOn_of_storage (fun f => ?_)
  split
  case h_1 heq => simp [Fab.storage_of_eq heq]
  case h_2 heq => split <;> simp [Fab.storage_of_eq heq]

theorem execSpillGrant_goesOn (t : Nat) (s : State) : s.GoesOn (execSpillGrant t s) := by
  refine s.goesOn_of_storage (fun f => ?_)
  split
  case h_1 heq => simp [Fab.storage_of_eq heq]
  case h_2 heq => simp [Fab.storage_of_eq heq]

theorem execSpillNone_goesOn (t : Nat) (s : State) : s.GoesOn (execSpillNone t s) := by
  refine s.goesOn_of_storage (fun f => ?_)
  split
  case h_1 heq => simp [Fab.storage_of_eq heq]
  case h_2 heq => simp [Fab.storage_of_eq heq]

theorem execSkWriteFailed_goesOn (n q : Nat) (s : State) : s.GoesOn (execSkWriteFailed n q s) := by
  refine s.goesOn_of_storage (fun f => ?_)
  split
  case h_1 heq => simp [Fab.storage_of_eq heq]
  case h_2 heq => simp [Fab.storage_of_eq heq]

theorem execSpillReceive_goesOn (n : Nat) (e : StageErr) (s : State) : s.GoesOn (execSpillReceive n e s) := by
  refine s.goesOn_of_storage (fun f => ?_)
  split
  case h_1 heq => simp [Fab.storage_of_eq heq]
  case h_2 heq =>
    split
    · simp [Fab.storage_of_eq heq]
    · split
      · simp [Fab.storage_of_eq heq]
      · dsimp only
        split
        case h_2 => split <;> simp [Fab.storage_of_eq heq]
        all_goals simp [Fab.storage_of_eq heq]

theorem execSpillReturn_goesOn (t : Nat) (hck : Lchk) (s : State) : s.GoesOn (execSpillReturn t hck s) := by
  refine s.goesOn_of_storage (fun f => ?_)
  split
  case h_1 heq => simp [Fab.storage_of_eq heq]
  case h_2 heq =>
    dsimp only
    split
    · simp [Fab.storage_of_eq heq]
    · split
      · simp [Fab.storage_of_eq heq]
      · split <;> simp [Fab.storage_of_eq heq]

theorem execSeamFrameReceive_goesOn (ss c : Nat) (e : FrameErr) (s : State) : s.GoesOn (execSeamFrameReceive ss c e s) := by
  refine s.goesOn_of_storage (fun f => ?_)
  split
  · rfl
  · dsimp only
    split
    · simp
    · split
      case h_1 heq => simp [Fab.judgeFraming_storage _ _ _ _ _ heq]
      case h_2 => split <;> simp

theorem execSeamRepairAt_goesOn (ss c : Nat) (s : State) : s.GoesOn (execSeamRepairAt ss c s) := by
  refine s.goesOn_of_storage (fun f => ?_)
  refine Fab.takeCmd_storage _ _ _ _ _ (fun f lane => ?_)
  dsimp only
  split <;> simp

theorem execSeamSleepReceive_goesOn (ss : Nat) (s : State) : s.GoesOn (execSeamSleepReceive ss s) := by
  refine s.goesOn_of_storage (fun f => ?_)
  refine Fab.takeSb_storage _ _ _ (fun f m g h => ?_)
  dsimp only at h
  split at h
  · split at h
    · cases h
      rfl
    · split at h <;> cases h <;> simp
  · cases h

theorem execSeamSleptReceive_goesOn (ss : Nat) (s : State) : s.GoesOn (execSeamSleptReceive ss s) := by
  refine s.goesOn_of_storage (fun f => ?_)
  refine Fab.takeSb_storage _ _ _ (fun f m g h => ?_)
  dsimp only at h
  split at h
  · split at h
    · cases h
    · split at h <;> cases h <;> simp
  · cases h

theorem execTimeRspReceive_goesOn (ss : Nat) (s : State) : s.GoesOn (execTimeRspReceive ss s) := by
  refine s.goesOn_of_storage (fun f => ?_)
  refine Fab.takeSb_storage _ _ _ (fun f m g h => ?_)
  dsimp only at h
  split at h
  · split at h
    · cases h
      rfl
    · split at h <;> cases h <;> simp
  · cases h

theorem execTimeCmdReceive_goesOn (ss : Nat) (s : State) : s.GoesOn (execTimeCmdReceive ss s) := by
  refine s.goesOn_of_storage (fun f => ?_)
  refine Fab.takeSb_storage _ _ _ (fun f m g h => ?_)
  dsimp only at h
  split at h
  · split at h <;> cases h <;> simp
  · split at h <;> cases h <;> simp
  · cases h

theorem execTicketVerifyDone_goesOn (s : State) : s.GoesOn (execTicketVerifyDone s) := by
  refine s.goesOn_of_storage (fun f => ?_)
  split
  · rfl
  · dsimp only
    split
    · rw [Fab.ticketRejected_storage, Fab.modWd_storage _ _ rfl]
    · rw [Fab.tkEnd_storage_of, Fab.modWd_storage _ _ rfl]
      exact fun g h => Fab.tkLate_storage _ _ g h

/-! ### Commands that change storage -/

theorem execSealBurnDone_goesOn (miss : Nat) (s : State) : s.GoesOn (execSealBurnDone miss s) := by
  refine s.goesOn_onFab (fun f => ?_)
  split
  · exact .refl f
  · generalize clearBits (2 ^ 64 - 1) miss = m
    refine .trans (f.keeps_modOtp (fun o => o.burnSeal m) (f.otp.gains_burnSeal m)) (.of_storage ?_)
    generalize f.modOtp (fun o => o.burnSeal m) = g
    dsimp only
    split <;> simp

theorem execOtpProgramDone_goesOn (fails : List (Nat × Nat)) (s : State) :
    s.GoesOn (execOtpProgramDone fails s) := by
  refine s.goesOn_onFab (fun f => ?_)
  split
  · exact .refl f
  · rename_i j _
    generalize 512 = n
    refine .trans (f.keeps_modOtp (fun o => o.programRecord j.slot j.record n fails)
      (f.otp.gains_programRecord j.slot j.record n fails)) (.of_storage ?_)
    generalize f.modOtp (fun o => o.programRecord j.slot j.record n fails) = g
    dsimp only
    split <;> simp

/-- A write of each word of a list keeps the canonical form. -/
theorem foldl_memWrite_wf {α : Type} (a v : α → Nat) (be n : Nat) (l : List α) (m : List Host.Cell)
    (hm : SMap.wf emptyByte m = true) :
    SMap.wf emptyByte (l.foldl (fun m t => memWrite m (a t) (v t) be n) m) = true := by
  induction l generalizing m with
  | nil => exact hm
  | cons t l ih => exact ih _ (memWrite_wf _ _ _ _ _ hm)

theorem execCollectComplete_goesOn (s : State) : s.GoesOn (execCollectComplete s) := by
  refine s.goesOn_onFab (fun f => ?_)
  generalize List.range 256 = l
  split
  · exact .refl f
  · refine .ite (.refl f) (.ite (.of_storage (Fab.modColl_storage ..)) ?_)
    refine .congr_right (.congr_left (Fab.keeps_modWd _ _ ?_) (Fab.modColl_storage ..)) (Fab.setO_storage ..)
    exact foldl_memWrite_wf _ _ _ _ _ _

theorem execCmnWrite_goesOn (n ce : Nat) (ue : Option Nat) (s : State) : s.GoesOn (execCmnWrite n ce ue s) :=
  s.goesOn_onFab (fun f => f.keeps_cmnWhen _ _ _ (fun _ _ =>
    .congr_left (Fab.keeps_cmnWrite ..) (Fab.cmnBegin_storage ..)))

theorem execCmnXld_goesOn (n ce : Nat) (ue : Option Nat) (s : State) : s.GoesOn (execCmnXld n ce ue s) :=
  s.goesOn_onFab (fun f => f.keeps_cmnWhen _ _ _ (fun _ _ =>
    .congr_right (.congr_left (Fab.keeps_setResv ..) (Fab.cmnBegin_storage ..)) (Fab.cmnReadAnswer_storage ..)))

theorem execCmnXst_goesOn (n ce : Nat) (ue : Option Nat) (s : State) : s.GoesOn (execCmnXst n ce ue s) := by
  refine s.goesOn_onFab (fun f => f.keeps_cmnWhen _ _ _ (fun f p => ?_))
  refine .trans (.congr_left (Fab.keeps_modCmn _ n (fun c => { c with resv := c.resv.filter (fun r => !r.mine p) })
    (fun _ h => h)) (Fab.cmnBegin_storage f n p ce)) ?_
  refine .ite (.ite (Fab.keeps_cmnWrite ..) ((Fab.keeps_cmnWrite ..).congr_right (Fab.bump_storage ..)))
    (.of_storage ?_)
  simp

theorem execCmnResvGranWrite_goesOn (who n v : Nat) (s : State) : s.GoesOn (execCmnResvGranWrite who n v s) :=
  s.goesOn_onFab (fun f => (f.keeps_wResvGran n v).congr_right (Fab.done_storage ..))

theorem execCmnResvClearWrite_goesOn (who n v : Nat) (s : State) : s.GoesOn (execCmnResvClearWrite who n v s) :=
  s.goesOn_onFab (fun f => (f.keeps_wResvClear n v).congr_right (Fab.done_storage ..))

theorem execPcT3Req_goesOn (t : Nat) (level : Bool) (s : State) : s.GoesOn (execPcT3Req t level s) := by
  refine s.goesOn_onFab (fun f => .ite (.congr_left (Fab.keeps_beginOff ..) ?_) (.of_storage ?_)) <;> simp

theorem execWardenWdog_goesOn (addr : Nat) (s : State) : s.GoesOn (execWardenWdog addr s) := by
  refine s.goesOn_onFab (fun f => .ite (.refl f) (.congr_left (Fab.keeps_wardenRestart _) ?_))
  simp

theorem execGuyFrameClaim_goesOn (tag : Nat) (ue clk : Bool) (s : State) :
    s.GoesOn (execGuyFrameClaim tag ue clk s) := by
  have hperform (f : Fab) (st : Nat) (x : GFrame) : f.Keeps (execGuyFrameClaim.perform ue clk f tag st x) :=
    .ite (.of_storage (by simp)) (f.keeps_access ..)
  refine s.goesOn_onFab (fun f => ?_)
  split
  · exact .refl f
  · split
    · exact .refl f
    · split
      · exact .refl f
      · split
        · exact .refl f
        · split
          · exact .ite (.of_storage (Fab.respond_storage ..)) (hperform ..)
          · exact hperform ..

theorem execGuyBcast_goesOn (tag d : Nat) (clk : Bool) (s : State) : s.GoesOn (execGuyBcast tag d clk s) := by
  have hcounted (f : Fab) (x : GFrame) (code : Nat) :
      (execGuyBcast.counted tag d f x code).storage = f.storage := Fab.modGuy_storage ..
  have hperform (f : Fab) (x : GFrame) : f.Keeps (execGuyBcast.perform tag d clk f x) :=
    (f.keeps_bcastApply d x clk).congr_right ((hcounted ..).trans (Fab.modGuy_storage ..))
  refine s.goesOn_onFab (fun f => ?_)
  split
  · exact .refl f
  · split
    · exact .refl f
    · split
      · exact .ite (.of_storage (hcounted ..)) (hperform ..)
      · exact hperform ..

theorem goesOn_mbxCmd (s : State) (m : Nat) (cmd : Nat) :
    s.GoesOn (.next (s.onFab (fun f => if m < 4 then f.wMbxCmd m cmd false else f))) :=
  s.goesOn_onFab (fun f => .ite (f.keeps_wMbxCmd ..) (.refl f))

theorem execRstColdAssert_goesOn (s : State) : s.GoesOn (execRstColdAssert s) := by
  refine s.goesOn_onFab (fun f => .ite (.refl f) ?_)
  refine .congr_right (.congr_left (Fab.keeps_startReset ..) ?_) (Fab.uqCheck_storage _)
  simp

theorem execRstWarmAssert_goesOn (s : State) : s.GoesOn (execRstWarmAssert s) := by
  refine s.goesOn_onFab (fun f => .ite (.refl f) ?_)
  exact .congr_left (.ite (.refl _) (Fab.keeps_startReset ..)) rfl

theorem Fab.keeps_wMapReset (f : Fab) (size v : Nat) : f.Keeps (f.wMapReset size v) :=
  f.keeps_guardedWrite _ _ _ _ (fun f => f.keeps_mapReset v)

theorem goesOn_mapReset (s : State) (size v : Nat) : s.GoesOn (.next (s.onFab (fun f => f.wMapReset size v))) :=
  s.goesOn_onFab (fun f => f.keeps_wMapReset size v)

theorem execMapBusWrite_goesOn (off size : Nat) (half : Bool) (v : Nat) (clk : Bool) (s : State) :
    s.GoesOn (execMapBusWrite off size half v clk s) :=
  s.goesOn_onFab (fun _ => .congr_left (Fab.keeps_busWrite ..) (Fab.modMap_storage ..))

theorem execMapBusAccess_goesOn (write : Bool) (off size : Nat) (half : Bool) (v : Nat) (clk : Bool) (s : State) :
    s.GoesOn (execMapBusAccess write off size half v clk s) := by
  refine s.goesOn_onFab (fun f => .ite (.of_storage (Fab.modMap_storage ..)) ?_)
  refine .congr_right (.congr_left (.fst_ite (Fab.keeps_busWrite ..) (.of_storage (Fab.busRead_storage ..)))
    (Fab.modMap_storage ..)) (Fab.modMap_storage ..)

theorem execXbarTransfer_goesOn (n : Nat) (offers : List XOffer) (ans : Bool) (ue : Option (List Nat)) (miss : Nat)
    (s : State) : s.GoesOn (execXbarTransfer n offers ans ue miss s) := by
  refine s.goesOn_onFab (fun f => .ite (.refl f) ?_)
  refine .trans f.keeps_windowEnd (.trans (.foldl (fun f x => ?_) offers _) (Fab.keeps_xGrant ..))
  exact .ite (.refl f) (f.keeps_xPresent _)

theorem execXbarTimeout_goesOn (n : Nat) (s : State) : s.GoesOn (execXbarTimeout n s) := by
  refine s.goesOn_onFab (fun f => f.keeps_windowEnd.trans ?_)
  dsimp only
  split
  · exact .refl _
  · refine .ite (.refl _) (.congr_left (Fab.keeps_xAnswer ..) ?_)
    simp

theorem execDebugAccess_goesOn (write : Bool) (addr size blen : Nat) (data : List Nat) (s : State) :
    s.GoesOn (execDebugAccess write addr size blen data s) := by
  refine s.goesOn_onFab (fun f => .ite (.refl f) (.ite (.of_storage ?_) (.congr_left (Fab.keeps_xPresent ..) ?_))) <;>
    simp

/-- VDD_AO_LOSS goes on but when a powered die loses VDD_AO outside RST_COLD_N low while another keeps it (R645). -/
theorem execVddAoLoss_goesOn (d : Nat) (s : State) :
    s.GoesOn (execVddAoLoss d s) ∨ execVddAoLoss d s = .fault .vddAoRemoved ∧
      d < 4 ∧ (s.fab.die d).ao = true ∧ s.fab.coldLow = false ∧ ∃ e, e < 4 ∧ e ≠ d ∧ (s.fab.die e).ao = true := by
  have hsides (f : Fab) : ((sidesOfDie d).foldl (fun f ss =>
      let f := (List.range 8).foldl (fun f c => f.enterCross ss c true) f
      f.modSide ss (fun x => { x with
        pll := false, lock0 := false, lock1 := false, sb := [], rd0 := false, rd1 := false })) f).storage = f.storage :=
    Fab.foldl_storage _ (fun f ss => by simp) _ f
  have htile (f : Fab) (t : Nat) : f.Keeps ((f.enterTile t true true).modTile t (fun x => { x with
      st := .unpowered, pw := { x.pw with tlAck := false, tsAck := false } })) :=
    (f.keeps_enterTile t true true).congr_right (Fab.modTile_storage ..)
  have hpeers (f : Fab) : ((sidesOfDie d).foldl (fun f ss =>
      if (f.die (sideDie (farSide ss))).ao then f.peerUnsupplied (farSide ss) else f) f).oweLess.storage = f.storage :=
    (Fab.oweLess_storage _).trans (Fab.foldl_storage _ (fun f ss => by simp) _ f)
  unfold execVddAoLoss
  split
  case isTrue => exact .inl ⟨s.fab, rfl, .refl _⟩
  case isFalse hd =>
    split
    case isTrue hother =>
      refine .inr ⟨rfl, by omega, Bool.of_not_eq_false (fun h => hd (.inr h)), hother.1, ?_⟩
      simpa [and_assoc] using hother.2
    case isFalse =>
      refine .inl (s.goesOn_onFab (fun f => .congr_right (.congr_right (.congr_right
        (.congr_left (.foldl htile (tilesOfDie d) _) (hsides f)) (Fab.modDie_storage ..)) (Fab.modLan_storage ..))
        (hpeers _)))

end Sys2Proof.Machine

/-! Proofs: every command and every step (R3, R539, R565, R644). -/

namespace Sys2Proof.Machine

/-! ### Every command -/

/-- Every command but VDD_AO_LOSS completes, leaves the queue behind it alone, and keeps storage. -/
theorem exec_goesOn (c : Instr) (s : State) (hc : ∀ d, c ≠ .vddAoLoss d) : s.GoesOn (exec c s) := by
  cases c
  case vddAoLoss d => exact absurd rfl (hc d)
  case ingressPacketCheck => exact execIngressPacketCheck_goesOn ..
  case lensAckReceive => exact execLensAckReceive_goesOn ..
  case drainDoneReceive => exact execDrainDoneReceive_goesOn ..
  case pwbMergeHoldExpiry => exact execPwbMergeHoldExpiry_goesOn ..
  case spResponseArrive => exact execSpResponseArrive_goesOn ..
  case cmnWrite => exact execCmnWrite_goesOn ..
  case cmnXld => exact execCmnXld_goesOn ..
  case cmnXst => exact execCmnXst_goesOn ..
  case cmnResvGranWrite => exact execCmnResvGranWrite_goesOn ..
  case cmnResvClearWrite => exact execCmnResvClearWrite_goesOn ..
  case spillAsk => exact execSpillAsk_goesOn ..
  case spillGrant => exact execSpillGrant_goesOn ..
  case spillReceive => exact execSpillReceive_goesOn ..
  case spillPull => exact execSpillPull_goesOn ..
  case spillReturn => exact execSpillReturn_goesOn ..
  case spillNone => exact execSpillNone_goesOn ..
  case skWriteFailed => exact execSkWriteFailed_goesOn ..
  case seamFrameReceive => exact execSeamFrameReceive_goesOn ..
  case seamRepairAt => exact execSeamRepairAt_goesOn ..
  case seamSleepReceive => exact execSeamSleepReceive_goesOn ..
  case seamSleptReceive => exact execSeamSleptReceive_goesOn ..
  case timeRspReceive => exact execTimeRspReceive_goesOn ..
  case timeCmdReceive => exact execTimeCmdReceive_goesOn ..
  case pcT3Req => exact execPcT3Req_goesOn ..
  case guyFrameClaim => exact execGuyFrameClaim_goesOn ..
  case guyBcast => exact execGuyBcast_goesOn ..
  case mapBusWrite => exact execMapBusWrite_goesOn ..
  case wardenWdog => exact execWardenWdog_goesOn ..
  case xbarTransfer => exact execXbarTransfer_goesOn ..
  case xbarTimeout => exact execXbarTimeout_goesOn ..
  case ticketVerifyDone => exact execTicketVerifyDone_goesOn ..
  case sealBurnDone => exact execSealBurnDone_goesOn ..
  case otpProgramDone => exact exec_otpProgramDone _ s ▸ execOtpProgramDone_goesOn ..
  case rstColdAssert => exact execRstColdAssert_goesOn ..
  case rstWarmAssert => exact execRstWarmAssert_goesOn ..
  case collectComplete => exact execCollectComplete_goesOn ..
  case mapBusAccess => exact execMapBusAccess_goesOn ..
  case debugAccess => exact execDebugAccess_goesOn ..
  case tileNapEntry => exact s.goesOn_onFab (fun f => .ite (f.keeps_beginNap _) (.refl f))
  case tileOffEntry => exact s.goesOn_onFab (fun f => .ite (f.keeps_beginOff _) (.refl f))
  case otpCmdProgram => exact s.goesOn_onFab (fun f => f.keeps_otpCmd _)
  case wardenRemapWrite => exact s.goesOn_onFab (fun f => (f.keeps_wRemap _).congr_right (Fab.done_storage ..))
  case mbxRead | mbxWrite | mbxWriteSeg | mbxInvalidOp => exact goesOn_mbxCmd s _ _
  case mapResetTile | mapResetQuadrant | mapResetDie | mapResetInstance => exact goesOn_mapReset s _ _
  case creditReturn | responseArrive | tagGrantResume | portGoneReceive | lensInvReceive | drainMarkReceive |
      spBarrierAck | spResponseSend | spRequestResume | cmnUnsupported | skRspTimeout | sidebandLockRegain |
      stepApply | ppsOutFall | pdAckChange | mbxTimeout | scrubPassComplete =>
    refine s.goesOn_of_storage (fun f => ?_)
    split <;> simp
  case outputDead | spillSend | skCommand =>
    refine s.goesOn_of_storage (fun f => ?_)
    dsimp only
    split <;> simp
  case switchAllocation | seamTrainingPhaseEnd =>
    refine s.goesOn_of_storage (fun f => ?_)
    split
    · rfl
    · split <;> simp
  case routerFlitReceive | egressPacketArrive | drainReport | guyRespReturn | guyTimeout | resetEnd =>
    refine s.goesOn_of_storage (fun f => ?_)
    repeat' split
    all_goals simp
  case famFetchReturn | tagGrant | skReadBeat | seamLaneLoss | seamSpareTrained | lanternExchange | pcUqReq |
      mbxComplete | veOpComplete | snapshotTaken | traceRecordWrite =>
    refine s.goesOn_of_storage (fun f => ?_)
    dsimp only
    repeat' split
    all_goals simp
  case seamKnockReceive | seamAwakeMessage | seamStateMessage | rstEnterReceive | rstSeenReceive | rstAckReceive |
      timeReqReceive | seamTrainMessage =>
    refine s.goesOn_of_storage (fun f => ?_)
    refine Fab.takeSb_storage _ _ _ (fun f m g h => ?_)
    split at h <;> cases h
    simp
  all_goals exact s.goesOn_of_storage (fun f => by simp)

/-- A command that concludes a next state goes on. -/
theorem goesOn_of_next {c : Instr} {s t : State} (h : exec c s = .next t) : s.GoesOn (exec c s) := by
  by_cases hc : ∃ d, c = .vddAoLoss d
  · obtain ⟨d, rfl⟩ := hc
    refine (execVddAoLoss_goesOn d s).resolve_right (fun hfault => ?_)
    cases hfault.1.symm.trans h
  · exact exec_goesOn c s (fun d h => hc ⟨d, h⟩)

theorem exec_keeps {c : Instr} {s t : State} (h : exec c s = .next t) : s.fab.Keeps t.fab := by
  obtain ⟨g, hg, hkeeps⟩ := goesOn_of_next h
  cases hg.symm.trans h
  exact hkeeps

/-- A fold of operations on the Lanterns changes the Lanterns alone. -/
theorem Fab.foldl_lan {α : Type} (g : Fab → α → Fab) (h : ∀ f a, g f a = { f with lan := (g f a).lan }) (l : List α)
    (f : Fab) : l.foldl g f = { f with lan := (l.foldl g f).lan } := by
  induction l generalizing f with
  | nil => rfl
  | cons a l ih =>
    rw [List.foldl_cons, ih (g f a)]
    generalize hx : g f a = x
    have hx' : x = { f with lan := x.lan } := hx ▸ h f a
    rw [hx']

/-- An idle cycle changes the Lanterns alone. -/
theorem Fab.tick_frame (f : Fab) : f.tick = { f with lan := f.tick.lan } :=
  Fab.foldl_lan _ (fun f d => by split <;> rfl) _ f

/-- A step that goes on keeps storage: it runs the front command, or lets the Lanterns advance. -/
theorem step_keeps {s t : State} (h : step s = .next t) : s.fab.Keeps t.fab := by
  obtain ⟨pending, f⟩ := s
  cases pending with
  | nil =>
    cases h
    refine .of_storage ?_
    rw [State.onFab_fab, Fab.tick_frame]
    exact Fab.storage_mk ..
  | cons c rest => exact exec_keeps (s := ⟨rest, f⟩) h

/-- Settles O4: `exec_goesOn` says it of each command. -/
theorem oneTimeStorageOnlyGains : Obligations.OneTimeStorageOnlyGains := by
  unfold Obligations.OneTimeStorageOnlyGains
  exact fun s t h => ⟨(step_keeps h).bits, (step_keeps h).words⟩

/-- Settles O5: `exec_goesOn` says it of each command. -/
theorem memoriesKeepForm : Obligations.MemoriesKeepForm := by
  unfold Obligations.MemoriesKeepForm
  exact fun s t h => (step_keeps h).mems

/-- Settles O1, as `step` is defined. -/
theorem stepRunsFront : Obligations.StepRunsFront := by
  unfold Obligations.StepRunsFront
  exact fun c s => rfl

/-- Settles O2: that every command completes by `exec_goesOn`, and the idle step by `tick`. -/
theorem queueFirstInFirstOut : Obligations.QueueFirstInFirstOut := by
  unfold Obligations.QueueFirstInFirstOut
  have hkept (c : Instr) (s t : State) (h : exec c s = .next t) : t.pending = s.pending := by
    obtain ⟨g, hg, -⟩ := goesOn_of_next h
    cases hg.symm.trans h
    rfl
  refine ⟨fun c s hao => ?_, hkept, fun c rest f t h => hkept c ⟨rest, f⟩ t h, fun f => ⟨f.tick, rfl, f.tick_frame⟩⟩
  suffices h : s.GoesOn (exec c s) by
    obtain ⟨g, hg, -⟩ := h
    exact ⟨_, hg, rfl⟩
  by_cases hc : ∃ d, c = .vddAoLoss d
  · obtain ⟨d, rfl⟩ := hc
    refine (execVddAoLoss_goesOn d s).resolve_right ?_
    rintro ⟨-, hd, hon, hlow, e, he, hne, heon⟩
    exact Bool.false_ne_true ((hao d rfl hd hon hlow e he hne).symm.trans heon)
  · exact exec_goesOn c s (fun d h => hc ⟨d, h⟩)

end Sys2Proof.Machine

/-! Proofs: the reset state (R3, R558, R559). -/

namespace Sys2Proof.Machine

/-- The units that the reset state lists, read back. -/
theorem get_map_of_mem {α : Type} (d g : Nat → α) {l : List Nat} {k : Nat} (h : k ∈ l) :
    SMap.get d (l.map (fun t => (t, g t))) k = g k := by
  induction l with
  | nil => cases h
  | cons t l ih =>
    rw [List.map_cons, SMap.get]
    split
    case isTrue hk => rw [hk]
    case isFalse hk => exact ih ((List.mem_cons.mp h).resolve_left hk)

/-- Every tile stands as at the end of a cold INSTANCE reset. -/
theorem reset_tile {t : Nat} (h : t < 256) : State.reset.fab.tile t = resetTile t :=
  get_map_of_mem _ resetTile (List.mem_range.mpr h)

/-- `n` bytes of a number fed to a register, with the register and the rest of the number looked at in every step, so
that the kernel evaluates them there. -/
def feedForced (f : Nat → Nat → Nat) : Nat → Nat → Nat → Nat
  | 0, c, _ => c
  | n + 1, c, v => bif (c == 0) == (v == 0) then feedForced f n (f c (v % 256)) (v / 256)
    else feedForced f n (f c (v % 256)) (v / 256)

theorem feedForced_succ (f : Nat → Nat → Nat) (n c v : Nat) :
    feedForced f (n + 1) c v = feedForced f n (f c (v % 256)) (v / 256) :=
  Bool.cond_self _ _

/-- The CRC of a record, fed by steps that the kernel evaluates. -/
theorem crc32c_eq_feedForced (v n : Nat) :
    crc32c v n = feedForced (crcByteR 0x82F63B78) n 0xFFFFFFFF v ^^^ 0xFFFFFFFF := by
  have hfeed (c : Nat) : crc32cFrom c v n = feedForced (crcByteR 0x82F63B78) n c v := by
    generalize hf : crcByteR 0x82F63B78 = f
    induction n generalizing c v with
    | zero => rfl
    | succ n ih => rw [feedForced_succ, ← ih, crc32cFrom.eq_def c v (n + 1), hf]
  rw [crc32c, hfeed]

/-- The record that is programmed before shipment, its seal field taken as zero: magic, GEN and FORMAT, DEFAULT_MODE,
DONE and CRC (R558). -/
def shippedContent : Nat :=
  0x42505231 + 0x0101 * 2 ^ 32 + 2 ^ 512 + 0xA5C35A3C * 2 ^ 16320 + 1797438191 * 2 ^ 16352

theorem reset_otp_record : State.reset.fab.otp.record 0 = shippedContent := by decide +kernel

/-- Its CRC is the one that it holds (R559). -/
theorem shippedContent_crc : crc32c shippedContent 0x7FC = 1797438191 := by
  rw [crc32c_eq_feedForced]
  decide +kernel

/-- The record that is programmed before shipment is valid (R558, R559). -/
theorem reset_otp_valid : State.reset.fab.otp.valid 0 = true := by
  rw [Otp.valid, reset_otp_record, recordValid, shippedContent_crc]
  decide +kernel

theorem reset_otp_isSealed : State.reset.fab.otp.isSealed = false := by decide +kernel

/-- Every word of one-time storage at reset is a word of 32 bits. -/
theorem reset_otp_wordsOk : State.reset.fab.otp.wordsOk := by
  intro w
  have hall : shippedRecord.all (fun kv => decide (kv.2 < 2 ^ 32)) = true := by decide
  exact of_decide_eq_true
    (SMap.get_of_all (fun _ => 0) shippedRecord w (fun v => decide (v < 2 ^ 32)) (by decide) hall)

/-- Settles O3: the memories by `reset_memoriesWf`, one-time storage by its shipped record, the rest as it is listed. -/
theorem resetState : Obligations.ResetState := by
  unfold Obligations.ResetState
  have htile (t : Nat) (h : t < 256) : (State.reset.fab.tile t).st = .t0 := by rw [reset_tile h]; rfl
  have hlan : ∀ d < 4, 0 < d → (State.reset.fab.lantern d).st = .acquire := by decide +kernel
  have hdie : ∀ d < 4, State.reset.fab.dieTime d = 0 ∧ State.reset.fab.dieLive d = true := by decide +kernel
  exact ⟨rfl, fun _ _ => ⟨rfl, rfl⟩, rfl, htile, rfl, fun d h0 h4 => hlan d h4 h0, hdie,
    rfl, rfl, rfl, rfl, fun _ => rfl, rfl, rfl, rfl,
    reset_otp_valid, reset_otp_isSealed, reset_memoriesWf, reset_otp_wordsOk⟩

end Sys2Proof.Machine

/-! Proofs: positions of a list that the operations change. -/

namespace Sys2Proof.Machine

/-! ## Positions of a list -/

theorem modAt_eq_modify {α : Type} (l : List α) (i : Nat) (f : α → α) : modAt l i f = l.modify i f := by
  induction l generalizing i with
  | nil => rw [modAt, List.modify_nil]
  | cons x l ih =>
    cases i with
    | zero => rfl
    | succ i => rw [modAt, ih, List.modify_succ_cons]

@[simp] theorem length_modAt {α : Type} (l : List α) (i : Nat) (f : α → α) : (modAt l i f).length = l.length := by
  rw [modAt_eq_modify, List.length_modify]

theorem getD_modAt {α : Type} (l : List α) (i j : Nat) (f : α → α) (d : α) :
    (modAt l i f).getD j d = if i = j ∧ i < l.length then f (l.getD i d) else l.getD j d := by
  rw [modAt_eq_modify, List.getD_eq_getElem?_getD, List.getElem?_modify]
  by_cases hij : i = j
  · subst hij
    by_cases hi : i < l.length
    · simp [hi]
    · simp [hi]
  · simp [hij]

theorem getD_modAt_same {α : Type} {l : List α} {i : Nat} (h : i < l.length) (f : α → α) (d : α) :
    (modAt l i f).getD i d = f (l.getD i d) := by
  rw [getD_modAt, if_pos ⟨rfl, h⟩]

theorem getD_modAt_other {α : Type} (l : List α) {i j : Nat} (h : i ≠ j) (f : α → α) (d : α) :
    (modAt l i f).getD j d = l.getD j d := by
  rw [getD_modAt, if_neg (fun hij => h hij.1)]

end Sys2Proof.Machine

/-! Proofs: the allocator of a router (R109). -/

namespace Sys2Proof.Machine

/-! ## The allocator -/

/-- A round-robin choice is one of the requests offered (R109). -/
theorem mem_of_nextRound {pos : Nat} {rs : List Req} {r : Req} (h : nextRound pos rs = some r) : r ∈ rs := by
  have hfold (dist : Req → Nat) : ∀ (l : List Req) (best : Option Req),
      l.foldl (fun (best : Option Req) r => match best with
        | none => some r
        | some b => if dist r < dist b then some r else some b) best = some r → r ∈ l ∨ best = some r := by
    intro l
    induction l with
    | nil => exact fun _ hb => .inr hb
    | cons a l ih =>
      intro best hb
      rcases ih _ hb with hmem | hbest
      · exact .inl (List.mem_cons_of_mem _ hmem)
      · cases best with
        | none => cases hbest; exact .inl List.mem_cons_self
        | some b =>
          dsimp only at hbest
          split at hbest
          · cases hbest; exact .inl List.mem_cons_self
          · exact .inr hbest
  rcases hfold _ rs none h with hmem | hnone
  · exact hmem
  · cases hnone

/-- The winner of an output is one of the requests offered (R109 to R112). -/
theorem Fab.mem_of_winner {f : Fab} {t p : Nat} {rs : List Req} {r : Req} {o : OutPort}
    (h : f.winner t p rs = some (r, o)) : r ∈ rs := by
  have hround {pos : Nat} {l : List Req} {g : Req → OutPort} (hsub : ∀ x ∈ l, x ∈ rs)
      (hl : (match nextRound pos l with | some r => some (r, g r) | none => none) = some (r, o)) : r ∈ rs := by
    split at hl
    next x hx => cases hl; exact hsub _ (mem_of_nextRound hx)
    next => cases hl
  have hlevel (l : Nat) : ∀ x ∈ rs.filter (fun r => f.level t r == l), x ∈ rs := fun _ hx => (List.mem_filter.mp hx).1
  rw [Fab.winner] at h
  dsimp only at h
  split at h
  · exact hround (hlevel 1) h
  · split at h
    · exact hround (hlevel 2) h
    · split at h
      · exact hround (hlevel 3) h
      · split at h
        next => exact hround (fun x hx => hlevel 4 x (List.mem_filter.mp hx).1) h
        next => cases h

/-- No input has supplied more than two flits, and output `p` has been granted at most `n p` (R109). -/
def Alloc.within (n : Nat → Nat) (a : Alloc) : Prop :=
  (∀ p, (a.phits.getD p []).length ≤ n p) ∧ ∀ i, a.used.getD i 0 ≤ 2

/-- One slot of an output grants it one flit at most, of an input that has supplied fewer than two. -/
theorem Fab.allocSlot_within {rs : List Req} {t p : Nat} {fa : Fab × Alloc} {n : Nat → Nat} (h : fa.2.within n) :
    (Fab.allocSlot rs t p fa).2.within (fun q => n q + if q = p then 1 else 0) := by
  obtain ⟨hphits, hused⟩ := h
  have hgrown (q : Nat) : (fa.2.phits.getD q []).length ≤ n q + if q = p then 1 else 0 :=
    Nat.le_add_right_of_le (hphits q)
  rw [Fab.allocSlot]
  dsimp only
  split
  next => exact ⟨hgrown, hused⟩
  next r o hwin =>
    refine ⟨fun q => ?_, fun i => ?_⟩
    · dsimp only
      split
      next vf =>
        rw [getD_modAt]
        split
        case isTrue hq =>
          rw [List.length_append, if_pos hq.1.symm, hq.1]
          exact Nat.add_le_add_right (hphits q) 1
        case isFalse => exact hgrown q
      next => exact hgrown q
    · have hroom : fa.2.used.getD r.inp 0 < 2 := by
        have hready := (List.mem_filter.mp (Fab.mem_of_winner hwin)).2
        simp only [Bool.and_eq_true, decide_eq_true_eq] at hready
        exact hready.1.1.2
      rw [getD_modAt]
      split
      · exact hroom
      · exact hused i

theorem Fab.foldl_allocSlot_within {rs : List Req} {t : Nat} (ps : List Nat) {fa : Fab × Alloc} {n : Nat → Nat}
    (h : fa.2.within n) :
    (ps.foldl (fun fa p => Fab.allocSlot rs t p fa) fa).2.within (fun q => n q + ps.count q) := by
  induction ps generalizing fa n with
  | nil => exact h
  | cons p ps ih =>
    obtain ⟨hphits, hused⟩ := ih (Fab.allocSlot_within (rs := rs) (t := t) (p := p) h)
    refine ⟨fun q => Nat.le_trans (hphits q) (Nat.le_of_eq ?_), hused⟩
    simp only [List.count_cons, beq_iff_eq, eq_comm (a := p)]
    omega

/-- Settles O8: each output has two slots in a cycle, and a slot takes a flit only of an input with fewer than two. -/
theorem allocationLimits : Obligations.AllocationLimits := by
  intro f t rs
  have hempty : (⟨List.replicate 8 0, List.replicate 8 [], []⟩ : Alloc).within (fun _ => 0) := by
    refine ⟨fun p => Nat.le_of_eq ?_, fun i => ?_⟩
    · have hp : (List.replicate 8 ([] : List (Nat × Flit))).getD p [] = [] := by
        rw [List.getD_eq_getElem?_getD, List.getElem?_replicate]
        split <;> rfl
      rw [hp, List.length_nil]
    · rw [List.getD_eq_getElem?_getD, List.getElem?_replicate]
      split <;> decide
  have honce (q : Nat) : (List.range 8).count q ≤ 1 := List.nodup_iff_count.mp List.nodup_range q
  obtain ⟨hphits, hused⟩ := Fab.foldl_allocSlot_within (rs := rs) (t := t) (List.range 8)
    (Fab.foldl_allocSlot_within (rs := rs) (t := t) (List.range 8) (fa := (f, _)) hempty)
  have htwice (q : Nat) : 0 + (List.range 8).count q + (List.range 8).count q ≤ 2 := by
    have := honce q
    omega
  exact ⟨fun p => Nat.le_trans (hphits p) (htwice p), hused⟩

end Sys2Proof.Machine

/-! Proofs: the smooth weighted round robin (R112). -/

namespace Sys2Proof.Machine

/-! ## The smooth weighted round robin -/

/-- A change of one count changes the sum by as much. -/
theorem sum_modAt_add {l : List Int} {i : Nat} (h : i < l.length) (x : Int) : (modAt l i (· + x)).sum = l.sum + x := by
  induction l generalizing i with
  | nil => cases h
  | cons a l ih =>
    cases i with
    | zero => rw [modAt, List.sum_cons, List.sum_cons, Int.add_right_comm]
    | succ i => rw [modAt, List.sum_cons, ih (Nat.lt_of_succ_lt_succ h), List.sum_cons, Int.add_assoc]

/-- The counts after every SC of `elig` has gained its weight (R112). -/
def gained (w : Nat → Nat) (cur : List Int) (elig : List Nat) : List Int :=
  elig.foldl (fun c s => modAt c s (· + (w s : Int))) cur

@[simp] theorem length_gained (w : Nat → Nat) (cur : List Int) (elig : List Nat) :
    (gained w cur elig).length = cur.length := by
  induction elig generalizing cur with
  | nil => rfl
  | cons s elig ih => exact (ih _).trans (length_modAt _ _ _)

theorem getD_gained_of_not_mem {w : Nat → Nat} {cur : List Int} {elig : List Nat} {s : Nat} (h : s ∉ elig) :
    (gained w cur elig).getD s 0 = cur.getD s 0 := by
  induction elig generalizing cur with
  | nil => rfl
  | cons a elig ih =>
    obtain ⟨ha, hs⟩ := not_or.mp (fun hor => h (List.mem_cons.mpr hor))
    exact (ih hs).trans (getD_modAt_other _ (Ne.symm ha) _ _)

theorem getD_gained_of_mem {w : Nat → Nat} {cur : List Int} {elig : List Nat} {s : Nat} (hnd : elig.Nodup)
    (h : s ∈ elig) (hs : s < cur.length) : (gained w cur elig).getD s 0 = cur.getD s 0 + w s := by
  induction elig generalizing cur with
  | nil => cases h
  | cons a elig ih =>
    obtain ⟨ha, hnd⟩ := List.nodup_cons.mp hnd
    rcases List.mem_cons.mp h with rfl | hmem
    · exact (getD_gained_of_not_mem ha).trans (getD_modAt_same hs _ _)
    · have hne : a ≠ s := fun he => ha (he ▸ hmem)
      have hlater := ih (cur := modAt cur a (· + (w a : Int))) hnd hmem (by rwa [length_modAt])
      rw [getD_modAt_other _ hne] at hlater
      exact hlater

theorem sum_gained {w : Nat → Nat} {cur : List Int} {elig : List Nat} (h : ∀ s ∈ elig, s < cur.length) (a : Nat) :
    (gained w cur elig).sum + a = cur.sum + (elig.foldl (fun a e => a + w e) a : Nat) := by
  induction elig generalizing cur a with
  | nil => rfl
  | cons s elig ih =>
    obtain ⟨hs, hrest⟩ := List.forall_mem_cons.mp h
    have hlater := ih (cur := modAt cur s (· + (w s : Int))) (by simpa using hrest) (a + w s)
    rw [sum_modAt_add hs] at hlater
    rw [List.foldl_cons, gained, List.foldl_cons]
    rw [gained] at hlater
    push_cast at hlater
    omega

/-- The pick is one of the SCs offered, and no count among them is larger (R112). -/
theorem pickSc_spec {cur : List Int} {l : List Nat} {s : Nat} (h : pickSc cur l = some s) :
    s ∈ l ∧ ∀ u ∈ l, cur.getD u 0 ≤ cur.getD s 0 := by
  induction l generalizing s with
  | nil => cases h
  | cons a l ih =>
    rw [pickSc] at h
    split at h
    next hnone =>
      cases h
      have hl : l = [] := by
        cases l with
        | nil => rfl
        | cons b l =>
          rw [pickSc] at hnone
          split at hnone
          · cases hnone
          · split at hnone <;> cases hnone
      subst hl
      exact ⟨List.mem_cons_self, by simp⟩
    next u hu =>
      obtain ⟨hmem, hmax⟩ := ih hu
      split at h
      case isTrue hle =>
        cases h
        refine ⟨List.mem_cons_self, List.forall_mem_cons.mpr ⟨Int.le_refl _, fun v hv => Int.le_trans (hmax v hv) hle⟩⟩
      case isFalse hgt =>
        cases h
        exact ⟨List.mem_cons_of_mem _ hmem, List.forall_mem_cons.mpr ⟨Int.le_of_lt (Int.not_le.mp hgt), hmax⟩⟩

/-- Settles O9: the gains add up to what the pick loses. -/
theorem smoothRoundRobin : Obligations.SmoothRoundRobin := by
  intro w cur cur' elig pick hnd hlen hpick
  have hcur : pickSc (gained w cur elig) elig = some pick ∧
      cur' = modAt (gained w cur elig) pick (· - (elig.foldl (fun a e => a + w e) 0 : Nat)) := by
    change (match pickSc (gained w cur elig) elig with | none => none | some s => _) = _ at hpick
    split at hpick
    next => cases hpick
    next s hs => cases hpick; exact ⟨hs, rfl⟩
  obtain ⟨hsome, rfl⟩ := hcur
  obtain ⟨hmem, hmax⟩ := pickSc_spec hsome
  have hgain (s : Nat) (hs : s ∈ elig) : (gained w cur elig).getD s 0 = cur.getD s 0 + w s :=
    getD_gained_of_mem hnd hs (hlen s hs)
  refine ⟨hmem, ?_, ?_, fun s hs => ?_, fun s hs => ?_, fun s hs hne => ?_⟩
  · have hsum := sum_gained (w := w) hlen 0
    simp only [Int.sub_eq_add_neg]
    rw [sum_modAt_add (by rw [length_gained]; exact hlen pick hmem)]
    push_cast at hsum
    omega
  · rw [length_modAt, length_gained]
  · rw [← hgain s hs, ← hgain pick hmem]
    exact hmax s hs
  · rw [getD_modAt_other _ (fun he : pick = s => hs (he ▸ hmem)), getD_gained_of_not_mem hs]
  · rw [getD_modAt_other _ hne.symm, hgain s hs]

end Sys2Proof.Machine

/-! Proofs: the escape routes (R100, R108, R124). -/

namespace Sys2Proof.Machine

/-! ## Escape routes -/

theorem gxOf_lt {t : Nat} : gxOf t < 16 := by simp only [gxOf, xOf, dieOf]; omega

theorem gyOf_lt {t : Nat} (h : t < 256) : gyOf t < 16 := by simp only [gyOf, yOf, dieOf]; omega

theorem tileAt_lt {x y : Nat} (hx : x < 16) (hy : y < 16) : tileAt x y < 256 := by simp only [tileAt]; omega

theorem gxOf_tileAt {x : Nat} (y : Nat) (hx : x < 16) : gxOf (tileAt x y) = x := by
  simp only [tileAt, gxOf, xOf, dieOf]; omega

theorem gyOf_tileAt {x y : Nat} (hx : x < 16) (hy : y < 16) : gyOf (tileAt x y) = y := by
  simp only [tileAt, gyOf, yOf, dieOf]; omega

/-- A tile is known by its global coordinates. -/
theorem tileAt_gxOf_gyOf {t : Nat} (h : t < 256) : tileAt (gxOf t) (gyOf t) = t := by
  simp only [tileAt, gxOf, gyOf, xOf, yOf, dieOf]; omega

/-- A direction of the mesh: the express port of a dimension as far as it does not overshoot, else one step (R100). -/
theorem stepOut_cases {a b : Nat} (express plus minus c : Nat) (h : a ≠ b) :
    let p := stepOut (delta a b) express plus minus c
    (p = express ∧ c ≤ 3 ∧ a + 4 ≤ b) ∨ (p = plus ∧ a < b) ∨
    (p = express ∧ 3 < c ∧ b + 4 ≤ a) ∨ (p = minus ∧ b < a) := by
  intro p
  have hp : p = if 0 < reach c * delta a b ∧ (reach c).natAbs ≤ (delta a b).natAbs then express
      else if 0 < delta a b then plus else minus := by
    simp only [p, stepOut, expressFits, Bool.and_eq_true, decide_eq_true_eq]
  rw [hp, delta]
  by_cases hc : c ≤ 3
  · rw [reach, if_pos hc]
    split
    · exact .inl ⟨rfl, hc, by omega⟩
    · split
      · exact .inr (.inl ⟨rfl, by omega⟩)
      · exact .inr (.inr (.inr ⟨rfl, by omega⟩))
  · rw [reach, if_neg hc]
    split
    · exact .inr (.inr (.inl ⟨rfl, by omega, by omega⟩))
    · split
      · exact .inr (.inl ⟨rfl, by omega⟩)
      · exact .inr (.inr (.inr ⟨rfl, by omega⟩))

/-- What an escape output does at a tile: it is connected, lands nearer, and its channel has the rank of its direction
(R100, R108, R124). -/
structure EscapeHop (r p x y rank : Nat) : Prop where
  mesh : p < 6
  joined : connected r p = true
  lands : landing r p = (x, y)
  rank_eq : escapeRank r p = rank

/-- East: the express port from the western half of a die, or one step, over the seam at the edge. -/
theorem escapeHop_plusX {r p k : Nat} (hp : p = pXE ∧ xOf r ≤ 3 ∧ k = 4 ∨ p = pE ∧ k = 1) (h : gxOf r + k < 16) :
    EscapeHop r p (gxOf r + k) (gyOf r) (1 + gxOf r) := by
  rcases hp with ⟨rfl, hx, rfl⟩ | ⟨rfl, rfl⟩
  · exact ⟨by decide, rfl, by simp [landing, pXE, pN, pS, pE, pW, hx], by simp [escapeRank, pXE, pE, pW, hx]⟩
  · refine ⟨by decide, ?_, rfl, rfl⟩
    have hseam : xOf r = 7 → dieOf r % 2 = 0 := by simp only [gxOf, xOf, dieOf] at *; omega
    by_cases hx : xOf r = 7
    · simp [connected, neighbour, seamPort, pSlot0, pSlot1, pN, pS, pE, hx, hseam hx]
    · simp [connected, neighbour, pSlot0, pSlot1, pN, pS, pE, hx]

/-- West. -/
theorem escapeHop_minusX {r p k : Nat} (hp : p = pXE ∧ 3 < xOf r ∧ k = 4 ∨ p = pW ∧ k = 1) (h : k ≤ gxOf r) :
    EscapeHop r p (gxOf r - k) (gyOf r) (16 - gxOf r) := by
  rcases hp with ⟨rfl, hx, rfl⟩ | ⟨rfl, rfl⟩
  · exact ⟨by decide, rfl, by simp [landing, pXE, pN, pS, pE, pW, Nat.not_le.mpr hx],
      by simp [escapeRank, pXE, pE, pW, Nat.not_le.mpr hx]⟩
  · refine ⟨by decide, ?_, rfl, rfl⟩
    have hseam : xOf r = 0 → dieOf r % 2 = 1 := by simp only [gxOf, xOf, dieOf] at *; omega
    by_cases hx : xOf r = 0
    · simp [connected, neighbour, seamPort, pSlot0, pSlot1, pN, pS, pE, pW, hx, hseam hx]
    · simp [connected, neighbour, pSlot0, pSlot1, pN, pS, pE, pW, hx]

/-- South. -/
theorem escapeHop_plusY {r p k : Nat} (hr : r < 256) (hp : p = pYE ∧ yOf r ≤ 3 ∧ k = 4 ∨ p = pS ∧ k = 1)
    (h : gyOf r + k < 16) : EscapeHop r p (gxOf r) (gyOf r + k) (17 + gyOf r) := by
  rcases hp with ⟨rfl, hy, rfl⟩ | ⟨rfl, rfl⟩
  · exact ⟨by decide, rfl, by simp [landing, pYE, pXE, pN, pS, pE, pW, hy],
      by simp [escapeRank, pYE, pXE, pE, pW, pS, pN, hy]⟩
  · refine ⟨by decide, ?_, rfl, rfl⟩
    have hseam : yOf r = 7 → dieOf r / 2 = 0 := by simp only [gyOf, yOf, dieOf] at *; omega
    by_cases hy : yOf r = 7
    · have hdie : dieOf r < 2 := by have := hseam hy; omega
      simp [connected, neighbour, seamPort, pSlot0, pSlot1, pN, pS, pE, pW, hy, hdie]
    · simp [connected, neighbour, pSlot0, pSlot1, pN, pS, hy]

/-- North. -/
theorem escapeHop_minusY {r p k : Nat} (hr : r < 256) (hp : p = pYE ∧ 3 < yOf r ∧ k = 4 ∨ p = pN ∧ k = 1)
    (h : k ≤ gyOf r) : EscapeHop r p (gxOf r) (gyOf r - k) (32 - gyOf r) := by
  rcases hp with ⟨rfl, hy, rfl⟩ | ⟨rfl, rfl⟩
  · exact ⟨by decide, rfl, by simp [landing, pYE, pXE, pN, pS, pE, pW, Nat.not_le.mpr hy],
      by simp [escapeRank, pYE, pXE, pE, pW, pS, pN, Nat.not_le.mpr hy]⟩
  · refine ⟨by decide, ?_, rfl, rfl⟩
    have hseam : yOf r = 0 → dieOf r / 2 = 1 := by simp only [gyOf, yOf, dieOf] at *; omega
    by_cases hy : yOf r = 0
    · simp [connected, neighbour, seamPort, pSlot0, pSlot1, pN, pS, pE, pW, hy, hseam hy]
    · simp [connected, neighbour, pSlot0, pSlot1, pN, pS, hy]

/-- A position reached from `a` on the way to `b`: nearer by 1 or by 4. -/
def nearer (a b c : Nat) : Prop :=
  (c = a + 1 ∨ c = a + 4) ∧ c ≤ b ∨ (a = c + 1 ∨ a = c + 4) ∧ b ≤ c

/-- The rank of the escape channel at a tile: columns eastwards, columns westwards, then rows, then the slot (R124). -/
def routeRank (x y dx dy : Nat) : Nat :=
  if x < dx then 1 + x else if dx < x then 16 - x else if y < dy then 17 + y else if dy < y then 32 - y else 33

/-- An escape route goes along its row to the column of the destination (R100). -/
theorem escapeHop_row {r dt ds : Nat} (h : gxOf r ≠ gxOf dt) :
    ∃ x, nearer (gxOf r) (gxOf dt) x ∧
      EscapeHop r (routeEscape r dt ds) x (gyOf r) (routeRank (gxOf r) (gyOf r) (gxOf dt) (gyOf dt)) := by
  have hdx := gxOf_lt (t := dt)
  have hroute : routeEscape r dt ds = stepOut (delta (gxOf r) (gxOf dt)) pXE pE pW (xOf r) :=
    if_pos (by simp only [delta]; omega)
  rw [hroute, routeRank]
  rcases stepOut_cases pXE pE pW (xOf r) h with ⟨hp, hx, hk⟩ | ⟨hp, hk⟩ | ⟨hp, hx, hk⟩ | ⟨hp, hk⟩
  · rw [if_pos (by omega)]
    exact ⟨_, by rw [nearer]; omega, escapeHop_plusX (.inl ⟨hp, hx, rfl⟩) (by omega)⟩
  · rw [if_pos hk]
    exact ⟨_, by rw [nearer]; omega, escapeHop_plusX (.inr ⟨hp, rfl⟩) (by omega)⟩
  · rw [if_neg (by omega), if_pos (by omega)]
    exact ⟨_, by rw [nearer]; omega, escapeHop_minusX (.inl ⟨hp, hx, rfl⟩) (by omega)⟩
  · rw [if_neg (by omega), if_pos hk]
    exact ⟨_, by rw [nearer]; omega, escapeHop_minusX (.inr ⟨hp, rfl⟩) (by omega)⟩

/-- Then along the column (R100). -/
theorem escapeHop_column {r dt ds : Nat} (hr : r < 256) (hdt : dt < 256) (hx : gxOf r = gxOf dt)
    (h : gyOf r ≠ gyOf dt) :
    ∃ y, nearer (gyOf r) (gyOf dt) y ∧
      EscapeHop r (routeEscape r dt ds) (gxOf r) y (routeRank (gxOf r) (gyOf r) (gxOf dt) (gyOf dt)) := by
  have hdy := gyOf_lt hdt
  have hroute : routeEscape r dt ds = stepOut (delta (gyOf r) (gyOf dt)) pYE pS pN (yOf r) := by
    simp only [routeEscape]
    rw [if_neg (by simp only [delta]; omega), if_pos (by simp only [delta]; omega)]
  rw [hroute, routeRank, if_neg (by omega), if_neg (by omega)]
  rcases stepOut_cases pYE pS pN (yOf r) h with ⟨hp, hy, hk⟩ | ⟨hp, hk⟩ | ⟨hp, hy, hk⟩ | ⟨hp, hk⟩
  · rw [if_pos (by omega)]
    exact ⟨_, by rw [nearer]; omega, escapeHop_plusY hr (.inl ⟨hp, hy, rfl⟩) (by omega)⟩
  · rw [if_pos hk]
    exact ⟨_, by rw [nearer]; omega, escapeHop_plusY hr (.inr ⟨hp, rfl⟩) (by omega)⟩
  · rw [if_neg (by omega), if_pos (by omega)]
    exact ⟨_, by rw [nearer]; omega, escapeHop_minusY hr (.inl ⟨hp, hy, rfl⟩) (by omega)⟩
  · rw [if_neg (by omega), if_pos hk]
    exact ⟨_, by rw [nearer]; omega, escapeHop_minusY hr (.inr ⟨hp, rfl⟩) (by omega)⟩

/-- At the destination's tile the escape output is the destination's slot (R100). -/
theorem routeEscape_home (r : Nat) {ds : Nat} (hds : ds < 2) : routeEscape r r ds = pSlot0 + ds := by
  have hself (a : Nat) : ¬ delta a a ≠ 0 := by simp [delta]
  simp only [routeEscape, hself, if_false]
  split <;> simp only [pSlot0, pSlot1] <;> omega

/-- The rank of the escape channel at every tile (R124). -/
theorem escapeRank_routeEscape {r dt ds : Nat} (hr : r < 256) (hdt : dt < 256) (hds : ds < 2) :
    escapeRank r (routeEscape r dt ds) = routeRank (gxOf r) (gyOf r) (gxOf dt) (gyOf dt) := by
  by_cases hx : gxOf r = gxOf dt
  · by_cases hy : gyOf r = gyOf dt
    · have hrt : r = dt := by rw [← tileAt_gxOf_gyOf hr, hx, hy, tileAt_gxOf_gyOf hdt]
      subst hrt
      rw [routeEscape_home r hds, routeRank, if_neg (by omega), if_neg (by omega), if_neg (by omega),
        if_neg (by omega)]
      obtain rfl | rfl : ds = 0 ∨ ds = 1 := by omega
      · rfl
      · rfl
    · obtain ⟨_, _, hop⟩ := escapeHop_column (ds := ds) hr hdt hx hy
      exact hop.rank_eq
  · obtain ⟨_, _, hop⟩ := escapeHop_row (ds := ds) hx
    exact hop.rank_eq

/-- Settles O10: a hop moves one coordinate towards the destination, and the rank follows the coordinates. -/
theorem escapeRoutesRise : Obligations.EscapeRoutesRise := by
  intro r dt ds hr hdt hds
  refine ⟨fun h => h ▸ routeEscape_home r hds, fun hne => ?_⟩
  have hrx := gxOf_lt (t := r)
  have hry := gyOf_lt hr
  have hdx := gxOf_lt (t := dt)
  have hdy := gyOf_lt hdt
  obtain ⟨x, y, hxy, hop⟩ : ∃ x y, (nearer (gxOf r) (gxOf dt) x ∧ y = gyOf r ∨
      gxOf r = gxOf dt ∧ x = gxOf r ∧ nearer (gyOf r) (gyOf dt) y) ∧
      EscapeHop r (routeEscape r dt ds) x y (routeRank (gxOf r) (gyOf r) (gxOf dt) (gyOf dt)) := by
    by_cases hx : gxOf r = gxOf dt
    · have hy : gyOf r ≠ gyOf dt := fun hy => hne (by rw [← tileAt_gxOf_gyOf hr, hx, hy, tileAt_gxOf_gyOf hdt])
      obtain ⟨y, hy, hop⟩ := escapeHop_column (ds := ds) hr hdt hx hy
      exact ⟨_, y, .inr ⟨hx, rfl, hy⟩, hop⟩
    · obtain ⟨x, hx, hop⟩ := escapeHop_row (ds := ds) hx
      exact ⟨x, _, .inl ⟨hx, rfl⟩, hop⟩
  have hx : x < 16 := by simp only [nearer] at hxy; omega
  have hy : y < 16 := by simp only [nearer] at hxy; omega
  dsimp only
  rw [hop.lands, hop.rank_eq, escapeRank_routeEscape (tileAt_lt hx hy) hdt hds, gxOf_tileAt y hx,
    gyOf_tileAt hx hy]
  refine ⟨hop.mesh, hop.joined, tileAt_lt hx hy, ?_, ?_⟩
  · simp only [nearer] at hxy
    simp only [delta]
    omega
  · simp only [nearer] at hxy
    simp only [routeRank]
    repeat' split
    all_goals omega

end Sys2Proof.Machine

/-! Proofs: the check of a FAM-routed access (R197, R201, R203, R204). -/

namespace Sys2Proof.Machine

/-! ## The check of a FAM-routed access -/

/-- TYPE is a field of two bits. -/
theorem eType_lt (e : Nat) : eType e < 4 := Nat.mod_lt _ (by decide)

/-- What a granule has that passes its checks (R203). -/
structure Passes (n : Need) (have_ : Nat) (l : LensLine) (first above : Bool) : Prop where
  inWindow : l.idx < 2 ^ 20
  valid : eValid l.entry = true
  inBank : eSlot l.entry = 1 → above = false
  member : l.member = true
  rights : rightsOk n l.entry have_ = true
  isFirst : first = true

/-- A check that gives nothing has passed its first condition. -/
theorem ite_some_eq_none {α : Type} {p : Prop} [Decidable p] {x : α} {o : Option α} :
    (if p then some x else o) = none ↔ ¬p ∧ o = none := by
  by_cases hp : p
  · rw [if_pos hp]
    exact ⟨fun h => (nomatch h), fun h => absurd hp h.1⟩
  · rw [if_neg hp]
    exact ⟨fun h => ⟨hp, h⟩, fun h => h.2⟩

theorem passes_of_checkOne {n : Need} {have_ : Nat} {l : LensLine} {first straddle above : Bool}
    (h : checkOne n have_ l first straddle above = none) : Passes n have_ l first above := by
  rw [checkOne] at h
  obtain ⟨hwin, h⟩ := ite_some_eq_none.mp h
  obtain ⟨hval, h⟩ := ite_some_eq_none.mp h
  obtain ⟨hbank, h⟩ := ite_some_eq_none.mp h
  obtain ⟨hmem, h⟩ := ite_some_eq_none.mp h
  obtain ⟨hrights, h⟩ := ite_some_eq_none.mp h
  obtain ⟨hfirst, -⟩ := ite_some_eq_none.mp h
  simp only [Bool.not_eq_true, Bool.not_eq_eq_eq_not, Bool.not_true, Bool.not_eq_false,
    not_and] at hval hbank hmem hrights hfirst
  exact ⟨by omega, hval, hbank, hmem, hrights, hfirst⟩

/-- A granule that fails its checks is a violation, never a route. -/
theorem checkOne_ne_route (n : Need) (have_ : Nat) (l : LensLine) (first straddle above : Bool) (e i : Nat) :
    checkOne n have_ l first straddle above ≠ some (.route e i) := by
  rw [checkOne]
  repeat' split
  all_goals simp

/-- Every granule of a routed access has passed its checks, and the first gives the entry, which is neither HELD nor
ABSENT. -/
theorem passes_of_checkAll {n : Need} {have_ g a z : Nat} {ls : List LensLine} {e i : Nat}
    (h : checkAll n have_ g a z ls = .route e i) :
    (∀ l ∈ ls, Passes n have_ l (l.idx == a / 2 ^ g) (aboveBank g a z l.idx)) ∧
    ∃ l rest, ls = l :: rest ∧ l.entry = e ∧ l.idx = i ∧ eType e ≠ 2 ∧ eType e ≠ 3 := by
  simp only [checkAll] at h
  split at h
  next c hc =>
    subst h
    obtain ⟨l, _, hl⟩ := List.exists_of_findSome?_eq_some hc
    exact (checkOne_ne_route _ _ _ _ _ _ _ _ hl).elim
  next hnone =>
    refine ⟨fun l hl => passes_of_checkOne (List.findSome?_eq_none_iff.mp hnone l hl), ?_⟩
    cases ls with
    | nil => cases h
    | cons l rest =>
      dsimp only at h
      split at h
      · cases h
      next hheld =>
        split at h
        · cases h
        next habsent =>
          obtain ⟨rfl, rfl⟩ := Chk.route.inj h
          exact ⟨l, rest, rfl, rfl, rfl, hheld, habsent⟩

/-- Settles O19: a granule after the first is a straddle, so that a route has one granule alone. -/
theorem routedRequestsPassed : Obligations.RoutedRequestsPassed := by
  intro n have_ g a z ls e i hidx hroute
  obtain ⟨hpass, l, rest, rfl, rfl, rfl, hheld, habsent⟩ := passes_of_checkAll hroute
  obtain ⟨hwin, hval, hbank, hmem, hrights, hfirst⟩ := hpass l List.mem_cons_self
  have hl : l.idx = a / 2 ^ g := by simpa using hfirst
  have hone : rest = [] ∧ a / 2 ^ g = z / 2 ^ g := by
    rw [granules] at hidx
    split at hidx
    case isTrue hsame => exact ⟨by simpa using (List.cons.inj hidx).2, hsame⟩
    case isFalse hdiff =>
      obtain ⟨m, hm, hz⟩ : ∃ m ∈ rest, m.idx = z / 2 ^ g := by
        have : z / 2 ^ g ∈ rest.map (·.idx) := by rw [(List.cons.inj hidx).2]; exact List.mem_cons_self
        simpa using this
      have hm := (hpass m (List.mem_cons_of_mem _ hm)).isFirst
      exact absurd (hz ▸ (beq_iff_eq.mp hm).symm) hdiff
  obtain ⟨rfl, hz⟩ := hone
  have htype : eType l.entry = 0 ∨ eType l.entry = 1 := by have := eType_lt l.entry; omega
  have hnot2 : ¬ 2 ≤ eType l.entry := by omega
  simp only [rightsOk, Bool.and_eq_true, beq_iff_eq, Bool.or_eq_true, decide_eq_true_eq, hnot2, false_or,
    List.contains_iff_mem] at hrights
  obtain ⟨hr, hdev, hcoh⟩ := hrights
  refine ⟨l, rfl, rfl, rfl, hl, hl.trans hz, hwin, hval, hmem, hr, hdev, hcoh, htype, fun hslot => ?_⟩
  have habove := hbank hslot
  rw [aboveBank, ← hl, ← hl.trans hz] at habove
  simpa using habove

end Sys2Proof.Machine

/-! Proofs: a store at a Commons bank (R252, R283, R288). -/

namespace Sys2Proof.Machine

/-! ## A store at a Commons bank -/

/-- Settles O25: the bytes by `memWrite_get`, the bank by the laws of a bank. -/
theorem commonsStoreBytes : Obligations.CommonsStoreBytes := by
  intro f n p
  have hmem : ((f.cmnStore n p).cmnOf n).mem =
      memWrite (f.cmnOf n).mem (cmnOffset p) (writeData p) (writeMask p) (cmnBytes p) := by
    rw [Fab.cmnStore, Fab.clearResv, Fab.modCmn_own, Fab.modCmn_own]
  have hresv : ((f.cmnStore n p).cmnOf n).resv =
      (f.cmnOf n).resv.filter (fun r => !overlap r.gran (f.resvGran n) (cmnOffset p) (cmnBytes p)) := by
    rw [Fab.cmnStore, Fab.clearResv, Fab.modCmn_own, Fab.modCmn_own]
    rfl
  refine ⟨fun a => ?_, fun k hk => ?_, rfl, fun r hr => ?_⟩
  · rw [hmem, memWrite_get]
  · rw [Fab.cmnStore, Fab.clearResv, Fab.modCmn_other _ _ _ _ hk, Fab.modCmn_other _ _ _ _ hk]
  · rw [hresv] at hr
    obtain ⟨hin, hclear⟩ := List.mem_filter.mp hr
    refine ⟨hin, ?_⟩
    simp only [overlap, Bool.not_eq_true', Bool.and_eq_false_iff, decide_eq_false_iff_not] at hclear
    omega

end Sys2Proof.Machine

/-! Proofs: the weighted queues and their FIFOs (R302, R306). -/

namespace Sys2Proof.Machine

/-! ## The weighted queues and their FIFOs -/

/-- The choice of a weighted queue has the smallest start tag, the first of those that share it (R302). -/
theorem smallestTag_spec {x : Sched} {l : List Nat} (hl : l.Pairwise (· < ·)) (hne : l ≠ []) :
    ∃ k, smallestTag x l = some k ∧ k ∈ l ∧
      ∀ j ∈ l, (x.cl k).tag ≤ (x.cl j).tag ∧ ((x.cl j).tag = (x.cl k).tag → k ≤ j) := by
  induction l with
  | nil => exact absurd rfl hne
  | cons s ss ih =>
    obtain ⟨hfirst, hss⟩ := List.pairwise_cons.mp hl
    by_cases hnil : ss = []
    · subst hnil
      exact ⟨s, rfl, List.mem_cons_self, by simp⟩
    · obtain ⟨u, hu, humem, humin⟩ := ih hss hnil
      rw [smallestTag, hu]
      dsimp only
      split
      case isTrue hle =>
        refine ⟨s, rfl, List.mem_cons_self, List.forall_mem_cons.mpr ⟨⟨Nat.le_refl _, fun _ => Nat.le_refl _⟩, fun j hj => ?_⟩⟩
        exact ⟨Nat.le_trans hle (humin j hj).1, fun _ => Nat.le_of_lt (hfirst j hj)⟩
      case isFalse hgt =>
        refine ⟨u, rfl, List.mem_cons_of_mem _ humem, List.forall_mem_cons.mpr ⟨⟨by omega, by omega⟩, humin⟩⟩

/-- The first of the positions after `rr` that is offered comes before every other that is (R306). -/
theorem nextMc_spec {rr mc : Nat} {l : List Nat} (hrr : rr < 8) (hl : ∀ a ∈ l, a < 8) (h : nextMc rr l = some mc) :
    mc ∈ l ∧ ∀ a ∈ l, (mc + 7 - rr) % 8 ≤ (a + 7 - rr) % 8 := by
  rw [nextMc, List.find?_eq_some_iff_getElem] at h
  obtain ⟨hmem, i, hi, hmc, hbefore⟩ := h
  simp only [List.getElem_map, List.getElem_range] at hmc hbefore
  have hi8 : i < 8 := by simpa using hi
  refine ⟨List.contains_iff_mem.mp hmem, fun a ha => ?_⟩
  have ha8 := hl a ha
  have hnot : ¬ (a + 7 - rr) % 8 < i := fun hlt => by
    have hfree := hbefore _ hlt
    have hpos : (rr + 1 + (a + 7 - rr) % 8) % 8 = a := by omega
    rw [hpos] at hfree
    simp [ha] at hfree
  omega

/-- Settles O28. -/
theorem fairQueueOrder : Obligations.FairQueueOrder :=
  ⟨fun _ _ hl hne => smallestTag_spec hl hne, fun _ _ _ hrr hl h => nextMc_spec hrr hl h⟩

end Sys2Proof.Machine

/-! Proofs: the drain of an overlay (R221, R223, R230). -/

namespace Sys2Proof.Machine

/-! ## The drain of an overlay -/

/-- Among the records of an element the later one prevails (R223). -/
theorem lastRec_cons (r : StageRec) (l : List StageRec) (table part elem d : Nat) :
    (lastRec (r :: l) table part elem).getD d =
      (lastRec l table part elem).getD (if r.table = table ∧ r.part = part ∧ r.elem = elem then r.value else d) := by
  simp only [lastRec, List.reverse_cons, List.find?_append]
  cases l.reverse.find? (fun r => r.table == table && r.part == part && r.elem == elem) with
  | some x => rfl
  | none =>
    by_cases h : r.table = table ∧ r.part = part ∧ r.elem = elem
    · obtain ⟨ht, hp, he⟩ := h
      simp [ht, hp, he]
    · rw [if_neg h]
      have hf : (r.table == table && r.part == part && r.elem == elem) = false := by
        simpa [← Bool.not_eq_true, and_assoc] using h
      simp [hf]

/-- A record as the tables know it: one of three tables, and parts in a sharing group alone. -/
def StageRec.wellFormed (r : StageRec) : Prop := r.table < 3 ∧ (r.table ≠ tblShare → r.part = 0)

theorem FamCopy.apply_fam_get (c : FamCopy) {r : StageRec} (h : r.wellFormed) (i : Nat) :
    (c.apply r).fam.get (fun _ => 0) i =
      if r.table = tblFam ∧ r.part = 0 ∧ r.elem = i then r.value else c.fam.get (fun _ => 0) i := by
  rw [FamCopy.apply]
  by_cases ht : r.table = tblFam
  · have hp : r.part = 0 := h.2 (by rw [ht]; decide)
    rw [if_pos ht]
    by_cases hi : r.elem = i
    · subst hi; rw [if_pos ⟨ht, hp, rfl⟩]; exact SMap.get_set_same _ _ _ _
    · rw [if_neg (fun hh => hi hh.2.2)]; exact SMap.get_set_other _ _ _ _ _ (Ne.symm hi)
  · simp only [ht, if_false, false_and]
    split <;> rfl

theorem FamCopy.apply_pbr_get (c : FamCopy) {r : StageRec} (h : r.wellFormed) (i : Nat) :
    (c.apply r).pbr.get (fun _ => 0) i =
      if r.table = tblPbr ∧ r.part = 0 ∧ r.elem = i then r.value else c.pbr.get (fun _ => 0) i := by
  rw [FamCopy.apply]
  by_cases ht : r.table = tblPbr
  · have hp : r.part = 0 := h.2 (by rw [ht]; decide)
    rw [if_neg (by rw [ht]; decide), if_neg (by rw [ht]; decide)]
    by_cases hi : r.elem = i
    · subst hi; rw [if_pos ⟨ht, hp, rfl⟩]; exact SMap.get_set_same _ _ _ _
    · rw [if_neg (fun hh => hi hh.2.2)]; exact SMap.get_set_other _ _ _ _ _ (Ne.symm hi)
  · simp only [ht, false_and, if_false]
    by_cases hf : r.table = tblFam
    · rw [if_pos hf]
    · have hs : r.table = tblShare := by
        have := h.1
        simp only [tblFam, tblPbr, tblShare] at *
        omega
      rw [if_neg hf, if_pos hs]

/-- The banks after a drain hold what a lookup saw before it (R230). -/
theorem FamCopy.foldl_apply_get (l : List StageRec) (c : FamCopy) (h : ∀ r ∈ l, r.wellFormed) (i : Nat) :
    (l.foldl FamCopy.apply c).fam.get (fun _ => 0) i = (lastRec l tblFam 0 i).getD (c.fam.get (fun _ => 0) i) ∧
    (l.foldl FamCopy.apply c).pbr.get (fun _ => 0) i = (lastRec l tblPbr 0 i).getD (c.pbr.get (fun _ => 0) i) := by
  induction l generalizing c with
  | nil => exact ⟨rfl, rfl⟩
  | cons r l ih =>
    obtain ⟨hr, hl⟩ := List.forall_mem_cons.mp h
    obtain ⟨hfam, hpbr⟩ := ih (c.apply r) hl
    rw [List.foldl_cons, hfam, hpbr, c.apply_fam_get hr, c.apply_pbr_get hr, lastRec_cons, lastRec_cons]
    exact ⟨rfl, rfl⟩

/-- Settles O20. -/
theorem overlayDrainInvisible : Obligations.OverlayDrainInvisible := by
  intro s d hdrain
  have hget := FamCopy.foldl_apply_get (s.fab.copyOf d).drain (s.fab.copyOf d) hdrain
  refine ⟨_, rfl, rfl, ?_, fun i => ?_, fun i => ?_, fun e he => Fab.modCopy_other _ _ _ _ he⟩
  · rw [Fab.modCopy_own]
  · rw [Fab.modCopy_own]
    exact (hget i).1
  · rw [Fab.modCopy_own]
    exact (hget i).2

end Sys2Proof.Machine

/-! Proofs: the replay store of a sender (R376). -/

namespace Sys2Proof.Machine

/-! ## The replay store of a sender -/

/-- A crossing side after a change of its own. -/
@[simp] theorem Fab.modX_own (f : Fab) (ss c : Nat) (g : CrossSide → CrossSide) : (f.modX ss c g).xs ss c = g (f.xs ss c) :=
  SMap.get_set_same _ _ _ _

/-- A crossing side after a change of another. -/
theorem Fab.modX_other (f : Fab) {ss c tt d : Nat} (h : xKey tt d ≠ xKey ss c) (g : CrossSide → CrossSide) :
    (f.modX ss c g).xs tt d = f.xs tt d :=
  SMap.get_set_other _ _ _ _ _ h

/-- A frame sent changes nothing at a crossing side but what is in flight towards it. -/
theorem Fab.launch_replay (f : Fab) (ss c : Nat) (fr : Frame) (tt d : Nat) :
    ((f.launch ss c fr).xs tt d).replay = (f.xs tt d).replay := by
  by_cases h : xKey tt d = xKey (farSide ss) c
  · have hsame (g : Fab) : g.xs tt d = g.xs (farSide ss) c := by rw [Fab.xs, h, Fab.xs]
    rw [hsame, hsame, Fab.launch, Fab.modX_own]
  · rw [Fab.launch, Fab.modX_other _ h]

/-- The next frame is held for replay behind the others, of which there are fewer than 48 (R376). -/
theorem CrossSide.nextFrame_replay {x x' : CrossSide} {fr : Frame} (h : x.nextFrame = some (fr, x')) :
    x.replay.length < 48 ∧ x'.replay = x.replay ++ [fr] := by
  rw [CrossSide.nextFrame] at h
  split at h
  · cases h
  · split at h
    · cases h
    next hroom =>
      cases h
      exact ⟨Nat.not_le.mp hroom, rfl⟩

/-- A sender that holds 48 frames has no next one (R376). -/
theorem CrossSide.nextFrame_eq_none {x : CrossSide} (h : x.replay.length = 48) : x.nextFrame = none := by
  rw [CrossSide.nextFrame]
  split
  · rfl
  · exact if_pos (Nat.le_of_eq h.symm)

theorem Fab.emit_replay (n : Nat) (f : Fab) (ss c : Nat) (h : (f.xs ss c).replay.length ≤ 48) :
    ((f.emit ss c n).xs ss c).replay.length ≤ 48 ∧ (f.xs ss c).replay <+: ((f.emit ss c n).xs ss c).replay := by
  induction n generalizing f with
  | zero => exact ⟨h, List.prefix_rfl⟩
  | succ n ih =>
    rw [Fab.emit]
    split
    case isFalse => exact ⟨h, List.prefix_rfl⟩
    case isTrue =>
      split
      case h_2 => exact ⟨h, List.prefix_rfl⟩
      case h_1 fr x' hx =>
        obtain ⟨hroom, hx'⟩ := CrossSide.nextFrame_replay hx
        have hsent : (((f.modX ss c (fun _ => x')).launch ss c fr).xs ss c).replay = (f.xs ss c).replay ++ [fr] := by
          rw [Fab.launch_replay, Fab.modX_own, hx']
        obtain ⟨hlen, hpre⟩ := ih ((f.modX ss c (fun _ => x')).launch ss c fr)
          (by rw [hsent, List.length_append, List.length_singleton]; omega)
        exact ⟨hlen, (List.prefix_append _ _).trans (hsent ▸ hpre)⟩

/-- Settles O33. -/
theorem seamReplayBound : Obligations.SeamReplayBound := by
  refine ⟨fun f ss c n h => Fab.emit_replay n f ss c h, fun f ss c n h => ?_⟩
  cases n with
  | zero => rfl
  | succ n =>
    rw [Fab.emit, CrossSide.nextFrame_eq_none h]
    exact ite_self f

end Sys2Proof.Machine

/-! Proofs: a step of die time (R427, R429). -/

namespace Sys2Proof.Machine

/-! ## A step of die time -/

/-- What each of a list of operations keeps, all of them keep. -/
theorem Fab.foldl_keeps {α β : Type} (view : Fab → β) (g : Fab → α → Fab) (h : ∀ f a, view (g f a) = view f)
    (l : List α) (f : Fab) : view (l.foldl g f) = view f := by
  induction l generalizing f with
  | nil => rfl
  | cons a l ih => exact (ih (g f a)).trans (h f a)

@[simp] theorem Fab.modCl_lan (f : Fab) (w : Who) (dir s : Nat) (g : ClassState → ClassState) :
    (f.modCl w dir s g).lan = f.lan := by
  cases w with
  | ni t => exact Fab.modNi_lan ..
  | sp d => exact Fab.modSp_lan ..

@[simp] theorem Fab.refill_lan (f : Fab) (w : Who) (dir s : Nat) : (f.refill w dir s).lan = f.lan := by
  rw [Fab.refill, Fab.modCl_lan]

@[simp] theorem Fab.refillPolicer_lan (f : Fab) (t : Nat) : (f.refillPolicer t).lan = f.lan := by
  rw [Fab.refillPolicer, Fab.modNi_lan]

theorem Fab.everyClass_lan (f : Fab) (w : Who) (g : Fab → Nat → Nat → Fab) (h : ∀ f dir s, (g f dir s).lan = f.lan) :
    (f.everyClass w g).lan = f.lan := by
  rw [Fab.everyClass]
  exact Fab.foldl_keeps Fab.lan _ (fun f dir => Fab.foldl_keeps Fab.lan _ (fun f s => h f dir s) _ f) _ f

theorem Fab.beforeStep_lan (f : Fab) (w : Who) : (f.beforeStep w).lan = f.lan := by
  have hclass : (f.everyClass w (fun f dir s => f.refill w dir s)).lan = f.lan :=
    f.everyClass_lan w _ (fun f dir s => f.refill_lan w dir s)
  unfold Fab.beforeStep
  split
  · rw [Fab.refillPolicer_lan, hclass]
  · rw [hclass]

theorem Fab.afterStep_lan (f : Fab) (w : Who) : (f.afterStep w).lan = f.lan := by
  have hclass (now : Nat) :
      (f.everyClass w (fun g dir s => g.modCl w dir s (fun c => { c with last := min c.last now }))).lan = f.lan :=
    f.everyClass_lan w _ (fun f dir s => f.modCl_lan w dir s _)
  unfold Fab.afterStep
  split
  · rw [Fab.modNi_lan, hclass]
  · rw [hclass]

/-- A Lantern stepped by `amount`, its accumulator within its width (R427, R429). -/
theorem Lantern.time_advance {l : Lantern} {amount : Int} (h0 : 0 ≤ (l.acc : Int) + amount * 2 ^ 24)
    (htop : (l.acc : Int) + amount * 2 ^ 24 < 2 ^ 104) (hacc : l.acc < 2 ^ 104) :
    ((l.advance (amount * 2 ^ 24)).time : Int) = l.time + amount := by
  have hmod : (((l.acc : Int) + amount * 2 ^ 24) % ((2 ^ 104 : Nat) : Int)).toNat =
      ((l.acc : Int) + amount * 2 ^ 24).toNat := by
    rw [Int.emod_eq_of_lt h0 (by exact_mod_cast htop)]
  simp only [Lantern.time, Lantern.advance, hmod]
  omega

/-- The Lantern of a die after a step, and the others' as they were. -/
theorem execStepApply_lantern {s t : State} {d a : Nat} {amount : Int}
    (hstep : (s.fab.lantern d).step = some (a, amount)) (hdue : a ≤ s.fab.dieTime d)
    (h : exec (.stepApply d) s = .next t) :
    t.fab.lantern d = { (s.fab.lantern d).advance (amount * 2 ^ 24) with
      step := none, stepSum := (s.fab.lantern d).stepSum + amount } := by
  rw [exec_stepApply, execStepApply] at h
  cases h
  have hbefore := Fab.foldl_keeps Fab.lan Fab.beforeStep Fab.beforeStep_lan (holdersOf d) s.fab
  have hlantern {f g : Fab} (hfg : f.lan = g.lan) : f.lantern d = g.lantern d := by rw [Fab.lantern, hfg, Fab.lantern]
  simp only [State.onFab, hstep, Nat.not_lt.mpr hdue, if_false]
  rw [hlantern (Fab.foldl_keeps Fab.lan Fab.afterStep Fab.afterStep_lan (holdersOf d) _), Fab.bump, Fab.setO_lantern,
    Fab.modLan_own, hlantern hbefore]

/-- Settles O39: what the step adds to the die time, it adds to the sum of the steps. -/
theorem stepKeepsRunTime : Obligations.StepKeepsRunTime := by
  intro s t d a amount hstep hdue h0 htop hacc h
  have hlan := execStepApply_lantern hstep hdue h
  have htime := Lantern.time_advance h0 htop hacc
  have hdie : (t.fab.dieTime d : Int) = s.fab.dieTime d + amount := by
    rw [Fab.dieTime, hlan]
    exact htime
  have hsum : (t.fab.lantern d).stepSum = (s.fab.lantern d).stepSum + amount := by rw [hlan]
  refine ⟨hdie, ?_, fun n hn hdev => ?_⟩
  · rw [Lantern.run, ← Fab.dieTime, hdie, hsum, Lantern.run, Fab.dieTime]
    omega
  · have htile (l : Lantern) (hd : l.dev = []) : l.tileTime n = l.time := by
      simp [Lantern.tileTime, Lantern.time, hd, SMap.get]
    have hdev' : (t.fab.lantern d).dev = [] := by rw [hlan]; exact hdev
    rw [Fab.run, Fab.time, hn, htile _ hdev', Fab.run, Fab.time, hn, htile _ hdev, ← Fab.dieTime, hdie, hsum,
      Fab.dieTime]
    omega

end Sys2Proof.Machine

/-! Proofs: what an instance reset keeps (R438, R544, R588). -/

namespace Sys2Proof.Machine

/-! ## What an INSTANCE reset keeps -/

/-- An entry is read from a map as before once others are gone. -/
theorem get_filter_of_kept {α : Type} (d : Nat → α) (p : Nat → Bool) {k : Nat} (h : p k = true) (m : SMap α) :
    SMap.get d (m.filter (fun kv => p kv.1)) k = SMap.get d m k := by
  induction m with
  | nil => rfl
  | cons e m ih =>
    obtain ⟨j, v⟩ := e
    by_cases hj : k = j
    · subst hj
      rw [List.filter_cons, if_pos h, SMap.get, SMap.get, if_pos rfl, if_pos rfl]
    · rw [SMap.get, if_neg hj, ← ih]
      by_cases hp : p j = true
      · rw [List.filter_cons, if_pos hp, SMap.get, if_neg hj]
      · rw [List.filter_cons, if_neg hp]

/-- What each of a list of operations keeps for what the list holds, all of them keep. -/
theorem Fab.foldl_keeps_mem {α β : Type} (view : Fab → β) (g : Fab → α → Fab) (l : List α)
    (h : ∀ a ∈ l, ∀ f, view (g f a) = view f) (f : Fab) : view (l.foldl g f) = view f := by
  induction l generalizing f with
  | nil => rfl
  | cons a l ih =>
    exact (ih (fun b hb => h b (List.mem_cons_of_mem _ hb)) (g f a)).trans (h a List.mem_cons_self f)

/-- The scope of an object's key, as far as its other parts are in range. -/
theorem code_le_keyScope (sc : Scope) (num idx sub : Nat) : sc.code ≤ keyScope (objKey sc num idx sub) := by
  rw [keyScope, objKey, Nat.shiftRight_eq_div_pow]
  omega

/-- The nonce, the Lanterns, one-time storage, and the object of key `k`. -/
def Fab.core (k : Nat) (f : Fab) : Nat × SMap Lantern × Otp × Nat := (f.nonce, f.lan, f.otp, f.objs.get keyDefault k)

section
variable {k : Nat}

@[simp] theorem Fab.modTile_core (f : Fab) (t : Nat) (g : Tile → Tile) : (f.modTile t g).core k = f.core k := by
  simp [Fab.core]
@[simp] theorem Fab.modSp_core (f : Fab) (d : Nat) (g : Sp → Sp) : (f.modSp d g).core k = f.core k := by
  simp [Fab.core]
@[simp] theorem Fab.modSk_core (f : Fab) (n : Nat) (g : Sk → Sk) : (f.modSk n g).core k = f.core k := by
  simp [Fab.core]
@[simp] theorem Fab.modCmn_core (f : Fab) (n : Nat) (g : Cmn → Cmn) : (f.modCmn n g).core k = f.core k := by
  simp [Fab.core]
@[simp] theorem Fab.modGuy_core (f : Fab) (g : Guy → Guy) : (f.modGuy g).core k = f.core k := by
  simp [Fab.core]
@[simp] theorem Fab.modCdc_core (f : Fab) (x : Cdc) (g : CdcSt → CdcSt) : (f.modCdc x g).core k = f.core k := by
  simp [Fab.core]
@[simp] theorem Fab.modX_core (f : Fab) (ss c : Nat) (g : CrossSide → CrossSide) :
    (f.modX ss c g).core k = f.core k := by
  simp [Fab.core]
@[simp] theorem Fab.modSide_core (f : Fab) (ss : Nat) (g : SeamSide → SeamSide) :
    (f.modSide ss g).core k = f.core k := by
  simp [Fab.core]
@[simp] theorem Fab.modFam_core (f : Fab) (key : Nat) (g : Fam → Fam) : (f.modFam key g).core k = f.core k := by
  simp [Fab.core]
@[simp] theorem Fab.modDie_core (f : Fab) (d : Nat) (g : Die → Die) : (f.modDie d g).core k = f.core k := by
  simp [Fab.core]
@[simp] theorem Fab.modWd_core (f : Fab) (g : Warden → Warden) : (f.modWd g).core k = f.core k := by
  simp [Fab.core]
@[simp] theorem Fab.setFam_core (f : Fab) (key : Nat) (x : Fam) : (f.setFam key x).core k = f.core k := rfl

theorem Fab.setO_core (f : Fab) {sc : Scope} {num idx sub : Nat} (v : Nat) (h : k ≠ objKey sc num idx sub) :
    (f.setO sc num idx sub v).core k = f.core k := by
  rw [Fab.core, Fab.core, Fab.setO, SMap.get_set_other _ _ _ _ _ h]

theorem Fab.dropObjs_core (f : Fab) {p : Nat → Bool} (h : p k = false) : (f.dropObjs p).core k = f.core k := by
  rw [Fab.core, Fab.core, Fab.dropObjs]
  rw [get_filter_of_kept keyDefault (fun j => !p j) (by rw [h]; rfl)]

theorem Fab.unfence_core (f : Fab) (x : Cdc) : (f.unfence x).core k = f.core k := by
  rw [Fab.unfence, Fab.modCdc_core]

theorem Fab.pllSettle_core (f : Fab) (ss : Nat) : (f.pllSettle ss).core k = f.core k := by
  rw [Fab.pllSettle]
  split
  · rw [Fab.modSide_core]
  · rfl

theorem Fab.sbSend_core (f : Fab) (ss : Nat) (m : SbMsg) : (f.sbSend ss m).core k = f.core k := by
  rw [Fab.sbSend]
  split
  · rw [Fab.modSide_core, Fab.sbCode, Fab.modSide_core]
  · rw [Fab.sbCode, Fab.modSide_core]

theorem Fab.unfenceSeam_core (f : Fab) (ss c : Nat) : (f.unfenceSeam ss c).core k = f.core k := by
  rw [Fab.unfenceSeam]
  split
  · rw [Fab.unfence_core, Fab.unfence_core]
  · rw [Fab.endC, Fab.modFam_core, Fab.unfence_core, Fab.unfence_core]

variable (hk : keyScope k = 0)
include hk

theorem Fab.clearUnit_core (f : Fab) (u : Scope × Nat) (cold : Bool) (hu : u.1 ≠ .inst) :
    (f.clearUnit u cold).core k = f.core k := by
  have hcode : (keyScope k == u.1.code) = false := by
    rw [hk]
    revert hu
    cases u.1 <;> decide
  rw [Fab.clearUnit, Fab.setFam_core, Fab.dropObjs_core]
  rw [hcode, Bool.false_and, Bool.false_and]

theorem Fab.bump_core (f : Fab) {sc : Scope} (num idx sub n : Nat) (hsc : keyScope (objKey sc num idx sub) ≠ 0) :
    (f.bump sc num idx sub n).core k = f.core k :=
  f.setO_core _ (fun h => hsc (h ▸ hk))

theorem Fab.resetUnit_core (f : Fab) (u : Scope × Nat) : (f.resetUnit u).core k = f.core k := by
  rw [Fab.resetUnit.eq_def]
  split
  · rw [Fab.modSp_core, Fab.bump_core hk]
    exact Nat.ne_of_gt (Nat.lt_of_lt_of_le (by decide) (code_le_keyScope .sp u.2 O.STORES_LOST 0))
  · exact Fab.modSk_core ..
  · exact Fab.modCmn_core ..
  · rfl

theorem Fab.enterCross_core (f : Fab) (ss c : Nat) (cold : Bool) : (f.enterCross ss c cold).core k = f.core k := by
  rw [Fab.enterCross, Fab.dropObjs_core _ (by rw [hk]; rfl), Fab.unfenceSeam_core, Fab.resetCross,
    Fab.pllSettle_core, Fab.modX_core]

theorem Fab.enterSide_core (f : Fab) (ss : Nat) (cold : Bool) : (f.enterSide ss cold).core k = f.core k := by
  rw [Fab.enterSide, Fab.sbSend_core, Fab.clearUnit_core hk _ _ _ (by simp)]
  exact Fab.foldl_keeps (Fab.core k) _ (fun f c => f.enterCross_core hk ss c cold) _ f

theorem Fab.enterTile_core (f : Fab) (t : Nat) (cold off : Bool) : (f.enterTile t cold off).core k = f.core k := by
  have hunit : ∀ u ∈ tileUnits t, u.1 ≠ .inst := by
    simp only [tileUnits, List.mem_append, List.mem_cons, List.mem_map]
    rintro u (((rfl | ⟨_, _, rfl⟩) | ⟨_, _, rfl⟩) | ⟨_, _, rfl⟩) <;> simp
  rw [Fab.enterTile, Fab.modGuy_core, Fab.modTile_core]
  refine Fab.foldl_keeps_mem (Fab.core k) _ _ (fun u hu f => ?_) f
  rw [Fab.foldl_keeps (Fab.core k) _ (fun f x => f.unfence_core x), Fab.clearUnit_core hk _ _ _ (hunit u hu),
    Fab.resetUnit_core hk]

end

/-- A ticket cut off touches TICKET_RESULT and TICKET_STATE alone. -/
theorem Fab.abortTicket_core (f : Fab) {k : Nat} (hres : k ≠ objKey .inst 0 O.TICKET_RESULT 0)
    (hst : k ≠ objKey .inst 0 O.TICKET_STATE 0) : f.abortTicket.core k = f.core k := by
  rw [Fab.abortTicket]
  split
  next tk _ =>
    rw [Fab.ticketRejected, Fab.raise]
    split
    · rw [Fab.setO_core _ _ hst, Fab.setO_core _ _ hres, Fab.modWd_core]
    · rw [Fab.modFam_core, Fab.setO_core _ _ hst, Fab.setO_core _ _ hres, Fab.modWd_core]
  next => rfl

/-- Whatever programming is cut off, the nonce, the Lanterns and the objects stay; with none, one-time storage (R544). -/
theorem Fab.cutOtp_keeps (f : Fab) :
    f.cutOtp.nonce = f.nonce ∧ f.cutOtp.lan = f.lan ∧ f.cutOtp.objs = f.objs ∧
      (f.wd.burn = none → f.wd.prog = none → f.cutOtp.otp = f.otp) := by
  unfold Fab.cutOtp
  cases hb : f.wd.burn with
  | none =>
    cases hp : f.wd.prog with
    | none => simp [hb, hp]
    | some j => simp [hb, hp]
  | some b =>
    cases hp : f.wd.prog with
    | none => simp [hb, hp]
    | some j => simp [hb, hp]

/-- The part of an INSTANCE reset that enters each unit: up to the objects that it drops (R588). -/
def Fab.enterUnits (f : Fab) (cold off : Bool) : Fab :=
  let f := f.cutOtp
  let f := if cold then f else f.abortTicket
  let f := (List.range 4).foldl (fun f d => f.modDie d (fun x => { x with
    rst := true, qpReq := List.replicate 4 false, famReq := !off })) f
  let f := (List.range 8).foldl (fun f ss => f.enterSide ss cold) f
  let f := (List.range 8).foldl (fun f ss => f.modSide ss (fun x => { x with sb := [] })) f
  let f := (List.range 256).foldl (fun f t => f.enterTile t cold off) f
  f.dropObjs (fun k => cold || !keptWarm (keyIdx k))

/-- What a warm INSTANCE reset does beyond its units. -/
theorem Fab.enterInstance_warm (f : Fab) (off : Bool) (k : Nat) :
    (f.enterInstance false off).core k = (f.enterUnits false off).core k ∧
    (f.enterInstance false off).bind = Bind.reset ∧ (f.enterInstance false off).wd.ticket = none := by
  unfold Fab.enterInstance Fab.enterUnits
  generalize List.range 256 = tiles
  simp only [Bool.false_eq_true, if_false]
  exact ⟨rfl, trivial, trivial⟩
/-- An object that a warm INSTANCE reset keeps, apart from those of the ticket in verification (R588). -/
def warmKey (k : Nat) : Prop :=
  keyScope k = 0 ∧ keptWarm (keyIdx k) = true ∧ k ≠ objKey .inst 0 O.TICKET_RESULT 0 ∧
    k ≠ objKey .inst 0 O.TICKET_STATE 0

theorem Fab.enterUnits_warm_core (f : Fab) (off : Bool) {k : Nat} (hk : warmKey k) :
    (f.enterUnits false off).core k = f.cutOtp.core k := by
  obtain ⟨hscope, hkept, hres, hst⟩ := hk
  rw [Fab.enterUnits, Fab.dropObjs_core _ (by rw [hkept]; rfl),
    Fab.foldl_keeps (Fab.core k) _ (fun f t => f.enterTile_core hscope t false off),
    Fab.foldl_keeps (Fab.core k) _ (fun f ss => f.modSide_core ss _),
    Fab.foldl_keeps (Fab.core k) _ (fun f ss => f.enterSide_core hscope ss false),
    Fab.foldl_keeps (Fab.core k) _ (fun f d => f.modDie_core d _)]
  exact f.cutOtp.abortTicket_core hres hst

@[simp] theorem Fab.enterUnits_cold_objs (f : Fab) (off : Bool) : (f.enterUnits true off).objs = [] := by
  rw [Fab.enterUnits, Fab.dropObjs]
  simp

/-- The Lanterns of a cold INSTANCE reset do not depend on what stood before it. -/
theorem Fab.coldLanterns_lan (f g : Fab) : f.coldLanterns.lan = g.coldLanterns.lan := rfl

theorem Fab.coldLanterns_invalid (f : Fab) {d : Nat} (hd : d < 4) : (f.coldLanterns.lantern d).invalid = true := by
  have hall : ∀ d < 4, (State.reset.fab.coldLanterns.lantern d).invalid = true := by decide +kernel
  have hlan := hall d hd
  rwa [Fab.lantern, Fab.coldLanterns_lan _ f, ← Fab.lantern] at hlan

/-- A cold INSTANCE reset leaves no object away from its reset value, clears the nonce, and unloads one-time storage. -/
theorem Fab.enterInstance_cold (f : Fab) (off : Bool) :
    (f.enterInstance true off).nonce = 0 ∧ (f.enterInstance true off).objs = (f.enterUnits true off).objs ∧
    (f.enterInstance true off).otp.loaded = false ∧ (f.enterInstance true off).otp.slot = none ∧
    (f.enterInstance true off).lan = f.coldLanterns.lan := by
  unfold Fab.enterInstance Fab.enterUnits
  generalize List.range 256 = tiles
  simp only [if_true]
  refine ⟨rfl, rfl, rfl, rfl, ?_⟩
  rw [Fab.modOtp_lan]
  exact Fab.coldLanterns_lan _ f

/-- Settles O58. -/
theorem warmResetKeeps : Obligations.WarmResetKeeps := by
  constructor
  · intro f hcold
    have hwarm : f.startReset .inst 0 false true =
        { f.enterInstance false f.coldLow with rsts := [⟨.inst, 0, false, f.run0, true⟩] } := by
      rw [Fab.startReset, hcold]
      rfl
    have hcore (k : Nat) (hk : warmKey k) : (f.enterInstance false f.coldLow).core k = f.cutOtp.core k :=
      (f.enterInstance_warm f.coldLow k).1.trans (f.enterUnits_warm_core f.coldLow hk)
    obtain ⟨-, hbind, hticket⟩ := f.enterInstance_warm f.coldLow 0
    have hcounter := hcore (objKey .inst 0 O.TICKET_COUNTER 0) (by unfold warmKey; decide)
    have hseal := hcore (objKey .inst 0 O.SEAL_STATE 0) (by unfold warmKey; decide)
    obtain ⟨hnonce, hlan, hobjs, hotp⟩ := f.cutOtp_keeps
    simp only [Fab.core, Prod.mk.injEq] at hcounter hseal
    obtain ⟨hn, hl, ho, hc⟩ := hcounter
    obtain ⟨-, -, -, hs⟩ := hseal
    rw [hobjs] at hc hs
    refine ⟨_, hwarm.symm, ?_⟩
    generalize f.enterInstance false f.coldLow = g at *
    exact ⟨hn.trans hnonce, hl.trans hlan, hc, hs, fun hb hp => ho.trans (hotp hb hp), hticket, hbind, rfl⟩
  · intro f viaMap
    have hstart : f.startReset .inst 0 true viaMap =
        { f.enterInstance true f.coldLow with rsts := [⟨.inst, 0, true, f.run0, viaMap⟩] } := by
      simp only [Fab.startReset, Bool.true_or, Bool.not_true, Bool.false_and, Bool.false_eq_true, if_false]
    have hentered := f.enterInstance_cold f.coldLow
    rw [Fab.enterUnits_cold_objs] at hentered
    refine ⟨_, hstart.symm, ?_⟩
    generalize f.enterInstance true f.coldLow = g at hentered ⊢
    obtain ⟨hnonce, hobjs, hloaded, hslot, hlan⟩ := hentered
    refine ⟨hnonce, hloaded, hslot, ?_, fun d hd => ?_, rfl⟩
    · rw [Fab.oI, Fab.o]
      dsimp only
      rw [hobjs]
      decide
    · rw [Fab.lantern]
      dsimp only
      rw [hlan, ← Fab.lantern]
      exact f.coldLanterns_invalid hd

end Sys2Proof.Machine

/-! Proofs: commands as changes of the fabric. -/

namespace Sys2Proof.Machine

/-! ## What a command does, by what it does to the fabric -/

theorem next_onFab {s : State} {F G : Fab → Fab} (h : F s.fab = G s.fab) :
    (Host.Outcome.next (s.onFab F) : Host.Outcome State Fault Refusal) = .next (s.onFab G) := by
  rw [State.onFab, h, State.onFab]

theorem next_fab {s : State} {F : Fab → Fab} {g : Fab} (h : F s.fab = g) :
    (Host.Outcome.next (s.onFab F) : Host.Outcome State Fault Refusal) = .next { s with fab := g } := by
  rw [State.onFab, h]

/-- A command that leaves the fabric as it is leaves the state as it is. -/
theorem next_same {s : State} {F : Fab → Fab} (h : F s.fab = s.fab) :
    (Host.Outcome.next (s.onFab F) : Host.Outcome State Fault Refusal) = .next s := by
  rw [State.onFab, h]


/-- What either branch keeps. -/
theorem ite_keeps {α β : Type} (view : α → β) {p : Prop} [Decidable p] {g h : α} {c : β} (hg : view g = c)
    (hh : view h = c) : view (if p then g else h) = c := by
  split
  · exact hg
  · exact hh

end Sys2Proof.Machine

/-! Proofs: the cycle of a tile (R301, R593). -/

namespace Sys2Proof.Machine

/-! ## The cycle of a tile -/

/-- Whether a scheduler has selected in this cycle. -/
def Fab.picked (w : Who) (dir : Nat) (f : Fab) : Bool := (f.sched w dir).picked

section
variable {w : Who} {dir : Nat}

theorem Fab.modTile_picked (f : Fab) (u : Nat) (g : Tile → Tile) (h : ∀ x, (g x).ni = x.ni) :
    (f.modTile u g).picked w dir = f.picked w dir := by
  have hni (t : Nat) : (f.modTile u g).ni t = f.ni t := by
    by_cases ht : t = u
    · subst ht
      rw [Fab.ni, Fab.modTile_own, h, Fab.ni]
    · rw [Fab.ni, Fab.modTile_other _ _ _ _ ht, Fab.ni]
  unfold Fab.picked Fab.sched
  cases w with
  | ni t => dsimp only; rw [hni]
  | sp d => dsimp only; rw [Fab.modTile_spOf]

theorem Fab.modNi_picked (f : Fab) (u : Nat) (g : Ni → Ni)
    (h : ∀ n, (g n).inj.picked = n.inj.picked ∧ (g n).egr.picked = n.egr.picked) :
    (f.modNi u g).picked w dir = f.picked w dir := by
  unfold Fab.picked Fab.sched
  cases w with
  | ni t =>
    dsimp only
    by_cases ht : t = u
    · subst ht
      rw [Fab.modNi_own]
      split
      · exact (h _).1
      · exact (h _).2
    · rw [Fab.modNi, Fab.ni, Fab.modTile_other _ _ _ _ ht, ← Fab.ni]
  | sp d => dsimp only; rw [Fab.modNi_spOf]

theorem Fab.modSp_picked (f : Fab) (u : Nat) (g : Sp → Sp)
    (h : ∀ n, (g n).inj.picked = n.inj.picked ∧ (g n).egr.picked = n.egr.picked) :
    (f.modSp u g).picked w dir = f.picked w dir := by
  unfold Fab.picked Fab.sched
  cases w with
  | ni t => dsimp only; rw [Fab.ni, Fab.modSp_tile, ← Fab.ni]
  | sp d =>
    dsimp only
    by_cases hd : d = u
    · subst hd
      rw [Fab.modSp_own]
      split
      · exact (h _).1
      · exact (h _).2
    · rw [Fab.modSp_other _ _ _ _ hd]

theorem Fab.modSched_picked (f : Fab) (v : Who) (e : Nat) (g : Sched → Sched) (h : ∀ x, (g x).picked = x.picked) :
    (f.modSched v e g).picked w dir = f.picked w dir := by
  cases v with
  | ni u =>
    refine f.modNi_picked u _ (fun n => ?_)
    split
    · exact ⟨h _, rfl⟩
    · exact ⟨rfl, h _⟩
  | sp d =>
    refine f.modSp_picked d _ (fun n => ?_)
    split
    · exact ⟨h _, rfl⟩
    · exact ⟨rfl, h _⟩

theorem Fab.modCl_picked (f : Fab) (v : Who) (e s : Nat) (g : ClassState → ClassState) :
    (f.modCl v e s g).picked w dir = f.picked w dir :=
  f.modSched_picked v e _ (fun _ => rfl)

theorem Fab.setO_picked (f : Fab) (sc : Scope) (num idx sub v : Nat) :
    (f.setO sc num idx sub v).picked w dir = f.picked w dir := by
  unfold Fab.picked Fab.sched
  cases w with
  | ni t => dsimp only; rw [Fab.ni, Fab.setO_tile, ← Fab.ni]
  | sp d => dsimp only; rw [Fab.setO_spOf]

theorem Fab.join_picked (f : Fab) (v : Who) (e : Nat) (p : Packet) (stg : Option Nat) (seq : Nat) (ans own : Bool) :
    (f.join v e p stg seq ans own).picked w dir = f.picked w dir := by
  refine f.modSched_picked v e _ (fun x => ?_)
  dsimp only
  split <;> rfl

theorem Fab.beginHold_picked (f : Fab) (u s : Nat) : (f.beginHold u s).picked w dir = f.picked w dir := by
  unfold Fab.beginHold
  split
  · rw [Fab.join_picked, Fab.modNi_picked]
    exact fun _ => ⟨rfl, rfl⟩
  · rfl

theorem Fab.countWaits_picked (f : Fab) (v : Who) (e s : Nat) :
    (f.countWaits v e s).picked w dir = f.picked w dir := by
  refine Fab.foldl_keeps (Fab.picked w dir) _ (fun f mc => ?_) _ f
  split
  · rfl
  next h rest _ =>
    refine ite_keeps (Fab.picked w dir) ?_ rfl
    rw [Fab.event, Fab.modTile_picked, Fab.bump, Fab.setO_picked, Fab.modSched_picked]
    · exact fun _ => rfl
    · exact fun _ => rfl

theorem Fab.markDormant_picked (f : Fab) (v : Who) (e s : Nat) :
    (f.markDormant v e s).picked w dir = f.picked w dir := by
  rw [Fab.markDormant]
  split
  · rw [Fab.modCl_picked]
  · rfl

theorem Fab.settleSched_picked (f : Fab) (v : Who) (e : Nat) (ok : Nat → Nat → QPkt → Bool) :
    (f.settleSched v e ok).picked w dir = f.picked w dir := by
  rw [Fab.settleSched, Fab.wakeQueues, Fab.foldl_keeps (Fab.picked w dir) _ (fun f s => f.modCl_picked v e s _)]
  refine Fab.foldl_keeps (Fab.picked w dir) _ (fun f s => ?_) _ f
  rw [Fab.markDormant_picked, Fab.countWaits_picked, Fab.refill, Fab.modCl_picked, Fab.modCl_picked]

end

/-- After its cycle every scheduler of an edge NI may select again (R301). -/
theorem Fab.schedCycle_picked (f : Fab) (t dir : Nat) : (f.schedCycle t).picked (.ni t) dir = false := by
  have hni : (f.schedCycleNi t).picked (.ni t) dir = false := by
    rw [Fab.schedCycleNi, Fab.settleSched_picked, Fab.settleSched_picked, Fab.beginFlush,
      Fab.foldl_keeps (Fab.picked (.ni t) dir) _ (fun f s => f.beginHold_picked t s)]
    unfold Fab.picked Fab.sched
    dsimp only
    rw [Fab.modNi_own]
    split <;> rfl
  unfold Fab.schedCycle
  split
  next d _ =>
    rw [Fab.schedCycleSp, Fab.settleSched_picked, Fab.settleSched_picked]
    unfold Fab.picked Fab.sched at hni ⊢
    dsimp only at hni ⊢
    rw [Fab.ni, Fab.modSp_tile, ← Fab.ni]
    exact hni
  · exact hni

/-- CYC of a tile. -/
def Fab.cyc (t : Nat) (f : Fab) : Nat := (f.tile t).cyc

theorem Fab.modTile_cyc (f : Fab) (t : Nat) (g : Tile → Tile) (h : ∀ x, (g x).cyc = x.cyc) :
    (f.modTile t g).cyc t = f.cyc t := by
  rw [Fab.cyc, Fab.modTile_own, h, Fab.cyc]

theorem Fab.event_cyc (f : Fab) (t code q n : Nat) : (f.event t code q n).cyc t = f.cyc t :=
  f.modTile_cyc t _ (fun _ => rfl)

theorem Fab.countCycle_cyc (n : Nat) (f : Fab) (t k carry : Nat) : (f.countCycle t k carry n).cyc t = f.cyc t := by
  induction n generalizing f k carry with
  | zero => rfl
  | succ n ih =>
    rw [Fab.countCycle, ih]
    refine ite_keeps (Fab.cyc t) ?_ (f.modTile_cyc t _ (fun _ => rfl))
    rw [Fab.cyc, Fab.setO_tile, ← Fab.cyc, Fab.modTile_cyc]
    exact fun _ => rfl

theorem Fab.pdSettle_cyc (f : Fab) (t : Nat) : (f.pdSettle t).cyc t = f.cyc t := by
  rw [Fab.pdSettle]
  split
  · rw [Fab.cyc, Fab.modSp_tile, Fab.cyc]
  · rfl

/-- The end of a router's cycle (R593). -/
theorem Fab.endCycle_tile (f : Fab) (t : Nat) :
    ((f.endCycle t).tile t).cyc = ((f.tile t).cyc + 1) % 2 ^ 64 ∧ ((f.endCycle t).tile t).ev = [] := by
  rw [Fab.endCycle, Fab.modTile_own]
  refine ⟨congrArg (fun n => (n + 1) % 2 ^ 64) ?_, rfl⟩
  have hidle (g : Fab) : (g.idleSettle t 1).cyc t = g.cyc t := g.modTile_cyc t _ (fun _ => rfl)
  have hstarved (g : Fab) : ((List.range 8).foldl (fun f mc =>
      if (f.ni t).starved mc then f.event t 0x2B mc else f) g).cyc t = g.cyc t :=
    Fab.foldl_keeps (Fab.cyc t) _ (fun f mc => ite_keeps (Fab.cyc t) (f.event_cyc t _ _ _) rfl) _ g
  rw [← Fab.cyc, Fab.pdSettle_cyc, Fab.idleMarks, hidle, Fab.countCycle_cyc, hstarved, Fab.event_cyc]
  exact ite_keeps (Fab.cyc t) (f.event_cyc t _ _ _) rfl

/-- Settles O7. -/
theorem switchCycle : Obligations.SwitchCycle := by
  refine ⟨fun s t links hclk hst => ?_, fun s t links hclk hst => ?_, fun s t links hclk => ?_, fun f t => ?_,
    fun f t => f.endCycle_tile t⟩
  · rw [exec_switchAllocation, execSwitchAllocation]
    refine next_onFab ?_
    simp only [hclk, hst, Bool.not_true, Bool.false_eq_true, if_false]
  · refine ⟨s.fab.endCycle t, ?_, rfl, s.fab.endCycle_tile t⟩
    rw [exec_switchAllocation, execSwitchAllocation]
    refine next_onFab ?_
    simp only [hclk, hst, Bool.not_true, Bool.false_eq_true, if_false]
  · rw [exec_switchAllocation, execSwitchAllocation]
    refine next_same ?_
    simp only [hclk, Bool.not_false, if_true]
  · exact ⟨f.schedCycle_picked t 0, f.schedCycle_picked t 1⟩

end Sys2Proof.Machine

/-! Proofs: the links of a router (R57, R58, R97, R111, R114, R115, R118). -/

namespace Sys2Proof.Machine

/-! ## A router's links -/

/-- An output after a change of its own. -/
@[simp] theorem Fab.modOut_own (f : Fab) (t p : Nat) (g : OutPort → OutPort) : (f.modOut t p g).out t p = g (f.out t p) := by
  rw [Fab.out, Fab.modOut, Fab.modTile_own]
  exact SMap.get_set_same _ _ _ _

/-- A change of an output is known by what it makes of the output that stands. -/
theorem Fab.modOut_congr (f : Fab) {t p : Nat} {g h : OutPort → OutPort} (hgh : g (f.out t p) = h (f.out t p)) :
    f.modOut t p g = f.modOut t p h := by
  rw [Fab.modOut, hgh, Fab.modOut]

/-- An input VC after a change of its own. -/
@[simp] theorem Fab.modIn_own (f : Fab) (t p vc : Nat) (g : InVC → InVC) :
    (f.modIn t p vc g).invc t p vc = g (f.invc t p vc) := by
  rw [Fab.invc, Fab.modIn, Fab.modTile_own]
  exact SMap.get_set_same _ _ _ _

theorem Fab.modTile_out (f : Fab) (t u p : Nat) (g : Tile → Tile) (h : ∀ x, (g x).rout = x.rout) :
    (f.modTile u g).out t p = f.out t p := by
  by_cases ht : t = u
  · subst ht
    rw [Fab.out, Fab.modTile_own, h, Fab.out]
  · rw [Fab.out, Fab.modTile_other _ _ _ _ ht, Fab.out]

theorem Fab.modTile_invc (f : Fab) (t u p vc : Nat) (g : Tile → Tile) (h : ∀ x, (g x).rin = x.rin) :
    (f.modTile u g).invc t p vc = f.invc t p vc := by
  by_cases ht : t = u
  · subst ht
    rw [Fab.invc, Fab.modTile_own, h, Fab.invc]
  · rw [Fab.invc, Fab.modTile_other _ _ _ _ ht, Fab.invc]

theorem Fab.event_invc (f : Fab) (u code q n t p vc : Nat) : (f.event u code q n).invc t p vc = f.invc t p vc :=
  f.modTile_invc t u p vc _ (fun _ => rfl)

theorem Fab.freeIn_invc (f : Fab) (t p vc : Nat) : (f.freeIn t p vc).invc t p vc = f.invc t p vc := by
  unfold Fab.freeIn
  split
  · exact f.modTile_invc t _ p vc _ (fun _ => rfl)
  · rfl

theorem Fab.freeIn_fam (f : Fab) (t p vc key : Nat) : (f.freeIn t p vc).fam key = f.fam key := by
  unfold Fab.freeIn
  split
  · exact f.modTile_fam _ _ key
  · rfl

/-- A raise leaves every input VC as it is. -/
theorem Fab.raise_invc (f : Fab) (key code i0 i1 i2 t p vc : Nat) :
    (f.raise key code i0 i1 i2).invc t p vc = f.invc t p vc := by
  rw [Fab.raise]
  refine ite_keeps (fun g : Fab => g.invc t p vc) rfl ?_
  rw [Fab.invc, Fab.modFam_tile, Fab.invc]

/-- What the check of a slot counts and raises leaves every input VC as it is. -/
def Fab.slotChecked (f : Fab) (t p slot : Nat) (vf : Nat × Flit) (e : Lchk) : Fab :=
  let f := (f.event t 0x02 p).event t 0x07 (vf.1 / 2)
  match e with
  | .corrected => (f.bumpT t O.LINK_CE).event t 0x0A 0
  | .uncorrectable syn =>
    if vf.2.first then f.raiseT t 0 (p + vf.1 * 2 ^ 3 + slot * 2 ^ 7) (syn % 2 ^ 11) 0 else f
  | .clean => f

theorem Fab.slotChecked_invc (f : Fab) (t p slot vc : Nat) (vf : Nat × Flit) (e : Lchk) :
    (f.slotChecked t p slot vf e).invc t p vc = f.invc t p vc := by
  have hevents : ((f.event t 0x02 p).event t 0x07 (vf.1 / 2)).invc t p vc = f.invc t p vc := by
    rw [Fab.event_invc, Fab.event_invc]
  unfold Fab.slotChecked
  cases e with
  | clean => exact hevents
  | corrected =>
    rw [Fab.event_invc, Fab.invc, Fab.bumpT, Fab.bump, Fab.setO_tile]
    exact hevents
  | uncorrectable syn =>
    refine ite_keeps (fun g : Fab => g.invc t p vc) ?_ hevents
    rw [Fab.raiseT, Fab.raise_invc]
    exact hevents

/-- Whether a link check found more than it can correct. -/
def Lchk.bad : Lchk → Bool
  | .uncorrectable _ => true
  | _ => false

/-- A flit that is taken joins its input VC, poisoned when its check failed (R58). -/
theorem Fab.takeSlot_taken (f : Fab) (t p slot vc : Nat) (x : Flit) (e : Lchk)
    (hdrop : (f.invc t p vc).drop = false ∨ x.first = true) (hhead : Lchk.bad e = false ∨ x.first = false) :
    ((f.takeSlot t p slot (vc, x) e).invc t p vc).fifo =
      (f.invc t p vc).fifo ++ [if Lchk.bad e then { x with psn := true } else x] := by
  have hkept : ¬ (((f.invc t p vc).drop && !x.first) || (Lchk.bad e && x.first)) = true := by
    grind
  have htaken : f.takeSlot t p slot (vc, x) e = (f.slotChecked t p slot (vc, x) e).modIn t p vc (fun v => { v with
      drop := false, fifo := v.fifo ++ [if Lchk.bad e then { x with psn := true } else x] }) :=
    if_neg hkept
  rw [htaken, Fab.modIn_own, Fab.slotChecked_invc]

/-- A head whose check failed is discarded (R58). -/
theorem Fab.takeSlot_head_uncorrectable (f : Fab) (t p slot vc syn : Nat) {x : Flit} (hx : x.first = true) :
    ((f.takeSlot t p slot (vc, x) (.uncorrectable syn)).invc t p vc).fifo = (f.invc t p vc).fifo := by
  have hdropped : f.takeSlot t p slot (vc, x) (.uncorrectable syn) =
      ((f.slotChecked t p slot (vc, x) (.uncorrectable syn)).modIn t p vc (fun v =>
        { v with drop := !x.last })).freeIn t p vc :=
    if_pos (by rw [hx]; simp)
  rw [hdropped, Fab.freeIn_invc, Fab.modIn_own, Fab.slotChecked_invc]

/-- A continuation flit whose check failed raises nothing (R58). -/
theorem Fab.takeSlot_fam (f : Fab) (t p slot vc syn key : Nat) {x : Flit} (hx : x.first = false) :
    (f.takeSlot t p slot (vc, x) (.uncorrectable syn)).fam key = f.fam key := by
  have hchecked : (f.slotChecked t p slot (vc, x) (.uncorrectable syn)).fam key = f.fam key := by
    unfold Fab.slotChecked
    simp only [hx, Bool.false_eq_true, if_false]
    rw [Fab.event, Fab.modTile_fam, Fab.event, Fab.modTile_fam]
  refine ite_keeps (fun g : Fab => g.fam key) ?_ ?_
  · rw [Fab.freeIn_fam, Fab.modIn, Fab.modTile_fam]
    exact hchecked
  · rw [Fab.modIn, Fab.modTile_fam]
    exact hchecked

/-- The flit that leaves the landing buffer first is the oldest whose VC has room (R97). -/
theorem landingPick_head (n : Nat) (room : Nat → Nat) (post : List (Nat × Flit)) (vc : Nat) (x : Flit)
    (hroom : 0 < room vc) (pre : List (Nat × Flit)) (shut : List Nat) (i : Nat) (hpre : ∀ y ∈ pre, room y.1 = 0)
    (hshut : ∀ v ∈ shut, room v = 0) :
    (landingPick (n + 1) room shut i (pre ++ (vc, x) :: post)).1.head? = some (i + pre.length, vc, x) := by
  induction pre generalizing shut i with
  | nil =>
    have hopen : ¬ (shut.contains vc || room vc == 0) = true := by
      rw [Bool.or_eq_true, List.contains_iff_mem, beq_iff_eq]
      rintro (h | h)
      · exact absurd (hshut vc h) (Nat.ne_of_gt hroom)
      · exact absurd h (Nat.ne_of_gt hroom)
    rw [List.nil_append, landingPick, if_neg hopen]
    rfl
  | cons y pre ih =>
    obtain ⟨hy, hrest⟩ := List.forall_mem_cons.mp hpre
    obtain ⟨v, z⟩ := y
    rw [List.cons_append, landingPick, if_pos (by rw [hy]; simp)]
    refine (ih (v :: shut) (i + 1) hrest (List.forall_mem_cons.mpr ⟨hy, hshut⟩)).trans ?_
    rw [List.length_cons, Nat.add_assoc, Nat.add_comm 1]

/-- One flit in the landing buffer, with room in its VC. -/
theorem landingPick_one (room : Nat → Nat) (vc : Nat) (x : Flit) (h : 0 < room vc) :
    landingPick 2 room [] 0 [(vc, x)] = ([(0, vc, x)], []) := by
  rw [landingPick, if_neg (by simpa using Nat.ne_of_gt h), landingPick]

/-- Settles O6. -/
theorem routerArrival : Obligations.RouterArrival := by
  refine ⟨⟨?_, ?_, ?_, ?_, ?_, ?_⟩, ?_, ?_, ?_, ?_, ?_⟩
  · intro s t p vc x rest ea eb hseam hwire hst hroom
    refine next_onFab ?_
    simp only [hwire, hst, hseam, bne_self_eq_false, Bool.false_eq_true, if_false]
    rw [if_pos (by simpa [Fab.phitFits, Nat.lt_succ_iff] using hroom)]
    rfl
  · intro s t p va vb x y rest ea eb hseam hwire hst ha hb
    refine next_onFab ?_
    simp only [hwire, hst, hseam, bne_self_eq_false, Bool.false_eq_true, if_false]
    rw [if_pos]
    · rfl
    · by_cases hab : va = vb
      · subst hab
        rw [if_pos rfl] at ha
        simp only [Fab.phitFits, List.all_cons, List.filter_cons, beq_self_eq_true, if_true, List.filter_nil]
        simp
        omega
      · rw [if_neg hab] at ha
        simp [Fab.phitFits, hab, Ne.symm hab]
        omega
  · intro s t p ss c vc x ea eb hseam hwire hst hroom
    refine ⟨_, rfl, next_onFab ?_⟩
    simp only [hwire, hst, hseam, bne_self_eq_false, Bool.false_eq_true, if_false]
    have hpick := landingPick_one (fun vc => 4 - (s.fab.invc t p vc).fifo.length) vc x (Nat.sub_pos_of_lt hroom)
    simp only [Fab.leaveLanding, hwire, List.flatten_cons, List.flatten_nil, List.append_nil, hpick]
    by_cases hold : 0 < (s.fab.xs ss c).stale
    · simp [hold, Fab.takePhit]
    · simp [hold, Fab.takePhit]
  · intro room pre post vc x hpre hroom
    have hpick := landingPick_head 1 room post vc x hroom pre [] 0 hpre (by simp)
    rwa [Nat.zero_add] at hpick
  · intro f t p slot vc x hdrop
    refine ⟨f.takeSlot_taken t p slot vc x .clean hdrop (.inl rfl),
      f.takeSlot_taken t p slot vc x .corrected hdrop (.inl rfl), fun syn => ?_⟩
    by_cases hx : x.first = true
    · rw [f.takeSlot_head_uncorrectable t p slot vc syn hx, if_pos hx, List.append_nil]
    · have hx : x.first = false := by simpa using hx
      rw [f.takeSlot_taken t p slot vc x (.uncorrectable syn) hdrop (.inr hx), hx]
      rfl
  · exact fun f t p slot vc syn key x hx => f.takeSlot_fam t p slot vc syn key hx
  · intro s t snd vc rest hcret howed
    refine next_onFab ?_
    simp only [hcret]
    refine Fab.modOut_congr _ ?_
    rw [Fab.modTile_out]
    · rw [OutPort.give, if_neg (by rw [howed]; decide)]
      by_cases hs : snd < 8 ∧ isSeam t snd = true
      · rw [if_pos hs, if_pos (by simpa using hs)]
      · rw [if_neg hs, if_neg (by simpa using hs)]
    · exact fun _ => rfl
  · intro s t p vc hroute hfifo hlost
    refine next_onFab (if_pos ?_)
    simpa [hroute, hfifo] using hlost
  · intro s t p hawake hrecv hclk hst hdead
    refine next_onFab ?_
    rw [if_pos (by rw [hawake, hrecv, hclk]; rfl), Fab.awakeRise]
    dsimp only
    rw [if_neg (by rw [hdead]; simp)]
    refine Fab.modOut_congr _ ?_
    rw [hst, hdead]
    by_cases howed : (s.fab.out t p).owed = true
    · simp [howed, OutPort.load]
    · simp [howed]
  · intro s t p k hp hknock hdead hawake hdue
    refine next_onFab ?_
    simp only [hknock]
    rw [if_pos ⟨hp, by rw [hdead]; decide, by rw [hawake]; decide, hdue⟩]
  · intro s t p hknocked hasleep
    refine next_onFab (if_pos ?_)
    simpa [hknocked] using hasleep

end Sys2Proof.Machine

/-! Proofs: the edge attachment port (R138 to R184). -/

namespace Sys2Proof.Machine

/-! ## The edge attachment port -/

theorem parityBit_lt (v k : Nat) : parityBit v k < 2 := Nat.mod_lt _ (by decide)

theorem parity640_lt (v : Nat) : parity640 v < 1024 := by
  have hbit (k : Nat) := parityBit_lt v k
  have h0 := hbit 0; have h1 := hbit 1; have h2 := hbit 2; have h3 := hbit 3; have h4 := hbit 4
  have h5 := hbit 5; have h6 := hbit 6; have h7 := hbit 7; have h8 := hbit 8; have h9 := hbit 9
  simp only [parity640, List.range, List.range.loop, List.foldl_cons, List.foldl_nil]
  omega

/-- A word has good parity with the parity that it has (R138). -/
theorem parityFails_parity640 (v : Nat) : parityFails v (parity640 v) = 0 := by
  rw [parityFails, Nat.mod_eq_of_lt (parity640_lt v), Nat.xor_self]

/-- A change within an edge NI leaves the state of its tile. -/
theorem Fab.modNi_st (f : Fab) (t u : Nat) (g : Ni → Ni) : ((f.modNi t g).tile u).st = (f.tile u).st := by
  by_cases h : u = t
  · subst h
    rw [Fab.modNi, Fab.modTile_own]
  · rw [Fab.modNi, Fab.modTile_other _ _ _ _ h]

theorem Fab.modNi_tileOut (f : Fab) (t u : Nat) (g : Ni → Ni) : (f.modNi t g).tileOut u = f.tileOut u := by
  rw [Fab.tileOut, Fab.modNi_st, Fab.tileOut]

theorem Fab.modNi_asleep (f : Fab) (t : Nat) (g : Ni → Ni) : ((f.modNi t g).tile t).asleep = (f.tile t).asleep := by
  rw [Fab.modNi, Fab.modTile_own]
  rfl

theorem Link.ofCode_eq_down {code : Nat} : Link.ofCode (code % 4) = .down ↔ ¬ (code % 4 = 1 ∨ code % 4 = 2) := by
  have hcode : code % 4 = 0 ∨ code % 4 = 1 ∨ code % 4 = 2 ∨ code % 4 = 3 := by omega
  rcases hcode with h | h | h | h <;> rw [h] <;> decide

/-- Settles O11. -/
theorem edgeInterface : Obligations.EdgeInterface := by
  refine ⟨⟨?_, ?_, ?_⟩, ?_, ?_, ?_, ?_, ?_, ?_⟩
  · intro s t mc data psn hmc hfence hepoch hawake hrx hcred
    constructor
    · refine next_onFab ?_
      simp only [hfence, hepoch, Nat.mod_eq_of_lt hmc, Fab.openRx, hrx, Fab.takeBeat, parityFails_parity640,
        decide_eq_true hcred, hawake, Fab.beatParity, bne_self_eq_false, Bool.not_true, Bool.and_false, Bool.or_self,
        Bool.or_false, Bool.false_eq_true, if_false, if_true]
      rfl
    · refine next_onFab ?_
      simp only [hfence, hepoch, Nat.mod_eq_of_lt hmc, Fab.openRx, hrx, Fab.takeBeat, parityFails_parity640,
        decide_eq_true hcred, hawake, Fab.beatParity, bne_self_eq_false, Bool.not_true, Bool.and_false, Bool.or_self,
        Bool.or_false, Bool.false_eq_true, if_false, if_true]
      rfl
  · intro s t mc par data last psn hmc hfence hepoch hawake hrx hcred hpar
    refine next_onFab ?_
    have hfails : (parityFails data.toNat par != 0) = true := by simpa using hpar
    simp only [hfence, hepoch, Nat.mod_eq_of_lt hmc, Fab.openRx, hrx, Fab.takeBeat, hfails, if_neg hpar,
      decide_eq_true hcred, hawake, Fab.beatParity]
    cases psn <;> rfl
  · intro s t mc par data first last psn hfence hout
    refine next_onFab ?_
    simp [hfence, hout]
  · intro s t mask hepoch
    refine next_onFab ?_
    simp only [hepoch, Bool.not_true, Bool.false_eq_true, if_false]
    rfl
  · intro s t hepoch hready hlink
    refine ⟨_, congrArg Host.Outcome.next (congrArg (State.mk s.pending) (if_neg ?_)), rfl, ?_⟩
    · simpa [hepoch, hready] using hlink
    refine ⟨?_, ?_, ?_, ?_, fun mc hmc => ?_, ?_, fun u hu => ?_⟩
    · rw [Fab.modNi_own]
    · rw [Fab.modNi_own]
    · rw [Fab.modNi_own]
    · rw [Fab.modNi_own]
    · rw [Fab.modNi_own]
      simp [List.getD_eq_getElem?_getD, hmc]
    · rw [Fab.modNi_own]
    · rw [Fab.modNi, Fab.modTile_other _ _ _ _ hu]
  · intro s t code hlink hout
    refine next_onFab ?_
    rw [if_neg hlink]
    dsimp only
    rw [if_neg (by rw [Fab.modNi_tileOut, hout]; decide)]
    by_cases hup : code % 4 = 1 ∨ code % 4 = 2
    · rw [if_pos hup, if_neg (fun h => Link.ofCode_eq_down.mp h hup)]
    · rw [if_neg hup, if_pos (Link.ofCode_eq_down.mpr hup)]
  · intro s who t v
    refine next_onFab ?_
    rw [Fab.done, Fab.wEdgeFence]
    split <;> rfl
  · intro s t hasleep
    refine next_onFab (if_pos ?_)
    rw [Fab.modNi_asleep, hasleep, Bool.true_or]
  · intro s t p hctl hop
    refine next_onFab ?_
    simp only [hctl, hop, if_true]

end Sys2Proof.Machine

/-! Proofs: the checks of an ingress packet (R91, R183, R200, R205). -/

namespace Sys2Proof.Machine

/-! ## The checks of an ingress packet -/

/-- A packet whose beats are clean in staging stays as it is. -/
theorem Fab.stagingError_clean (f : Fab) (t : Nat) (x : Staged) : f.stagingError t x .clean = (f, some x) := rfl

/-- Settles O12. -/
theorem ingressChecks : Obligations.IngressChecks := by
  refine ⟨fun s t ue x hnext hst => ?_, fun s t bad x rest sx hfetch hsx => ?_⟩
  · intro f1
    have hrun : ((s.fab.tile t).st != .t0) = false := by rw [hst]; rfl
    refine ⟨fun code hcode => next_fab ?_, fun r sx hcode hsx hrow => ⟨_, rfl, next_fab ?_⟩⟩
    · simp only [f1] at hcode
      simp only [hnext, hrun, Bool.false_eq_true, if_false, Fab.stagingError_clean, hcode, f1]
    · simp only [f1] at hcode hsx
      simp only [hnext, hrun, Bool.false_eq_true, if_false, Fab.stagingError_clean, hcode, ← hsx, hrow]
      cases hroute : r.route with
      | famOrPbr =>
        by_cases hpbr : hdr sx.2.pkt 17 1 = 1
        · simp [hpbr]
        · simp [hpbr]
      | _ => simp
  · obtain ⟨hres, hpkt, hmc, hlook⟩ : sx.2.res = x.res ∧ sx.2.pkt = x.pkt ∧ sx.2.mc = x.mc ∧ sx.2.look = x.look := by
      subst hsx
      exact ⟨rfl, rfl, rfl, rfl⟩
    refine ⟨fun hgood => next_fab ?_, fun info hbad => next_fab ?_⟩
    · simp only [hfetch, ← hsx, hres, hmc, hlook, hgood, Bool.and_eq_true, decide_eq_true_eq]
    · simp only [hfetch, ← hsx, hres, hmc, hpkt, hbad]

end Sys2Proof.Machine

/-! Proofs: violation and hold queues (R151, R212, R213, R234). -/

namespace Sys2Proof.Machine

/-! ## Violation and hold queues -/

/-- Settles O13. -/
theorem edgeQueues : Obligations.EdgeQueues := by
  refine ⟨?_, ?_, ?_, ?_, ?_, ?_⟩
  · intro s t x rest hwait hroom parts
    refine next_onFab ?_
    simp only [Bool.false_eq_true, if_false, Fab.violEnterNi, hwait, Nat.not_le.mpr hroom]
    cases x.inStg <;> rfl
  · intro s d x rest hwait hroom
    refine next_onFab ?_
    simp only [if_true, Fab.violEnterSp, hwait, Nat.not_le.mpr hroom, if_false]
  · intro s t v hdue
    refine next_onFab ?_
    simp only [Bool.false_eq_true, if_false, Fab.violReleaseNi, hdue]
  · intro s d v hdue
    refine next_onFab ?_
    simp only [if_true, Fab.violReleaseSp, hdue]
  · intro s t x rest hwait hroom
    refine next_onFab ?_
    simp only [Bool.false_eq_true, if_false, Fab.holdEnterNi, hwait, hroom, if_true, Fab.enterHold, Fab.leave]
  · intro s d k rest hwait hroom
    refine next_onFab ?_
    simp only [if_true, Fab.holdEnterSp, hwait, hroom]

end Sys2Proof.Machine

/-! Proofs: selections at the edge (R69, R82, R88, R248, R299, R301). -/

namespace Sys2Proof.Machine

/-! ## Selections at the edge -/

/-- A scheduler that has selected in this cycle selects nothing more (R301). -/
theorem Fab.selectPkt_picked {f : Fab} {w : Who} {dir : Nat} (ok : Nat → Nat → QPkt → Bool)
    (h : (f.sched w dir).picked = true) : (f.selectPkt w dir ok).2 = none := by
  have hpicked : ((f.settleSched w dir ok).sched w dir).picked = true :=
    (f.settleSched_picked (w := w) (dir := dir) w dir ok).trans h
  unfold Fab.selectPkt
  simp only [hpicked, if_true]

/-- What a queue other than SC4 offers: it holds no packet for a FLUSH, and no FLUSH is on its way to the packet's tile
(R88, R248). -/
theorem Fab.fenceOk_spec {f : Fab} {t sc mc : Nat} {e : QPkt} (hsc : sc ≠ 4) (h : f.fenceOk t sc mc e = true) :
    (f.ni t).holdAt sc = none ∧
      (Sys2Proof.isGuarded e.pkt = true → e.flushed = false → ∀ h ∈ (f.ni t).flush, h.dest.1 ≠ destTile e.pkt) := by
  rw [Fab.fenceOk] at h
  rw [if_neg hsc, Bool.and_eq_true, Option.isNone_iff_eq_none] at h
  refine ⟨h.1, fun hg hf x hx hdest => ?_⟩
  have hany : (f.ni t).flush.any (fun h => h.dest.1 == destTile e.pkt) = true :=
    List.any_eq_true.mpr ⟨x, hx, by rw [hdest]; exact beq_self_eq_true _⟩
  rw [hg, hf, hany] at h
  exact absurd h.2 (by decide)

/-- Settles O14. -/
theorem edgeSelections : Obligations.EdgeSelections := by
  refine ⟨?_, fun f t sc mc e hsc h => Fab.fenceOk_spec hsc h, ?_, ?_, ?_,
    fun f w dir ok h => Fab.selectPkt_picked ok h, ?_, ?_⟩
  · intro s t f1 f2 e hf1 hst hsupply hsel
    subst hf1
    refine ⟨_, rfl, next_fab ?_⟩
    have hgo : ((((s.fab.beginFlush t).tile t).st != .t0) ||
        decide (2 ≤ supply ((s.fab.beginFlush t).ni t).prog ((s.fab.beginFlush t).out t sndNi))) = false := by
      simpa [hst] using hsupply
    simp only [Bool.false_eq_true, if_false, Fab.injectNi, hgo, hsel]
  · intro s d f2 e hst hsupply hsel
    refine next_fab ?_
    have hgo : (((s.fab.tile (spTile d)).st != .t0) ||
        decide (2 ≤ supply (s.fab.tile (spTile d)).uprog (s.fab.out (spTile d) sndUnit))) = false := by
      simpa [hst] using hsupply
    simp only [if_true, Fab.injectSp, hgo, hsel, Bool.false_eq_true, if_false]
  · intro s t f2 e hst hrest hsel
    refine next_fab ?_
    have hsel : s.fab.selectPkt (.ni t) 1 (fun _ mc e => s.fab.egressOk t mc e) = (f2, some e) := hsel
    simp [Fab.egressNi, hst, hrest, hsel]
  · intro s d k f2 e m hst hup hsel hmsg
    refine next_fab ?_
    have hsel : s.fab.selectPkt (.sp d) 1 (fun _ _ e => s.fab.egressOkSp d e) = (f2, some e) := hsel
    simp [Fab.egressSp, hst, hup, hsel, hmsg]
  · intro s t vc p rest harr f1
    refine ⟨fun hlen h e => next_fab ?_, fun hlen => next_fab ?_⟩
    · simp only [harr, ne_eq, hlen, not_false_eq_true, if_true]
      rfl
    · simp only [harr, ne_eq, hlen, not_true_eq_false, if_false]
      exact ite_self _
  · intro s t p rest hrsp hawaits htgt hflush
    have hst : (s.fab.tag t (tagOf p)).st = .out := by
      simp only [Tag.awaits, Bool.and_eq_true, beq_iff_eq] at hawaits
      exact hawaits.1
    have htag : (s.fab.modNi t (fun n => { n with rspIn := rest })).tag t (tagOf p) = s.fab.tag t (tagOf p) := by
      rw [Fab.tag, Fab.modNi_own, Fab.tag]
    refine next_onFab ?_
    simp only [hrsp, htag, hst, hawaits, htgt, hflush, reduceCtorEq, ne_eq, not_true_eq_false, Bool.not_true,
      Bool.false_eq_true, if_false]

end Sys2Proof.Machine

/-! Proofs: transaction tags (R156, R157, R163, R164, R172, R187). -/

namespace Sys2Proof.Machine

/-! ## Transaction tags -/

@[simp] theorem Fab.setTag_own (f : Fab) (t k : Nat) (x : Tag) : (f.setTag t k x).tag t k = x := by
  rw [Fab.tag, Fab.setTag, Fab.modNi_own]
  exact SMap.get_set_same _ _ _ _

theorem Fab.setTag_other (f : Fab) (t : Nat) {j k : Nat} (h : j ≠ k) (x : Tag) :
    (f.setTag t k x).tag t j = f.tag t j := by
  rw [Fab.tag, Fab.setTag, Fab.modNi_own]
  exact SMap.get_set_other _ _ _ _ _ h

theorem Fab.modNi_tag (f : Fab) (t k : Nat) (g : Ni → Ni) (h : (g (f.ni t)).tags = (f.ni t).tags) :
    (f.modNi t g).tag t k = f.tag t k := by
  rw [Fab.tag, Fab.modNi_own, h, Fab.tag]

theorem Fab.modNi_tile_other (f : Fab) (t : Nat) {u : Nat} (g : Ni → Ni) (h : u ≠ t) :
    (f.modNi t g).tile u = f.tile u := by
  rw [Fab.modNi, Fab.modTile_other _ _ _ _ h]

/-- A tag granted to the edge NI (R156): it stands granted, it is shown, and nothing else changes. -/
theorem Fab.grantTag_spec (f : Fab) (t k : Nat) (g : Ni → Ni)
    (hg : ∀ n, (g n).tags = n.tags ∧ (g n).tgnt = some k) :
    ((f.setTag t k { Tag.reset with st := .granted }).modNi t g).tag t k = { Tag.reset with st := .granted } ∧
    (((f.setTag t k { Tag.reset with st := .granted }).modNi t g).ni t).tgnt = some k ∧
    (∀ j, j ≠ k → ((f.setTag t k { Tag.reset with st := .granted }).modNi t g).tag t j = f.tag t j) ∧
    ∀ u, u ≠ t → ((f.setTag t k { Tag.reset with st := .granted }).modNi t g).tile u = f.tile u := by
  refine ⟨?_, ?_, fun j hj => ?_, fun u hu => ?_⟩
  · rw [Fab.modNi_tag _ _ _ _ (hg _).1, Fab.setTag_own]
  · rw [Fab.modNi_own]
    exact (hg _).2
  · rw [Fab.modNi_tag _ _ _ _ (hg _).1, Fab.setTag_other _ _ hj]
  · rw [Fab.modNi_tile_other _ _ _ hu, Fab.setTag, Fab.modNi_tile_other _ _ _ hu]

/-- Settles O15. -/
theorem transactionTags : Obligations.TransactionTags := by
  refine ⟨?_, ?_, ?_, ?_, ?_, ?_, ?_⟩
  · intro s t k pos hepoch hgrant hst hpos
    have hgo : (!(s.fab.ni t).epoch || (s.fab.ni t).noGrant.isSome || (s.fab.tile t).st != .t0) = false := by
      simp [hepoch, hgrant, hst]
    obtain ⟨hown, hshown, htags, htiles⟩ := s.fab.grantTag_spec t (openingTag pos)
      (fun n => { n with grantPos := pos + 1, tgnt := some (openingTag pos) }) (fun _ => ⟨rfl, rfl⟩)
    refine ⟨_, next_fab ?_, rfl, ?_, hshown, ?_, htags, htiles⟩
    · simp only [hgo, Bool.false_eq_true, if_false, hpos]
    · rw [hown]
    · rw [Fab.modNi_own]
  · intro s t k hepoch hgrant hst hpos hk hfree
    have hgo : (!(s.fab.ni t).epoch || (s.fab.ni t).noGrant.isSome || (s.fab.tile t).st != .t0) = false := by
      simp [hepoch, hgrant, hst]
    have hsame (j : Nat) : (s.fab.modNi t (fun n => { n with grantPos := 2032 })).tag t j = s.fab.tag t j :=
      Fab.modNi_tag _ _ _ _ rfl
    obtain ⟨hown, hshown, htags, htiles⟩ := (s.fab.modNi t (fun n => { n with grantPos := 2032 })).grantTag_spec t k
      (fun n => { n with tgnt := some k }) (fun _ => ⟨rfl, rfl⟩)
    refine ⟨_, next_fab ?_, rfl, ?_, hshown, fun j hj => ?_, fun u hu => ?_⟩
    · simp only [hgo, Bool.false_eq_true, if_false, hpos, hsame, hfree, hk, and_self, if_true]
    · rw [hown]
    · rw [htags j hj, hsame]
    · rw [htiles u hu, Fab.modNi_tile_other _ _ _ hu]
  · intro s t due hgrant hdue
    refine next_onFab ?_
    simp only [hgrant, hdue, if_true]
  · intro s t k hst hexp
    refine ⟨next_onFab ?_, fun hdue => next_onFab ?_, fun hearly => next_same ?_⟩
    · simp [Fab.visitTag, hst, hexp]
    · simp [Fab.visitTag, hst, hexp, hdue]
    · simp [Fab.visitTag, hst, hexp, Nat.not_le.mpr hearly]
  · intro s d k hst hawaits
    refine ⟨next_onFab ?_, fun hdue => next_onFab ?_⟩
    · simp [Fab.visitSpTag, hst, hawaits]
    · simp [Fab.visitSpTag, hst, hawaits, hdue]
  · intro s t k hquar hst hdue
    refine next_onFab ?_
    simp [hquar, hst, hdue, Fab.freeTag]
  · intro s t hepoch hjudged m
    refine next_onFab ?_
    simp [hepoch, hjudged, m]

end Sys2Proof.Machine

/-! Proofs: writes of the binding tables (R190, R217, R222, R225, R233). -/

namespace Sys2Proof.Machine

/-! ## Writes of the binding tables -/

theorem Fab.done_mk (g : Fab) (code who : Nat) : Fab.done (g, code) who = g.answer who code := rfl

theorem Fab.allUp {f : Fab} (h : ∀ d, d < 4 → f.bcastUp d = true) :
    (List.range 4).all (fun d => f.bcastUp d) = true :=
  List.all_eq_true.mpr (fun d hd => h d (List.mem_range.mp hd))

/-- Settles O16. -/
theorem tableWrites : Obligations.TableWrites := by
  refine ⟨?_, ?_, ?_, ?_, ?_, ?_⟩
  · intro s who v hlock hv
    refine next_onFab ?_
    rw [Fab.wGranule, if_neg (by simpa [hlock] using hv)]
    rfl
  · intro s who v hlock
    refine next_onFab ?_
    rw [Fab.wGranule, if_pos (by rw [hlock, Bool.true_or])]
    rfl
  · intro s who table elem v dbg htable helem hup
    have hall := Fab.allUp hup
    refine ⟨fun hlock hseal hcst hroom hentry => next_onFab ?_, fun hlock => ⟨next_onFab ?_, next_onFab ?_⟩⟩
    · have hbar : ¬ (s.fab.bind.cst = .armed ∨ 4096 < s.fab.bind.stage.length + (recordsOf table elem v).length ∨
          s.fab.locked table elem = true ∨ (table = tblFam ∧ s.fab.badEntry v = true)) := by
        rintro (h | h | h | ⟨h1, h2⟩)
        · exact hcst h
        · omega
        · rw [hlock] at h; cases h
        · rw [hentry h1] at h2; cases h2
      rw [if_pos ⟨htable, helem⟩, Fab.wTable]
      simp only [hall, hlock, hseal, Bool.not_true, Bool.and_false, Bool.false_and, Bool.false_eq_true, if_false]
      rw [if_neg (by simpa only [hlock, Bool.false_eq_true] using hbar)]
      rfl
    · rw [if_pos ⟨htable, helem⟩, Fab.wTable]
      simp only [hall, hlock, Bool.not_true, Bool.false_and, Bool.false_eq_true, if_false, true_or, or_true, if_true]
      rw [ite_self]
      rfl
    · rw [if_pos ⟨htable, helem⟩, Fab.wTable]
      simp only [hall, hlock, Bool.not_true, Bool.and_self, Bool.false_eq_true, if_false, if_true]
      rfl
  · intro s who v hseal hcst hv
    refine next_onFab ?_
    rw [Fab.wStageClear, if_neg (by simpa [hseal] using hcst), if_neg hv]
    rfl
  · intro s who v hcst
    refine next_onFab ?_
    rw [Fab.wStageClear, if_pos (by rw [hcst]; simp)]
    rfl
  · intro s who num v sc hsc hnum hv
    refine next_onFab ?_
    rw [if_pos ⟨hsc, hnum⟩, Fab.wViolClear, if_neg hv]
    rfl

end Sys2Proof.Machine

/-! Proofs: commits (R227 to R231, R430). -/

namespace Sys2Proof.Machine

/-! ## Commits -/

/-- A change of an edge NI is known by what it makes of the NI that stands. -/
theorem Fab.modNi_congr (f : Fab) {t : Nat} {g h : Ni → Ni} (hgh : g (f.ni t) = h (f.ni t)) :
    f.modNi t g = f.modNi t h := by
  have htile : ({ f.tile t with ni := g (f.ni t) } : Tile) = { f.tile t with ni := h (f.ni t) } := by rw [hgh]
  exact congrArg (f.setTile t) htile

/-- A packet at a service port whose length agrees and whose HCHK is clean goes on as it is (R69). -/
theorem Fab.spArrives_clean {f : Fab} {d : Nat} {p : Packet} (h : p.length = lenOf p) :
    f.spArrives d p .clean = (f, true) := by
  simp [Fab.spArrives, h]

/-- One whose header is uncorrectable is recorded and discarded (R69). -/
theorem Fab.spArrives_uncorrectable {f : Fab} {d syn : Nat} {p : Packet} (h : p.length = lenOf p) :
    f.spArrives d p (.uncorrectable syn) =
      ((f.raise (famKey .sp d) 4 (header p % 2 ^ 64) (header p / 2 ^ 64) (syn % 256)).hopRecord (spTile d) 3 7 0 false 0 0
        p, false) := by
  simp [Fab.spArrives, h]

/-- Settles O17. -/
theorem commits : Obligations.Commits := by
  refine ⟨?_, ?_, ?_, ?_, ?_, ?_, ?_, ?_⟩
  · intro s who tm
    refine ⟨fun hseal hstage hcst hdst hlo hhi => next_onFab (if_neg ?_), fun hbar => next_onFab (if_pos ?_)⟩
    · simp only [Fab.commitRefused, hseal, Bool.false_or, Bool.or_eq_true, List.isEmpty_iff, beq_iff_eq,
        decide_eq_true_eq]
      rintro ((((h | h) | h) | h) | h)
      · exact hstage h
      · exact hcst h
      · exact hdst h
      · omega
      · omega
    · simp only [Fab.commitRefused, Bool.or_eq_true, List.isEmpty_iff, beq_iff_eq, decide_eq_true_eq]
      rcases hbar with h | h | h | h | h | h <;> simp [h]
  · intro s t p hctl
    refine next_onFab ?_
    simp only [hctl]
  · intro s d f1 p hdone hlen hcst hseq
    refine next_onFab ?_
    simp only [hdone, Fab.spArrives_clean hlen, Fab.ackTaken]
    rw [if_pos ⟨hcst, hseq⟩, Fab.ackJudge, Fab.modCopy_bind, hcst, beq_self_eq_true, Bool.true_and]
    rfl
  · intro s d syn f1 p hdone hlen
    refine next_onFab ?_
    simp only [hdone, Fab.spArrives_uncorrectable hlen]
  · intro s hcst hjudged hdue
    refine next_onFab ?_
    rw [if_neg (by simp [hcst, hjudged]; omega)]
    rfl
  · intro s u e bad hcst hjudged
    have hrun : ¬ (s.fab.bind.cst ≠ .armed ∨ s.fab.bind.judged = false) := by simp [hcst, hjudged]
    refine ⟨_, _, _, _, rfl, rfl, rfl, rfl, fun hnot => next_onFab ?_, fun hall => next_onFab ?_⟩
    · rw [if_neg hrun]
      simp only [Bool.or_eq_true, decide_eq_true_eq]
      exact if_neg (by rw [hnot]; decide)
    · rw [if_neg hrun]
      simp only [Bool.or_eq_true, decide_eq_true_eq]
      exact if_pos hall
  · intro f d tm
    refine ⟨fun ht hdue => ?_, fun hearly hlive => ?_⟩
    · rw [Fab.takeCopy, if_pos (by simp [ht, hdue])]
    · rw [Fab.takeCopy, if_neg (by simp [hearly, hlive])]
  · intro f t tm bad
    refine ⟨fun hearly => ?_, fun hst hdue hold => ?_⟩
    · rw [Fab.takeNi, if_pos (by simp [hearly])]
    · rw [Fab.takeNi, if_neg]
      · exact congrArg (fun g => Fab.relook g t tm bad) (Fab.modNi_congr _ (if_pos hold))
      · simp [Fab.niTook, Fab.niRuns, hst]
        omega

end Sys2Proof.Machine

/-! Proofs: drains (R238 to R241). -/

namespace Sys2Proof.Machine

/-! ## Drains -/

/-- Settles O18. -/
theorem drains : Obligations.Drains := by
  refine ⟨?_, ?_, ?_, ?_, ?_, ?_⟩
  · intro s who d hdst hcst hd
    refine next_onFab ?_
    rw [Nat.mod_eq_of_lt hd, Fab.wDrain, if_neg (not_or.mpr ⟨hdst, hcst⟩)]
    simp only [Fab.done_mk, Fab.sendMark]
    rfl
  · intro s who d hbar
    refine next_onFab ?_
    rw [Fab.wDrain, if_pos hbar]
    rfl
  · intro s t p hctl hnew
    refine next_onFab ?_
    have hdrain : ((s.fab.takeCtl t opcDrainMark).ni t).drain = (s.fab.ni t).drain := by
      rw [Fab.takeCtl, Fab.modNi_own]
    have hany : ((s.fab.takeCtl t opcDrainMark).ni t).drain.any (fun m => m.seq == hdr p 136 8) = false := by
      rw [hdrain]
      cases hm : (s.fab.ni t).drain with
      | none => rfl
      | some m => simpa using hnew m hm
    simp only [hctl, Fab.takeMark, hany, Bool.false_eq_true, if_false]
    split
    case isTrue hnone => rw [hnone]
    case isFalse => rfl
  · intro s t m hmark hout
    refine next_onFab ?_
    simp only [Bool.false_eq_true, if_false, hmark, hout, if_true]
    rfl
  · intro s d m hmark hout
    refine next_onFab ?_
    simp only [if_true, hmark, hout]
  · intro s d f1 p hdone hlen hseq
    refine next_fab ?_
    simp only [hdone, Fab.spArrives_clean hlen, hseq, if_true]

end Sys2Proof.Machine

/-! Proofs: the streams of a service port (R257, R259, R261, R263). -/

namespace Sys2Proof.Machine

/-! ## The streams of a service port -/

/-- What stands at the front of the down buffer, ready to be judged (R260, R261). -/
structure AtFront (f : Fab) (d : Nat) (hw : SpWord) (data more : List SpWord) (whole : Bool) : Prop where
  front : spFront (f.spOf d).dn = some (hw, data, more, whole)
  ready : (f.spOf d).ready = true
  open_ : (f.spOf d).hold = false
  judged : (whole || headRefused (f.spOf d).rids hw) = true

/-- The message at the front leaves the down buffer and returns its credits (R257). -/
def Fab.spLeaves (f : Fab) (d : Nat) (data more : List SpWord) (skip : Bool) : Fab :=
  f.modSp d (fun n => { n with dn := more, dnCred := n.dnCred + 1 + data.length, skip := skip })

section
variable {f : Fab} {d : Nat} {hw : SpWord} {data more : List SpWord} {whole : Bool} {is : Nat → Bool}
  {may : SpHead → Nat → Bool} {go : Fab → SpHead → Nat → Nat → Fab}

/-- A message that R261 does not refuse is taken: its RID is in use, and it has its place in program order. -/
theorem Fab.spTake_taken (hf : AtFront f d hw data more whole) (his : is (SpHead.ofWord hw.w).op = true)
    (hgood : spRefusal (f.spOf d).rids hw data = none)
    (hmay : may (SpHead.ofWord hw.w) (spWriteData (SpHead.ofWord hw.w).addr (SpHead.ofWord hw.w).bytes data) = true) :
    f.spTake d is may go = go ((f.spLeaves d data more false).modSp d (fun n =>
      { n with rids := (SpHead.ofWord hw.w).rid :: n.rids, seq := n.seq + 1 })) (SpHead.ofWord hw.w)
      (spWriteData (SpHead.ofWord hw.w).addr (SpHead.ofWord hw.w).bytes data) (f.spOf d).seq := by
  obtain ⟨hfront, hready, hopen, hjudged⟩ := hf
  simp only [Fab.spTake, hfront, hready, hopen, his, hjudged, hgood, hmay, Bool.not_true, Bool.or_self,
    Bool.false_eq_true, if_false, Bool.and_false]
  rfl

/-- A message waits in the down buffer while it may not be taken. -/
theorem Fab.spTake_waits (hf : AtFront f d hw data more whole) (his : is (SpHead.ofWord hw.w).op = true)
    (hgood : spRefusal (f.spOf d).rids hw data = none)
    (hmay : may (SpHead.ofWord hw.w) (spWriteData (SpHead.ofWord hw.w).addr (SpHead.ofWord hw.w).bytes data) = false) :
    f.spTake d is may go = f := by
  obtain ⟨hfront, hready, hopen, hjudged⟩ := hf
  simp only [Fab.spTake, hfront, hready, hopen, his, hjudged, hgood, hmay, Bool.not_true, Bool.or_self,
    Bool.false_eq_true, if_false, Option.isNone_none, Bool.not_false, Bool.and_self, if_true]

/-- A message that R261 refuses is answered, and is no access. -/
theorem Fab.spTake_refused (hf : AtFront f d hw data more whole) (his : is (SpHead.ofWord hw.w).op = true) {reason : Nat}
    (hbad : spRefusal (f.spOf d).rids hw data = some reason) :
    f.spTake d is may go = (f.spLeaves d data more more.isEmpty).spRefuse d (SpHead.ofWord hw.w) reason := by
  obtain ⟨hfront, hready, hopen, hjudged⟩ := hf
  simp only [Fab.spTake, hfront, hready, hopen, his, hjudged, hbad, Bool.not_true, Bool.or_self,
    Bool.false_eq_true, if_false, Option.isNone_some, Bool.false_and, Option.isSome_some, Bool.true_and]
  rfl

end

/-- A reserved OP is refused before anything else of the message is judged (R261, R263). -/
theorem spRefusal_reserved (rids : List Nat) {hw : SpWord} (data : List SpWord) (h : 7 ≤ (SpHead.ofWord hw.w).op) :
    spRefusal rids hw data = some 0 := by
  have hfirst : List.range 9 = 0 :: [1, 2, 3, 4, 5, 6, 7, 8] := rfl
  rw [spRefusal, hfirst]
  exact List.find?_cons_of_pos (by simp [h])

/-- Settles O21. -/
theorem servicePortStreams : Obligations.ServicePortStreams := by
  refine ⟨?_, ?_, ?_, ?_⟩
  · intro s d w par hready hcred
    have hgo : (!(s.fab.spOf d).ready || (s.fab.spOf d).dnCred == 0) = false := by simp [hready]; omega
    refine ⟨next_onFab ?_, fun hskip hdn => next_onFab ?_, fun hskip hdn => next_onFab ?_⟩
    · simp only [hgo, Bool.false_eq_true, if_false, if_true]
    · simp [hgo, hskip, hdn]
    · simp [hgo, hskip, hdn]
  · intro s d hready
    refine next_onFab ?_
    rw [if_pos hready]
  · intro s d m rest hup hcred
    refine next_onFab ?_
    simp only [hup, Nat.not_lt.mpr hcred, if_false]
  · intro s d hw data more whole hfront hready hopen hop
    refine next_onFab ?_
    have hrefused : headRefused (s.fab.spOf d).rids hw = true := by
      rw [headRefused, spRefusal_reserved _ _ hop]
      rfl
    exact Fab.spTake_refused ⟨hfront, hready, hopen, by rw [hrefused, Bool.or_true]⟩ (decide_eq_true hop)
      (spRefusal_reserved _ data hop)

end Sys2Proof.Machine

/-! Proofs: the messages of a service port (R260 to R263). -/

namespace Sys2Proof.Machine

/-! ## A whole message at the front of the down buffer -/

/-- Settles O22: each message is what `spTake` makes of its OP. -/
theorem servicePortMessages : Obligations.ServicePortMessages := by
  intro s d bad hw data more hfront hready hopen h v q took f1
  have hat : AtFront s.fab d hw data more true := ⟨hfront, hready, hopen, rfl⟩
  have his (op : Nat) (hop : h.op = op) : (h.op == op) = true := by rw [hop, beq_self_eq_true]
  refine ⟨fun hgood => ⟨?_, ?_, ?_, ?_, ?_, ?_, ?_, ?_⟩, fun reason hbad => ?_⟩
  · exact fun hop => next_fab (Fab.spTake_taken hat (his 0 hop) hgood rfl)
  · exact fun hop hmay => next_fab (Fab.spTake_taken hat (his 1 hop) hgood hmay)
  · exact fun hop hmay => next_same (Fab.spTake_waits hat (his 1 hop) hgood hmay)
  · exact fun hop => next_fab (Fab.spTake_taken hat (his 2 hop) hgood rfl)
  · exact fun hop => next_fab (Fab.spTake_taken hat (his 3 hop) hgood rfl)
  · exact fun hop => next_fab (Fab.spTake_taken hat (his 4 hop) hgood rfl)
  · exact fun hop => next_fab (Fab.spTake_taken hat (his 5 hop) hgood rfl)
  · exact fun hop => next_fab (Fab.spTake_taken hat (his 6 hop) hgood rfl)
  · exact ⟨fun hop => next_fab (Fab.spTake_refused hat (his 0 hop) hbad),
      fun hop => next_fab (Fab.spTake_refused hat (his 1 hop) hbad),
      fun hop => next_fab (Fab.spTake_refused hat (his 2 hop) hbad),
      fun hop => next_fab (Fab.spTake_refused hat (his 3 hop) hbad),
      fun hop => next_fab (Fab.spTake_refused hat (his 4 hop) hbad),
      fun hop => next_fab (Fab.spTake_refused hat (his 5 hop) hbad),
      fun hop => next_fab (Fab.spTake_refused hat (his 6 hop) hbad)⟩

end Sys2Proof.Machine

/-! Proofs: how a service port goes on (R237, R265 to R281, R289 to R292). -/

namespace Sys2Proof.Machine

/-! ## How a service port goes on -/

/-- The choice among what can be done is the one that stands before every other (R271). -/
theorem Fab.foldl_earlier_eq {q : Nat} {g : Fab} {l : List (Nat × Option Fab)} {b : Option (Nat × Fab)}
    (hl : ∀ n h, (n, some h) ∈ l → q < n ∨ n = q ∧ h = g) (hb : ∀ n h, b = some (n, h) → q < n ∨ n = q ∧ h = g)
    (hmem : (q, some g) ∈ l ∨ b = some (q, g)) : l.foldl Fab.earlier b = some (q, g) := by
  induction l generalizing b with
  | nil =>
    rcases hmem with h | h
    · cases h
    · exact h
  | cons x l ih =>
    obtain ⟨m, o⟩ := x
    have hrest : ∀ n h, (n, some h) ∈ l → q < n ∨ n = q ∧ h = g := fun n h hin => hl n h (List.mem_cons_of_mem _ hin)
    rw [List.foldl_cons]
    cases o with
    | none =>
      refine ih hrest hb ?_
      rcases hmem with h | h
      · exact .inl ((List.mem_cons.mp h).resolve_left (by simp))
      · exact .inr h
    | some h1 =>
      have hx := hl m h1 List.mem_cons_self
      cases b with
      | none =>
        refine ih hrest (fun n h he => ?_) ?_
        · cases he
          exact hx
        · rcases hmem with h | h
          · rcases List.mem_cons.mp h with h | h
            · cases h
              exact .inr rfl
            · exact .inl h
          · cases h
      | some y =>
        obtain ⟨n, h2⟩ := y
        have hy := hb n h2 rfl
        have hstep : Fab.earlier (some (n, h2)) (m, some h1) = if m < n then some (m, h1) else some (n, h2) := rfl
        rw [hstep]
        split
        case isTrue hlt =>
          refine ih hrest (fun n h he => ?_) ?_
          · cases he
            exact hx
          · rcases hmem with h | h
            · rcases List.mem_cons.mp h with h | h
              · cases h
                exact .inr rfl
              · exact .inl h
            · cases h
              omega
        case isFalse hge =>
          refine ih hrest hb ?_
          rcases hmem with h | h
          · rcases List.mem_cons.mp h with h | h
            · cases h
              obtain ⟨rfl, rfl⟩ : n = q ∧ h2 = g := hy.resolve_left (by omega)
              exact .inr rfl
            · exact .inl h
          · exact .inr h

/-- An advance of a service port does what stands first in program order among what can be done (R271). -/
theorem Fab.spAdvance_first {f : Fab} {d q : Nat} {bad : List (Nat × Nat)} {g : Fab}
    (hmem : (q, some g) ∈ (f.wakeEntries d).spChoices d bad)
    (hfirst : ∀ n h, (n, some h) ∈ (f.wakeEntries d).spChoices d bad → q < n ∨ n = q ∧ h = g) :
    f.spAdvance d bad = g := by
  rw [Fab.spAdvance_eq, Fab.foldl_earlier_eq hfirst (by simp) (.inl hmem)]

/-- What can be done at a service port is an access that waits or an entry. -/
theorem Fab.mem_spChoices {f : Fab} {d n : Nat} {bad : List (Nat × Nat)} {g : Fab} :
    (n, some g) ∈ f.spChoices d bad ↔
      (∃ a ∈ (f.spOf d).acc, a.st.waits = true ∧ a.seq = n ∧ f.tryAcc d bad a = some g) ∨
      ∃ e ∈ (f.spOf d).pwb, e.seq = n ∧ f.tryEnt d bad e = some g := by
  simp only [Fab.spChoices, List.mem_append, List.mem_map, List.mem_filter, Prod.mk.injEq, and_assoc]

/-- An entry that is sent is eligible, and stands behind no barrier, no parked access and no entry of its identifier that
has not been sent (R237, R280). -/
theorem Fab.tryEnt_spec {f g : Fab} {d : Nat} {bad : List (Nat × Nat)} {e : PwbEnt} (h : f.tryEnt d bad e = some g) :
    e.elig = true ∧ f.spBlocked d e.stream e.seq true = false ∧
      ∀ x ∈ (f.spOf d).entriesBefore e.stream e.seq, x.tag.isSome = true ∧ x.parked = false := by
  unfold Fab.tryEnt at h
  dsimp only at h
  split at h
  case isTrue => cases h
  case isFalse hgo =>
    simp only [Bool.or_eq_true, not_or, Bool.not_eq_true, Bool.not_eq_false'] at hgo
    obtain ⟨⟨⟨⟨⟨helig, -⟩, -⟩, hblocked⟩, hbefore⟩, -⟩ := hgo
    refine ⟨by simpa using helig, hblocked, fun x hx => ?_⟩
    have hx := List.any_eq_false.mp hbefore x hx
    simp only [Bool.or_eq_true, not_or, Bool.not_eq_true] at hx
    obtain ⟨⟨htag, hparked⟩, -⟩ := hx
    exact ⟨by cases hc : x.tag <;> simp_all, hparked⟩

/-- Settles O23. -/
theorem servicePortProgress : Obligations.ServicePortProgress := by
  refine ⟨⟨?_, ?_, fun f g d bad e h => Fab.tryEnt_spec h, ?_, ?_, ?_⟩, ?_, ?_, ?_, ?_, ?_, ?_, ?_, ?_⟩
  · intro s d bad a g f ha hwaits hgo haccs hents
    refine next_fab (Fab.spAdvance_first (q := a.seq) (Fab.mem_spChoices.mpr (.inl ⟨a, ha, hwaits, rfl, hgo⟩)) ?_)
    intro n h hin
    rcases Fab.mem_spChoices.mp hin with ⟨b, hb, hbw, rfl, hbgo⟩ | ⟨e, he, rfl, hego⟩
    · by_cases hba : b = a
      · subst hba
        exact .inr ⟨rfl, Option.some.inj (hbgo.symm.trans hgo)⟩
      · refine .inl (Nat.lt_of_not_le (fun hle => ?_))
        cases (haccs b hb hba hbw hle).symm.trans hbgo
    · refine .inl (Nat.lt_of_not_le (fun hle => ?_))
      cases (hents e he hle).symm.trans hego
  · intro s d bad e g f he hgo haccs hents
    refine next_fab (Fab.spAdvance_first (q := e.seq) (Fab.mem_spChoices.mpr (.inr ⟨e, he, rfl, hgo⟩)) ?_)
    intro n h hin
    rcases Fab.mem_spChoices.mp hin with ⟨b, hb, hbw, rfl, hbgo⟩ | ⟨x, hx, rfl, hxgo⟩
    · refine .inl (Nat.lt_of_not_le (fun hle => ?_))
      cases (haccs b hb hbw hle).symm.trans hbgo
    · by_cases hxe : x = e
      · subst hxe
        exact .inr ⟨rfl, Option.some.inj (hxgo.symm.trans hgo)⟩
      · refine .inl (Nat.lt_of_not_le (fun hle => ?_))
        cases (hents x hx hxe hle).symm.trans hxgo
  · intro s d bad e hfirst
    refine next_onFab ?_
    simp only [hfirst]
  · intro s d f1 p hrun htake
    refine ⟨fun hlen hck => next_fab ?_, fun hlen htag hawaits htgt => next_fab ?_, fun hlen hstray => next_fab ?_,
      fun hlen htag hawaits htgt => next_fab ?_⟩
    · simp [hrun, htake, Fab.spArrives, hlen]
    · simp only [hrun, htake, Fab.spArrives_clean hlen, Bool.false_eq_true, if_false]
      rw [if_neg (by simp [hawaits, htag]), if_neg (by simp [htgt])]
    · simp only [hrun, htake, Fab.spArrives_clean hlen, Bool.false_eq_true, if_false, hstray, if_true]
      rfl
    · simp only [hrun, htake, Fab.spArrives_clean hlen, Bool.false_eq_true, if_false]
      rw [if_neg (by simp [hawaits, htag]), if_pos htgt]
      rfl
  · intro s d b hfirst
    refine next_onFab ?_
    simp only [hfirst]
  · intro s d hreq
    have hrst : (s.fab.modSp d (fun n => { n with excReq := true })).spInReset d = s.fab.spInReset d := by
      rw [Fab.spInReset, Fab.modSp_own, Fab.tileOut, Fab.modSp_tile, Fab.spInReset, Fab.tileOut]
    refine ⟨fun hrun => next_onFab ?_, fun hin => next_onFab ?_⟩
    · simp only [hreq, hrst, hrun, Bool.false_eq_true, if_false]
      rfl
    · simp only [hreq, hrst, hin, Bool.false_eq_true, if_false, if_true]
  · intro s d hexc hreq hdone
    refine next_onFab (if_pos ?_)
    simpa [hexc, hreq] using hdone
  · intro s d hreq
    refine next_onFab ?_
    simp only [hreq, Bool.not_true, Bool.false_eq_true, if_false]
  · intro s d hrst hout
    refine next_onFab ?_
    simp only [hrst, hout, Bool.not_true, Bool.false_eq_true, if_false]
  · intro f d
    have hown : ((f.spReset d).spOf d) = { Sp.reset with
        rstN := (f.spOf d).rstN, ready := false, dnCred := 0, excReq := (f.spOf d).excReq, fence := (f.spOf d).fence,
        lensT := (f.spOf d).lensT, drain := (f.spOf d).drain, histAt := (f.spOf d).histAt,
        inj := { Sched.reset with q := keepControl (f.spOf d).inj, seq := (f.spOf d).inj.seq } } := by
      rw [Fab.spReset, Fab.modSp_own]
      rfl
    rw [hown]
    refine ⟨rfl, rfl, rfl, rfl, rfl, rfl, rfl, fun e he => ?_⟩
    rw [Fab.spReset, Fab.modSp_other _ _ _ _ he]
    rfl
  · intro s d hrst hout
    have hrun : (s.fab.modSp d (fun n => { n with rstN := true })).spInReset d = false := by
      rw [Fab.spInReset, Fab.modSp_own, Fab.tileOut, Fab.modSp_tile, ← Fab.tileOut, hout]
      rfl
    have hreq : (((s.fab.modSp d (fun n => { n with rstN := true })).spWait d).spOf d).excReq =
        (s.fab.spOf d).excReq := by
      rw [Fab.spWait, Fab.modSp_own, Fab.modSp_own]
    refine ⟨fun hno => next_onFab ?_, fun hyes => next_onFab ?_⟩
    · simp only [hrst, Fab.spLeave, hrun, Fab.excSample, hreq, hno, Bool.false_eq_true, if_false]
    · simp only [hrst, Fab.spLeave, hrun, Fab.excSample, hreq, hyes, Bool.false_eq_true, if_false, if_true]
  · intro s d due hno hdue hrun
    refine next_onFab ?_
    simp only [hno]
    rw [if_pos ⟨hdue, hrun⟩]
  · intro s d hrun
    refine next_onFab ?_
    simp only [hrun, Bool.false_eq_true, if_false]
    rfl

end Sys2Proof.Machine

/-! Proofs: accesses to a Commons bank (R252, R264, R283 to R288). -/

namespace Sys2Proof.Machine

/-! ## Accesses to a Commons bank -/

/-- Settles O24. -/
theorem commonsAccesses : Obligations.CommonsAccesses := by
  refine ⟨?_, ?_, ?_, ?_⟩
  · intro s n ce ue p hfront hlen hroom f1 data
    refine ⟨fun hop => next_fab ?_, fun hop => next_fab ?_, fun hop => next_fab ?_, fun hop => ?_⟩
    · rw [Fab.cmnWhen_of_front _ hfront hlen hop hroom]
      rfl
    · rw [Fab.cmnWhen_of_front _ hfront hlen hop hroom]
      rfl
    · rw [Fab.cmnWhen_of_front _ hfront hlen hop hroom]
    · intro mine held f2
      refine ⟨fun hheld => next_fab ?_, fun hheld => next_fab ?_⟩
      · rw [Fab.cmnWhen_of_front _ hfront hlen hop hroom]
        exact if_pos hheld
      · rw [Fab.cmnWhen_of_front _ hfront hlen hop hroom]
        exact if_neg (by rw [Bool.not_eq_true]; exact hheld)
  · intro s n p hfront hlen hop parts hroom
    refine next_onFab ?_
    simp only [hfront, hlen, hop, ne_eq, not_true_eq_false, if_false]
    exact if_neg (by rw [hroom]; decide)
  · intro s who n v hv
    refine next_onFab ?_
    rw [Fab.wResvGran, if_neg (Nat.not_le.mpr hv)]
    rfl
  · intro s who n v hv
    refine next_onFab ?_
    rw [Fab.wResvClear, if_neg hv]
    rfl

end Sys2Proof.Machine

/-! Proofs: settings of the schedulers (R303, R309 to R336). -/

namespace Sys2Proof.Machine

/-! ## Writes of the scheduler's objects -/

/-- A write of an object that a unit has (R29). -/
theorem Fab.objWrite_eq {f : Fab} {who num idx sub : Nat} {sc : Scope} {r : ObjRow} {w : Fab → Fab × Nat}
    (hnum : num < sc.count) (hrow : objRow sc idx sub = some r) :
    f.objWrite who sc num idx sub w = Fab.done (w f) who := by
  rw [Fab.objWrite, if_pos]
  rw [objExists, hrow, decide_eq_true hnum]
  rfl

/-- A plain write of a value that the object takes (R29). -/
theorem Fab.wPlain_taken {f : Fab} {sc : Scope} {idx sub v x : Nat} {r : ObjRow} (num : Nat)
    (hrow : objRow sc idx sub = some r) (hv : judgeValue r.ty r.rng sub v = some x) :
    f.wPlain sc num idx sub v =
      (f.setO sc num idx sub x, if isClipped r.ty r.rng v x then cClipped else cOk) := by
  have hjudge : judgeWrite sc idx sub v = some (x, if isClipped r.ty r.rng v x then cClipped else cOk) := by
    simp only [judgeWrite, hrow, hv]
  simp only [Fab.wPlain, hjudge]

/-- A plain write of a value that the object refuses (R29). -/
theorem Fab.wPlain_denied {f : Fab} {sc : Scope} {idx sub v : Nat} {r : ObjRow} (num : Nat)
    (hrow : objRow sc idx sub = some r) (hv : judgeValue r.ty r.rng sub v = none) :
    f.wPlain sc num idx sub v = (f, cDenied) := by
  have hjudge : judgeWrite sc idx sub v = none := by
    simp only [judgeWrite, hrow, hv]
  simp only [Fab.wPlain, hjudge]

@[simp] theorem whoOf_num (sp : Bool) (n : Nat) : (whoOf sp n).num = n := by
  cases sp <;> rfl

theorem whoOf_scope (sp : Bool) (n : Nat) : (whoOf sp n).scope = (whoOf sp 0).scope := by
  cases sp <;> rfl

theorem dirOf_classSub (dir : Nat) {c : Nat} (h : c < 16) : dirOf (16 * dir + c) = dir := by
  rw [dirOf]
  omega

theorem clsOf_classSub (dir : Nat) {c : Nat} (h : c < 16) : clsOf (16 * dir + c) = c := by
  rw [clsOf]
  omega

/-- The rows of the objects of SC1 to SC5 of each direction (R534). -/
def shaperRateRow : ObjRow := ⟨O.SHAPER_RATE, ss15, .u32, .rw, 32000, [.tile, .sp], .rate 64000⟩
@[inherit_doc shaperRateRow] def shaperBurstRow : ObjRow :=
  ⟨O.SHAPER_BURST, ss15, .u32, .rw, 16384, [.tile, .sp], .clip 0 4194304 false⟩
@[inherit_doc shaperRateRow] def shaperClearRow : ObjRow := ⟨O.SHAPER_CLEAR, ss15, .bool, .wo, 0, [.tile, .sp], .any⟩
@[inherit_doc shaperRateRow] def gateEnRow : ObjRow := ⟨O.GATE_EN, ss15, .bool, .rw, 0, [.tile, .sp], .any⟩
@[inherit_doc shaperRateRow] def gateApplyRow : ObjRow := ⟨O.GATE_APPLY, ss15, .time80, .wo, 0, [.tile, .sp], .any⟩
/-- The row of the weights of SC2 to SC5 (R303). -/
def schedWeightRow : ObjRow := ⟨O.SCHED_WEIGHT, ss25, .u8, .rw, 0, [.tile, .sp], .clip 1 255 false⟩
/-- Whether the catalogue has these rows at a subindex of a class. -/
def classRows (sc : Scope) (sub c : Nat) : Bool :=
  objRow sc O.SHAPER_RATE sub == some shaperRateRow && objRow sc O.SHAPER_BURST sub == some shaperBurstRow &&
    objRow sc O.SHAPER_CLEAR sub == some shaperClearRow && objRow sc O.GATE_EN sub == some gateEnRow &&
    objRow sc O.GATE_APPLY sub == some gateApplyRow && (decide (c < 2) || objRow sc O.SCHED_WEIGHT sub == some schedWeightRow)
/-- The rows of the policer (R318). -/
def policeCirRow : ObjRow := ⟨O.POLICE_CIR, [0], .u32, .rw, 1000, [.tile], .clip 0 64000 false⟩
@[inherit_doc policeCirRow] def policeCbsRow : ObjRow :=
  ⟨O.POLICE_CBS, [0], .u32, .rw, 16384, [.tile], .clip 0 1048576 false⟩

/-- A class of a scheduler as its objects name it: its unit, direction and SC. -/
structure ClassOf (sp : Bool) (n dir c : Nat) : Prop where
  unit : n < (whoOf sp n).scope.count
  dir_lt : dir < 2
  sc_pos : 1 ≤ c
  sc_le : c ≤ 5

section
variable {sp : Bool} {n dir c : Nat}

/-- The catalogue's rows of a class (R534). -/
theorem objRow_class (h : ClassOf sp n dir c) :
    objRow (whoOf sp n).scope O.SHAPER_RATE (16 * dir + c) = some shaperRateRow ∧
    objRow (whoOf sp n).scope O.SHAPER_BURST (16 * dir + c) = some shaperBurstRow ∧
    objRow (whoOf sp n).scope O.SHAPER_CLEAR (16 * dir + c) = some shaperClearRow ∧
    objRow (whoOf sp n).scope O.GATE_EN (16 * dir + c) = some gateEnRow ∧
    objRow (whoOf sp n).scope O.GATE_APPLY (16 * dir + c) = some gateApplyRow ∧
    (2 ≤ c → objRow (whoOf sp n).scope O.SCHED_WEIGHT (16 * dir + c) = some schedWeightRow) := by
  have hall : ∀ sp : Bool, ∀ dir < 2, ∀ c < 6, 1 ≤ c → classRows (whoOf sp 0).scope (16 * dir + c) c = true := by
    decide +kernel
  have hrows := hall sp dir h.dir_lt c (Nat.lt_succ_of_le h.sc_le) h.sc_pos
  simp only [classRows, Bool.and_eq_true, beq_iff_eq, Bool.or_eq_true, decide_eq_true_eq] at hrows
  obtain ⟨⟨⟨⟨⟨hrate, hburst⟩, hclear⟩, hen⟩, happly⟩, hweight⟩ := hrows
  rw [whoOf_scope]
  exact ⟨hrate, hburst, hclear, hen, happly, fun hc => hweight.resolve_left (by omega)⟩

/-- A shaper's object after a write of a value that it takes: the bucket is up to date first (R313). -/
theorem Fab.wShaper_taken {f : Fab} {idx v x : Nat} {r : ObjRow} (h : ClassOf sp n dir c)
    (hrow : objRow (whoOf sp n).scope idx (16 * dir + c) = some r)
    (hv : judgeValue r.ty r.rng (16 * dir + c) v = some x) :
    f.wShaper (whoOf sp n) idx (16 * dir + c) v =
      ((f.refill (whoOf sp n) dir c).setO (whoOf sp n).scope n idx (16 * dir + c) x,
        if isClipped r.ty r.rng v x then cClipped else cOk) := by
  have hc : c < 16 := by have := h.sc_le; omega
  rw [Fab.wShaper, dirOf_classSub dir hc, clsOf_classSub dir hc, Fab.wPlain_taken _ hrow hv, whoOf_num]

end

/-- A value within its range is stored as it is. -/
theorem clipTo_of_mem {lo hi v : Nat} (hlo : lo ≤ v) (hhi : v ≤ hi) : clipTo lo hi false v = v := by
  rw [clipTo, if_neg (by simp), if_neg (Nat.not_lt.mpr hlo), if_neg (Nat.not_lt.mpr hhi)]

/-- A weight is clipped to 1 to 255 (R303). -/
theorem clipTo_weight (v : Nat) : clipTo 1 255 false v = max 1 (min v 255) := by
  rw [clipTo, if_neg (by simp)]
  repeat' split
  all_goals omega

/-- A value that is stored as it is written is no clip. -/
theorem isClipped_self (ty : ObjTy) (rng : Rng) (v : Nat) : isClipped ty rng v v = false := by
  unfold isClipped
  split
  · rfl
  · rfl
  · simp

theorem objRow_policeCir : objRow .tile O.POLICE_CIR 0 = some policeCirRow := by decide +kernel
theorem objRow_policeCbs : objRow .tile O.POLICE_CBS 0 = some policeCbsRow := by decide +kernel

theorem le_log2 {k x n : Nat} (hx : 2 ^ k ≤ x) (hn : k ≤ n) : k ≤ log2 x n := by
  induction n with
  | zero => omega
  | succ n ih =>
    rw [log2]
    split
    case isTrue => exact hn
    case isFalse hbig => exact ih (Nat.lt_succ_iff.mp (Nat.lt_of_le_of_ne hn (fun he : k = n + 1 => hbig (he ▸ hx))))

theorem log2_le {k x : Nat} (hx : x < 2 ^ (k + 1)) (n : Nat) : log2 x n ≤ k := by
  induction n with
  | zero => exact Nat.zero_le k
  | succ n ih =>
    rw [log2]
    split
    case isTrue hle => exact Nat.le_of_lt_succ ((Nat.pow_lt_pow_iff_right (by decide)).mp (Nat.lt_of_le_of_lt hle hx))
    case isFalse => exact ih

/-- The bucket of a number of cycles (R331). -/
theorem bucketOf_spec : bucketOf 0 = 0 ∧ (∀ x b, 1 ≤ b → b ≤ 14 → 2 ^ (b - 1) ≤ x → x < 2 ^ b → bucketOf x = b) ∧
    ∀ x, 16384 ≤ x → bucketOf x = 15 := by
  refine ⟨rfl, fun x b h1 h14 hlo hhi => ?_, fun x hx => ?_⟩
  · have hpos : x ≠ 0 := Nat.ne_of_gt (Nat.lt_of_lt_of_le (Nat.two_pow_pos _) hlo)
    have hge := le_log2 hlo (n := 15) (by omega)
    have hle := log2_le (k := b - 1) (x := x) (by rwa [Nat.sub_add_cancel h1]) 15
    rw [bucketOf, if_neg hpos]
    omega
  · have hge := le_log2 (k := 14) (x := x) (n := 15) hx (by decide)
    rw [bucketOf, if_neg (by omega)]
    omega

/-- Settles O27. -/
theorem schedulerSettings : Obligations.SchedulerSettings := by
  refine ⟨fun s who sp n dir c v hn hdir hc1 hc5 => ?_, ?_, ?_, fun s who sp n dir c v hn hdir hc1 hc5 => ?_, ?_, ?_, ?_,
    bucketOf_spec⟩
  · have h : ClassOf sp n dir c := ⟨hn, hdir, hc1, hc5⟩
    have hc : c < 16 := by omega
    obtain ⟨hrate, hburst, hclear, -, -, hweight⟩ := objRow_class h
    refine ⟨fun hc2 => next_onFab ?_, fun hv1 hv => next_onFab ?_, next_onFab ?_, fun hv => next_onFab ?_,
      fun hv => next_onFab ?_⟩
    · rw [Fab.objWrite_eq hn (hweight hc2), Fab.wPlain_taken n (hweight hc2) rfl, Fab.done_mk, clipTo_weight]
      by_cases hin : 1 ≤ v ∧ v ≤ 255
      · rw [if_pos hin, if_neg (by simp [isClipped, schedWeightRow]; omega)]
        rfl
      · rw [if_neg hin, if_pos (by simp [isClipped, schedWeightRow]; omega)]
        rfl
    · rw [Fab.objWrite_eq hn hrate, Fab.wShaper_taken h hrate (if_neg (by omega)), Fab.done_mk,
        clipTo_of_mem hv1 hv, isClipped_self, if_neg Bool.false_ne_true]
      rfl
    · rw [Fab.objWrite_eq hn hrate, Fab.wShaper, dirOf_classSub dir hc, clsOf_classSub dir hc,
        Fab.wPlain_denied _ hrate rfl]
      rfl
    · rw [Fab.objWrite_eq hn hburst, Fab.wBurst, Fab.wShaper_taken h hburst rfl, clipTo_of_mem (Nat.zero_le v) hv,
        isClipped_self, if_neg Bool.false_ne_true, dirOf_classSub dir hc, clsOf_classSub dir hc, Fab.oW, whoOf_num,
        Fab.setO_own]
      rfl
    · rw [Fab.objWrite_eq hn hclear, Fab.wShaperClear, if_neg hv, dirOf_classSub dir hc, clsOf_classSub dir hc]
      rfl
  · intro s who t v ht hv
    refine next_onFab ?_
    rw [Fab.objWrite_eq ht objRow_policeCir, Fab.wPoliceCir, Fab.wPlain_taken t objRow_policeCir rfl,
      clipTo_of_mem (Nat.zero_le v) hv, isClipped_self, if_neg Bool.false_ne_true]
    rfl
  · intro s who t v ht hv
    refine next_onFab ?_
    rw [Fab.objWrite_eq ht objRow_policeCbs, Fab.wPoliceCbs, Fab.wPlain_taken t objRow_policeCbs rfl,
      clipTo_of_mem (Nat.zero_le v) hv, isClipped_self, if_neg Bool.false_ne_true, Fab.oT, Fab.setO_own]
    rfl
  · have h : ClassOf sp n dir c := ⟨hn, hdir, hc1, hc5⟩
    have hc : c < 16 := by omega
    obtain ⟨-, -, -, henRow, happlyRow, -⟩ := objRow_class h
    refine ⟨fun hgood => next_onFab ?_, fun hbad => next_onFab ?_, fun hrun hpend hv => next_onFab ?_,
      fun hany => next_onFab ?_⟩
    · rw [Fab.objWrite_eq hn happlyRow, Fab.wGateApply, dirOf_classSub dir hc, clsOf_classSub dir hc,
        if_neg (by rw [hgood]; decide)]
      rfl
    · rw [Fab.objWrite_eq hn happlyRow, Fab.wGateApply, dirOf_classSub dir hc, clsOf_classSub dir hc, if_pos hbad]
      rfl
    · rw [Fab.objWrite_eq hn henRow, Fab.wGateEn, dirOf_classSub dir hc, clsOf_classSub dir hc,
        if_pos ⟨hv, by rw [hrun]; rfl, by rw [hpend]; rfl⟩]
      rfl
    · rw [Fab.objWrite_eq hn henRow, Fab.wGateEn, dirOf_classSub dir hc, clsOf_classSub dir hc, if_neg,
        whoOf_num, Fab.wPlain_taken n henRow rfl]
      · rfl
      · rintro ⟨hv, hrun, hpend⟩
        rcases hany with h | h | h
        · exact h (Option.isNone_iff_eq_none.mp hrun)
        · exact h (Option.isNone_iff_eq_none.mp hpend)
        · exact hv h
  · intro s sp n dir c hdir hc1 hc5
    have hc : c < 16 := by omega
    refine ⟨next_onFab ?_, next_onFab ?_⟩
    · rw [dirOf_classSub dir hc, clsOf_classSub dir hc]
      rfl
    · rw [dirOf_classSub dir hc, clsOf_classSub dir hc]
      rfl
  · intro s sp n hst hdue
    exact next_onFab (if_pos (by rw [hst, hdue]; rfl))
  · intro s sp n hdue
    exact next_same (if_neg (by rw [hdue]; simp))

end Sys2Proof.Machine

/-! Proofs: spill queues of an edge NI (R340 to R345, R348, R353, R362, R364). -/

namespace Sys2Proof.Machine

/-! ## Spill queues of an edge NI -/

theorem spillMc_ne_seven {i : Nat} (h : i < 5) : spillMc i ≠ 7 := by
  rw [spillMc]
  split <;> omega

/-- The MC of a spill queue names that queue (R339). -/
theorem spillIdx_spillMc {i : Nat} (h : i < 5) : spillIdx (spillMc i) = some i := by
  have hall : ∀ i < 5, spillIdx (spillMc i) = some i := by decide
  exact hall i h

/-- The ABANDON envelope that an edge NI takes (R353). -/
theorem Fab.abandonAtNi_of_single {f : Fab} {t : Nat} {p : Packet} (hctl : (f.ni t).ctlIn = [p])
    (henv : isEnvelope p = true) (hkind : envKind p = some .abandon) :
    (envMc p = 7 → f.abandonAtNi t =
      (List.range 5).foldl (fun f i => f.abandonNi t i false) (f.modNi t (fun n => { n with ctlIn := [] }))) ∧
    (∀ i, i < 5 → envMc p = spillMc i →
      f.abandonAtNi t = (f.modNi t (fun n => { n with ctlIn := [] })).abandonNi t i false) := by
  have his : (isEnvelope p && envKind p == some .abandon) = true := by
    rw [henv, hkind]
    rfl
  have htake : f.modNi t (fun n => { n with
      ctlIn := dropFirst (fun p => isEnvelope p && envKind p == some .abandon) n.ctlIn }) =
        f.modNi t (fun n => { n with ctlIn := [] }) := by
    refine Fab.modNi_congr f ?_
    simp only [hctl, dropFirst, his, if_true]
  refine ⟨fun hall => ?_, fun i hi hmc => ?_⟩
  · simp only [Fab.abandonAtNi, hctl, List.find?_cons, his, htake, hall, if_true]
  · simp only [Fab.abandonAtNi, hctl, List.find?_cons, his, htake, hmc, if_neg (spillMc_ne_seven hi),
      spillIdx_spillMc hi]

/-- Settles O29. -/
theorem spillQueueStates : Obligations.SpillQueueStates := by
  refine ⟨?_, ?_, ?_, ?_, ?_, ?_, ?_, ?_, ?_, ?_, ?_⟩
  · intro s t hstall
    refine next_onFab ?_
    simp only [hstall, Bool.not_true, Bool.false_eq_true, if_false]
  · intro s t hstall hnone
    refine next_onFab ?_
    simp only [hstall, hnone, Bool.not_true, Bool.false_eq_true, if_false, List.flatMap_nil, List.foldl_nil]
  · intro s t k e hstall hone
    refine next_onFab ?_
    simp only [hstall, hone, Bool.not_true, Bool.false_eq_true, if_false, List.flatMap_cons, List.flatMap_nil,
      List.map_cons, List.map_nil, List.append_nil, List.foldl_cons, List.foldl_nil]
  · intro s t i ht hi hst hstall hen hrun hmin hab hask
    refine next_onFab ?_
    simp only [ht, hi, hst, hstall, hen, hrun, hmin, hab, hask, beq_self_eq_true, decide_true, Bool.not_false,
      Bool.and_true, if_true, Option.isNone_none, Fab.ask]
    rfl
  · intro s t i a ht hi hst hstall hen hrun hmin hab hask
    refine next_onFab ?_
    simp only [ht, hi, hst, hstall, hen, hrun, hmin, hab, hask, beq_self_eq_true, decide_true, Bool.not_false,
      Bool.and_true, if_true, Option.isNone_some, Bool.false_eq_true, if_false]
  · intro s t i hst hout hsp hpull
    refine next_onFab ?_
    simp only [bne_iff_ne.mpr hst, hout, hsp, hpull, List.isEmpty_nil, beq_self_eq_true, Option.isNone_none,
      Bool.and_true, if_true]
  · intro s t i g p htake
    refine next_onFab ?_
    simp only [htake]
  · intro s t i a hwait hlate
    refine next_onFab ?_
    rcases hwait with hask | hpull
    · simp only [hask, hlate, decide_true, Bool.true_or, if_true]
    · simp only [hpull, hlate, decide_true, Bool.or_true, if_true]
  · intro s t p hctl henv hkind
    obtain ⟨hall, hone⟩ := Fab.abandonAtNi_of_single hctl henv hkind
    exact ⟨fun hmc => next_onFab (hall hmc), fun i hi hmc => next_onFab (hone i hi hmc)⟩
  · intro s n g p htake
    refine ⟨fun hall => ?_, fun i hi hmc => ?_⟩
    · refine next_onFab ?_
      simp only [if_true, Fab.abandonAtSk, htake, hall]
    · refine next_onFab ?_
      simp only [if_true, Fab.abandonAtSk, htake, envQid, hmc, if_neg (spillMc_ne_seven hi), spillIdx_spillMc hi,
        Option.map_some]
  · intro f t i hsp hout hst
    refine ⟨fun hask hgrant => ?_, fun hbusy => ?_⟩
    · simp only [Fab.abandonNi, hsp, hout, hst, hask, hgrant, if_true, Bool.true_or, List.foldl_nil, bne_self_eq_false,
        Option.isSome_none, Bool.or_self, Bool.true_and, Bool.false_eq_true, if_false]
    · have hsome : ((f.spq t i).ask.isSome || (f.spq t i).grant != 0) = true := by
        rw [Bool.or_eq_true, Option.isSome_iff_ne_none, bne_iff_ne]
        exact hbusy
      simp only [Fab.abandonNi, hsp, hout, hst, if_true, Bool.true_or, List.foldl_nil, bne_self_eq_false,
        Bool.false_or, hsome, Bool.true_and]

end Sys2Proof.Machine

/-! Proofs: spill transfers (R339, R343, R347 to R352). -/

namespace Sys2Proof.Machine

/-! ## Spill transfers of an edge NI -/

/-- Settles O30. -/
theorem spillTransfers : Obligations.SpillTransfers := by
  refine ⟨?_, ?_, ?_, ?_, ?_⟩
  · intro s t i g p htake hask _
    have hask' : (g.spq t i).ask.isNone = false := Option.isNone_eq_false_iff.mpr (Option.isSome_iff_ne_none.mpr hask)
    refine ⟨fun hzero => next_onFab ?_, fun hsome => ⟨_, rfl, next_onFab ?_⟩⟩
    · simp only [htake, hask', hzero, Bool.false_eq_true, if_false, if_true]
    · simp only [htake, hask', hsome, Bool.false_eq_true, if_false]
  · intro s t i hst hask hzero
    refine next_onFab (if_pos ⟨hst, ?_, hzero⟩)
    rw [hask]
    rfl
  · intro s t i p l hout hst hgrant
    refine ⟨_, rfl, next_onFab ?_⟩
    simp only [hout, hst, or_false, if_neg (Nat.not_lt.mpr hgrant), Option.isNone_iff_eq_none]
  · intro s t i hi hst hpull hwater
    refine next_onFab ?_
    simp only [bne_iff_ne.mpr hst, hpull, hi, hwater, Option.isNone_none, decide_true, Bool.and_true, if_true]
  · intro s t i g e hck htake hpull
    have hpull' : (g.spq t i).pull.isNone = false := Option.isNone_eq_false_iff.mpr (Option.isSome_iff_ne_none.mpr hpull)
    refine ⟨fun hseq => next_onFab ?_, fun hseq => next_onFab ?_⟩
    · simp only [htake, hpull', Bool.false_eq_true, if_false, if_pos hseq]
    · simp only [htake, hpull', hseq, Bool.false_eq_true, if_false, ne_eq, not_true_eq_false]

end Sys2Proof.Machine

/-! Proofs: the spill ports (R348, R351, R355 to R367). -/

namespace Sys2Proof.Machine

/-! ## The spill ports and their memory -/

/-- The rows of SK_RECOVER and SK_ENABLE (R534). -/
theorem objRow_skRecover : objRow .sk O.SK_RECOVER 0 = some ⟨O.SK_RECOVER, [0], .bool, .wo, 0, [.sk], .any⟩ := by
  decide +kernel

@[inherit_doc objRow_skRecover] theorem objRow_skEnable :
    objRow .sk O.SK_ENABLE 0 = some ⟨O.SK_ENABLE, [0], .bool, .rw, 0, [.sk], .any⟩ := by
  decide +kernel

/-- A spill port that does not run, is at the quota, or has no room in staging grants nothing (R351). -/
theorem Fab.skGrant_none {f : Fab} {n q want : Nat} (h : (f.skOf n).st ≠ .run ∨
    f.oT (qidTile n q) O.SPILL_QUOTA ≤ ((f.skOf n).q q).held ∨ 768 ≤ (f.skOf n).staged) :
    f.skGrant n q want = (f, 0) := by
  have hroom : 768 ≤ (f.skOf n).staged → min (min 128 want) (768 - (f.skOf n).staged) = 0 := by omega
  exact if_pos (h.imp_right (Or.imp_right hroom))

/-- The SPILL that a running port takes (R350, R351). -/
theorem spillReceive_running {s : State} {n q : Nat} {g : Fab} {p : Packet} (e : StageErr)
    (htake : s.fab.skTake n .spill = (g, some p)) (hqid : envQid p = some q) (hrun : (g.skOf n).st = .run) :
    (e = .clean → exec (.spillReceive n e) s = .next (s.onFab (fun _ =>
      ((g.modSkQ n q (fun x => { x with grant := x.grant - p.length })).skStore n q (envSeq p) (unwrap p)).skPump n q))) ∧
    (∀ a, e = .queue a → exec (.spillReceive n e) s = .next (s.onFab (fun _ =>
      ((g.modSkQ n q (fun x => { x with grant := x.grant - p.length })).raise (famKey .sk n) 7 (a % 2 ^ 20) 1
        0).skAbandon n q true))) := by
  refine ⟨fun he => next_onFab ?_, fun a he => next_onFab ?_⟩ <;>
    simp only [htake, hqid, hrun, he, Fab.stageUe, ne_eq, not_true_eq_false, if_false]

/-- A command that may be presented has less than 32 of its kind before it, and a read fits in read staging (R358). -/
theorem Sk.mayPresent_limits {k : Sk} {b : SkCmd} (h : k.mayPresent b = true) :
    (k.outs.filter (fun x => x.write == b.write)).length < 32 ∧ (b.write = false → k.readBusy + b.n ≤ 640) := by
  rw [Sk.mayPresent, Bool.and_eq_true, Bool.or_eq_true, decide_eq_true_eq, decide_eq_true_eq] at h
  obtain ⟨hkind, hroom⟩ := h
  refine ⟨hkind, fun hread => ?_⟩
  rcases hroom with hwrite | hroom
  · exact absurd hwrite (by rw [hread]; exact Bool.false_ne_true)
  · split at hroom <;> omega

/-- The command that goes, by what may be presented (R357). -/
theorem Sk.pickCmd_of_mayPresent {k : Sk} (a : SkCmd) {b : SkCmd} (l : List SkCmd) (h : k.mayPresent b = true) :
    k.pickCmd [] (b :: l) = some b ∧
    (k.mayPresent a = false → a.qid ≠ b.qid → k.pickCmd [] (a :: b :: l) = some b) ∧
    (k.mayPresent a = false → a.qid = b.qid → k.pickCmd [] [a, b] = none) := by
  refine ⟨?_, fun ha hqid => ?_, fun ha hqid => ?_⟩
  · simp [Sk.pickCmd, h]
  · simp [Sk.pickCmd, h, ha, Ne.symm hqid]
  · simp [Sk.pickCmd, ha, hqid]

/-- Settles O31. -/
theorem spillPortMemory : Obligations.SpillPortMemory := by
  refine ⟨⟨?_, ?_, ?_, ?_, ?_, ?_⟩, ?_, ?_, ?_, ?_, ?_, ?_, ?_, ?_, ?_, ?_⟩
  · intro s n q g p htake hqid
    refine ⟨fun hst => next_onFab ?_, fun hst => next_onFab ?_⟩
    · simp only [htake, hqid, hst, if_true]
    · simp only [htake, hqid, if_neg hst]
  · intro f n q want h
    exact Fab.skGrant_none h
  · intro s n q g p e htake hqid hrun
    exact spillReceive_running e htake hqid hrun
  · intro s n q g p htake hqid
    refine ⟨fun hst => next_onFab ?_, fun hst => next_onFab ?_⟩
    · simp only [htake, hqid, if_pos hst]
    · simp only [htake, hqid, hst, ne_eq, not_true_eq_false, if_false]
  · intro f n q k left hpull hready hunread
    simp only [Fab.skServe, hpull, hready, hunread, if_true]
  · intro f n q k left seq p hpull hready hunread
    simp only [Fab.skServe, Fab.lenAfter, hpull, hready, hunread, if_true, Option.any_none, Bool.not_false,
      Bool.false_eq_true, if_false]
  · intro s n c hpick hrun hmem hcred
    refine ⟨_, rfl, next_onFab ?_⟩
    simp only [hpick, hrun, hmem, ne_eq, not_true_eq_false, Nat.not_lt.mpr hcred, or_self, if_false]
  · intro k a b l hb
    obtain ⟨hfront, hother, hsame⟩ := Sk.pickCmd_of_mayPresent a l hb
    exact ⟨hfront, hother, hsame, Sk.mayPresent_limits hb⟩
  · intro s n hmem hrst
    refine next_onFab ?_
    simp only [hmem, hrst, Bool.not_false, Bool.and_self, if_true]
  · intro s n q data d c beats g hdata hfind hwhy hg hread hmore
    refine next_onFab ?_
    have hlen : (beats ++ [(data, false)]).length ≠ d % 64 := by
      rwa [List.length_append]
    simp only [hfind, Nat.mod_eq_of_lt hdata, parityFails_parity640, hwhy, ← hg, hread, if_true, if_neg hlen,
      bne_self_eq_false, Option.isSome_none, Bool.or_self, Bool.false_eq_true, if_false]
  · intro s n q
    exact next_onFab rfl
  · intro s n q c g hans
    refine next_onFab ?_
    simp only [hans, skInfo, b2n]
    rfl
  · intro s n c l houts hrun hlate
    refine next_onFab ?_
    simp only [houts, hrun, hlate, and_self, if_true]
  · intro s n
    refine ⟨next_onFab ?_, _, rfl, next_onFab ?_⟩
    · simp only [Bool.true_and, if_true]
    · simp only [Bool.false_and, Bool.false_eq_true, if_false]
  · intro s who n v hn
    have hrec : s.fab.objWrite who .sk n O.SK_RECOVER 0 (fun f => f.wSkRecover n v) =
        Fab.done (s.fab.wSkRecover n v) who := Fab.objWrite_eq hn objRow_skRecover
    have hen : s.fab.objWrite who .sk n O.SK_ENABLE 0 (fun f => f.wSkEnable n v) =
        Fab.done (s.fab.wSkEnable n v) who := Fab.objWrite_eq hn objRow_skEnable
    refine ⟨fun hst hmem hv => ?_, fun hbar => ?_, fun hv hmem hch => ?_, fun hv hbar => ?_⟩
    · refine next_onFab (hrec.trans ?_)
      simp only [Fab.wSkRecover, hst, hmem, hv, ne_eq, not_true_eq_false, or_self, if_false]
      rfl
    · refine next_onFab (hrec.trans ?_)
      rw [Fab.wSkRecover, if_pos (hbar.imp_right (by simp))]
      rfl
    · refine next_onFab (hen.trans ?_)
      simp only [Fab.wSkEnable, if_pos hv, hmem, beq_eq_false_iff_ne.mpr hch, Bool.not_true, Bool.or_self,
        Bool.false_eq_true, if_false]
      rfl
    · refine next_onFab (hen.trans ?_)
      have hbar' : (!(s.fab.skOf n).memReady || s.fab.oK n O.SK_CHUNKS == 0) = true := by simpa using hbar
      simp only [Fab.wSkEnable, if_pos hv, hbar', if_true]
      rfl
  · intro s n hrec
    exact next_onFab (if_pos hrec)

end Sys2Proof.Machine

/-! Proofs: frames at a crossing (R370 to R378, R394). -/

namespace Sys2Proof.Machine

/-! ## A frame that arrives at a crossing -/

/-- The framing pattern of a lane shows the lane numbers that it was built of (R378). -/
theorem judgeRun_framingWord {lane skew log phys : Nat} (k : Nat) (hskew : skew ≤ 2) (hlog : log < 32)
    (hphys : phys < 32) (h : log ≠ k ∨ phys ≠ lane) :
    judgeRun ⟨lane, skew, framingWord log phys⟩ k = .wrong log phys := by
  have hword : framingWord log phys =
      0xF628 * 65536 + (log * 2048 + phys * 64 + popcount (log * 32 + phys) 10 % 2) := by
    simp only [framingWord, Nat.mod_eq_of_lt hlog, Nat.mod_eq_of_lt hphys]
    omega
  have hlogical : field (framingWord log phys) 11 5 = log := by
    rw [hword, field]
    omega
  have hphysical : field (framingWord log phys) 6 5 = phys := by
    rw [hword, field]
    omega
  have hmod : framingWord log phys % 2 ^ 32 = framingWord log phys := by
    rw [hword]
    omega
  simp only [judgeRun, hlogical, hphysical, hmod, ne_eq, not_true_eq_false, or_false, if_neg (Nat.not_lt.mpr hskew)]
  exact if_neg (by omega)

/-- A run whose skew is too large shows that alignment is lost (R378). -/
theorem judgeRun_of_skew {lane skew w : Nat} (k : Nat) (h : 2 < skew) : judgeRun ⟨lane, skew, w⟩ k = .lost :=
  if_pos (Or.inl h)

theorem findIdx?_of_contains {l : List Nat} {a : Nat} (h : l.contains a = true) :
    ∃ k, l.findIdx? (· == a) = some k := by
  rw [← Option.isSome_iff_exists, List.findIdx?_isSome, List.any_eq_true]
  exact ⟨a, by simpa using h, beq_self_eq_true a⟩

/-- No run of framing bits ended with the frame. -/
theorem Fab.judgeFraming_nil (g : Fab) (ss c : Nat) : g.judgeFraming ss c [] = none := rfl

/-- Lane numbers that disagree with the lane map (R378). -/
theorem Fab.judgeFraming_wrong {g : Fab} {ss c lane k skew log phys : Nat}
    (hk : (g.xs ss c).rxUsed.findIdx? (· == lane) = some k) (hskew : skew ≤ 2) (hlog : log < 32) (hphys : phys < 32)
    (h : log ≠ k ∨ phys ≠ lane) :
    g.judgeFraming ss c [⟨lane, skew, framingWord log phys⟩] =
      some ((g.seamRaise ss c lane false 7 (k + log * 32 + phys * 1024)).retrain ss c false) := by
  simp only [Fab.judgeFraming, CrossSide.judgeRuns, List.filterMap_cons, List.filterMap_nil, hk, Option.map_some,
    judgeRun_framingWord k hskew hlog hphys h, List.findSome?_cons]

/-- Alignment lost on two lanes (R378). -/
theorem Fab.judgeFraming_lost {g : Fab} {ss c a b wa wb sa sb : Nat} (ha : (g.xs ss c).rxUsed.contains a = true)
    (hb : (g.xs ss c).rxUsed.contains b = true) (hsa : 2 < sa) (hsb : 2 < sb) :
    g.judgeFraming ss c [⟨a, sa, wa⟩, ⟨b, sb, wb⟩] = some (g.retrain ss c false) := by
  obtain ⟨ka, hka⟩ := findIdx?_of_contains ha
  obtain ⟨kb, hkb⟩ := findIdx?_of_contains hb
  simp only [Fab.judgeFraming, CrossSide.judgeRuns, List.filterMap_cons, List.filterMap_nil, hka, hkb, Option.map_some,
    judgeRun_of_skew ka hsa, judgeRun_of_skew kb hsb, List.findSome?_cons, List.findSome?_nil]
  rfl

/-- A frame with up to nine wrong symbols is the frame as it was sent (R374). -/
theorem Frame.decoded_of_le {fr : Frame} {flips : List Nat} (h : (wrongSymbols (flipWord flips)).length ≤ 9) :
    fr.decoded flips = some (fr, wrongSymbols (flipWord flips)) :=
  if_pos h

theorem Frame.decoded_clean (fr : Frame) : fr.decoded [] = some (fr, []) := by
  have hnone : wrongSymbols (flipWord []) = [] := by decide
  rw [Frame.decoded_of_le (by rw [hnone]; exact Nat.zero_le 9), hnone]

section
variable {s : State} {ss c : Nat} {fr : Frame} {l : List Frame} {g : Fab} {e : FrameErr}

/-- A good frame that does not change AWAKE (R376, R377). -/
theorem Fab.goodFrame_of_awake (h : fr.awake = (g.xs ss c).awakeIn) :
    (fr.fseq = none → g.goodFrame ss c fr = g.takeAck ss c fr) ∧
    (fr.fseq = some ((g.takeAck ss c fr).xs ss c).exp →
      g.goodFrame ss c fr = (g.takeAck ss c fr).acceptFrame ss c fr) ∧
    (∀ n, fr.fseq = some n → n ≠ ((g.takeAck ss c fr).xs ss c).exp →
      g.goodFrame ss c fr = (g.takeAck ss c fr).refuseFrame ss c fr) := by
  refine ⟨fun hnull => ?_, fun hexp => ?_, fun n hn hne => ?_⟩
  · simp only [Fab.goodFrame, h, bne_self_eq_false, Bool.false_and, Bool.false_eq_true, if_false, hnull]
  · simp only [Fab.goodFrame, h, bne_self_eq_false, Bool.false_and, Bool.false_eq_true, if_false, hexp, if_true]
  · simp only [Fab.goodFrame, h, bne_self_eq_false, Bool.false_and, Bool.false_eq_true, if_false, hn, if_neg hne]

/-- A frame at a direction in a running state whose framing is wrong (R378). -/
theorem seamFrameReceive_misframed (hair : (s.fab.xs ss c).air = fr :: l)
    (hg : g = s.fab.modX ss c (fun x => { x with air := l })) (hrun : (g.xs ss c).rx.runs = true) {h : Fab}
    (hframe : g.judgeFraming ss c e.runs = some h) :
    exec (.seamFrameReceive ss c e) s = .next (s.onFab (fun _ => h)) := by
  refine next_onFab ?_
  simp only [hair, ← hg, hrun, hframe, Bool.not_true, Bool.false_eq_true, if_false]

/-- A frame at a direction in a running state for which the code finds a codeword (R374, R377). -/
theorem seamFrameReceive_decoded (hair : (s.fab.xs ss c).air = fr :: l)
    (hg : g = s.fab.modX ss c (fun x => { x with air := l })) (hrun : (g.xs ss c).rx.runs = true) {fr' : Frame}
    {syms : List Nat} (hframe : g.judgeFraming ss c e.runs = none) (hcode : fr.decoded e.flips = some (fr', syms)) :
    exec (.seamFrameReceive ss c e) s = .next (s.onFab (fun _ => (g.frameCorr ss c syms).goodFrame ss c fr')) := by
  refine next_onFab ?_
  simp only [hair, ← hg, hrun, hframe, hcode, Bool.not_true, Bool.false_eq_true, if_false]

/-- A frame at a direction in a running state for which the code finds none (R374). -/
theorem seamFrameReceive_undecoded (hair : (s.fab.xs ss c).air = fr :: l)
    (hg : g = s.fab.modX ss c (fun x => { x with air := l })) (hrun : (g.xs ss c).rx.runs = true)
    (hframe : g.judgeFraming ss c e.runs = none) (hcode : fr.decoded e.flips = none) :
    exec (.seamFrameReceive ss c e) s =
      .next (s.onFab (fun _ => (g.bump .seam ss O.SEAM_FEC_UE c).refuseFrame ss c fr)) := by
  refine next_onFab ?_
  simp only [hair, ← hg, hrun, hframe, hcode, Bool.not_true, Bool.false_eq_true, if_false]

/-- A clean frame at a direction in a running state (R377). -/
theorem seamFrameReceive_clean (hair : (s.fab.xs ss c).air = fr :: l)
    (hg : g = s.fab.modX ss c (fun x => { x with air := l })) (hrun : (g.xs ss c).rx.runs = true) :
    exec (.seamFrameReceive ss c .clean) s = .next (s.onFab (fun _ => g.goodFrame ss c fr)) := by
  have hnone : g.frameCorr ss c [] = g := rfl
  rw [seamFrameReceive_decoded (e := .clean) hair hg hrun (Fab.judgeFraming_nil g ss c) (Frame.decoded_clean fr), hnone]

end

/-- Settles O32. -/
theorem seamFrames : Obligations.SeamFrames := by
  intro s ss c fr l g hair hg
  refine ⟨fun hrun e => ?_, fun hrun => ?_⟩
  · refine next_onFab ?_
    simp only [hair, ← hg, hrun, Bool.not_false, if_true]
  · refine ⟨fun flips hfew => ?_, fun flips hmany => ⟨_, rfl, ?_⟩, fun lane k skew log phys flips hk hskew hlog hphys h => ?_,
      fun a b wa wb sa sb flips ha hb _ hsa hsb => ?_, fun hawake => ?_⟩
    · exact seamFrameReceive_decoded hair hg hrun (Fab.judgeFraming_nil g ss c) (Frame.decoded_of_le hfew)
    · have hdecoded : fr.decoded flips = (Config.rsBeyond (codewordOf fr.message ^^^ flipWord flips)).map (fun m =>
          (Frame.ofMessage m fr.gen fr.seen,
            wrongSymbols ((codewordOf fr.message ^^^ flipWord flips) ^^^ codewordOf m))) :=
        if_neg (Nat.not_le.mpr hmany)
      cases hbeyond : Config.rsBeyond (codewordOf fr.message ^^^ flipWord flips) with
      | none =>
        rw [hbeyond] at hdecoded
        exact seamFrameReceive_undecoded hair hg hrun (Fab.judgeFraming_nil g ss c) hdecoded
      | some m =>
        rw [hbeyond] at hdecoded
        exact seamFrameReceive_decoded hair hg hrun (Fab.judgeFraming_nil g ss c) hdecoded
    · exact seamFrameReceive_misframed hair hg hrun (Fab.judgeFraming_wrong hk hskew hlog hphys h)
    · exact seamFrameReceive_misframed hair hg hrun (Fab.judgeFraming_lost ha hb hsa hsb)
    · obtain ⟨hnull, hexp, hother⟩ := Fab.goodFrame_of_awake hawake
      rw [seamFrameReceive_clean hair hg hrun]
      refine ⟨fun h => ?_, fun h => ?_, fun n hn hne => ?_⟩
      · rw [hnull h]
      · rw [hexp h]
      · rw [hother n hn hne]

end Sys2Proof.Machine

/-! Proofs: training of a crossing (R380 to R382, R387, R394). -/

namespace Sys2Proof.Machine

/-! ## Training of a crossing -/

/-- What `judgeWrite` answers for a value that the row takes (R29). -/
theorem judgeWrite_of_row {sc : Scope} {idx sub v x : Nat} {r : ObjRow} (hrow : objRow sc idx sub = some r)
    (hv : judgeValue r.ty r.rng sub v = some x) :
    judgeWrite sc idx sub v = some (x, if isClipped r.ty r.rng v x then cClipped else cOk) := by
  simp only [judgeWrite, hrow, hv]

/-- The row of SEAM_RETRAIN (R534). -/
def seamRetrainRow : ObjRow := ⟨O.SEAM_RETRAIN, [0, 1, 2, 3, 4, 5, 6, 7], .u8, .wo, 0, [.seam], .clip 1 2 false⟩

theorem objRow_seamRetrain {c : Nat} (hc : c < 8) : objRow .seam O.SEAM_RETRAIN c = some seamRetrainRow := by
  have hall : ∀ c < 8, objRow .seam O.SEAM_RETRAIN c = some seamRetrainRow := by decide +kernel
  exact hall c hc

/-- A write of SEAM_RETRAIN on a crossing that is not DOWN trains both directions (R387). -/
theorem Fab.wRetrain_up {f : Fab} {ss c v k code : Nat} (hj : judgeWrite .seam O.SEAM_RETRAIN c v = some (k, code))
    (hup : f.routeState ss c ≠ 2) :
    f.wRetrain ss c v = ((f.retrainDir ss c (k == 2)).retrainDir (farSide ss) c (k == 2), code) := by
  simp only [Fab.wRetrain, hj, decide_eq_false hup, Bool.false_and, Bool.false_eq_true, if_false]

/-- What SEAM_RETRAIN makes of a value: 1 and 2 as they are, a larger one clipped to 2 (R387). -/
theorem judgeWrite_seamRetrain {c v : Nat} (hc : c < 8) (hv : 1 ≤ v) :
    judgeWrite .seam O.SEAM_RETRAIN c v = some (min v 2, if 2 < v then cClipped else cOk) := by
  have hval : judgeValue seamRetrainRow.ty seamRetrainRow.rng c v = some (min v 2) := by
    simp only [judgeValue, seamRetrainRow, clipTo, Bool.false_eq_true, false_and, if_false, if_neg (Nat.not_lt.mpr hv)]
    split <;> congr 1 <;> omega
  rw [judgeWrite_of_row (objRow_seamRetrain hc) hval]
  have hclip : isClipped seamRetrainRow.ty seamRetrainRow.rng v (min v 2) = decide (2 < v) := by
    simp only [isClipped, seamRetrainRow, decide_eq_decide]
    omega
  rw [hclip]
  simp only [decide_eq_true_eq]

theorem land_mask30 {n : Nat} (h : n < 2 ^ 30) : n &&& (2 ^ 30 - 1) = n := by
  rw [Nat.and_two_pow_sub_one_eq_mod, Nat.mod_eq_of_lt h]

/-- Settles O34. -/
theorem seamTraining : Obligations.SeamTraining := by
  refine ⟨?_, ?_, ?_, ?_, ?_⟩
  · intro s ss c los lol bad eqs tr tx hrx htx hlos hlol hbad
    refine ⟨_, fun _ _ => rfl, fun hph => ?_, fun hph => ?_, fun hph pll => ?_, fun hph pll => ?_, fun hph pll hmany => ?_,
      fun hph pll => ?_⟩
    · refine next_onFab ?_
      simp only [hrx, hph, Bool.false_eq_true, if_false]
    · refine next_onFab ?_
      simp only [hrx, hph, if_true]
    · refine next_onFab ?_
      simp only [hrx, hph, Nat.mod_eq_of_lt hlos, Nat.mod_eq_of_lt hlol]
    · refine next_onFab ?_
      simp only [hrx, hph, land_mask30 hbad]
    · refine next_onFab ?_
      simp only [hrx, hph, htx, land_mask30 hbad, if_pos hmany]
    · refine next_onFab ?_
      simp only [hrx, hph, htx]
  · intro s ss c k excl l hsb
    refine next_onFab ?_
    simp only [Fab.takeSb, hsb]
  · intro s ss c arg l g hcmd hg hrun
    have htake : exec (.seamRetrainCmd ss c) s = .next (s.onFab (fun _ =>
        if arg = 1 then g.startTraining (farSide ss) c false true true else g.retrain (farSide ss) c (arg == 2))) := by
      refine next_onFab ?_
      simp only [Fab.takeCmd, hcmd, ← hg, hrun, if_true, Bool.not_true, Bool.false_eq_true, if_false]
    refine ⟨fun harg => ?_, fun harg => ?_⟩
    · rw [htake, if_pos harg]
    · rw [htake, if_neg harg]
  · intro s who ss c v hss hc hv hup
    have hv2 : min v 2 = v := by omega
    have hj := judgeWrite_seamRetrain (v := v) hc (by omega)
    rw [hv2, if_neg (by omega)] at hj
    refine next_onFab ((Fab.objWrite_eq hss (objRow_seamRetrain hc)).trans ?_)
    rw [Fab.wRetrain_up hj hup]
    rfl
  · intro s who ss c v hss hc hv _ hup
    have hv2 : min v 2 = 2 := by omega
    have hj := judgeWrite_seamRetrain (v := v) hc (by omega)
    rw [hv2, if_pos hv] at hj
    refine next_onFab ((Fab.objWrite_eq hss (objRow_seamRetrain hc)).trans ?_)
    rw [Fab.wRetrain_up hj hup]
    rfl

end Sys2Proof.Machine

/-! Proofs: repairs of a lane (R385 to R389, R393). -/

namespace Sys2Proof.Machine

/-! ## Repairs of a lane -/

/-- A binary search over values of which the passing ones come first ends at the last that passes (R385). -/
theorem searchMax_spec {pass : Nat → Bool} {n lo hi : Nat} (hle : lo ≤ hi)
    (hmono : ∀ a b, lo < a → a ≤ b → b ≤ hi → pass b = true → pass a = true) (hn : hi - lo < 2 ^ n) :
    lo ≤ searchMax pass n lo hi ∧ searchMax pass n lo hi ≤ hi ∧
      (∀ a, lo < a → a ≤ searchMax pass n lo hi → pass a = true) ∧
      ∀ a, searchMax pass n lo hi < a → a ≤ hi → pass a = false := by
  induction n generalizing lo hi with
  | zero =>
    rw [searchMax]
    exact ⟨Nat.le_refl lo, hle, fun a h h' => by omega, fun a h h' => by omega⟩
  | succ n ih =>
    rw [Nat.pow_succ] at hn
    rw [searchMax]
    by_cases hend : hi ≤ lo
    · rw [if_pos hend]
      exact ⟨Nat.le_refl lo, hle, fun a h h' => by omega, fun a h h' => by omega⟩
    · rw [if_neg hend]
      have hm : lo < (lo + hi + 1) / 2 ∧ (lo + hi + 1) / 2 ≤ hi := by omega
      have hhigh : hi - (lo + hi + 1) / 2 < 2 ^ n := by omega
      have hlow : (lo + hi + 1) / 2 - 1 - lo < 2 ^ n := by omega
      dsimp only
      generalize (lo + hi + 1) / 2 = m at hm hhigh hlow
      obtain ⟨hlom, hmhi⟩ := hm
      by_cases hpass : pass m = true
      · rw [if_pos hpass]
        obtain ⟨hge, hle', hgood, hbad⟩ :=
          ih hmhi (fun a b ha hab hb => hmono a b (Nat.lt_trans hlom ha) hab hb) hhigh
        refine ⟨by omega, hle', fun a ha ha' => ?_, hbad⟩
        rcases Nat.lt_or_ge m a with hma | ham
        · exact hgood a hma ha'
        · exact hmono a m ha ham hmhi hpass
      · rw [if_neg hpass]
        obtain ⟨hge, hle', hgood, hbad⟩ :=
          ih (by omega) (fun a b ha hab hb => hmono a b ha hab (by omega)) hlow
        refine ⟨hge, by omega, hgood, fun a ha ha' => ?_⟩
        rcases Nat.lt_or_ge a m with ham | hma
        · exact hbad a ha (by omega)
        · exact Bool.eq_false_iff.mpr (fun h => hpass (hmono m a hlom hma ha' h))

/-- The one element that a filter keeps is the one that equals it. -/
theorem filter_contains_of_singleton {l : List Nat} {p : Nat → Bool} {a : Nat} (h : l.filter p = [a]) :
    l.filter (fun b => [a].contains b || ([] : List Nat).contains b) = [a] := by
  have ha : p a = true := (List.mem_filter.mp (h ▸ List.mem_singleton_self a : a ∈ l.filter p)).2
  have hsame : ∀ b ∈ l, ([a].contains b || ([] : List Nat).contains b) = ((b == a) && p b) := by
    intro b _
    by_cases hb : b = a
    · subst hb
      simp [ha]
    · simp [hb]
  rw [List.filter_congr hsame, ← List.filter_filter, h]
  simp

/-- The row of SEAM_REPAIR_LANE (R534). -/
def seamRepairLaneRow : ObjRow := ⟨O.SEAM_REPAIR_LANE, [0, 1, 2, 3, 4, 5, 6, 7], .u8, .wo, 0, [.seam], .clip 0 29 false⟩

theorem objRow_seamRepairLane {c : Nat} (hc : c < 8) : objRow .seam O.SEAM_REPAIR_LANE c = some seamRepairLaneRow := by
  have hall : ∀ c < 8, objRow .seam O.SEAM_REPAIR_LANE c = some seamRepairLaneRow := by decide +kernel
  exact hall c hc

/-- SEAM_REPAIR_LANE takes the number of a lane as it is (R388). -/
theorem judgeWrite_seamRepairLane {c v : Nat} (hc : c < 8) (hv : v < 30) :
    judgeWrite .seam O.SEAM_REPAIR_LANE c v = some (v, cOk) := by
  have hval : judgeValue seamRepairLaneRow.ty seamRepairLaneRow.rng c v = some v := by
    simp only [judgeValue, seamRepairLaneRow, clipTo, Bool.false_eq_true, false_and, if_false, Nat.not_lt_zero]
    rw [if_neg (by omega)]
  rw [judgeWrite_of_row (objRow_seamRepairLane hc) hval]
  simp only [isClipped, seamRepairLaneRow, ne_eq, not_true_eq_false, decide_false, Bool.false_eq_true, if_false]

/-- The oldest lane command at a side is the one that an instruction takes (R386). -/
theorem Fab.takeCmd_of_front {f : Fab} {ss c arg : Nat} {cmd : LaneCmd} {l : List (LaneCmd × Nat)}
    (h : (f.xs ss c).cmdIn = (cmd, arg) :: l) (g : Fab → Nat → Fab) :
    f.takeCmd ss c cmd g = g (f.modX ss c (fun x => { x with cmdIn := l })) arg := by
  simp only [Fab.takeCmd, h, if_true]

/-- Settles O35. -/
theorem seamRepairs : Obligations.SeamRepairs := by
  refine ⟨?_, ?_, ?_, ?_, ?_, ?_, ?_, ?_⟩
  · intro s ss c tog hrun hdue
    refine next_onFab ?_
    generalize List.range 30 = lanes
    simp only [hrun, decide_eq_true hdue, Bool.and_self, if_true]
  · intro pass n lo hi hle hmono hn
    exact searchMax_spec hle hmono hn
  · intro s ss c l los hrun hsb hone
    refine next_onFab ?_
    have hnone : ∀ used : List Nat, used.filter (fun k => bit 0 k) = [] := by
      intro used
      simp [bit]
    have hsb' : ∀ g, (s.fab.modX ss c g).sbLost ss = false := by
      intro g
      rw [Fab.sbLost, Fab.modX_sideOf]
      exact hsb
    simp only [hsb', hrun, hone, hnone, filter_contains_of_singleton hone, Nat.or_zero, Bool.false_and, Bool.not_true,
      Bool.false_eq_true, if_false, List.foldl_cons, List.foldl_nil]
  · intro s ss c lane l g hcmd hg
    refine ⟨fun hbusy => next_onFab ?_, fun hfree => next_onFab ?_⟩
    · simp only [Fab.takeCmd_of_front hcmd, ← hg, Option.isSome_iff_ne_none.mpr hbusy, if_true]
    · simp only [Fab.takeCmd_of_front hcmd, ← hg, hfree, Option.isSome_none, Bool.false_eq_true, if_false]
  · intro s ss c r q hrx hready htx hlane
    refine next_onFab ?_
    simp only [hrx, hready, htx, hlane, Option.map_some, bne_self_eq_false, Bool.or_self, Bool.false_eq_true, if_false,
      if_true]
  · intro s ss c lane q l g hcmd hg htx hlane
    refine ⟨_, rfl, next_onFab ?_⟩
    simp only [Fab.takeCmd_of_front hcmd, ← hg, htx, hlane, Option.map_some, if_true]
  · intro s ss c lane r l g hcmd hg hrx hlane
    refine ⟨_, rfl, fun hspare => next_onFab ?_⟩
    simp only [Fab.takeCmd_of_front hcmd, ← hg, hrx, hlane, if_true,
      List.isEmpty_eq_false_iff.mpr hspare, Bool.false_eq_true, if_false]
  · intro s who ss c v hss hc hv
    have hj := judgeWrite_seamRepairLane hc hv
    have hwrite : s.fab.objWrite who .seam ss O.SEAM_REPAIR_LANE c (fun f => f.wRepairLane ss c v) =
        Fab.done (s.fab.wRepairLane ss c v) who := Fab.objWrite_eq hss (objRow_seamRepairLane hc)
    refine ⟨fun hrun hin => next_onFab (hwrite.trans ?_), fun hout => next_onFab (hwrite.trans ?_)⟩
    · simp only [Fab.wRepairLane, hj, hrun, List.contains_iff_mem.mpr hin, Bool.and_self, if_true]
      rfl
    · simp only [Fab.wRepairLane, hj, List.contains_eq_mem, decide_eq_false hout, Bool.and_false, Bool.false_eq_true,
        if_false]
      rfl

end Sys2Proof.Machine

/-! Proofs: sleep and wake of a crossing (R396 to R403). -/

namespace Sys2Proof.Machine

/-! ## Sleep and wake of a crossing direction -/

/-- A sideband message that its instruction takes (R402). -/
theorem Fab.takeSb_of_front {f : Fab} {ss : Nat} {m : SbMsg} {l : List SbMsg} (h : (f.sideOf ss).sb = m :: l)
    (g : Fab → SbMsg → Option Fab) :
    f.takeSb ss g = (g (f.modSide ss (fun x => { x with sb := l })) m).getD f := by
  simp only [Fab.takeSb, h]
  cases g (f.modSide ss (fun x => { x with sb := l })) m <;> rfl

/-- The transmit PLL of a side stops when no lane of a crossing is left on (R399). -/
theorem Fab.pllSettle_dark {f : Fab} {ss : Nat} (hpll : (f.sideOf ss).pll = true)
    (h : ∀ k, k < 8 → (f.xs ss k).tx.dead = true ∨ ((f.xs ss k).tx = .deep ∧ (f.xs ss k).txOn = false)) :
    f.pllSettle ss = f.modSide ss (fun x => { x with pll := false }) := by
  have hall : (List.range 8).all (fun c => (f.xs ss c).txDark) = true := by
    refine List.all_eq_true.mpr (fun k hk => ?_)
    rcases h k (List.mem_range.mp hk) with hdead | ⟨htx, hon⟩
    · rw [CrossSide.txDark, hdead, Bool.true_or]
    · rw [CrossSide.txDark, htx, hon]
      rfl
  rw [Fab.pllSettle, hpll, hall]
  rfl

/-- It goes on while a direction of the seam is out of DEEP (R399). -/
theorem Fab.pllSettle_lit {f : Fab} {ss k : Nat} (hk : k < 8) (hlit : (f.xs ss k).tx.dead = false)
    (hdeep : (f.xs ss k).tx ≠ .deep) : f.pllSettle ss = f := by
  have hnot : ¬(List.range 8).all (fun c => (f.xs ss c).txDark) = true := by
    intro hall
    have hdark := List.all_eq_true.mp hall k (List.mem_range.mpr hk)
    rw [CrossSide.txDark, hlit, beq_eq_false_iff_ne.mpr hdeep] at hdark
    exact Bool.false_ne_true hdark
  rw [Fab.pllSettle, Bool.eq_false_iff.mpr hnot, Bool.and_false]
  rfl

/-- The lanes in use of a direction that sleeps (R397, R399). -/
theorem CrossSide.txPower_asleep {x : CrossSide} {l : Nat} (hl : l ∈ lanesUsed x.txExcl x.txHalf) :
    (x.tx = .sleep → x.txPower l = if x.txOn then 2 else 1) ∧ (x.tx = .deep → x.txPower l = if x.txOn then 2 else 0) := by
  have hused : (lanesUsed x.txExcl x.txHalf).contains l = true := List.contains_iff_mem.mpr hl
  refine ⟨fun htx => ?_, fun htx => ?_⟩
  · simp only [CrossSide.txPower, htx, hused, if_true]
  · simp only [CrossSide.txPower, htx, hused, Bool.true_and]

/-- A direction in SLEEP or DEEP is not in a running state (R396). -/
theorem asleep_beq {d : DirSt} (h : d = .sleep ∨ d = .deep) : (d == .sleep || d == .deep) = true := by
  rcases h with h | h <;> subst h <;> rfl

/-- Settles O36. -/
theorem seamSleep : Obligations.SeamSleep := by
  refine ⟨?_, ?_, ?_, ?_, ?_, ?_, ?_, ?_, ?_, ?_, ?_⟩
  · intro s ss c hrun hreq hidle hlast hwire hmode hsb hsbf
    refine next_onFab ?_
    simp only [hrun, hreq, hlast, hwire, hsb, hsbf, bne_iff_ne.mpr hidle, bne_iff_ne.mpr hmode, decide_true,
      Bool.not_false, List.isEmpty_nil, Bool.and_self, if_true]
  · intro s ss c l g hsb hg hrun
    refine ⟨fun ⟨hreplay, hfifo, hcreds, hcmds, hknock⟩ => next_onFab ?_, fun hbusy => next_onFab ?_⟩
    · simp only [Fab.takeSb_of_front hsb, ← hg, hrun, hreplay, hfifo, hcreds, hcmds, hknock, List.isEmpty_nil,
        Option.isNone_none, Bool.and_self, Bool.not_true, Bool.false_eq_true, if_false, if_true, Option.getD_some]
    · have hnot : ((g.xs ss c).replay.isEmpty && (g.xs ss c).fifo.isEmpty && (g.xs ss c).creds.isEmpty &&
          (g.xs ss c).cmds.isEmpty && (g.seamOut ss c).knock.isNone) = false := by
        rw [Bool.eq_false_iff]
        simp only [ne_eq, Bool.and_eq_true, List.isEmpty_iff, Option.isNone_iff_eq_none]
        rintro ⟨⟨⟨⟨hreplay, -⟩, hcreds⟩, hcmds⟩, hknock⟩
        rcases hbusy with h | h | h | h
        · exact h hreplay
        · exact h hcreds
        · exact h hcmds
        · exact h hknock
      simp only [Fab.takeSb_of_front hsb, ← hg, hrun, hnot, Bool.not_true, Bool.false_eq_true, if_false,
        Option.getD_some]
  · intro s ss c l g hsb hg hrun hreq hair
    refine next_onFab ?_
    simp only [Fab.takeSb_of_front hsb, ← hg, hrun, hreq, hair, List.isEmpty_nil, Bool.not_true, Bool.and_false,
      Bool.and_self, Bool.false_eq_true, if_false, if_true, Option.getD_some]
  · intro s ss c hrx htx hidle hdue hsb hsbf
    refine ⟨_, rfl, next_onFab ?_⟩
    simp only [hrx, htx, hdue, hsb, hsbf, bne_iff_ne.mpr hidle, beq_self_eq_true, decide_true, Bool.not_false,
      Bool.and_self, if_true]
  · intro f ss hpll
    exact ⟨Fab.pllSettle_dark hpll, fun k hk hlit hdeep => Fab.pllSettle_lit hk hlit hdeep⟩
  · intro x l hl
    exact CrossSide.txPower_asleep hl
  · intro s ss c hawake htx hwants
    refine next_onFab (if_pos ?_)
    have hw : ((s.fab.seamOut ss c).knock.isSome || !(s.fab.xs ss c).creds.isEmpty || (s.fab.xs ss c).ackOwed ||
        !(s.fab.xs ss c).cmds.isEmpty) = true := by
      simp only [Bool.or_eq_true, Option.isSome_iff_ne_none, Bool.not_eq_true', List.isEmpty_eq_false_iff]
      rcases hwants with h | h | h | h
      · exact .inl (.inl (.inl h))
      · exact .inl (.inl (.inr h))
      · exact .inl (.inr h)
      · exact .inr h
    simp only [hw, hawake, asleep_beq htx, Bool.not_false, Bool.and_self, Bool.true_or]
  · intro s ss c l hsb
    refine next_onFab ?_
    simp only [Fab.takeSb_of_front hsb, Option.getD_some]
  · intro f ss c g hg
    refine ⟨fun hrx => ?_, fun hrx => ?_⟩
    · simp only [Fab.wakeDir, ← hg, hrx]
    · simp only [Fab.wakeDir, ← hg, hrx]
  · intro s ss c b l hsb
    refine next_onFab ?_
    simp only [Fab.takeSb_of_front hsb, Option.getD_some]
  · intro s ss c lanes hfell hsb hrx
    refine next_onFab ?_
    have hsb' : ∀ g, (s.fab.modX ss c g).sbLost ss = true := by
      intro g
      rw [Fab.sbLost, Fab.modX_sideOf]
      exact hsb
    simp only [bne_iff_ne.mpr hfell, hsb', asleep_beq hrx, Bool.and_self, if_true]

end Sys2Proof.Machine

/-! Proofs: messages of the sideband (R392, R395, R402 to R405). -/

namespace Sys2Proof.Machine

/-! ## Messages of the sideband -/

theorem Fab.modSide_congr {f : Fab} {ss : Nat} {g g' : SeamSide → SeamSide} (h : g (f.sideOf ss) = g' (f.sideOf ss)) :
    f.modSide ss g = f.modSide ss g' := by
  simp only [Fab.modSide, h]

/-- Both lanes of a sideband are lost (R403). -/
theorem Fab.sbLost_eq_true {f : Fab} {ss : Nat} :
    f.sbLost ss = true ↔ (f.sideOf ss).lock0 = false ∧ (f.sideOf ss).lock1 = false := by
  simp [Fab.sbLost]

/-- A direction that runs and is not in reset makes the loss of its PLL a loss in service (R392). -/
theorem Fab.pllBusy {f : Fab} {ss c : Nat} (hc : c < 8) (htx : (f.xs ss c).tx = .run)
    (hrst : (f.xs ss c).inRst = false) :
    ((List.range 8).any (fun c => !((f.xs ss c).tx.dead || (f.xs ss c).tx == .deep))) = true ∧
      ((List.range 8).all (fun c => (f.xs ss c).inRst)) = false := by
  refine ⟨List.any_eq_true.mpr ⟨c, List.mem_range.mpr hc, ?_⟩, ?_⟩
  · rw [htx]
    rfl
  · refine Bool.eq_false_iff.mpr (fun hall => ?_)
    have hin := List.all_eq_true.mp hall c (List.mem_range.mpr hc)
    rw [hrst] at hin
    exact Bool.false_ne_true hin

/-- Lock regained on a lane, by the comma in the words received (R404). -/
theorem sidebandLockRegain_of_comma {s : State} {ss lane a : Nat} {words : List Nat} (g : SeamSide → SeamSide)
    (hcomma : commaAlign words = some a) (hbreak : bit s.fab.guyBreaks (breakBit ss) = false)
    (hg : ∀ x, (if lane = 0 then { x with lock0 := true, align0 := a }
      else if lane = 1 then { x with lock1 := true, align1 := a } else x) = g x)
    (hlock : (s.fab.modSide ss g).sbLost ss = false) :
    exec (.sidebandLockRegain ss (lane, words)) s =
      .next (s.onFab (fun f => (f.modSide ss g).endC (famKey .seam ss) 12)) := by
  refine next_onFab ?_
  have hkeep : ((s.fab.modSide ss g).endC (famKey .seam ss) 12).guyBreaks = s.fab.guyBreaks := by
    rw [Fab.endC, Fab.modFam_guyBreaks, Fab.modSide_guyBreaks]
  simp only [hcomma, hg, hlock, hkeep, hbreak, Bool.false_eq_true, if_false]

/-- Settles O37. -/
theorem seamMessages : Obligations.SeamMessages := by
  refine ⟨?_, ?_, ?_, ?_, ?_, ?_, ?_, ?_, ?_, ?_, ?_⟩
  · intro s ss c k st h l hsb
    refine next_onFab ?_
    simp only [Fab.takeSb_of_front hsb, Option.getD_some]
  · intro s ss c hdue
    refine next_onFab (if_pos ?_)
    rw [Bool.or_eq_true, bne_iff_ne, decide_eq_true_eq]
    exact hdue
  · intro s ss c hsame hearly
    refine next_same (if_neg ?_)
    rw [hsame, bne_self_eq_false, Bool.false_or, decide_eq_true_eq]
    exact Nat.not_le.mpr hearly
  · intro s ss lane hlane h0 h1
    refine next_onFab ?_
    have hwas : s.fab.sbLost ss = false := by
      rw [Fab.sbLost, h0]
      rfl
    have hlocks : s.fab.modSide ss (fun x => { x with lock0 := x.lock0 && lane != 0, lock1 := x.lock1 && lane != 1 }) =
        s.fab.modSide ss (fun x => { x with lock0 := lane != 0, lock1 := lane != 1 }) := by
      refine Fab.modSide_congr ?_
      rw [h0, h1, Bool.true_and, Bool.true_and]
    have hnow : (s.fab.modSide ss (fun x => { x with lock0 := lane != 0, lock1 := lane != 1 })).sbLost ss = false := by
      rw [Fab.sbLost, Fab.modSide_own]
      rcases (by omega : lane = 0 ∨ lane = 1) with rfl | rfl <;> rfl
    simp only [hwas, hlocks, hnow, Bool.not_false, Bool.and_false, Bool.false_eq_true, if_false]
  · intro s ss h0 h1
    refine next_onFab ?_
    have hwas : s.fab.sbLost ss = false := by
      rw [Fab.sbLost, h0, h1]
      rfl
    have hlocks : s.fab.modSide ss (fun x => { x with lock0 := x.lock0 && 1 != 0, lock1 := x.lock1 && 1 != 1 }) =
        s.fab.modSide ss (fun x => { x with lock0 := false, lock1 := false }) := by
      refine Fab.modSide_congr ?_
      rw [h0, h1]
      rfl
    have hnow : (s.fab.modSide ss (fun x => { x with lock0 := false, lock1 := false })).sbLost ss = true := by
      rw [Fab.sbLost_eq_true, Fab.modSide_own]
      exact ⟨rfl, rfl⟩
    generalize List.range 8 = all
    simp only [hwas, hlocks, hnow, Bool.not_false, Bool.and_self, if_true, seamInfo, b2n]
    simp only [Bool.false_eq_true, if_false, Nat.zero_add, Nat.zero_mul, Nat.add_zero]
  · intro s ss a words hcomma hbreak
    refine ⟨sidebandLockRegain_of_comma (fun x => { x with lock0 := true, align0 := a }) hcomma hbreak (fun x => rfl) ?_,
      sidebandLockRegain_of_comma (fun x => { x with lock1 := true, align1 := a }) hcomma hbreak (fun x => rfl) ?_⟩
    · rw [Fab.sbLost, Fab.modSide_own]
      rfl
    · rw [Fab.sbLost, Fab.modSide_own]
      exact Bool.and_false _
  · intro s ss lane words hcomma hsb
    refine next_same ?_
    simp only [hcomma, hsb, if_true]
  · intro s ss c hpll hc htx hrst
    refine next_onFab ?_
    have hxs : ∀ k, (s.fab.modSide ss (fun x => { x with pll := false })).xs ss k = s.fab.xs ss k :=
      fun k => Fab.modSide_xs _ _ _ _ _
    obtain ⟨hany, hall⟩ := Fab.pllBusy hc htx hrst
    simp only [hpll, hxs, Bool.not_true, Bool.false_eq_true, if_false]
    rw [hany, hall]
    generalize List.range 8 = all
    rfl
  · intro s ss c b l hsb
    refine next_onFab ?_
    simp only [Fab.takeSb_of_front hsb, Option.getD_some]
    have hhead : (if b then List.range 8 else [c]).headD 0 = if b then 0 else c := by
      cases b <;> rfl
    rw [hhead]
  · intro s ss c b l hsb
    refine next_onFab ?_
    simp only [Fab.takeSb_of_front hsb, Option.getD_some]
  · intro s ss c b l hsb
    refine next_onFab ?_
    simp only [Fab.takeSb_of_front hsb, Option.getD_some]

end Sys2Proof.Machine

/-! Proofs: time on the fabric (R410 to R412, R427, R430 to R435). -/

namespace Sys2Proof.Machine

/-! ## Time on the fabric -/

theorem Fab.modLan_congr {f : Fab} {d : Nat} {g g' : Lantern → Lantern} (h : g (f.lantern d) = g' (f.lantern d)) :
    f.modLan d g = f.modLan d g' := by
  simp only [Fab.modLan, h]

theorem crc8_lt (w n : Nat) : crc8 w n < 2 ^ 8 := by
  cases n with
  | zero => exact Nat.two_pow_pos 8
  | succ n =>
    rw [crc8]
    exact Nat.xor_lt_two_pow (by omega) (by omega)

theorem Lantern.tileTime_lt (l : Lantern) (t : Nat) : l.tileTime t < 2 ^ 80 :=
  Nat.mod_lt _ (Nat.two_pow_pos 80)

theorem Lantern.busState_lt (l : Lantern) : l.busState < 4 := by
  rw [Lantern.busState]
  split
  · decide
  · split <;> decide

/-- The fields of a frame made of a time, a rate, a state and a check (R434). -/
theorem frame_fields {time rate state crc : Nat} (ht : time < 2 ^ 80) (hr : rate < 2 ^ 32) (hs : state < 4)
    (hc : crc < 2 ^ 8) :
    field (time + rate * 2 ^ 80 + state * 2 ^ 112 + crc * 2 ^ 120) 0 80 = time ∧
    field (time + rate * 2 ^ 80 + state * 2 ^ 112 + crc * 2 ^ 120) 112 2 = state ∧
    field (time + rate * 2 ^ 80 + state * 2 ^ 112 + crc * 2 ^ 120) 120 8 = crc ∧
    field (time + rate * 2 ^ 80 + state * 2 ^ 112 + crc * 2 ^ 120) 0 120 = time + rate * 2 ^ 80 + state * 2 ^ 112 := by
  simp only [field, Nat.shiftRight_eq_div_pow]
  omega

/-- Settles O38. -/
theorem fabricTime : Obligations.FabricTime := by
  refine ⟨?_, ?_, ?_, ?_, ?_, ?_, ?_, ?_⟩
  · intro s d hdev
    refine next_onFab ?_
    simp only [List.foldl_nil, Fab.modLan_own, hdev]
    rfl
  · intro s d t x hdev hdie hx
    refine ⟨_, rfl, next_onFab ?_⟩
    have hput : s.fab.modLan d (fun l => { l with dev := SMap.set (fun _ => 0) l.dev t x }) =
        s.fab.modLan d (fun l => { l with dev := [(t, x)] }) := by
      refine Fab.modLan_congr ?_
      rw [hdev, SMap.set, if_neg hx]
      rfl
    simp only [List.foldl_cons, List.foldl_nil, hdie, if_true, hput, Fab.modLan_own]
    rfl
  · intro s d a amount hstep
    refine ⟨fun hdue => next_onFab ?_, fun hearly => next_same ?_⟩
    · simp only [hstep, if_neg (Nat.not_lt.mpr hdue)]
    · simp only [hstep, if_pos hearly]
  · intro s d hbar
    refine next_same (if_neg ?_)
    rcases hbar with hcold | hmarked
    · rw [hcold]
      exact Bool.false_ne_true
    · rw [decide_eq_false (Nat.not_lt.mpr hmarked), Bool.and_false]
      exact Bool.false_ne_true
  · intro s d hcold hnew
    refine next_onFab (if_pos ?_)
    rw [hcold, decide_eq_true hnew]
    rfl
  · intro s d t hout hdue
    refine next_onFab ?_
    simp only [hout, if_pos hdue]
  · intro s g hg
    exact next_onFab (if_neg (Nat.not_le.mpr hg))
  · intro l g
    have htime := (l.advance (256 * (l.inc : Int))).tileTime_lt (4 * g)
    have hframe : l.frame g = (l.advance (256 * (l.inc : Int))).tileTime (4 * g) +
        (2 * l.inc / 2 ^ 12 % 2 ^ 32) * 2 ^ 80 + l.busState * 2 ^ 112 +
        crc8 ((l.advance (256 * (l.inc : Int))).tileTime (4 * g) + (2 * l.inc / 2 ^ 12 % 2 ^ 32) * 2 ^ 80 +
          l.busState * 2 ^ 112) 120 * 2 ^ 120 := by
      rw [Lantern.frame, Int.natCast_mul]
      rfl
    obtain ⟨hfirst, hstate, hcrc, hbody⟩ := frame_fields htime (Nat.mod_lt (2 * l.inc / 2 ^ 12) (Nat.two_pow_pos 32))
      l.busState_lt (crc8_lt ((l.advance (256 * (l.inc : Int))).tileTime (4 * g) + (2 * l.inc / 2 ^ 12 % 2 ^ 32) * 2 ^ 80 +
        l.busState * 2 ^ 112) 120)
    rw [hframe]
    refine ⟨hfirst, hstate, ?_⟩
    rw [hcrc, hbody]

end Sys2Proof.Machine

/-! Proofs: exchanges of the Lanterns and the sources of the lead Lantern (R414 to R428, R442, R634). -/

namespace Sys2Proof.Machine

/-! ## Exchanges of the Lanterns and the sources of the lead Lantern -/

@[simp] theorem Fab.endC_oI (f : Fab) (key code idx : Nat) : (f.endC key code).oI idx = f.oI idx := rfl

/-- The row of LANTERN_SOURCE (R534). -/
def lanternSourceRow : ObjRow := ⟨O.LANTERN_SOURCE, [0], .enm, .rw, 0, [.inst], .enum 3⟩

theorem objRow_lanternSource : objRow .inst O.LANTERN_SOURCE 0 = some lanternSourceRow := by
  decide +kernel

/-- LANTERN_SOURCE takes its three values as they are (R420). -/
theorem Fab.wPlain_lanternSource (f : Fab) {v : Nat} (hv : v < 3) :
    f.wPlain .inst 0 O.LANTERN_SOURCE 0 v = (f.setO .inst 0 O.LANTERN_SOURCE 0 v, cOk) := by
  rw [Fab.wPlain_taken (x := v) 0 objRow_lanternSource (if_pos hv), isClipped_self]
  rfl

/-- A counted PPS_IN edge of D0 in PPS (R422). -/
theorem ppsInEdge_counted {s : State} {g : Fab} (hedge : (s.fab.lantern 0).edgeAt = none)
    (hg : g = (s.fab.bump .inst 0 O.PPS_IN_COUNT 0).modLan 0 (fun l => { l with
      ppsAt := ((s.fab.lantern 0).run).toNat, edgeAt := some ((s.fab.lantern 0).run).toNat
      ppsNs := stamp (s.fab.dieTime 0) / 65536 })) (hsrc : g.oI O.LANTERN_SOURCE = 1)
    (hst : ((g.endC (famLantern 0) 4).leadReturns.lantern 0).st ≠ .holdover) :
    exec (.ppsInEdge 0) s = .next (s.onFab (fun _ => (g.endC (famLantern 0) 4).leadReturns.servo
      (foldSecond ((stamp (s.fab.dieTime 0) : Int)
        - psUnits ((g.endC (famLantern 0) 4).leadReturns.oSigned O.PPS_DELAY))))) := by
  refine next_onFab ?_
  simp only [Fab.dieTime] at hg
  simp only [hedge, ne_eq, not_true_eq_false, Bool.false_eq_true, or_self, if_false, ← hg, Fab.lanEnd, Fab.endC_oI,
    hsrc, if_true, if_neg hst]
  rfl

/-- A TIME_RSP at a die that waits for one (R416, R417). -/
theorem timeRspReceive_waiting {s : State} {ss seq t2 dt st hops t1 n d : Nat} {l : List SbMsg} {g : Fab}
    (hsb : (s.fab.sideOf ss).sb = .timeRsp seq t2 dt st hops :: l) (hg : g = s.fab.modSide ss (fun x => { x with sb := l }))
    (hd : d = sideDie ss) (hreq : (g.lantern d).req = some (n, t1)) :
    (n ≠ seq ∨ hops = 3 ∨ (g.lantern d).upstream ≠ some (sideSeam ss) →
      exec (.timeRspReceive ss) s = .next (s.onFab (fun _ => g.missed d))) ∧
    (n = seq → hops ≠ 3 → (g.lantern d).upstream = some (sideSeam ss) →
      ∃ t4 asym : Int, t4 = stamp (g.dieTime d) ∧ asym = psUnits (toSigned (g.oD d O.LANTERN_ASYM (sideSeam ss)) 64) ∧
      ∃ theta delta : Int, theta = (((t2 : Int) - t1) - (t4 - (t2 + dt)) - asym) / 2 ∧ delta = ((t4 - t1) - dt) / 2 ∧
      exec (.timeRspReceive ss) s = .next (s.onFab (fun _ => (g.modLan d (fun l => { l with
        req := none, miss := 0, offset := theta, delay := (delta * 1000 / 65536).toNat % 2 ^ 32 })).follow d theta))) := by
  refine ⟨fun hbad => next_onFab ?_, fun hn hhops hup => ⟨_, _, rfl, rfl, _, _, rfl, rfl, next_onFab ?_⟩⟩
  · simp only [Fab.takeSb_of_front hsb, ← hg, ← hd, hreq, if_pos hbad, Option.getD_some]
  · simp only [Fab.takeSb_of_front hsb, ← hg, ← hd, hreq, hn, hhops, hup, ne_eq, not_true_eq_false, or_self, if_false,
      Option.getD_some]
    rfl

/-- Settles O40. -/
theorem lanternExchanges : Obligations.LanternExchanges := by
  refine ⟨⟨?_, ?_, ?_, ?_, ?_, ?_⟩, ?_, ?_, ?_, ?_, ?_, ?_, ?_, ?_, ?_, ?_⟩
  · intro s d seam g hpos hlt hreq hg hup
    refine next_onFab ?_
    rw [if_neg (by omega)]
    simp only [hreq, Option.isSome_none, Bool.false_eq_true, if_false, ← hg, hup]
  · intro s ss turn k l g hsb hg
    refine next_onFab ?_
    simp only [Fab.takeSb_of_front hsb, ← hg, Option.getD_some]
    rfl
  · intro s ss seq t2 dt st hops t1 n d l g hsb hg hd hreq
    exact timeRspReceive_waiting hsb hg hd hreq
  · intro f d theta hst hstep hfar
    have hns : ns 100 < theta.natAbs := hfar
    simp only [Fab.follow, hst, hstep, decide_eq_true hns, Bool.not_false, Bool.and_self, if_true]
  · intro s ss a amount l g hsb hg hup
    refine next_onFab ?_
    simp only [Fab.takeSb_of_front hsb, ← hg, hup, if_true, Option.getD_some]
  · intro s ss k e l g hsb hg
    refine ⟨fun hd => next_onFab ?_, fun hd hsrc => next_onFab ?_⟩
    · simp only [Fab.takeSb_of_front hsb, ← hg, if_neg hd, Option.getD_some]
    · simp only [Fab.takeSb_of_front hsb, ← hg, hd, hsrc, if_true, Option.getD_some]
  · intro s d hd
    exact next_same (if_pos (Or.inl hd))
  · intro s e hedge hsoon
    refine next_same (if_pos (Or.inr ?_))
    rw [hedge]
    exact decide_eq_true hsoon
  · intro s g hedge _ hg hsrc hst
    exact ppsInEdge_counted hedge hg hsrc hst
  · intro s hsrc hlate
    exact next_onFab (if_pos ⟨hsrc, hlate⟩)
  · intro s hsrc hlate
    exact next_onFab (if_pos ⟨hsrc, hlate⟩)
  · intro s d
    refine ⟨fun hok => next_onFab (if_pos hok), fun hok hd => next_onFab ?_⟩
    simp only [hok, hd, false_and, Bool.false_eq_true, if_false]
    rfl
  · intro s g w hg hsrc hen hport
    have hdie : g / 16 = 0 := Nat.div_eq_of_lt hg
    have hbar : ¬(s.fab.oI O.LANTERN_SOURCE ≠ 2 ∨ ¬bit (s.fab.o .die (g / 16) O.LANTERN_TB_EN) (g % 16) = true ∨
        4 * g + field w 0 2 ≠ s.fab.oI O.LANTERN_UP_PORT ∨ 64 ≤ g) := by
      rw [hdie, Nat.mod_eq_of_lt hg]
      simp only [hsrc, hen, hport, ne_eq, not_true_eq_false, false_or]
      omega
    refine ⟨fun hcrc => next_onFab ?_, fun hcrc hseq => next_onFab ?_⟩
    · rw [if_neg hbar, if_pos hcrc, hdie]
    · rw [if_neg hbar, if_neg (Decidable.not_not.mpr hcrc), hdie]
      simp only [if_neg hseq, if_true]
  · intro s who v hv
    refine next_onFab ?_
    have hnot : ¬cOk = cDenied := by decide
    simp only [Fab.wLanternSource, Fab.wPlain_lanternSource _ hv, if_neg hnot]
    rfl
  · intro s who v
    refine ⟨fun hbar => next_onFab ?_, fun hfree => next_onFab ?_⟩
    · simp only [Fab.wLanternStep, hbar, if_true]
      rfl
    · simp only [Fab.wLanternStep, hfree, Bool.false_eq_true, if_false]
      rfl
  · intro s who v x hx
    refine ⟨fun hbar => next_onFab ?_, fun hfree => next_onFab ?_⟩
    · simp only [Fab.wLanternSet, ← hx, hbar, if_true]
      rfl
    · simp only [Fab.wLanternSet, ← hx, hfree, Bool.false_eq_true, if_false]
      rfl

end Sys2Proof.Machine

/-! Proofs: sleep of a tile (R115, R117, R447 to R458, R463). -/

namespace Sys2Proof.Machine

/-! ## Sleep of a tile -/

/-- A tile of a service port does not go to T3: its port holds it (R452). -/
theorem unit1_of_isSpTile {t : Nat} (h : isSpTile t = true) : ∃ d, unit1 t = .sp d := by
  have hmod : t % 64 = 0 := by simpa [isSpTile] using h
  refine ⟨dieOf t, if_pos ⟨?_, ?_⟩⟩
  · rw [xOf]
    omega
  · rw [yOf]
    omega

theorem Fab.mayOff_spTile (f : Fab) {t : Nat} (h : isSpTile t = true) : f.mayOff t = false := by
  have hidle : f.tileIdle t 3 = false := by
    obtain ⟨d, hd⟩ := unit1_of_isSpTile h
    rw [Fab.tileIdle, Fab.unitIdle, hd]
    simp
  simp only [Fab.mayOff, Fab.sleepOk, hidle, Bool.and_false, Bool.false_and, Bool.or_self]

theorem Fab.modPw_pw (f : Fab) (t : Nat) (g : TilePow → TilePow) : ((f.modPw t g).tile t).pw = g (f.tile t).pw := by
  rw [Fab.modPw, Fab.modTile_own]

/-- The rows of TILE_HOLD and TILE_DEEPEST (R534). -/
def tileHoldRow : ObjRow := ⟨O.TILE_HOLD, [0], .bool, .rw, 0, [.tile], .any⟩
@[inherit_doc tileHoldRow] def tileDeepestRow : ObjRow := ⟨O.TILE_DEEPEST, [0], .enm, .rw, 1, [.tile], .enum 3⟩

theorem objRow_tileHold : objRow .tile O.TILE_HOLD 0 = some tileHoldRow := by
  decide +kernel

theorem objRow_tileDeepest : objRow .tile O.TILE_DEEPEST 0 = some tileDeepestRow := by
  decide +kernel

/-- A write of TILE_HOLD with 1 to a tile that sleeps (R448). -/
theorem Fab.wTileHold_asleep {f : Fab} {t v : Nat} (hv : v ≠ 0) (hsleep : (f.tile t).asleep = true) :
    f.wTileHold t v = (((f.idleSettle t 0).setO .tile t O.TILE_HOLD 0 1).startWake t, cOk) := by
  have hplain : (f.idleSettle t 0).wPlain .tile t O.TILE_HOLD 0 v = ((f.idleSettle t 0).setO .tile t O.TILE_HOLD 0 1, cOk) := by
    rw [Fab.wPlain_taken (x := 1) t objRow_tileHold (congrArg some (if_neg hv))]
    rfl
  have hasleep : ((((f.idleSettle t 0).setO .tile t O.TILE_HOLD 0 1)).tile t).asleep = true := by
    rw [Fab.setO_tile, Fab.idleSettle, Fab.modTile_own]
    exact hsleep
  simp only [Fab.wTileHold, hplain, hv, hasleep, ne_eq, not_false_eq_true, and_self, if_true]

/-- A write of TILE_DEEPEST (R449). -/
theorem Fab.wTileDeepest_taken {f : Fab} {t v : Nat} (hv : v < 3) :
    f.wTileDeepest t v = (((f.idleSettle t 0).setO .tile t O.TILE_DEEPEST 0 v).obeyDeepest t, cOk) := by
  rw [Fab.wTileDeepest, Fab.wPlain_taken (x := v) t objRow_tileDeepest (if_pos hv), isClipped_self]
  rfl

/-- The end of a wake from T1 (R448, R463). -/
theorem tileWakeDone_doze {s : State} {t : Nat} (hready : s.fab.wakeReady t = true) (hst : (s.fab.tile t).st = .t1)
    (hent : (s.fab.tile t).pw.entering = false) :
    ∃ g h : Fab, g = ((((s.fab.accTime t).bumpT t O.TILE_WAKES).event t 0x50 0).toRun t).queuesWake t ∧
    h = (if g.eAwake t then g.modNi t (fun n => { n with knock := false }) else g) ∧
    exec (.tileWakeDone t) s = .next (s.onFab (fun f =>
      ((if isSpTile t then h.modSp (dieOf t) (fun n => { n with pdReq := n.pdReq && (f.tile t).pw.t3Req }) else h).loadOwed
        t).raiseSeams t)) := by
  refine ⟨_, _, rfl, rfl, next_onFab ?_⟩
  have h3 : (TState.t1 == TState.t3) = false := rfl
  have h2 : (TState.t1 == TState.t2) = false := rfl
  simp only [hready, hst, hent, h3, h2, Bool.not_true, Bool.false_and, Bool.or_self, Bool.false_eq_true, if_false]
  rfl

/-- A request of the power controller for T3 (R641). -/
theorem pcT3Req_rise {s : State} {t : Nat} {g : Fab}
    (hg : g = s.fab.modPw t (fun p => { p with t3Req := true, t3Gnt := p.t3Gnt && true })) :
    (isSpTile t = true → g.spInReset (dieOf t) = false →
      exec (.pcT3Req t true) s = .next (s.onFab (fun _ => g.spPowerDown (dieOf t)))) ∧
    (isSpTile t = false → g.mayOff t = true → exec (.pcT3Req t true) s = .next (s.onFab (fun _ => g.beginOff t))) ∧
    (isSpTile t = false → g.mayOff t = false → exec (.pcT3Req t true) s = .next (s.onFab (fun _ => g))) := by
  have hsettle : isSpTile t = false → g.pdSettle t = g := by
    intro hsp
    rw [Fab.pdSettle, hsp, Bool.false_and, Bool.false_and]
    rfl
  refine ⟨fun hsp hrst => next_onFab ?_, fun hsp hoff => next_onFab ?_, fun hsp hoff => next_onFab ?_⟩
  · simp only [← hg, hsp, hrst, Bool.not_false, Bool.and_self, if_true, Fab.mayOff_spTile _ hsp, Bool.and_false,
      Bool.false_eq_true, if_false]
  · simp only [← hg, hsp, hsettle hsp, hoff, Bool.false_and, Bool.false_eq_true, if_false, Bool.and_self, if_true]
  · simp only [← hg, hsp, hsettle hsp, hoff, Bool.false_and, Bool.and_false, Bool.false_eq_true, if_false]

/-- Settles O41. -/
theorem tileSleep : Obligations.TileSleep := by
  refine ⟨?_, ?_, ?_, ?_, ?_, ?_, ?_, ?_, ?_, ?_, ?_⟩
  · intro s t hst hwaking hclk hidle hdue hok hreq hfence
    refine next_onFab (if_pos ?_)
    simp only [hst, hwaking, hclk, bne_iff_ne.mpr hidle, decide_eq_true hdue, hok, hreq, hfence, beq_self_eq_true,
      Bool.not_false, Bool.and_self]
  · intro s t hst hwaking hidle hdue hok hreq hfence
    have hawake : ((s.fab.tile t).st == .t0 || (s.fab.tile t).st == .t1) = true := by
      rw [Bool.or_eq_true, beq_iff_eq, beq_iff_eq]
      exact hst
    refine next_onFab ((if_pos ?_).trans ?_)
    · simp only [hawake, hwaking, bne_iff_ne.mpr hidle, decide_eq_true hdue, hok, hreq, hfence, Bool.not_false,
        Bool.and_self]
    · rfl
  · intro s t
    refine ⟨fun hzero => next_same (if_neg ?_), fun hzero => next_same (if_neg ?_)⟩ <;>
      simp only [hzero, bne_self_eq_false, Bool.and_false, Bool.false_and, Bool.false_eq_true, not_false_eq_true]
  · intro s t hoff
    exact next_onFab (if_pos hoff)
  · intro s t g
    refine ⟨fun hg => pcT3Req_rise hg, fun hg => next_onFab ?_⟩
    simp only [← hg]
    simp only [Bool.and_false, Bool.false_and, Bool.false_eq_true, if_false]
    rfl
  · intro f d
    rfl
  · intro s t hsleep hwant
    refine next_onFab (if_pos ?_)
    rw [hsleep, hwant]
    rfl
  · intro s t hnot
    refine next_same (if_pos ?_)
    rw [hnot]
    rfl
  · intro s t hready hst hent
    exact tileWakeDone_doze hready hst hent
  · intro f t
    rw [Fab.toRun, Fab.modTile_own]
    exact ⟨rfl, rfl, rfl⟩
  · intro s who t v ht
    refine ⟨fun hv hsleep => next_onFab ((Fab.objWrite_eq ht objRow_tileHold).trans ?_),
      fun hv => next_onFab ((Fab.objWrite_eq ht objRow_tileDeepest).trans ?_)⟩
    · rw [Fab.wTileHold_asleep hv hsleep]
      rfl
    · rw [Fab.wTileDeepest_taken hv]
      rfl

end Sys2Proof.Machine

/-! Proofs: power domains, quadrant PLLs and the fabric mode (R132, R400, R446, R458 to R463, R638 to R642). -/

namespace Sys2Proof.Machine

/-! ## Power domains, quadrant PLLs and the fabric mode -/

/-- UNIQUE is kept while RST_COLD_N is high or nobody asks for it (R640). -/
theorem Fab.uqCheck_kept {f : Fab} (h : f.coldLow = false ∨ (f.die 0).pcUqReq = false) : f.uqCheck = f := by
  refine if_neg ?_
  rcases h with h | h
  · rw [Fab.coldHeld, h]
    simp
  · rw [h]
    simp

/-- UNIQUE is given up while RST_COLD_N is low and every other domain of D0 is off (R640). -/
theorem Fab.uqCheck_given {f : Fab} (hreq : (f.die 0).pcUqReq = true) (huq : (f.die 0).uqReq = true)
    (hcold : f.coldLow = true) (hoff : f.domainsOff 0 = true) :
    f.uqCheck = f.modDie 0 (fun d => { d with uqReq := false }) := by
  refine if_pos ?_
  rw [Fab.coldHeld, hreq, huq, hcold, hoff]
  rfl

/-- The rows of QCLK_FREQ, QPLL_HOLD and FABRIC_MODE (R534). -/
def qclkFreqRow : ObjRow := ⟨O.QCLK_FREQ, [0], .enm, .rw, 0, [.inst], .enum 4⟩
@[inherit_doc qclkFreqRow] def qpllHoldRow : ObjRow := ⟨O.QPLL_HOLD, [0], .bool, .rw, 0, [.quad], .any⟩
@[inherit_doc qclkFreqRow] def fabricModeRow : ObjRow := ⟨O.FABRIC_MODE, [0], .enm, .rw, 1, [.inst], .enum 3⟩

theorem objRow_qclkFreq : objRow .inst O.QCLK_FREQ 0 = some qclkFreqRow := by
  decide +kernel

theorem objRow_qpllHold : objRow .quad O.QPLL_HOLD 0 = some qpllHoldRow := by
  decide +kernel

theorem objRow_fabricMode : objRow .inst O.FABRIC_MODE 0 = some fabricModeRow := by
  decide +kernel

/-- FABRIC_MODE takes its three values as they are (R459). -/
theorem Fab.wPlain_fabricMode (f : Fab) {v : Nat} (hv : v < 3) :
    f.wPlain .inst 0 O.FABRIC_MODE 0 v = (f.setO .inst 0 O.FABRIC_MODE 0 v, cOk) := by
  rw [Fab.wPlain_taken (x := v) 0 objRow_fabricMode (if_pos hv), isClipped_self]
  rfl

/-- A write of FABRIC_MODE that reaches every die (R459, R461); `h` is the state once each has loaded its table. -/
theorem Fab.wFabricMode_all {f g h : Fab} {v : Nat} (hplain : f.endLatency.wPlain .inst 0 O.FABRIC_MODE 0 v = (g, cOk))
    (hup : ∀ d, d < 4 → g.bcastUp d = true) (hload : [0, 1, 2, 3].foldl (fun f d => f.applyMode v d) g = h) :
    f.wFabricMode v = ({ h with boot := false, modeDue := [] }, cOk) := by
  have hall : (List.range 4).filter (fun d => g.bcastUp d) = [0, 1, 2, 3] :=
    List.filter_eq_self.mpr (fun d hd => hup d (List.mem_range.mp hd))
  have hdue : (List.range 4).filter (fun d => !([0, 1, 2, 3] : List Nat).contains d) = [] := by decide
  have hnot : ¬cOk = cDenied := by decide
  simp only [Fab.wFabricMode, hplain, if_neg hnot, hall, hload, hdue]

/-- A PLL whose tiles have slept long enough (R461). -/
theorem qpllPark_parks {s : State} {q : Nat} (hq : q < 16) (hfirst : q % 4 ≠ 0) (hrun : s.fab.qpll q = 0)
    (hidle : s.fab.o .quad q O.QPLL_PARK_IDLE ≠ 0) (hhold : s.fab.o .quad q O.QPLL_HOLD = 0)
    (hslept : ∀ t ∈ tilesOfQuad q, ((s.fab.tile t).st = .t2 ∨ (s.fab.tile t).st = .t3) ∧ (s.fab.tile t).pw.waking = false ∧
      (s.fab.tile t).pw.entering = false ∧
      (s.fab.tile t).pw.deepAt + us (s.fab.o .quad q O.QPLL_PARK_IDLE) ≤ (s.fab.run t).toNat) :
    exec (.qpllPark q) s = .next (s.onFab (fun f => (f.setO .quad q O.QPLL_STATE 0 1).setQp q false)) := by
  refine next_onFab (if_pos ⟨hrun, hfirst, hq, hidle, hhold, List.all_eq_true.mpr (fun t ht => ?_)⟩)
  obtain ⟨hst, hwaking, hent, hlong⟩ := hslept t ht
  simp only [hwaking, hent, decide_eq_true hlong, Bool.not_false, Bool.and_true, Bool.or_eq_true, beq_iff_eq]
  exact hst

/-- Settles O42. -/
theorem powerAndClocks : Obligations.PowerAndClocks := by
  refine ⟨?_, ?_, ?_, ?_, ?_, ?_, ?_, ?_⟩
  · intro s t d q
    exact ⟨next_onFab rfl, next_onFab rfl, next_onFab rfl, next_onFab rfl, next_onFab rfl⟩
  · intro f
    exact ⟨Fab.uqCheck_kept, Fab.uqCheck_given⟩
  · intro s hcold
    refine next_onFab ?_
    have hkept : (s.fab.modDie 0 (fun d => { d with pcUqReq := true })).uqCheck =
        s.fab.modDie 0 (fun d => { d with pcUqReq := true }) := Fab.uqCheck_kept (Or.inl hcold)
    simp only [if_true, hkept]
  · intro s g hg
    have hmap : g.map.present = s.fab.map.present := by
      rw [hg]
      rfl
    refine ⟨fun hpres => next_onFab ?_, fun hpres => next_onFab ?_⟩
    · rw [hpres] at hmap
      simp only [← hg, hmap, Bool.false_eq_true, if_false, if_true]
    · rw [hpres] at hmap
      simp only [← hg, hmap, Bool.false_eq_true, if_false]
  · intro s q hq
    refine ⟨fun hfirst => next_same (if_neg (fun h => h.2.1 hfirst)), fun hfirst hrun hidle hhold hslept => ?_,
      fun hlock hack => next_onFab ?_, fun who => ?_⟩
    · exact qpllPark_parks hq hfirst hrun hidle hhold hslept
    · generalize tilesOfQuad q = tiles
      rw [if_pos ⟨hlock, hack⟩]
    · refine next_onFab ((Fab.objWrite_eq hq objRow_qpllHold).trans ?_)
      have hplain : s.fab.wPlain .quad q O.QPLL_HOLD 0 1 = (s.fab.setO .quad q O.QPLL_HOLD 0 1, cOk) :=
        Fab.wPlain_taken (x := 1) q objRow_qpllHold rfl
      have hset : s.fab.wQpllHold q 1 = ((s.fab.setO .quad q O.QPLL_HOLD 0 1).relock q, cOk) := by
        simp only [Fab.wQpllHold, hplain, if_neg Nat.one_ne_zero]
      rw [hset, Fab.done_mk]
      rfl
  · intro s who v hv
    refine ⟨fun hall => next_onFab ?_, fun ⟨q, hq, hrun⟩ => next_onFab ?_⟩
    · have hparked : (List.range 16).all (fun q => s.fab.qpll q == 1) = true :=
        List.all_eq_true.mpr (fun q hq => beq_iff_eq.mpr (hall q (List.mem_range.mp hq)))
      rw [Fab.wQclkFreq, if_pos hparked, Fab.wPlain_taken (x := v) 0 objRow_qclkFreq (if_pos hv), isClipped_self]
      rfl
    · have hnot : ¬(List.range 16).all (fun q => s.fab.qpll q == 1) = true := fun hall =>
        hrun (beq_iff_eq.mp (List.all_eq_true.mp hall q (List.mem_range.mpr hq)))
      rw [Fab.wQclkFreq, if_neg hnot]
      rfl
  · intro s who v hv hup
    obtain ⟨h, hload⟩ : ∃ h, [0, 1, 2, 3].foldl (fun f d => f.applyMode v d)
      (s.fab.endLatency.setO .inst 0 O.FABRIC_MODE 0 v) = h := ⟨_, rfl⟩
    have hwrite := Fab.wFabricMode_all (Fab.wPlain_fabricMode s.fab.endLatency hv) hup hload
    refine ⟨next_onFab ?_, fun hboot hdue hmode => next_onFab ?_⟩
    · rw [hwrite, hload]
      rfl
    · rw [if_pos (by rw [hboot, decide_eq_true hdue]; rfl), hmode, hwrite, hload]
  · intro s hboot
    refine next_same (if_neg ?_)
    rw [hboot, Bool.false_and]
    exact Bool.false_ne_true

end Sys2Proof.Machine

/-! Proofs: crossings between clock domains (R466 to R475). -/

namespace Sys2Proof.Machine

/-! ## Crossings between clock domains -/

theorem Fab.modCdc_congr {f : Fab} {x : Cdc} {g g' : CdcSt → CdcSt} (h : g (f.cdcOf x) = g' (f.cdcOf x)) :
    f.modCdc x g = f.modCdc x g' := by
  simp only [Fab.modCdc, h]

/-- A crossing whose handshake is in flight (R466, R467). -/
theorem CdcSt.inFlight {c : CdcSt} (limit v : Nat) (h : c.busy = true) :
    c.event limit = { c with pending := true } ∧ c.value limit v = { c with src := v, dirty := true } :=
  ⟨if_pos h, if_pos h⟩

/-- The acknowledgement of the handshake in flight (R466, R467). -/
theorem CdcSt.acked_cases (c : CdcSt) (limit : Nat) :
    (c.pending = true ∨ c.dirty = true → c.acked limit = { c with
      pending := false, dirty := false, ack := c.req, rx := c.h, h := c.src, req := !c.req, limit := limit }) ∧
    (c.pending = false → c.dirty = false → c.acked limit = { c with ack := c.req, rx := c.h }) := by
  refine ⟨fun hwaits => if_pos ?_, fun hp hd => if_neg ?_⟩
  · rw [Bool.or_eq_true]
    exact hwaits
  · rw [Bool.not_eq_true, Bool.or_eq_false_iff]
    exact ⟨hp, hd⟩

/-- A crossing without a handshake in flight carries what comes at once (R466, R467). -/
theorem CdcSt.idle {c : CdcSt} (limit v : Nat) (h : c.busy = false) :
    c.event limit = (c.start limit).taken ∧ c.value limit v = ({ c with src := v }.start limit).taken := by
  have hnot : ¬c.busy = true := by
    rw [h]
    exact Bool.false_ne_true
  exact ⟨if_neg hnot, if_neg hnot⟩

/-- A crossing that is neither fenced nor held (R470). -/
theorem Fab.cdcHeld_of_peer {f : Fab} {x : Cdc} : f.cdcHeld x = decide ((f.cdcOf x).peer ≠ 0) := by
  rw [Fab.cdcHeld]
  by_cases h : (f.cdcOf x).peer = 0 <;> simp [h]

/-- Settles O43. -/
theorem clockCrossings : Obligations.ClockCrossings := by
  refine ⟨?_, ?_, ?_, ?_, ?_, ?_, ?_, ?_, ?_⟩
  · intro c limit v hbusy
    obtain ⟨hevent, hvalue⟩ := CdcSt.inFlight limit v hbusy
    exact ⟨hevent, hvalue, CdcSt.acked_cases c limit⟩
  · intro c limit v hidle
    obtain ⟨hevent, hvalue⟩ := CdcSt.idle limit v hidle
    rw [hevent, hvalue]
    exact ⟨rfl, rfl, CdcSt.taken_busy _, CdcSt.taken_busy _⟩
  · intro s x hfence hpeer
    have hheld : s.fab.cdcHeld x = false := by
      rw [Fab.cdcHeld, hpeer]
      rfl
    have hgo : ¬(s.fab.cdcFenced x || s.fab.cdcHeld x) = true := by
      rw [hfence, hheld]
      exact Bool.false_ne_true
    refine ⟨fun hbusy => ⟨next_onFab ((if_neg hgo).trans ?_), next_onFab ((if_neg hgo).trans ?_)⟩,
      fun hbusy => next_onFab ((if_neg hgo).trans ?_)⟩ <;>
      refine Fab.modCdc_congr ?_ <;>
      simp only [hbusy, Bool.false_eq_true, if_false, if_true]
  · intro s x b hbar
    refine next_same (if_pos ?_)
    rw [Fab.cdcHeld_of_peer, Bool.or_eq_true, decide_eq_true_eq]
    exact hbar
  · intro s x cycles hfence hpeer hlate
    refine next_onFab (if_neg ?_)
    have hopen : ((s.fab.cdcOf x).fenced && !(s.fab.cdcOf x).releasing) = false := by
      rcases hfence with h | h <;> simp [h]
    have hheld : s.fab.cdcHeld x = false := by
      rw [Fab.cdcHeld, hpeer]
      rfl
    rw [hopen, hheld, Bool.false_or, Bool.false_or, decide_eq_true_eq]
    exact Nat.not_lt.mpr hlate
  · intro s x cycles hbar
    refine next_same (if_pos ?_)
    rcases hbar with hpeer | ⟨hbusy, hshort⟩ | ⟨hfenced, hrel⟩
    · rw [Fab.cdcHeld_of_peer, decide_eq_true hpeer, Bool.or_true, Bool.true_or]
    · rw [hbusy, if_pos rfl, decide_eq_true hshort, Bool.or_true]
    · rw [hfenced, hrel]
      rfl
  · intro s x hfenced hrel
    refine next_same (if_neg ?_)
    rw [hfenced, hrel]
    exact Bool.false_ne_true
  · intro s x g hfenced hrel hg
    refine ⟨fun hother => next_onFab ?_, fun hlast => next_onFab ?_⟩
    · simp only [hfenced, hrel, Bool.and_self, if_true, ← hg, hother]
    · simp only [hfenced, hrel, Bool.and_self, if_true, ← hg, hlast, Bool.false_eq_true, if_false]
  · intro s x
    refine ⟨fun hseen => next_onFab (if_pos hseen), fun hack hended => next_onFab ((if_pos hack).trans ?_),
      fun hack hended => next_onFab ((if_pos hack).trans ?_),
      fun hnone => ⟨next_same (if_neg (by omega)), next_same (if_neg (by omega))⟩⟩ <;>
      refine Fab.modCdc_congr ?_ <;>
      simp only [hended, if_true, Bool.false_eq_true, if_false]
    rfl

end Sys2Proof.Machine

/-! Proofs: frames on the Guyline (R456, R482 to R486, R660). -/

namespace Sys2Proof.Machine

/-! ## Frames on the Guyline -/

theorem SMap.lookup_insert_self {α : Type} (m : SMap α) (k : Nat) (v : α) : (SMap.insert m k v).lookup k = some v := by
  induction m with
  | nil => rw [SMap.insert, List.lookup_cons_self]
  | cons e m ih =>
    obtain ⟨k', v'⟩ := e
    rw [SMap.insert]
    split
    · exact List.lookup_cons_self
    · split
      · exact List.lookup_cons_self
      · next hne =>
        rw [List.lookup_cons, beq_eq_false_iff_ne.mpr hne]
        exact ih

/-- The frame is a READ or a WRITE. -/
theorem readOrWrite {k : Nat} (h : k < 2) : ¬(k ≠ kRead ∧ k ≠ kWrite) := by
  rw [kRead, kWrite]
  omega

/-- A station that has not kept the frame performs it (R483). -/
theorem guyFrameClaim_perform {s : State} {tag st : Nat} {ue clk : Bool} {x : GFrame}
    (hring : s.fab.guy.ring.lookup tag = some x) (hkind : x.kind < 2) (hclaim : s.fab.claimer x.sc x.num x.idx = some st)
    (hreach : s.fab.claimable x.ccw st = true)
    (hnew : ∀ k, s.fab.guy.stored.lookup (16 * st + tag) = some k → k.seq ≠ x.seq) {g : Fab}
    (hg : execGuyFrameClaim.perform ue clk s.fab tag st x = g) :
    exec (.guyFrameClaim tag ue clk) s = .next (s.onFab (fun _ => g)) := by
  refine next_onFab ?_
  simp only [hring, if_neg (readOrWrite hkind), hclaim, hreach, Bool.not_true, Bool.false_eq_true, if_false]
  cases hst : s.fab.guy.stored.lookup (16 * st + tag) with
  | none => exact hg
  | some k =>
    simp only [if_neg (hnew k hst)]
    exact hg

/-- A frame at the station that holds its object (R482, R483). -/
theorem guyFrameClaim_cases {s : State} {tag st : Nat} {ue clk : Bool} {x : GFrame}
    (hring : s.fab.guy.ring.lookup tag = some x) (hkind : x.kind < 2) (hclaim : s.fab.claimer x.sc x.num x.idx = some st)
    (hreach : s.fab.claimable x.ccw st = true) :
    (∀ k, s.fab.guy.stored.lookup (16 * st + tag) = some k → k.seq = x.seq →
      exec (.guyFrameClaim tag ue clk) s = .next (s.onFab (fun f => f.respond tag st x k.status k.data))) ∧
    ((∀ k, s.fab.guy.stored.lookup (16 * st + tag) = some k → k.seq ≠ x.seq) →
      (256 ≤ st ∨ inLogic x.sc x.idx x.sub = false ∨ ((s.fab.tile st).st = .t0 ∧ s.fab.qclkRuns st = true) →
        exec (.guyFrameClaim tag ue clk) s = .next (s.onFab (fun f => f.access tag st x ue clk))) ∧
      (st < 256 → inLogic x.sc x.idx x.sub = true → (s.fab.tile st).st ≠ .t0 → s.fab.cdcFenced (.station st) = false →
        exec (.guyFrameClaim tag ue clk) s = .next (s.onFab (fun f => (f.askWake st).cdcEvent (.station st))))) := by
  refine ⟨fun k hk hseq => next_onFab ?_, fun hnew => ⟨fun hawake => ?_, fun hst hlogic hsleep hfence => ?_⟩⟩
  · simp only [hring, if_neg (readOrWrite hkind), hclaim, hreach, Bool.not_true, Bool.false_eq_true, if_false, hk, hseq,
      if_true]
  · refine guyFrameClaim_perform hring hkind hclaim hreach hnew (if_neg ?_)
    rintro ⟨hlt, hlogic, hout, _⟩
    rcases hawake with hdie | hplain | ⟨hrun, hclk⟩
    · omega
    · rw [hlogic] at hplain
      exact Bool.false_ne_true hplain.symm
    · rcases hout with h | h
      · exact h hrun
      · rw [hclk] at h
        exact Bool.false_ne_true h.symm
  · exact guyFrameClaim_perform hring hkind hclaim hreach hnew (if_pos ⟨hst, hlogic, Or.inl hsleep, hfence⟩)

/-- A frame over a shut station crossing ends with TIMEOUT (R471). -/
theorem Fab.access_shut {f : Fab} {tag st : Nat} {x : GFrame} {ue clk : Bool} (hst : st < 256)
    (hlogic : inLogic x.sc x.idx x.sub = true) (hshut : f.cdcShut (.station st) = true) :
    f.access tag st x ue clk =
      (f.cdcCarry (.station st) (if x.kind = 0 then x.idx else x.data)).respond tag st x 5 0 := by
  simp only [Fab.access, Fab.accessFenced, Fab.accessCarry, hlogic, decide_eq_true hst, hshut, Bool.and_self,
    Bool.true_or, if_true]
  rfl

/-- What the answer of a station leaves (R483). -/
theorem Fab.respond_kept (f : Fab) (tag st status data : Nat) (x : GFrame) :
    (f.respond tag st x status data).guy.ring.lookup tag = some { x with kind := 3, status := status, data := data } ∧
    (f.respond tag st x status data).guy.stored.lookup (16 * st + tag) = some ⟨x.seq, status, data⟩ ∧
    (f.respond tag st x status data).objs = f.objs :=
  ⟨SMap.lookup_insert_self _ _ _, SMap.lookup_insert_self _ _ _, Fab.modGuy_objs f _⟩

/-- A die station at a BCAST that it has not counted (R484). -/
theorem guyBcast_cases {s : State} {tag d : Nat} {clk : Bool} {x : GFrame} (hring : s.fab.guy.ring.lookup tag = some x)
    (hkind : x.kind = 2) (hd : d < 4) (hcount : x.count.contains d = false) (hup : s.fab.bcastUp d = true)
    (hfirst : d = 0 ∨ x.count.contains 0 = true) :
    ((∀ k, s.fab.guy.stored.lookup (16 * (256 + d) + tag) = some k → k.seq ≠ x.seq) →
      exec (.guyBcast tag d clk) s = .next (s.onFab (fun f =>
        let r := f.bcastApply d x clk
        (r.1.modGuy (fun g => { g with
          stored := SMap.insert g.stored (16 * (256 + d) + tag) ⟨x.seq, r.2, 0⟩ })).modGuy (fun g => { g with
          ring := SMap.insert g.ring tag { x with
            count := x.count ++ [d], status := if d = 0 then r.2 else x.status } })))) ∧
    (∀ k, s.fab.guy.stored.lookup (16 * (256 + d) + tag) = some k → k.seq = x.seq →
      exec (.guyBcast tag d clk) s = .next (s.onFab (fun f => f.modGuy (fun g => { g with
        ring := SMap.insert g.ring tag { x with
          count := x.count ++ [d], status := if d = 0 then k.status else x.status } })))) := by
  have hgo : ¬(x.kind ≠ kBcast ∨ 4 ≤ d ∨ x.count.contains d = true ∨ s.fab.bcastUp d = false ∨
      (d ≠ 0 ∧ s.fab.bcastUp 0 = true ∧ x.count.contains 0 = false)) := by
    rw [hkind, hcount, hup]
    rintro (h | h | h | h | ⟨hne, _, hnot⟩)
    · exact h rfl
    · omega
    · exact Bool.false_ne_true h
    · exact Bool.false_ne_true h.symm
    · rcases hfirst with h | h
      · exact hne h
      · rw [h] at hnot
        exact Bool.false_ne_true hnot.symm
  refine ⟨fun hnew => next_onFab ?_, fun k hk hseq => next_onFab ?_⟩
  · simp only [hring, if_neg hgo]
    cases hst : s.fab.guy.stored.lookup (16 * (256 + d) + tag) with
    | none => rfl
    | some k =>
      simp only [if_neg (hnew k hst)]
      rfl
  · simp only [hring, if_neg hgo, hk, hseq, if_true]
    rfl

/-- A frame that has come round (R482 to R485). -/
theorem guyRespReturn_cases {s : State} {tag : Nat} {x : GFrame} (hring : s.fab.guy.ring.lookup tag = some x)
    (hret : s.fab.ringReturns x.ccw = true) :
    (x.kind = 3 → exec (.guyRespReturn tag true) s = .next (s.onFab (fun f => f.guyEnd tag x x.status x.data))) ∧
    (x.kind = 2 → s.fab.bcastThrough x = true → x.count.length = 4 →
      exec (.guyRespReturn tag true) s = .next (s.onFab (fun f => f.guyEnd tag x x.status 0))) ∧
    (x.kind < 2 → s.fab.unclaimed x = true → s.fab.ringHops x.ccw = 4 →
      exec (.guyRespReturn tag true) s = .next (s.onFab (fun f => f.guyEnd tag x 6 0))) ∧
    (x.kind < 2 → s.fab.unclaimed x = true → s.fab.ringHops x.ccw ≠ 4 → x.turned = false →
      ∀ y, s.fab.guy.sent.lookup tag = some y → exec (.guyRespReturn tag true) s = .next (s.onFab (fun f =>
        f.launchFrame tag { y with ccw := !y.ccw, turned := true, resent := x.resent, late := x.late }))) := by
  have hplain : x.kind < 2 → x.kind ≠ kResp ∧ x.kind ≠ kBcast := by
    rw [kResp, kBcast]
    omega
  refine ⟨fun hkind => next_onFab ?_, fun hkind hthru hcount => next_onFab ?_, fun hkind hun hloop => next_onFab ?_,
    fun hkind hun hloop hturned y hy => next_onFab ?_⟩
  · simp [hring, hret, hkind, kResp]
  · simp [hring, hret, hkind, kResp, kBcast, hthru, Fab.bcastEnd, hcount]
  · obtain ⟨hresp, hbcast⟩ := hplain hkind
    simp [hring, hret, hresp, hbcast, hun, hloop, cAbsent]
  · obtain ⟨hresp, hbcast⟩ := hplain hkind
    simp [hring, hret, hresp, hbcast, hun, hloop, hturned, hy]

/-- A frame that has not returned in time (R485, R486). -/
theorem guyTimeout_cases {s : State} {tag : Nat} {x y : GFrame} (hring : s.fab.guy.ring.lookup tag = some x)
    (hsent : s.fab.guy.sent.lookup tag = some y) (hlate : x.sentAt + us (s.fab.oI O.GUY_TIMEOUT) ≤ s.fab.run0) :
    (x.resent = false → exec (.guyTimeout tag) s = .next (s.onFab (fun f =>
      (((f.raiseW 5 (y.info tag) (y.low tag)).launchFrame tag { y with resent := true, late := x.late }).bump .inst 0
        O.GUY_RETRIES 0)))) ∧
    (x.resent = true → exec (.guyTimeout tag) s = .next (s.onFab (fun f =>
      (f.raiseW 5 (y.info tag) (y.low tag)).guyEnd tag x 5 0))) := by
  have hkept : (s.fab.raiseW 5 (y.info tag) (y.low tag)).guy = s.fab.guy := by
    rw [Fab.raiseW, Fab.raise]
    split
    · rfl
    · exact Fab.modFam_guy _ _ _
  refine ⟨fun hfirst => next_onFab ?_, fun hsecond => next_onFab ?_⟩
  · simp only [hring, if_neg (Nat.not_lt.mpr hlate), hsent, Fab.again, hkept, hfirst, Bool.false_eq_true, if_false]
  · simp only [hring, if_neg (Nat.not_lt.mpr hlate), hsent, Fab.again, hkept, hsecond, if_true]
    rfl

/-- Settles O44. -/
theorem guylineFrames : Obligations.GuylineFrames := by
  refine ⟨⟨?_, ?_, ?_, ?_, ?_, ?_⟩, ?_, ?_, ?_, ?_, ?_⟩
  · intro s tag st ue clk x hring hkind hclaim hreach
    exact guyFrameClaim_cases hring hkind hclaim hreach
  · intro f tag st x ue clk hst hlogic hshut
    exact Fab.access_shut hst hlogic hshut
  · intro f tag st status data x
    exact Fab.respond_kept f tag st status data x
  · intro s tag d clk x hring hkind hd hcount hup hfirst
    exact guyBcast_cases hring hkind hd hcount hup hfirst
  · intro s tag x hring hret
    exact guyRespReturn_cases hring hret
  · intro s tag x hring hret hkind
    refine next_onFab ?_
    simp [hring, hret, hkind, kResp]
  · intro s tag x y hring hsent hlate
    exact guyTimeout_cases hring hsent hlate
  · intro s tag x hring hearly
    refine next_same ?_
    simp only [hring, if_pos hearly]
  · intro s ss hss hsb hbit
    exact next_onFab (if_pos ⟨hss, hsb, hbit⟩)
  · intro s t hout
    refine next_onFab (if_pos ?_)
    rcases hout with h | ⟨h, hent⟩
    · simp only [Fab.bypassDue, h]
    · simp only [Fab.bypassDue, h, hent, Bool.not_false]
  · intro s t hst hby hheld
    refine ⟨next_onFab ?_, ?_⟩
    · have hdue : s.fab.bypassDue t = false := by
        simp only [Fab.bypassDue, hst]
      simp only [hdue, hby, hheld, Bool.not_false, Bool.and_self, Bool.false_eq_true, if_false, if_true]
    · have hget : (SMap.set (fun _ => false) s.fab.guy.bypass t false).get (fun _ => false) t = false :=
        SMap.get_set_same _ _ _ _
      rw [Fab.bypassed, Fab.openBypass]
      split <;> exact hget

end Sys2Proof.Machine

/-! Proofs: mailboxes (R495 to R502, R527, R528). -/

namespace Sys2Proof.Machine

/-! ## Mailboxes -/

/-- A command of the register form has GO set (R496). -/
theorem bit_goWord (op cmd : Nat) : bit (goWord op cmd) 31 = true := by
  rw [bit, goWord, Nat.testBit_or, Nat.testBit_two_pow_self, Bool.or_true]

/-- A command written to a mailbox that is free begins its operation (R495). -/
theorem Fab.wMbxCmd_go {f : Fab} {m : Nat} (op cmd : Nat) (dbg : Bool) (hfree : (f.mbxOf m).op = none) :
    f.wMbxCmd m (goWord op cmd) dbg = f.mbxGo m (goWord op cmd) dbg := by
  rw [Fab.wMbxCmd, hfree, bit_goWord]
  rfl

/-- A command written to a BUSY mailbox is ignored (R501). -/
theorem Fab.wMbxCmd_busy {f : Fab} {m : Nat} (cmd : Nat) (dbg : Bool) (hm : m < 4) (hbusy : (f.mbxOf m).op.isSome = true) :
    f.wMbxCmd m cmd dbg = f.mapRaise 2 (0x100 + 0x40 * m) true 2 cmd := by
  rw [Fab.wMbxCmd, if_pos hbusy, if_pos hm]

/-- The commands that end at once (R498 to R500). -/
theorem Fab.mbxGo_fails {f : Fab} (m cmd : Nat) (dbg : Bool) (hheld : f.mapHeld = false) : ∃ (g h : Fab),
    g = f.modMbx m (fun x => { x with
      cmd := field cmd 0 3 + field cmd 4 3 * 16 + field cmd 8 14 * 256, valid := false, more := false, rlen := 0 }) ∧
    h = (g.modMbx m (fun x => { x with prev := none })).beginMbx m ⟨false, ⟨.inst, 0, 0, 0, 0⟩, 0, 0, 0, 0, g.run0⟩ ∧
    (field cmd 0 3 = 0 ∨ 3 < field cmd 0 3 → f.mbxGo m cmd dbg = h.answer m 2) ∧
    (1 ≤ field cmd 0 3 ∧ field cmd 0 3 ≤ 3 → 32 < field cmd 16 6 → f.mbxGo m cmd dbg = h.answer m 3) ∧
    (1 ≤ field cmd 0 3 ∧ field cmd 0 3 ≤ 3 → field cmd 16 6 ≤ 32 →
      mbxTarget (field cmd 0 3 == 1) cmd (g.mbxOf m).obj (g.mbxOf m).elem = none → f.mbxGo m cmd dbg = h.answer m 1) := by
  have hheld' : ∀ g, (f.modMbx m g).mapHeld = false := fun _ => hheld
  refine ⟨_, _, rfl, rfl, fun hop => ?_, fun hop hlen => ?_, fun hop hlen hnone => ?_⟩
  · simp only [Fab.mbxGo, hheld', Bool.false_eq_true, if_false, if_pos hop]
    rfl
  · simp only [Fab.mbxGo, hheld', Bool.false_eq_true, if_false]
    rw [if_neg (by omega), if_pos hlen]
    rfl
  · simp only [Fab.mbxGo, hheld', Bool.false_eq_true, if_false]
    rw [if_neg (by omega), if_neg (by omega), hnone]
    rfl

/-- An access to an object that another station holds (R498). -/
theorem Fab.serve_remote {f : Fab} {m : Nat} {dbg : Bool} {t : MbxTarget} (hlocal : isLocal t = false)
    (hwarden : isWarden t = false) (hmap : f.cdcShut .mapXbar = false) (hguy : f.cdcShut .xbarGuy = false) :
    f.serveRead m dbg t = f.sendFrame m (GFrame.make 0 t.sc t.num t.idx t.sub t.elem 0 0 false dbg) ∧
    ∀ len v guard, t.idx ≠ O.FAM_COMMIT → t.sc ≠ .inst → tableOf t.idx = none →
      f.serveWrite m dbg t len v guard = f.sendFrame m (GFrame.make 1 t.sc t.num t.idx t.sub t.elem len v guard dbg) := by
  refine ⟨?_, fun len v guard hcommit hsc htable => ?_⟩
  · simp only [Fab.serveRead, hlocal, hwarden, hmap, hguy, Bool.false_and, Bool.false_eq_true, if_false]
    rfl
  · simp only [Fab.serveWrite, hlocal, hwarden, hmap, hguy, Bool.false_and, Bool.false_eq_true, if_false, if_neg hcommit,
      hsc, htable, Option.isSome_none, or_self]
    rfl

/-- An access over a shut crossing of the MAP (R471). -/
theorem Fab.serve_shut {f : Fab} {m : Nat} {dbg : Bool} {t : MbxTarget} (hm : m < 4) (hmap : f.cdcShut .mapXbar = true) :
    f.serveRead m dbg t = f.answer m 5 ∧ ∀ len v guard, f.serveWrite m dbg t len v guard = f.answer m 5 := by
  have hshut : (f.cdcShut .mapXbar && decide (m < 4)) = true := by
    rw [hmap, decide_eq_true hm]
    rfl
  exact ⟨if_pos hshut, fun len v guard => if_pos hshut⟩

/-- A read that ends with OK (R498, R502). -/
theorem Mbx.complete_read {x : Mbx} {op : MbxOp} (data : Nat) (hread : op.read = true) (hlen : op.len ≤ 32) :
    (x.complete op 0 data).op = none ∧ (x.complete op 0 data).valid = true ∧
    (x.complete op 0 data).rlen ≤ 32 ∧
    (x.complete op 0 data).data = field data (8 * op.off) (8 * (x.complete op 0 data).rlen) ∧
    ((x.complete op 0 data).more = true ↔ op.off + (x.complete op 0 data).rlen < op.size) ∧
    ((x.complete op 0 data).code = 4 ↔ 0 < op.len ∧ op.len < min 32 (op.size - op.off)) ∧
    ((x.complete op 0 data).code ≠ 4 → (x.complete op 0 data).code = 0) := by
  have hok : (op.read && (0 : Nat) == cOk) = true := by
    rw [hread]
    rfl
  simp only [Mbx.complete, hok, if_true, decide_eq_true_eq, true_and]
  have hn : (if op.len = 0 then min 32 (op.size - op.off) else min op.len (min 32 (op.size - op.off))) ≤ 32 := by
    split <;> omega
  have hshort : (if op.len = 0 then min 32 (op.size - op.off) else min op.len (min 32 (op.size - op.off))) <
      min 32 (op.size - op.off) ↔ 0 < op.len ∧ op.len < min 32 (op.size - op.off) := by
    split <;> omega
  refine ⟨hn, ?_⟩
  rw [← hshort]
  generalize (if op.len = 0 then min 32 (op.size - op.off) else min op.len (min 32 (op.size - op.off))) = n
  by_cases hcut : n < min 32 (op.size - op.off)
  · rw [if_pos hcut]
    exact ⟨⟨fun _ => hcut, fun _ => rfl⟩, fun h => absurd rfl h⟩
  · rw [if_neg hcut]
    exact ⟨⟨fun h => absurd h (by decide), fun h => absurd h hcut⟩, fun _ => rfl⟩

/-- Any other end (R498). -/
theorem Mbx.complete_error (x : Mbx) (op : MbxOp) {code : Nat} (data : Nat) (h : code ≠ 0) :
    x.complete op code data = { x with op := none, code := code } := by
  have hbad : (code == cOk) = false := beq_eq_false_iff_ne.mpr h
  rw [Mbx.complete, hbad, Bool.and_false]
  rfl

/-- The mailbox of an operation that ended (R498). -/
theorem Fab.endMbx_own (f : Fab) (m : Nat) (op : MbxOp) (code data : Nat) :
    (f.endMbx m op code data).mbxOf m = (f.mbxOf m).complete op code data := by
  rw [Fab.endMbx]
  split
  · exact Fab.modMbx_own _ _ _
  · rw [Fab.modMap_mbxOf, Fab.modMbx_own]

/-- Settles O45. -/
theorem mailboxes : Obligations.Mailboxes := by
  refine ⟨?_, ?_, ?_, ?_, ?_, ?_, ?_, ?_, ?_, ?_, ?_, ?_, ?_⟩
  · intro s m cmd hm hbusy
    refine ⟨next_onFab ?_, next_onFab ?_⟩ <;>
      rw [if_pos hm, Fab.wMbxCmd_busy _ _ hm hbusy]
  · intro s m cmd hm hfree
    refine next_onFab ?_
    rw [if_pos hm, Fab.wMbxCmd_go _ _ _ hfree]
  · intro s m cmd hm hfree
    refine next_onFab ?_
    rw [if_pos hm, Fab.wMbxCmd_go _ _ _ hfree]
  · intro s m cmd hm hfree
    refine next_onFab ?_
    rw [if_pos hm, Fab.wMbxCmd_go _ _ _ hfree]
  · intro s m cmd op hm hfree hop hres
    refine next_onFab ?_
    have hkeep : ¬(1 ≤ field cmd 0 3 ∧ field cmd 0 3 ≤ 3) := by omega
    rw [if_pos hm, if_neg hkeep, hop, Fab.wMbxCmd_go _ _ _ hfree]
  · intro f m cmd dbg hheld
    exact Fab.mbxGo_fails m cmd dbg hheld
  · intro f m dbg t hlocal hwarden hmap hguy
    exact Fab.serve_remote hlocal hwarden hmap hguy
  · intro f m dbg t hm hmap
    exact Fab.serve_shut hm hmap
  · intro s m a op hfind hop
    refine next_onFab ?_
    have hop' : ({ s.fab with answers := dropFirst (fun x => x.who == m) s.fab.answers }.mbxOf m).op = some op := hop
    simp only [hfind, hop']
  · intro x op data hread hlen
    exact Mbx.complete_read data hread hlen
  · intro x op code data hcode
    exact Mbx.complete_error x op data hcode
  · intro s m op hm hop hlate
    refine ⟨_, rfl, next_onFab ?_, ?_⟩
    · simp only [hop, if_neg (Nat.not_lt.mpr hlate), if_pos hm]
      rfl
    · rw [Fab.endMbx_own, Mbx.complete_error _ _ _ (by decide)]
      exact ⟨rfl, rfl⟩
  · intro s m op hop hearly
    refine next_same ?_
    simp only [hop, if_pos hearly]

end Sys2Proof.Machine

/-! Proofs: the restart of the configuration scrubbers (R506). -/

namespace Sys2Proof.Machine

/-! ## The restart of the configuration scrubbers -/

/-- A write of MAP_CRC_CTL leaves two bits of DIE_SEL (R506). -/
theorem Fab.wCrcCtl_dieSel (f : Fab) (v : Nat) : (f.wCrcCtl v).map.dieSel = field (masked f.map.ctl v) 4 2 := by
  rw [Fab.wCrcCtl]
  split <;> rfl

/-- A state of which DIE_SEL holds more than its two bits: the reset state but for that. -/
def wideDieSel : State := State.reset.onFab (fun f => f.modMap (fun m => { m with dieSel := 4 }))

theorem wideDieSel_mapHeld : wideDieSel.fab.mapHeld = false := by
  decide

/-- Refutes O46: RESTART also writes DIE_SEL back through its field of two bits, so that it changes a state of which
DIE_SEL holds 4, while the statement, for every state, lets it change nothing but the start of the passes. -/
theorem not_mapRegisters : ¬ Obligations.MapRegisters := by
  rintro ⟨⟨_, _, _, _, _, hcontrol⟩, _⟩
  obtain ⟨hrestart, _⟩ := hcontrol wideDieSel wideDieSel_mapHeld
  have hexec : exec (.mapCrcRestart 0x00080008) wideDieSel =
      .next (wideDieSel.onFab (fun f => f.wCrcCtl (0x00080008 ||| 0x00080008))) := by
    refine next_onFab (if_neg ?_)
    rw [wideDieSel_mapHeld]
    exact Bool.false_ne_true
  rw [hexec] at hrestart
  injection hrestart with hstate
  have hsel : (wideDieSel.fab.wCrcCtl (0x00080008 ||| 0x00080008)).map.dieSel = 4 :=
    congrArg (fun s : State => s.fab.map.dieSel) hstate
  rw [Fab.wCrcCtl_dieSel, field] at hsel
  omega

end Sys2Proof.Machine

/-! Proofs: passes of the configuration scrubbers (R504 to R507, R556). -/

namespace Sys2Proof.Machine

/-! ## Passes of the configuration scrubbers -/

theorem length_leBytes (v n : Nat) : (leBytes v n).length = n := by
  induction n generalizing v with
  | zero => rfl
  | succ n ih => rw [leBytes, List.length_cons, ih]

/-- A table of `n` elements of `k` bytes. -/
theorem length_tableBytes (v : Nat → Nat) (n k : Nat) :
    ((List.range n).flatMap (fun e => leBytes (v e) k)).length = n * k := by
  simp only [List.length_flatMap, length_leBytes, List.map_const', List.length_range, List.sum_replicate_nat]

/-- The objects of the configuration shadow fit in its 2,048 bytes (R503). -/
theorem FamCopy.length_shadowBytes (c : FamCopy) : c.shadowBytes.length = 2048 := by
  have hfit : (shadowRows.map (fun r => r.2.2.count * objSize r.2.2 r.1 r.2.1)).sum ≤ 2048 := by decide +kernel
  simp only [FamCopy.shadowBytes, List.length_append, List.length_replicate, List.length_flatMap, length_leBytes,
    List.map_const', List.length_range, List.sum_replicate_nat]
  omega

/-- The configuration image (R504). -/
theorem FamCopy.length_image (c : FamCopy) : c.image.length = 8529920 := by
  simp only [FamCopy.image, List.length_append, length_tableBytes, c.length_shadowBytes]

/-- What the end of a pass compares (R506). -/
theorem Fab.passDone_cases (f : Fab) (d crc : Nat) :
    (f.map.compare = false ∨ f.map.refValid = false → f.passDone d crc = f.modMap (fun m => { m with
      cur := modAt m.cur d (fun _ => crc), done := setBit m.done d })) ∧
    (f.map.compare = true → f.map.refValid = true → crc = f.map.ref → f.passDone d crc = f.modMap (fun m => { m with
      cur := modAt m.cur d (fun _ => crc), done := setBit m.done d, matched := setBit m.matched d })) ∧
    (f.map.compare = true → f.map.refValid = true → crc ≠ f.map.ref → f.passDone d crc = (f.modMap (fun m => { m with
      cur := modAt m.cur d (fun _ => crc)
      done := setBit m.done d
      matched := clearBits m.matched (m.matched &&& mask d)
      mismatch := setBit m.mismatch d })).raise famMap 5 d crc f.map.ref) := by
  refine ⟨fun hoff => ?_, fun hcmp hval heq => ?_, fun hcmp hval hne => ?_⟩
  · have hnot : (f.map.compare && f.map.refValid) = false := by
      rcases hoff with h | h <;> simp [h]
    simp only [Fab.passDone, hnot, Bool.not_false, if_true]
  · simp only [Fab.passDone, hcmp, hval, Bool.and_self, Bool.not_true, Bool.false_eq_true, if_false, if_pos heq]
    rfl
  · simp only [Fab.passDone, hcmp, hval, Bool.and_self, Bool.not_true, Bool.false_eq_true, if_false, if_neg hne]
    rfl

/-- A pass measures nothing of its own (R556). -/
theorem Fab.passDone_wd (f : Fab) (d crc : Nat) : (f.passDone d crc).wd = f.wd := by
  rw [Fab.passDone]
  split
  · rfl
  · split
    · rfl
    · rw [Fab.raise]
      split <;> rfl

/-- Settles O47. -/
theorem scrubbing : Obligations.Scrubbing := by
  refine ⟨?_, Fab.passDone_cases, ?_, FamCopy.length_image⟩
  · intro s d hd hrun hlive hheld hmeas hpll hover
    refine next_onFab ?_
    have hgo : ¬(4 ≤ d ∨ s.fab.map.run = false ∨ s.fab.dieLive d = false ∨ s.fab.mapHeld = true ∨ s.fab.qpll (4 * d) ≠ 0 ∨
        (s.fab.lantern d).run.toNat < s.fab.map.passAt.getD d 0 + s.fab.passTime) := by
      rw [hrun, hlive, hheld, hpll]
      simp only [Bool.true_eq_false, Bool.false_eq_true, ne_eq, not_true_eq_false, false_or]
      omega
    have hmeas' : ∀ crc, (s.fab.passDone d crc).wd.measDue = false := fun crc => by
      rw [Fab.passDone_wd, hmeas]
    simp only [if_neg hgo, List.foldl_nil, FamCopy.withErrors, hmeas', Bool.false_eq_true, false_and, and_false, if_false]
  · intro s d ue bad hbar
    refine next_same (if_pos ?_)
    rcases hbar with hrun | hearly
    · exact Or.inr (Or.inl hrun)
    · exact Or.inr (Or.inr (Or.inr (Or.inr (Or.inr hearly))))

end Sys2Proof.Machine

/-! Proofs: transfers of the management crossbar (R511 to R515, R553, R630). -/

namespace Sys2Proof.Machine

/-! ## Transfers of the management crossbar -/

/-- The Warden has nothing to take up (R553). -/
theorem Fab.wardenUp_idle {f : Fab} (hwait : f.wd.wait = []) (hup : f.wd.restarting = false) : f.wardenUp = f := by
  have hrestart : f.modWd (fun w => { w with restarting := false }) = f := by
    rw [Fab.modWd, ← hup]
  have hnext : f.modWd (fun w => { w with wait := [] }) = f := by
    rw [Fab.modWd, ← hwait]
  rw [Fab.wardenUp, hrestart, Fab.wardenNext, hwait, hnext, List.foldl_nil]

/-- The round robin over the four masters, from the one after the last (R515). -/
theorem rrPick_eq (last : Nat) (l : List Nat) {m : Nat} (h : rrPick last l = some m) :
    m ∈ l ∧ ∀ k, k < (m + 7 - last % 4) % 4 → (last + 1 + k) % 4 ∉ l := by
  rw [rrPick, List.find?_eq_some_iff_getElem] at h
  obtain ⟨hm, i, hi, hget, hbefore⟩ := h
  rw [List.length_map, List.length_range] at hi
  rw [List.getElem_map, List.getElem_range] at hget
  refine ⟨by simpa using hm, fun k hk => ?_⟩
  have hki : k < i := by omega
  have hnot := hbefore k hki
  rw [List.getElem_map, List.getElem_range] at hnot
  simpa using hnot

/-- A master that waits alone is the one that the round robin finds. -/
theorem rrPick_alone (last : Nat) {m : Nat} (h : m < 4) : rrPick last [m] = some m := by
  rw [rrPick, List.find?_eq_some_iff_getElem]
  refine ⟨by simp, (m + 3 - last % 4) % 4, ?_, ?_, fun j hj => ?_⟩
  · rw [List.length_map, List.length_range]
    omega
  · rw [List.getElem_map, List.getElem_range]
    omega
  · rw [List.getElem_map, List.getElem_range]
    simp only [List.contains_cons, List.contains_nil, Bool.or_false, Bool.not_eq_true', beq_eq_false_iff_ne, ne_eq]
    omega

/-- The one transfer that waits is granted (R515). -/
theorem Fab.xPick_alone {f : Fab} {n m o : Nat} {r : XReq} (hwait : f.xb.wait = [(m, r)]) (hm : m < 4)
    (hdec : f.xDecode r.addr = some (n, o)) (hlong : f.run0 < r.at_ + ns 640) : f.xPick n = some m := by
  have hshort : ¬r.at_ + xLong ≤ f.run0 := Nat.not_le.mpr hlong
  simp [Fab.xPick, hwait, hdec, hshort, rrPick_alone _ hm]

/-- No answer of the window waits (R513). -/
theorem Fab.windowEnd_idle {f : Fab} (h : f.xb.busy.lookup 5 = none) : f.windowEnd = f := by
  simp only [Fab.windowEnd, h]

/-- The transfer that waits alone, at a target that answers it (R511 to R515). -/
theorem xbarTransfer_alone {s : State} {n m o miss : Nat} {r : XReq} (hheld : s.fab.mapHeld = false)
    (hbusy : s.fab.xb.busy = []) (hwait : s.fab.xb.wait = [(m, r)]) (hm : m < 4) (hwd : s.fab.wd.wait = [])
    (hup : s.fab.wd.restarting = false) (hn : n < 5) (hdec : s.fab.xDecode r.addr = some (n, o))
    (hok : s.fab.xRefused r n = false) (hlong : s.fab.run0 < r.at_ + ns 640) : ∃ g : Fab,
    g = (s.fab.modXb (fun x => { x with wait := [], rr := x.rr.set (fun _ => 3) n m })).xCarry r n ∧
    exec (.xbarTransfer n [] true none miss) s = .next (s.onFab (fun _ =>
      (g.xPerform r n o miss).1.xAnswer r false (g.xPerform r n o miss).2)) := by
  refine ⟨_, rfl, next_onFab ?_⟩
  have hidle : s.fab.windowEnd = s.fab := Fab.windowEnd_idle (by rw [hbusy]; rfl)
  have hfree : ((s.fab.xb.busy.lookup n).isSome || (n == 5 && s.fab.windowBusy)) = false := by
    rw [hbusy, beq_eq_false_iff_ne.mpr (by omega : n ≠ 5)]
    rfl
  have hpick := Fab.xPick_alone hwait hm hdec hlong
  have hfind : s.fab.xb.wait.lookup m = some r := by
    rw [hwait, List.lookup_cons_self]
  have herase : s.fab.modXb (fun x => { x with wait := SMap.erase x.wait m, rr := x.rr.set (fun _ => 3) n m }) =
      s.fab.modXb (fun x => { x with wait := [], rr := x.rr.set (fun _ => 3) n m }) := by
    have hgone : SMap.erase s.fab.xb.wait m = [] := by
      rw [hwait, SMap.erase, if_pos rfl, SMap.erase]
    simp only [Fab.modXb, hgone]
  have hwarden : (s.fab.modXb (fun x => { x with wait := [], rr := x.rr.set (fun _ => 3) n m })).wardenUp =
      s.fab.modXb (fun x => { x with wait := [], rr := x.rr.set (fun _ => 3) n m }) := Fab.wardenUp_idle hwd hup
  have hok' : (s.fab.modXb (fun x => { x with wait := [], rr := x.rr.set (fun _ => 3) n m })).xRefused r n = false := hok
  simp only [hheld, hidle, List.foldl_nil, Fab.xGrant, hfree, hpick, hfind, herase, hwarden, ite_self, hok', hdec,
    Option.elim_some, if_neg (by omega : ¬n = 5), Bool.not_true, Bool.false_eq_true, if_false]

/-- Where a transfer that a master may present goes (R511 to R514). -/
theorem Fab.xPresent_cases {f : Fab} {r : XReq} (hlegal : r.legal = true) (hwait : f.xb.wait.lookup r.master = none)
    (hbusy : f.xb.busy.any (fun kv => kv.2.master == r.master) = false) :
    (f.xDecode r.addr = none ∨ (∃ n o, f.xDecode r.addr = some (n, o) ∧ xPath r.master n = false) →
      f.xPresent r = (f.raiseW 2 r.addr (r.master + b2n r.write * 4)).xAnswer r true []) ∧
    (∀ n o, f.xDecode r.addr = some (n, o) → xPath r.master n = true → f.xPresent r =
      f.modXb (fun x => { x with wait := SMap.insert x.wait r.master r, rsp := SMap.erase x.rsp r.master })) := by
  have hgo : (!r.legal || (f.xb.wait.lookup r.master).isSome || f.xb.busy.any (fun kv => kv.2.master == r.master)) =
      false := by
    rw [hlegal, hwait, hbusy]
    rfl
  refine ⟨fun hnone => ?_, fun n o hdec hpath => ?_⟩
  · rcases hnone with hdec | ⟨n, o, hdec, hpath⟩
    · simp only [Fab.xPresent, hgo, Bool.false_eq_true, if_false, hdec, XReq.info]
    · simp only [Fab.xPresent, hgo, Bool.false_eq_true, if_false, hdec, hpath, XReq.info]
  · simp only [Fab.xPresent, hgo, Bool.false_eq_true, if_false, hdec, hpath, if_true]

section
variable {s : State} {w : Bool} {addr size blen : Nat} {data : List Nat}

/-- A request of the debug port that finds its master free (R630). -/
theorem debugAccess_free (hheld : s.fab.mapHeld = false) (hblen : blen < 16) (haddr : addr < 2 ^ 32)
    (hwait : s.fab.xb.wait.lookup 2 = none) (hbusy : s.fab.xb.busy.any (fun kv => kv.2.master == 2) = false) :
    exec (.debugAccess w addr size blen data) s = .next (s.onFab (fun f =>
      if size % 4 = 3 ∨ XReq.legal ⟨2, w, addr, 2 ^ (size % 4), blen + 1, data.take (blen + 1), f.run0⟩ = false ∨
          f.cdcShut .debug = true then
        (f.cdcCarry .debug addr).modXb (fun x => { x with
          rsp := SMap.insert x.rsp 2 ⟨true, List.replicate (blen + 1) 0⟩ })
      else (f.cdcCarry .debug addr).xPresent
        ⟨2, w, addr, 2 ^ (size % 4), blen + 1, data.take (blen + 1), f.run0⟩)) := by
  refine next_onFab ?_
  simp only [hheld, hwait, hbusy, Nat.mod_eq_of_lt hblen, Nat.mod_eq_of_lt haddr, dbgBytes, Option.isSome_none,
    Bool.or_self, Bool.false_eq_true, if_false]

end

/-- Settles O48. -/
theorem crossbar : Obligations.Crossbar := by
  refine ⟨?_, ?_, ?_, ?_, ?_, ?_, ?_⟩
  · intro s n m o miss r hheld hbusy hwait hm _ hwd hup hn hdec hok _ hlong
    exact xbarTransfer_alone hheld hbusy hwait hm hwd hup hn hdec hok hlong
  · intro f r hlegal hwait hbusy
    exact Fab.xPresent_cases hlegal hwait hbusy
  · intro s n r hn h5 hbusy hlate
    refine next_onFab ?_
    simp only [Fab.windowEnd_idle h5, hbusy, if_neg (by omega : ¬n = 5), if_neg (Nat.not_lt.mpr hlate)]
  · intro s w addr size blen data hheld hblen haddr hwait hbusy hopen hsize
    have hsz : size % 4 = size := Nat.mod_eq_of_lt (by omega)
    have hexec := debugAccess_free (w := w) (size := size) (data := data) hheld hblen haddr hwait hbusy
    rw [hsz] at hexec
    refine ⟨fun hlegal => hexec.trans (next_onFab (if_neg ?_)), fun hillegal => hexec.trans (next_onFab (if_pos ?_))⟩
    · rw [hlegal, hopen]
      rintro (h | h | h)
      · omega
      · exact Bool.false_ne_true h.symm
      · exact Bool.false_ne_true h
    · exact Or.inr (Or.inl hillegal)
  · intro s w addr size blen data hheld hblen haddr hwait hbusy hshut
    exact (debugAccess_free hheld hblen haddr hwait hbusy).trans (next_onFab (if_pos (Or.inr (Or.inr hshut))))
  · intro s w addr size blen data hwait
    refine next_same (if_pos ?_)
    rw [hwait, Bool.or_true, Bool.true_or]
  · intro last m l _ hpick
    exact rrPick_eq last l hpick

end Sys2Proof.Machine

/-! Proofs: the Warden's watchdog, its restarts and WARDEN_REMAP (R508 to R510, R555). -/

namespace Sys2Proof.Machine

/-! ## The Warden's watchdog, its restarts and WARDEN_REMAP -/

/-- A raise changes fault families alone (R571). -/
theorem Fab.raise_view {α : Type} (view : Fab → α) (hview : ∀ (f : Fab) k g, view (f.modFam k g) = view f)
    (f : Fab) (key code i0 i1 i2 : Nat) : view (f.raise key code i0 i1 i2) = view f := by
  rw [Fab.raise]
  split
  · rfl
  · exact hview f _ _

theorem Fab.raise_wd (f : Fab) (key code i0 i1 i2 : Nat) : (f.raise key code i0 i1 i2).wd = f.wd :=
  Fab.raise_view Fab.wd (fun f k g => f.modFam_wd k g) f key code i0 i1 i2

theorem Fab.answer_wd (f : Fab) (who code data : Nat) : (f.answer who code data).wd = f.wd := by
  rw [Fab.answer]
  split <;> rfl

/-- Programming cut off leaves the rest of the Warden (R544). -/
theorem Fab.cutOtp_wd (f : Fab) : f.cutOtp.wd = { f.wd with burn := none, prog := none } := by
  unfold Fab.cutOtp
  cases hb : f.wd.burn with
  | none => cases hp : f.wd.prog with
    | none => simp [hb, hp]
    | some j => simp [hb, hp]
  | some w => cases hp : f.wd.prog with
    | none => simp [hb, hp]
    | some j => simp [hb, hp]

/-- A ticket given up leaves the rest of the Warden (R549). -/
theorem Fab.abortTicket_wd (f : Fab) : f.abortTicket.wd = { f.wd with ticket := none } := by
  rw [Fab.abortTicket]
  cases ht : f.wd.ticket with
  | none =>
    dsimp only
    rw [← ht]
  | some tk =>
    dsimp only
    rw [Fab.ticketRejected, Fab.raise_wd, Fab.setO_wd, Fab.setO_wd]
    rfl

/-- Reading the seal leaves what a restart keeps (R556). -/
theorem Fab.readSeal_wd (f : Fab) : f.readSeal.wd.sram = f.wd.sram ∧ f.readSeal.wd.remapLocked = f.wd.remapLocked ∧
    f.readSeal.wd.ticket = f.wd.ticket ∧ f.readSeal.wd.burn = f.wd.burn ∧ f.readSeal.wd.prog = f.wd.prog := by
  rw [Fab.readSeal]
  split
  · exact ⟨rfl, rfl, rfl, rfl, rfl⟩
  · rw [Fab.measured, Fab.modWd_wd, Fab.setO_wd]
    exact ⟨rfl, rfl, rfl, rfl, rfl⟩

/-- What a restart of the Warden keeps and ends (R508). -/
theorem Fab.wardenRestart_wd (f : Fab) : f.wardenRestart.wd.sram = f.wd.sram ∧
    f.wardenRestart.wd.remapLocked = f.wd.remapLocked ∧ f.wardenRestart.wd.ticket = none ∧
    f.wardenRestart.wd.burn = none ∧ f.wardenRestart.wd.prog = none := by
  have hcut : ∀ whos : List Nat, (whos.foldl (fun f w => f.answer w cTimeout) f.cutOtp.abortTicket).wd =
      { f.wd with burn := none, prog := none, ticket := none } := by
    intro whos
    rw [Fab.foldl_keeps (fun g : Fab => g.wd) _ (fun g w => g.answer_wd w cTimeout 0), Fab.abortTicket_wd, Fab.cutOtp_wd]
  rw [Fab.wardenRestart]
  generalize f.wd.burn.toList ++ (f.wd.prog.map (fun j => j.who)).toList ++ f.wd.wait.map (·.1) = whos
  obtain ⟨hsram, hlock, htk, hburn, hprog⟩ := Fab.readSeal_wd
    ((whos.foldl (fun f w => f.answer w cTimeout) f.cutOtp.abortTicket).modWd (fun w => { w with
      wait := [], restarting := true }))
  rw [Fab.modWd_wd, hcut] at hsram hlock htk hburn hprog
  exact ⟨hsram, hlock, htk, hburn, hprog⟩

/-- A write of WARDEN_REMAP that the object takes (R509, R510). -/
theorem Fab.wRemap_open {f : Fab} {v : Nat} (hlock : f.wd.remapLocked = false) (hdue : f.wd.remapDue = false) :
    (v = 0 → f.wRemap v =
      ((f.modWd (fun w => { w with remapLocked := true })).shadowAll .inst 0 O.WARDEN_REMAP 1 0, cOk)) ∧
    (v ≠ 0 → f.sealed = false ∨ f.wd.patch.isSome = true → f.wRemap v =
      if f.wardenBusy then (f.modWd (fun w => { w with remapDue := true }), cOk) else (f.doRemap, cOk)) ∧
    (v ≠ 0 → f.sealed = true → f.wd.patch = none → f.wRemap v = (f, cDenied)) := by
  refine ⟨fun hv => ?_, fun hv hok => ?_, fun hv hseal hpatch => ?_⟩
  · simp only [Fab.wRemap, hlock, hdue, hv, bne_self_eq_false, Bool.false_and, Bool.or_self, Bool.false_eq_true, if_false,
      if_true]
  · have hmay : (v != 0 && f.sealed && f.wd.patch.isNone) = false := by
      rcases hok with h | h
      · rw [h, Bool.and_false, Bool.false_and]
      · rw [Option.isNone_eq_false_iff.mpr h, Bool.and_false]
    simp only [Fab.wRemap, hlock, hdue, hmay, Bool.or_self, Bool.false_eq_true, if_false, if_neg hv]
  · simp only [Fab.wRemap, hseal, hpatch, bne_iff_ne.mpr hv, Option.isNone_none, Bool.and_self, Bool.or_true, if_true]

/-- Settles O49. -/
theorem wardenRestartsAndRemap : Obligations.WardenRestartsAndRemap := by
  refine ⟨?_, Fab.wardenRestart_wd, ?_, ?_⟩
  · intro s addr
    exact ⟨fun hoff => next_same (if_pos hoff), fun hon => next_onFab (if_neg hon)⟩
  · intro s who v hlock hdue
    obtain ⟨hzero, hone, hdenied⟩ := Fab.wRemap_open (v := v) hlock hdue
    refine ⟨fun hv => next_onFab ?_, fun hv hok hidle => next_onFab ?_, fun hv hok hbusy => next_onFab ?_,
      fun hv hseal hpatch => next_onFab ?_⟩
    · rw [hzero hv, Fab.done_mk]
      rfl
    · rw [hone hv hok, hidle]
      rfl
    · rw [hone hv hok, hbusy]
      rfl
    · rw [hdenied hv hseal hpatch, Fab.done_mk]
      rfl
  · intro s who v hlock
    refine next_onFab ?_
    rw [Fab.wRemap, hlock, Bool.true_or, Bool.true_or, if_pos rfl, Fab.done_mk]
    rfl

end Sys2Proof.Machine

/-! Proofs: tickets (R545, R547 to R552). -/

namespace Sys2Proof.Machine

/-! ## Tickets -/

section
variable {f : Fab} {tk : Nat}

/-- An operation that reaches the Warden while it restarts or draws its nonce (R545). -/
theorem Fab.wardenServe_waits (who idx v : Nat) (h : f.wd.restarting = true ∨ f.ve.op = some .draw) :
    f.wardenServe who idx v = f.modWd (fun w => { w with wait := w.wait ++ [(who, idx, v)] }) := by
  refine if_pos ?_
  rw [Bool.or_eq_true, beq_iff_eq]
  exact h

/-- A ticket that reaches the Warden otherwise (R547). -/
theorem Fab.wardenServe_ticket (who v : Nat) (hup : f.wd.restarting = false) (hdraw : f.ve.op ≠ some .draw) :
    f.wardenServe who O.TICKET_SUBMIT v = Fab.done (f.wTicketSubmit v) who := by
  rw [Fab.wardenServe, hup, beq_eq_false_iff_ne.mpr hdraw]
  rfl

theorem Fab.debugRefused_iff (tm : Nat) :
    f.debugRefused tm = true ↔ tm < f.dieTime 0 + ms 1 ∨ f.dieTime 0 + ms 86400000 < tm := by
  rw [Fab.debugRefused, Bool.or_eq_true, decide_eq_true_eq, decide_eq_true_eq]

/-- A DEBUG ticket that passes the first checks (R550). -/
theorem Fab.tkEnd_debug (hkind : tkKind tk = 2) :
    (tkTime tk < f.dieTime 0 + ms 1 ∨ f.dieTime 0 + ms 86400000 < tkTime tk →
      f.tkEnd tk (f.tkLate tk) = f.ticketRejected 6 2 (tkCounter tk)) ∧
    (f.dieTime 0 + ms 1 ≤ tkTime tk → tkTime tk ≤ f.dieTime 0 + ms 86400000 →
      f.tkEnd tk (f.tkLate tk) = ((f.setO .inst 0 O.DEBUG_TICKET 0 1).modWd (fun w => { w with
        debugEnd := f.run0 + (tkTime tk - f.dieTime 0) })).ticketAccepted (tkCounter tk)) := by
  have hbind : ¬tkKind tk = 1 := by omega
  refine ⟨fun hbad => ?_, fun hlow hhigh => ?_⟩
  · have hrefused : f.debugRefused (tkTime tk) = true := Fab.debugRefused_iff _ |>.mpr hbad
    have hlate : f.tkLate tk = .error 6 := by
      simp only [Fab.tkLate, if_neg hbind, if_pos hkind, hrefused, if_true]
    rw [hlate, Fab.tkEnd, hkind]
  · have hok : f.debugRefused (tkTime tk) = false := by
      rw [Bool.eq_false_iff, ne_eq, Fab.debugRefused_iff]
      omega
    simp only [Fab.tkLate, if_neg hbind, if_pos hkind, hok, Bool.false_eq_true, if_false, Fab.tkEnd]

/-- A PATCH ticket that passes the first checks (R551). -/
theorem Fab.tkEnd_patch (hkind : tkKind tk = 3) :
    (f.imageOk tk = true → f.tkEnd tk (f.tkLate tk) =
      (f.modWd (fun w => { w with patch := some (tkField tk 208 4, tkField tk 212 4) })).ticketAccepted (tkCounter tk)) ∧
    (f.imageOk tk = false → f.tkEnd tk (f.tkLate tk) = f.ticketRejected 9 3 (tkCounter tk)) := by
  have hbind : ¬tkKind tk = 1 := by omega
  have hdebug : ¬tkKind tk = 2 := by omega
  refine ⟨fun hok => ?_, fun hbad => ?_⟩
  · simp only [Fab.tkLate, if_neg hbind, if_neg hdebug, hok, Bool.not_true, Bool.false_eq_true, if_false, Fab.tkEnd]
  · have hlate : f.tkLate tk = .error 9 := by
      simp only [Fab.tkLate, if_neg hbind, if_neg hdebug, hbad, Bool.not_false, if_true]
    rw [hlate, Fab.tkEnd, hkind]

/-- A BINDING ticket that applies at once and passes the first checks (R548, R549). -/
theorem Fab.tkEnd_binding (hkind : tkKind tk = 1) (hnow : tkTime tk = 0) :
    (∀ g, f.tkApply (tkOps tk) = some g → f.tkEnd tk (f.tkLate tk) = g.ticketAccepted (tkCounter tk)) ∧
    (f.tkApply (tkOps tk) = none → f.tkEnd tk (f.tkLate tk) = f.ticketRejected 8 1 (tkCounter tk)) := by
  refine ⟨fun g hg => ?_, fun hnone => ?_⟩
  · simp only [Fab.tkLate, if_pos hkind, hnow, hg, ne_eq, not_true_eq_false, false_and, if_false, if_true, Fab.tkEnd]
  · have hlate : f.tkLate tk = .error 8 := by
      simp only [Fab.tkLate, if_pos hkind, hnow, hnone, ne_eq, not_true_eq_false, false_and, if_false]
    rw [hlate, Fab.tkEnd, hkind]

/-- The checks of R547 in their order. -/
theorem Fab.tkEarly_eq_zero (h : f.tkEarly tk = 0) : tkField tk 8 32 = f.nonce ∧ f.nonce ≠ 0 ∧
    f.oI O.TICKET_COUNTER < tkCounter tk ∧ tkSignatureOk tk = true := by
  rw [Fab.tkEarly] at h
  split at h
  · omega
  · split at h
    · omega
    · split at h
      · omega
      · next hnonce =>
        split at h
        · omega
        · next hcount =>
          split at h
          · omega
          · next hsig =>
            rw [not_or] at hnonce
            exact ⟨Decidable.not_not.mp hnonce.1, hnonce.2, Nat.not_le.mp hcount, by simpa using hsig⟩

/-- Another object than the one written (R29). -/
theorem Fab.setO_o_ne (f : Fab) {sc sc' : Scope} {n n' i i' k k' : Nat} (v : Nat)
    (h : objKey sc' n' i' k' ≠ objKey sc n i k) : (f.setO sc n i k v).o sc' n' i' k' = f.o sc' n' i' k' := by
  rw [Fab.o, Fab.setO, SMap.get_set_other _ _ _ _ _ h, Fab.o]

/-- A ticket rejected changes its result alone (R547). -/
theorem Fab.ticketRejected_keeps (f : Fab) (r kind counter : Nat) : (f.ticketRejected r kind counter).bind = f.bind ∧
    (f.ticketRejected r kind counter).copy = f.copy ∧
    (f.ticketRejected r kind counter).oI O.TICKET_COUNTER = f.oI O.TICKET_COUNTER ∧
    (f.ticketRejected r kind counter).oI O.TICKET_STATE = 3 := by
  have hstate : objKey .inst 0 O.TICKET_COUNTER 0 ≠ objKey .inst 0 O.TICKET_STATE 0 := by decide
  have hresult : objKey .inst 0 O.TICKET_COUNTER 0 ≠ objKey .inst 0 O.TICKET_RESULT 0 := by decide
  rw [Fab.ticketRejected]
  refine ⟨?_, ?_, ?_, ?_⟩
  · rw [Fab.raise_view Fab.bind (fun f k g => f.modFam_bind k g), Fab.setO_bind, Fab.setO_bind]
  · rw [Fab.raise_view Fab.copy (fun f k g => f.modFam_copy k g), Fab.setO_copy, Fab.setO_copy]
  · rw [Fab.raise_view (fun g : Fab => g.oI O.TICKET_COUNTER) (fun f k g => f.modFam_o k g _ _ _ _), Fab.oI,
      Fab.setO_o_ne _ _ hstate, Fab.setO_o_ne _ _ hresult, Fab.oI]
  · rw [Fab.raise_view (fun g : Fab => g.oI O.TICKET_STATE) (fun f k g => f.modFam_o k g _ _ _ _), Fab.oI, Fab.setO_own]

end

/-- Settles O50. -/
theorem tickets : Obligations.Tickets := by
  refine ⟨?_, ?_, ?_, ?_, ?_, ?_, ?_⟩
  · intro s who v hwaits
    exact ⟨next_onFab (Fab.wardenServe_waits _ _ _ hwaits), next_onFab (Fab.wardenServe_waits _ _ _ hwaits),
      next_onFab (Fab.wardenServe_waits _ _ _ hwaits)⟩
  · intro s who v hup hdraw
    have hserve := Fab.wardenServe_ticket who v hup hdraw
    refine ⟨fun hbusy => next_onFab (hserve.trans ?_), fun hfree => next_onFab (hserve.trans ?_)⟩
    · rw [Fab.wTicketSubmit, if_pos hbusy, Fab.done_mk]
      rfl
    · rw [Fab.wTicketSubmit, if_neg hfree, Fab.done_mk]
      rfl
  · intro s tk f htk hf
    refine next_onFab ?_
    simp only [htk, ← hf, ne_eq, ite_not]
  · intro f tk
    refine ⟨fun hkind => (Fab.tkEnd_debug hkind).1, fun hkind => (Fab.tkEnd_debug hkind).2,
      fun hkind => (Fab.tkEnd_patch hkind).1, fun hkind => (Fab.tkEnd_patch hkind).2,
      fun hkind hnow => (Fab.tkEnd_binding hkind hnow).1, fun hkind hnow => (Fab.tkEnd_binding hkind hnow).2⟩
  · intro f tk
    refine ⟨fun hform => ?_, fun hform hhash => ?_, fun hbad hzero => ?_⟩
    · rw [Fab.tkEarly, hform]
      rfl
    · rw [Fab.tkEarly, hform]
      exact if_pos (Or.inl hhash)
    · obtain ⟨hnonce, hdrawn, hcount, hsig⟩ := Fab.tkEarly_eq_zero hzero
      rcases hbad with h | h | h | h
      · exact hdrawn h
      · exact h hnonce
      · omega
      · rw [hsig] at h
        exact Bool.false_ne_true h.symm
  · intro f r kind counter _
    exact f.ticketRejected_keeps r kind counter
  · intro s hdebug
    exact ⟨fun hover => next_onFab (if_pos ⟨hdebug, hover⟩), fun hearly => next_same (if_neg (fun h => by omega))⟩

end Sys2Proof.Machine

/-! Proofs: the seal and one-time storage (R539 to R541, R558 to R565). -/

namespace Sys2Proof.Machine

/-! ## The seal and one-time storage -/

/-- The upper half of a word with all its seal bits (R540). -/
theorem field_seal_or (x : Nat) : field (x ||| 0xFFFF0000) 16 16 = 0xFFFF := by
  have hones : (0xFFFF0000 : Nat) = (2 ^ 16 - 1) * 2 ^ 16 := by decide
  have hall : (0xFFFF : Nat) = 2 ^ 16 - 1 := by decide
  refine Nat.eq_of_testBit_eq (fun i => ?_)
  rw [field, Nat.testBit_mod_two_pow, Nat.testBit_shiftRight, Nat.testBit_or, hones, Nat.testBit_mul_two_pow, hall,
    Nat.testBit_two_pow_sub_one, Nat.testBit_two_pow_sub_one]
  by_cases hi : i < 16
  · simp [hi]
  · simp [hi]

/-- A burn of every seal bit sets the upper half of word 1 of each slot (R540). -/
theorem Otp.burnSeal_all_word (o : Otp) {s : Nat} (hs : s < 4) :
    (o.burnSeal (2 ^ 64 - 1)).word (512 * s + 1) = o.word (512 * s + 1) ||| 0xFFFF0000 := by
  have hmask : ∀ s < 4, field (2 ^ 64 - 1) (16 * s) 16 * 2 ^ 16 % 2 ^ 32 = 0xFFFF0000 := by decide
  have hrange : List.range 4 = [0, 1, 2, 3] := rfl
  rw [Otp.burnSeal, hrange]
  simp only [List.foldl_cons, List.foldl_nil, Otp.program_word, hmask 0 (by decide), hmask 1 (by decide),
    hmask 2 (by decide), hmask 3 (by decide)]
  rcases (by omega : s = 0 ∨ s = 1 ∨ s = 2 ∨ s = 3) with rfl | rfl | rfl | rfl <;> rfl

/-- The upper half of the second of two words. -/
theorem field_two_words {a b : Nat} (ha : a < 2 ^ 32) (hb : b < 2 ^ 32) :
    field ((a + b * 2 ^ 32) % 2 ^ 64) 48 16 = field b 16 16 := by
  rw [field, field, Nat.shiftRight_eq_div_pow, Nat.shiftRight_eq_div_pow]
  omega

/-- The first eight bytes of a slot (R558). -/
theorem Otp.bytes_eight (o : Otp) (s : Nat) :
    o.bytes (0x800 * s) 8 = (o.word (512 * s) + o.word (512 * s + 1) * 2 ^ 32) % 2 ^ 64 := by
  have hoff : 0x800 * s / 4 = 512 * s := by omega
  have hrange : List.range ((8 + 3) / 4) = [0, 1] := by decide
  rw [Otp.bytes, hrange, hoff, List.foldl_cons, List.foldl_cons, List.foldl_nil, Nat.mul_zero, Nat.pow_zero, Nat.mul_one,
    Nat.zero_add, Nat.add_zero, Nat.mul_one, Otp.word, Otp.word]

/-- The seal bits of a slot stand in its word 1 (R540, R560). -/
theorem Otp.sealField_eq {o : Otp} (hok : o.wordsOk) (s : Nat) :
    field (o.bytes (0x800 * s) 8) 48 16 = field (o.word (512 * s + 1)) 16 16 := by
  rw [Otp.bytes_eight, field_two_words (hok _) (hok _)]

/-- A burn of every seal bit leaves the block Sealed (R540). -/
theorem Otp.burnSeal_all_isSealed {o : Otp} (hok : o.wordsOk) : (o.burnSeal (2 ^ 64 - 1)).isSealed = true := by
  have hok' : (o.burnSeal (2 ^ 64 - 1)).wordsOk := (Otp.gains_burnSeal o _).2 hok
  have hslot : ∀ s < 4, field ((o.burnSeal (2 ^ 64 - 1)).bytes (0x800 * s) 8) 48 16 = 0xFFFF := fun s hs => by
    rw [Otp.sealField_eq hok', Otp.burnSeal_all_word o hs, field_seal_or]
  have hrange : List.range 4 = [0, 1, 2, 3] := rfl
  rw [Otp.isSealed, Otp.sealBits, hrange]
  simp only [List.foldl_cons, List.foldl_nil, hslot 0 (by decide), hslot 1 (by decide), hslot 2 (by decide),
    hslot 3 (by decide)]
  decide

/-- No word lacks a seal bit after such a burn (R540). -/
theorem Otp.burnSeal_all_left (o : Otp) :
    (List.range 4).find? (fun s => field ((o.burnSeal (2 ^ 64 - 1)).word (512 * s + 1)) 16 16 != 0xFFFF) = none := by
  refine List.find?_eq_none.mpr (fun s hs => ?_)
  rw [Otp.burnSeal_all_word o (List.mem_range.mp hs), field_seal_or]
  decide

/-- SEAL_STATE mirrors the seal (R539). -/
theorem Fab.readSeal_state {g : Fab} (h : g.otp.isSealed = true) : g.readSeal.oI O.SEAL_STATE = 1 := by
  rw [Fab.readSeal, h]
  split
  · next heq => exact heq
  · rw [Fab.oI, Fab.measured, Fab.modWd_o, Fab.setO_own]
    rfl

/-- What bars a burn (R541). -/
theorem Fab.burnRefused_of {f : Fab} {v : Nat} (h : v ≠ 0x5EA15EA1 ∨ f.otp.authHash = 0 ∨ f.bind.cst ≠ .idle ∨
    f.bind.dst = .running ∨ f.oI O.TICKET_STATE = 1 ∨ f.sealed = true) : f.burnRefused v = true := by
  simp only [Fab.burnRefused, Bool.or_eq_true, bne_iff_ne, beq_iff_eq]
  rcases h with h | h | h | h | h | h <;> simp [h]

/-- A record that is not refused finds a blank slot (R561). -/
theorem Fab.programRefused_spare {f : Fab} {record : Nat} (h : f.programRefused record = false) :
    ∃ slot, (List.range 4).find? (fun k => f.otp.blank k) = some slot := by
  rw [Fab.programRefused, Bool.or_eq_false_iff, Bool.or_eq_false_iff, beq_eq_false_iff_ne, Otp.spare] at h
  obtain ⟨⟨_, hspare⟩, _⟩ := h
  rw [← Option.isSome_iff_exists, List.find?_isSome]
  obtain ⟨k, hk⟩ := List.exists_mem_of_length_pos (Nat.pos_of_ne_zero hspare)
  exact ⟨k, (List.mem_filter.mp hk).1, (List.mem_filter.mp hk).2⟩

section
variable {f : Fab} {who v : Nat}

/-- An operation on one-time storage that the Warden takes up at once (R545). -/
theorem Fab.wardenServe_program {idx : Nat} (hidx : idx ≠ O.TICKET_SUBMIT) (hfree : f.wd.programs = false)
    (hup : f.wd.restarting = false) (hdraw : f.ve.op ≠ some .draw) : f.wardenServe who idx v = f.beginProgram who idx v := by
  rw [Fab.wardenServe, hup, beq_eq_false_iff_ne.mpr hdraw, Bool.or_self, if_neg Bool.false_ne_true, if_neg hidx,
    Fab.wProgram, hfree, if_neg Bool.false_ne_true]

/-- An OTP_PROGRAM that is not refused takes the lowest blank slot (R561, R562). -/
theorem Fab.beginProgram_taken (hok : f.programRefused v = false) : ∃ slot record,
    (List.range 4).find? (fun k => f.otp.blank k) = some slot ∧ f.beginProgram who O.OTP_PROGRAM v =
      f.modWd (fun w => { w with prog := some ⟨who, slot, record⟩ }) := by
  have hidx : O.OTP_PROGRAM ≠ O.SEAL_BURN := by decide
  obtain ⟨slot, hslot⟩ := Fab.programRefused_spare hok
  rw [Fab.beginProgram, if_neg hidx, hok, if_neg Bool.false_ne_true, hslot]
  exact ⟨slot, _, rfl, rfl⟩

end

/-- A program of a value that a completed record does not refuse changes nothing outside its seal bits (R565). -/
theorem Otp.program_completed {o : Otp} {w v : Nat} (hdone : o.completed w) (hseal : w % 512 ≠ 1)
    (hok : o.refuses w v = false) : (o.program w v).word w = o.word w := by
  refine Nat.eq_of_testBit_eq (fun k => ?_)
  rw [Otp.testBit_program_word, decide_eq_true rfl, Bool.true_and]
  by_cases hk : k < 32
  · by_cases hv : v.testBit k = true
    · rw [Otp.testBit_word_of_not_refuses hok hdone (fun h => absurd h hseal) hk hv, Bool.true_or]
    · rw [Bool.eq_false_iff.mpr hv, Bool.and_false, Bool.or_false]
  · rw [decide_eq_false hk, Bool.false_and, Bool.or_false]

theorem clearBits_zero (v : Nat) : clearBits v 0 = v := by
  rw [clearBits, Nat.and_zero, Nat.sub_zero]

/-- Settles O51. -/
theorem sealAndOneTimeStorage : Obligations.SealAndOneTimeStorage := by
  refine ⟨?_, ?_, ?_, ?_, ?_, ?_⟩
  · intro s who v hfree hup hdraw
    have hserve := Fab.wardenServe_program (who := who) (v := v) (by decide : O.SEAL_BURN ≠ O.TICKET_SUBMIT) hfree hup hdraw
    refine ⟨fun hbar => next_onFab (hserve.trans ?_), fun hok => next_onFab (hserve.trans ?_), Fab.burnRefused_of⟩
    · rw [Fab.beginProgram, if_pos rfl, hbar]
      rfl
    · rw [Fab.beginProgram, if_pos rfl, hok]
      rfl
  · intro s who hburn hok
    refine ⟨_, rfl, next_onFab ?_, Otp.burnSeal_all_isSealed hok, Fab.readSeal_state (Otp.burnSeal_all_isSealed hok)⟩
    have hleft : (List.range 4).find? (fun k => field (((s.fab.modOtp (fun o => o.burnSeal (2 ^ 64 - 1))).modWd (fun w =>
        { w with burn := none })).otp.word (512 * k + 1)) 16 16 != 0xFFFF) = none := Otp.burnSeal_all_left s.fab.otp
    simp only [hburn, clearBits_zero, hleft, Option.isSome_none, Bool.false_eq_true, if_false]
    rfl
  · intro s who rec hfree hup hdraw
    have hserve := Fab.wardenServe_program (who := who) (v := rec) (by decide : O.OTP_PROGRAM ≠ O.TICKET_SUBMIT) hfree hup
      hdraw
    have hidx : O.OTP_PROGRAM ≠ O.SEAL_BURN := by decide
    refine ⟨fun hbar => next_onFab (hserve.trans ?_), fun hok => ?_⟩
    · rw [Fab.beginProgram, if_neg hidx, hbar]
      rfl
    · obtain ⟨slot, record, hslot, hbegin⟩ := Fab.beginProgram_taken (who := who) hok
      exact ⟨⟨who, slot, record⟩, rfl, hslot, next_onFab (hserve.trans hbegin)⟩
  · intro s j fails g hprog hg
    refine ⟨fun hread => next_onFab ?_, fun w hw => next_onFab ?_⟩
    · have hnone : programOrder.find? (fun w => g.otp.word (512 * j.slot + w) != field j.record (32 * w) 32) = none :=
        List.find?_eq_none.mpr (fun w hw => by rw [hread w hw, bne_self_eq_false]; exact Bool.false_ne_true)
      simp only [hprog, ← hg, hnone]
      rfl
    · simp only [hprog, ← hg, hw]
      rfl
  · intro s miss
    refine ⟨fun hbar => next_onFab (if_pos hbar), fun hok _ => next_onFab ?_⟩
    have hnot : ¬s.fab.otp.refuses s.fab.otp.addr s.fab.otp.wdata = true := by
      rw [hok]
      exact Bool.false_ne_true
    simp only [Fab.otpCmd, if_neg hnot, clearBits_zero, ne_eq, not_true_eq_false, decide_false]
  · intro o w v hdone hseal hok
    exact Otp.program_completed hdone hseal hok

end Sys2Proof.Machine

/-! Proofs: the verify engine (R542, R543, R566). -/

namespace Sys2Proof.Machine

/-! ## The verify engine -/

theorem Fab.modVe_congr {f : Fab} {g g' : Ve → Ve} (h : g f.ve = g' f.ve) : f.modVe g = f.modVe g' := by
  rw [Fab.modVe, Fab.modVe, h]

/-- A command while the engine is BUSY (R566). -/
theorem Fab.veCmd_busy {f : Fab} {op : VeOp} (g : Ve → Ve) (h : f.ve.op = some op) :
    f.veCmd g = f.modVe (fun e => { e with err := true }) := by
  refine Fab.modVe_congr (if_pos ?_)
  rw [h]
  rfl

/-- A command of the engine that is free (R566). -/
theorem Fab.veCmd_free {f : Fab} (g : Ve → Ve) (h : f.ve.op = none) : f.veCmd g = f.modVe g := by
  refine Fab.modVe_congr (if_neg ?_)
  rw [h]
  exact Bool.false_ne_true

/-- The four bytes of a word, byte 0 lowest (R566). -/
theorem Ve.feed_bytes (e : Ve) {b0 b1 b2 b3 : Nat} (h0 : b0 < 256) (h1 : b1 < 256) (h2 : b2 < 256) (h3 : b3 < 256) :
    e.feed (b0 + b1 * 2 ^ 8 + b2 * 2 ^ 16 + b3 * 2 ^ 24) = { e with msg := e.msg ++ [b0, b1, b2, b3] } := by
  have hbytes : Sha.bytesLe (b0 + b1 * 2 ^ 8 + b2 * 2 ^ 16 + b3 * 2 ^ 24) 4 = [b0, b1, b2, b3] := by
    simp only [Sha.bytesLe, List.cons.injEq, and_true]
    omega
  rw [Ve.feed, hbytes]

/-- Settles O53. -/
theorem verifyEngine : Obligations.VerifyEngine := by
  refine ⟨?_, ?_, ?_, ?_⟩
  · intro s op hbusy
    exact ⟨next_onFab (Fab.veCmd_busy _ hbusy), next_onFab (Fab.veCmd_busy _ hbusy), next_onFab (Fab.veCmd_busy _ hbusy),
      next_onFab (Fab.veCmd_busy _ hbusy)⟩
  · intro s hfree
    refine ⟨next_onFab ?_, fun hfull => next_onFab ?_, fun hshort => next_onFab ?_, next_onFab ?_, next_onFab ?_⟩ <;>
      rw [Fab.veCmd_free _ hfree]
    · rfl
    · exact Fab.modVe_congr (if_neg (Nat.not_lt.mpr hfull))
    · exact Fab.modVe_congr (if_pos hshort)
  · intro s b0 b1 b2 b3 h0 h1 h2 h3
    exact next_onFab (Fab.modVe_congr (Ve.feed_bytes _ h0 h1 h2 h3))
  · intro s samples k
    refine ⟨fun hop => next_onFab ?_, fun hop => next_onFab ?_, fun hop => next_onFab ?_, fun hop => next_onFab ?_,
      fun hop => next_same ?_⟩ <;>
      simp only [hop]

end Sys2Proof.Machine

/-! Proofs: fault families (R535, R570, R574, R575). -/

namespace Sys2Proof.Machine

/-! ## Fault families -/

/-- The write of an object that a unit of the scope has (R535). -/
theorem Fab.objWrite_exists {f : Fab} {who num idx sub : Nat} {sc : Scope} {w : Fab → Fab × Nat}
    (h : objExists sc num idx sub = true) : f.objWrite who sc num idx sub w = Fab.done (w f) who :=
  if_pos h

/-- Writes of FIRST and OVF (R574). -/
theorem Fab.wFirst_cases (f : Fab) (key v : Nat) :
    (v = 0 → f.wFirst key v = (f.modFam key (fun x => { x with first := 0 }), cOk)) ∧
    (v ≠ 0 → f.wFirst key v = (f, cDenied)) :=
  ⟨fun hv => if_pos hv, fun hv => if_neg hv⟩

@[inherit_doc Fab.wFirst_cases] theorem Fab.wOvf_cases (f : Fab) (key v : Nat) :
    (v = 0 → f.wOvf key v = (f.modFam key (fun x => { x with ovf := false }), cOk)) ∧
    (v ≠ 0 → f.wOvf key v = (f, cDenied)) :=
  ⟨fun hv => if_pos hv, fun hv => if_neg hv⟩

/-- Ones written to PEND with no command for the family's crossings (R574). -/
theorem Fab.clearFam_plain (f : Fab) (key ones : Nat) :
    f.clearFam key ones false = f.modFam key (fun x => x.clearPend ones) := by
  simp only [Fab.clearFam, Bool.and_false, Bool.false_eq_true, if_false]
  split <;> rfl

/-- A one written to the CDC_TIMEOUT bit of a family (R472, R574). -/
theorem Fab.clearFam_cdc {f : Fab} {key ones k : Nat} (hcdc : famCdc key = some k) (hbit : bit ones k = true) :
    f.clearFam key ones true = (f.cdcClear key).modFam key (fun x => x.clearPend ones) := by
  simp only [Fab.clearFam, hcdc, hbit, Bool.and_self, if_true]

/-- The interrupt line of a family (R570). -/
theorem Fab.intLine_iff (f : Fab) (key : Nat) : f.intLine key = true ↔
    (f.die (lineDie key)).ao = true ∧ ∃ k, (f.fam key).pend.testBit k = true ∧ (f.fam key).en.testBit k = true := by
  have hline : (f.fam key).line = true ↔ ∃ k, (f.fam key).pend.testBit k = true ∧ (f.fam key).en.testBit k = true := by
    rw [Fam.line, decide_eq_true_eq]
    constructor
    · intro hne
      obtain ⟨k, hk⟩ := Nat.exists_testBit_of_ne_zero hne
      rw [Nat.testBit_and, Bool.and_eq_true] at hk
      exact ⟨k, hk⟩
    · rintro ⟨k, hpend, hen⟩ hzero
      have hk := congrArg (fun n => n.testBit k) hzero
      simp [Nat.testBit_and, hpend, hen] at hk
  rw [Fab.intLine, Bool.and_eq_true, hline, and_comm]

/-- A source that is raised (R570, R571). -/
theorem Fam.raise_cases (x : Fam) (k : Nat) (info : List Nat) :
    (x.raise k info).pend.testBit k = true ∧
    (x.first.testBit 15 = false → (x.raise k info).first = k + 2 ^ 15 ∧ (x.raise k info).info = info ∧
      (x.raise k info).ovf = x.ovf) ∧
    (x.first.testBit 15 = true → (x.raise k info).first = x.first ∧ (x.raise k info).info = x.info ∧
      (x.raise k info).ovf = true) := by
  have hset : (setBit x.pend k).testBit k = true := by
    rw [setBit, mask, Nat.testBit_or, Nat.testBit_two_pow_self, Bool.or_true]
  rw [Fam.raise, bit]
  cases x.first.testBit 15 with
  | true => exact ⟨hset, fun h => absurd h.symm Bool.false_ne_true, fun _ => ⟨rfl, rfl, rfl⟩⟩
  | false => exact ⟨hset, fun _ => ⟨rfl, rfl, rfl⟩, fun h => absurd h Bool.false_ne_true⟩

/-- What ones written to PEND leave (R574): a condition that holds and is not forced, and what they do not name. -/
theorem Fam.clearPend_pend (x : Fam) (ones k : Nat) : (x.clearPend ones).pend.testBit k =
    (x.pend.testBit k && (!ones.testBit k || (x.cond.testBit k && !x.forced.testBit k))) := by
  simp only [Fam.clearPend, testBit_clearBits, Nat.testBit_and]
  cases x.pend.testBit k <;> cases ones.testBit k <;> cases x.cond.testBit k <;> cases x.forced.testBit k <;> rfl

/-- Settles O54. -/
theorem faultFamilies : Obligations.FaultFamilies := by
  refine ⟨?_, ?_, ?_, Fab.intLine_iff, ?_, ?_, Fam.clearPend_pend⟩
  · intro s who num v sc l hex
    obtain ⟨hfree, hdenied⟩ := s.fab.wFirst_cases (famOf sc num (famIdx l)) v
    refine ⟨fun hv => next_onFab ((Fab.objWrite_exists hex).trans ?_),
      fun hv => next_onFab ((Fab.objWrite_exists hex).trans ?_)⟩
    · rw [hfree hv]
      rfl
    · rw [hdenied hv]
      rfl
  · intro s who num ones sc l hex
    refine ⟨next_onFab ((Fab.objWrite_exists hex).trans ?_),
      fun k hcdc hbit => next_onFab ((Fab.objWrite_exists hex).trans ?_)⟩
    · rw [Fab.wPend, Fab.clearFam_plain]
      rfl
    · rw [Fab.wPend, Fab.clearFam_cdc hcdc hbit]
      rfl
  · intro s who num v sc l hex
    obtain ⟨hclear, hdenied⟩ := s.fab.wOvf_cases (famOf sc num (famIdx l)) v
    refine ⟨fun hv => next_onFab ((Fab.objWrite_exists hex).trans ?_),
      fun hv => next_onFab ((Fab.objWrite_exists hex).trans ?_)⟩
    · rw [hclear hv]
      rfl
    · rw [hdenied hv]
      rfl
  · intro s who num v sc l hnone
    refine next_onFab (if_neg ?_)
    rw [hnone]
    exact Bool.false_ne_true
  · intro x k info _
    exact x.raise_cases k info

end Sys2Proof.Machine

/-! Proofs: resets through MAP_RESET (R491, R493). -/

namespace Sys2Proof.Machine

/-! ## Resets through MAP_RESET -/

/-- The fields of a value of MAP_RESET (R493). -/
theorem mapReset_fields {k num v : Nat} {cold : Bool} (hk : k < 4) (hnum : num < 256)
    (hv : v = k + b2n cold * 4 + num * 2 ^ 16) :
    v % 4 = k ∧ v % 8 = k + b2n cold * 4 ∧ field v 16 8 = num ∧ bit v 2 = cold := by
  have hcold : b2n cold ≤ 1 := by cases cold <;> decide
  refine ⟨by omega, by omega, ?_, ?_⟩
  · rw [field, Nat.shiftRight_eq_div_pow]
    omega
  · rw [bit, Nat.testBit_eq_decide_div_mod_eq]
    cases cold with
    | true =>
      rw [decide_eq_true_eq]
      have hone : b2n true = 1 := rfl
      omega
    | false =>
      rw [decide_eq_false_iff_not]
      have hzero : b2n false = 0 := rfl
      omega

section
variable {f : Fab} {k num v : Nat} {cold : Bool}

/-- A reset that the MAP refuses with the lock open (R491, R493). -/
theorem Fab.wMapReset_refused (hlock : f.map.lock = true) (hk : k < 4) (hnum : num < 256)
    (hv : v = k + b2n cold * 4 + num * 2 ^ 16)
    (hbar : (resetScope k).count ≤ num ∨ (f.inProgress = true ∧ resetScope k ≠ .inst)) :
    f.wMapReset 2 v = f.modMap (fun m => { m with lock := false, last := 3, refused := min 255 (m.refused + 1) }) := by
  obtain ⟨hsc, _, hfield, _⟩ := mapReset_fields hk hnum hv
  have hrefused : (f.modMap (fun m => { m with lock := false })).mapReset v =
      (f.modMap (fun m => { m with lock := false }), false) := by
    rw [Fab.mapReset, hsc, hfield]
    exact if_pos hbar
  rw [Fab.wMapReset, Fab.guardedWrite, if_pos hlock, hrefused]
  rfl

/-- A reset that the MAP starts (R491, R493). -/
theorem Fab.wMapReset_started (hlock : f.map.lock = true) (hk : k < 4) (hnum : num < 256)
    (hv : v = k + b2n cold * 4 + num * 2 ^ 16) (hex : num < (resetScope k).count)
    (hfree : f.inProgress = false ∨ resetScope k = .inst) :
    f.wMapReset 2 v = ((f.modMap (fun m => { m with lock := false, rst := v })).startReset (resetScope k) num cold
      true).modMap (fun m => m.guarded 1) := by
  obtain ⟨hsc, hlow, hfield, hbit⟩ := mapReset_fields hk hnum hv
  have hnot : ¬((resetScope k).count ≤ num ∨ (f.inProgress = true ∧ resetScope k ≠ .inst)) := by
    rintro (h | ⟨hbusy, hne⟩)
    · omega
    · rcases hfree with h | h
      · rw [hbusy] at h
        exact Bool.false_ne_true h.symm
      · exact hne h
  have hstarted : (f.modMap (fun m => { m with lock := false })).mapReset v =
      ((f.modMap (fun m => { m with lock := false, rst := v })).startReset (resetScope k) num cold true, true) := by
    rw [Fab.mapReset, hsc, hfield, hlow, hbit, ← hv]
    exact if_neg hnot
  rw [Fab.wMapReset, Fab.guardedWrite, if_pos hlock, hstarted]
  rfl

/-- A write of MAP_RESET with the lock closed (R491). -/
theorem Fab.wMapReset_locked (v : Nat) (hlock : f.map.lock = false) :
    f.wMapReset 2 v = (f.mapRaise 3 0x60 true 2 v).modMap (fun m => { m with
      last := 2, refused := min 255 (m.refused + 1) }) := by
  have hnot : ¬f.map.lock = true := by
    rw [hlock]
    exact Bool.false_ne_true
  rw [Fab.wMapReset, Fab.guardedWrite, if_neg hnot]
  rfl

/-- A reset of a tile (R587). -/
theorem Fab.startReset_tile (f : Fab) (t : Nat) (cold viaMap : Bool) : f.startReset .tile t cold viaMap =
    { (f.enterTiles [t] cold).enterCrossings [t] cold with
      rsts := ((f.enterTiles [t] cold).enterCrossings [t] cold).rsts ++ [⟨.tile, t, cold, f.run0, viaMap⟩] } := by
  have hinst : (Scope.tile == Scope.inst) = false := rfl
  have hdie : (Scope.tile == Scope.die) = false := rfl
  simp only [Fab.startReset, hinst, hdie, Bool.false_and, Bool.and_false, Bool.or_false, Bool.false_eq_true, if_false]

end

/-- Settles O57. -/
theorem resetWrites : Obligations.ResetWrites := by
  have hcount : (resetScope 0).count = 256 ∧ (resetScope 1).count = 16 ∧ (resetScope 2).count = 4 ∧
      (resetScope 3).count = 1 := by decide
  obtain ⟨htile, hquad, hdie, hinst⟩ := hcount
  refine ⟨?_, ?_, ?_, ?_, Fab.startReset_tile⟩
  · intro s num cold hlock hfree
    refine ⟨fun hnum => next_onFab ?_, fun hnum => next_onFab ?_, fun hnum => next_onFab ?_,
      fun hnum hlt => next_onFab ?_⟩
    · rw [Nat.mod_eq_of_lt hnum]
      exact Fab.wMapReset_started (k := 0) hlock (by omega) hnum (by omega) (by omega) (Or.inl hfree)
    · rw [Nat.mod_eq_of_lt (by omega : num < 256)]
      exact Fab.wMapReset_started (k := 1) hlock (by omega) (by omega) rfl (by omega) (Or.inl hfree)
    · rw [Nat.mod_eq_of_lt (by omega : num < 256)]
      exact Fab.wMapReset_started (k := 2) hlock (by omega) (by omega) rfl (by omega) (Or.inl hfree)
    · rw [Nat.mod_eq_of_lt hlt]
      exact Fab.wMapReset_refused (k := 1) hlock (by omega) hlt rfl (Or.inl (by omega))
  · intro s cold hlock
    have hstart := Fab.wMapReset_started (f := s.fab) (k := 3) (num := 0) (cold := cold) (v := 3 + b2n cold * 4) hlock
      (by omega) (by omega) (by omega) (by omega) (Or.inr rfl)
    exact next_onFab hstart
  · intro s num cold hlock hbusy hnum
    refine ⟨_, rfl, next_onFab ?_, next_onFab ?_, next_onFab ?_⟩ <;> rw [Nat.mod_eq_of_lt (by omega : num < 256)]
    · exact Fab.wMapReset_refused (num := num) (cold := cold) (k := 0) hlock (by omega) (by omega) (by omega)
        (Or.inr ⟨hbusy, by decide⟩)
    · exact Fab.wMapReset_refused (k := 1) hlock (by omega) (by omega) rfl (Or.inr ⟨hbusy, by decide⟩)
    · exact Fab.wMapReset_refused (k := 2) hlock (by omega) (by omega) rfl (Or.inr ⟨hbusy, by decide⟩)
  · intro s num cold hlock hnum
    refine ⟨next_onFab ?_, next_onFab ?_⟩ <;> rw [Nat.mod_eq_of_lt hnum, Fab.wMapReset_locked _ hlock]

end Sys2Proof.Machine

/-! Proofs: event counters and the trace quarters (R594, R595, R609, R611). -/

namespace Sys2Proof.Machine

/-! ## Event counters and the trace quarters -/

/-- CNT_EVENT of a tile (R594). -/
def cntEventRow : ObjRow := ⟨O.CNT_EVENT, [0, 1, 2, 3, 4, 5, 6, 7], .u16, .rw, 0, [.tile], .any⟩
/-- CNT_VALUE of a tile (R595). -/
def cntValueRow : ObjRow := ⟨O.CNT_VALUE, [0, 1, 2, 3, 4, 5, 6, 7], .u64, .rw, 0, [.tile], .clip 0 281474976710655 false⟩

theorem objRow_cntEvent {k : Nat} (hk : k < 8) : objRow .tile O.CNT_EVENT k = some cntEventRow := by
  have hall : ∀ k < 8, objRow .tile O.CNT_EVENT k = some cntEventRow := by decide +kernel
  exact hall k hk

theorem objRow_cntValue {k : Nat} (hk : k < 8) : objRow .tile O.CNT_VALUE k = some cntValueRow := by
  have hall : ∀ k < 8, objRow .tile O.CNT_VALUE k = some cntValueRow := by decide +kernel
  exact hall k hk

section
variable {q p : Quarter} {d r : Nat} {stop : Bool}

/-- A quarter refuses a record only when it is full under STOP (R611). -/
theorem Quarter.put_eq_none : q.put d r stop = none ↔ q.count = 12288 ∧ stop = true := by
  rw [Quarter.put]
  split <;> simp [*]

/-- What a record that a quarter takes leaves (R611). -/
theorem Quarter.put_eq_some (h : q.put d r stop = some p) :
    p = ⟨q.recs.set (fun _ => 0) q.nextE (r + q.seq * 2 ^ 256 + d * 2 ^ 288), min 12288 (q.count + 1),
      (q.nextE + 1) % 12288, (q.seq + 1) % 2 ^ 32⟩ := by
  have hroom : ¬(q.count = 12288 ∧ stop = true) := fun hfull => by
    rw [Quarter.put_eq_none.mpr hfull] at h
    exact nomatch h
  rw [Quarter.put, if_neg hroom] at h
  exact (Option.some.inj h).symm

end

@[simp] theorem Fab.traceOf_setTrace_same (f : Fab) (d : Nat) (q : Quarter) : (f.setTrace d q).traceOf d = q :=
  SMap.get_set_same _ _ _ _

theorem Fab.traceOf_setTrace_other (f : Fab) {d e : Nat} (q : Quarter) (h : e ≠ d) :
    (f.setTrace d q).traceOf e = f.traceOf e :=
  SMap.get_set_other _ _ _ _ _ h

/-- A broadcast reaches a die as before once a quarter is written. -/
theorem Fab.setTrace_bcastUp (f : Fab) (d e : Nat) (q : Quarter) : (f.setTrace d q).bcastUp e = f.bcastUp e := rfl

/-- The quarters of all dies, empty (R611). -/
def Fab.emptyTrace (f : Fab) : Fab :=
  (((f.setTrace 0 Quarter.reset).setTrace 1 Quarter.reset).setTrace 2 Quarter.reset).setTrace 3 Quarter.reset

theorem Fab.emptyTrace_traceOf (f : Fab) {d : Nat} (hd : d < 4) : f.emptyTrace.traceOf d = Quarter.reset := by
  rw [Fab.emptyTrace]
  rcases (by omega : d = 0 ∨ d = 1 ∨ d = 2 ∨ d = 3) with rfl | rfl | rfl | rfl
  · rw [Fab.traceOf_setTrace_other _ _ (by decide), Fab.traceOf_setTrace_other _ _ (by decide),
      Fab.traceOf_setTrace_other _ _ (by decide), Fab.traceOf_setTrace_same]
  · rw [Fab.traceOf_setTrace_other _ _ (by decide), Fab.traceOf_setTrace_other _ _ (by decide),
      Fab.traceOf_setTrace_same]
  · rw [Fab.traceOf_setTrace_other _ _ (by decide), Fab.traceOf_setTrace_same]
  · rw [Fab.traceOf_setTrace_same]

/-- TRACE_CLEAR with every die within reach (R611). -/
theorem Fab.wTraceClear_allUp {f : Fab} {v : Nat} (hv : v ≠ 0) (hup : ∀ d, d < 4 → f.bcastUp d = true) :
    f.wTraceClear v = (f.emptyTrace, cOk) := by
  have hrange : List.range 4 = [0, 1, 2, 3] := rfl
  rw [Fab.wTraceClear, if_neg hv, hrange]
  simp only [List.foldl_cons, List.foldl_nil, Fab.setTrace_bcastUp, hup 0 (by decide), hup 1 (by decide),
    hup 2 (by decide), hup 3 (by decide), if_true, Fab.emptyTrace]

/-- Settles O59. -/
theorem countersAndTrace : Obligations.CountersAndTrace := by
  refine ⟨?_, by decide, ?_, ?_, ?_, ?_, ?_⟩
  · intro s who t k v ht hk
    refine ⟨fun hok hv => next_onFab ?_, fun hbad => next_onFab ?_⟩
    · rw [Fab.objWrite_eq ht (objRow_cntEvent hk), Fab.wCntEvent, if_pos hok, Nat.mod_eq_of_lt hv]
      rfl
    · rw [Fab.objWrite_eq ht (objRow_cntEvent hk), Fab.wCntEvent, if_neg (by rw [hbad]; exact Bool.false_ne_true)]
      rfl
  · intro s who t k v ht hk
    refine ⟨fun hv => next_onFab ?_, fun hv => next_onFab ?_⟩
    · have hmin : min v (2 ^ 48 - 1) = v := Nat.min_eq_left (by omega)
      rw [Fab.objWrite_eq ht (objRow_cntValue hk), Fab.wCntValue, hmin, if_pos rfl]
      rfl
    · have hmin : min v (2 ^ 48 - 1) = 2 ^ 48 - 1 := Nat.min_eq_right (by omega)
      rw [Fab.objWrite_eq ht (objRow_cntValue hk), Fab.wCntValue, hmin, if_neg (by omega)]
      rfl
  · intro s t r rest g hhop hg
    subst hg
    refine ⟨fun q hq => next_onFab ?_, fun hfull => next_onFab ?_⟩
    · simp only [hhop, hq]
    · simp only [hhop, hfull]
  · intro q d r stop _ _
    refine ⟨Quarter.put_eq_none, fun p hp => ?_⟩
    rw [Quarter.put_eq_some hp]
    exact ⟨rfl, rfl, rfl, SMap.get_set_same _ _ _ _, fun e he => SMap.get_set_other _ _ _ _ _ he,
      Nat.mod_lt _ (by decide)⟩
  · intro s t hhop
    exact next_same (by simp only [hhop])
  · intro s who v hv hup
    refine ⟨s.fab.emptyTrace, next_onFab ?_, fun d hd => Fab.emptyTrace_traceOf _ hd, rfl, rfl⟩
    rw [Fab.wTraceClear_allUp hv hup]
    rfl

end Sys2Proof.Machine

/-! Proofs: snapshots and the Counter Collector (R599 to R606). -/

namespace Sys2Proof.Machine

/-! ## Snapshots and the Counter Collector -/

/-- What operations over a list do to a view that one of them alone moves, and that decides what it makes of it. -/
theorem Fab.foldl_view_at {α β : Type} (view : Fab → β) (g : Fab → α → Fab) {a : α}
    (hother : ∀ b, b ≠ a → ∀ f, view (g f b) = view f) (hat : ∀ f f', view f = view f' → view (g f a) = view (g f' a))
    {l : List α} (hnd : l.Nodup) (ha : a ∈ l) (f : Fab) : view (l.foldl g f) = view (g f a) := by
  obtain ⟨l₁, l₂, rfl⟩ := List.append_of_mem ha
  obtain ⟨-, hnd₂, hdisj⟩ := List.nodup_append.mp hnd
  have hbefore : view (l₁.foldl g f) = view f :=
    Fab.foldl_keeps_mem view g l₁ (fun b hb => hother b (hdisj b hb a List.mem_cons_self)) f
  have hafter (f : Fab) : view (l₂.foldl g f) = view f :=
    Fab.foldl_keeps_mem view g l₂ (fun b hb => hother b (fun h => (List.nodup_cons.mp hnd₂).1 (h ▸ hb))) f
  rw [List.foldl_append, List.foldl_cons, hafter]
  exact hat _ _ hbefore

/-- What one operation of a list brings about, once it is true, stays true over the whole list. -/
theorem Fab.foldl_brings {α : Type} {P Q : Fab → Prop} (g : Fab → α → Fab) {a : α} (hP : ∀ f b, P f → P (g f b))
    (hbrings : ∀ f, P f → Q (g f a)) (hQ : ∀ f b, Q f → Q (g f b)) {l : List α} (ha : a ∈ l) {f : Fab} (hf : P f) :
    Q (l.foldl g f) := by
  have hkeep (l : List α) (R : Fab → Prop) (hR : ∀ f b, R f → R (g f b)) (f : Fab) (h : R f) : R (l.foldl g f) :=
    List.foldlRecOn l g h (fun f hf b _ => hR f b hf)
  obtain ⟨l₁, l₂, rfl⟩ := List.append_of_mem ha
  rw [List.foldl_append, List.foldl_cons]
  exact hkeep l₂ Q hQ _ (hbrings _ (hkeep l₁ P hP f hf))

section
variable {f : Fab} {t : Nat}

/-- A snapshot touches no object, no collection and no Lantern. -/
theorem Fab.takeSnapshot_keeps (f : Fab) (t : Nat) :
    (f.takeSnapshot t).objs = f.objs ∧ (f.takeSnapshot t).coll = f.coll ∧ (f.takeSnapshot t).lan = f.lan := by
  rw [Fab.takeSnapshot]
  split
  · exact ⟨rfl, rfl, rfl⟩
  · split <;> exact ⟨rfl, rfl, rfl⟩

theorem Fab.takeSnapshot_tile_other {u : Nat} (h : u ≠ t) : (f.takeSnapshot t).tile u = f.tile u := by
  rw [Fab.takeSnapshot]
  split
  · rfl
  · split
    · rfl
    · rw [Fab.modTile_other _ _ _ _ h]

/-- A tile whose time has not come keeps its snapshot armed (R601). -/
theorem Fab.takeSnapshot_early {tm : Nat} (hsnap : (f.tile t).snap = some tm) (hearly : f.time t < tm) :
    f.takeSnapshot t = f := by
  simp only [Fab.takeSnapshot, hsnap, if_pos hearly]

/-- A tile in T0 whose time has come copies CYC and its counters (R601). -/
theorem Fab.takeSnapshot_due {tm : Nat} (hsnap : (f.tile t).snap = some tm) (hdue : tm ≤ f.time t)
    (hst : (f.tile t).st = .t0) :
    (f.takeSnapshot t).tile t = { f.tile t with snap := none, shadow := (f.tile t).cyc :: (f.tile t).cnt } := by
  have hout : ¬((f.tile t).st = .reset ∨ (f.tile t).st = .unpowered) := by
    rw [hst]
    decide
  simp only [Fab.takeSnapshot, hsnap, if_neg (Nat.not_lt.mpr hdue), Fab.modTile_own, if_neg hout]

/-- What decides a tile's snapshot: the tile and the Lanterns. -/
def Fab.snapView (t : Nat) (f : Fab) : Tile × SMap Lantern := (f.tile t, f.lan)

theorem Fab.takeSnapshot_snapView_congr {f' : Fab} (h : f.snapView t = f'.snapView t) :
    (f.takeSnapshot t).snapView t = (f'.takeSnapshot t).snapView t := by
  obtain ⟨htile, hlan⟩ := Prod.mk.inj h
  have htime : f.time t = f'.time t := by rw [Fab.time, Fab.time, Fab.lantern, Fab.lantern, hlan]
  rw [Fab.snapView, Fab.snapView, (f.takeSnapshot_keeps t).2.2, (f'.takeSnapshot_keeps t).2.2, hlan]
  refine congrArg (·, f'.lan) ?_
  cases hsnap : (f'.tile t).snap with
  | none => simp only [Fab.takeSnapshot, htile, hsnap]
  | some tm =>
    by_cases hearly : f'.time t < tm
    · rw [Fab.takeSnapshot_early (htile ▸ hsnap) (htime ▸ hearly), Fab.takeSnapshot_early hsnap hearly, htile]
    · simp only [Fab.takeSnapshot, htile, hsnap, htime, if_neg hearly, Fab.modTile_own]

/-- All tiles whose time has come take their snapshot (R601). -/
def Fab.takeAll (f : Fab) : Fab := (List.range 256).foldl (fun f t => f.takeSnapshot t) f

theorem Fab.takeAll_tile (f : Fab) (ht : t < 256) : f.takeAll.tile t = (f.takeSnapshot t).tile t := by
  have hview : f.takeAll.snapView t = (f.takeSnapshot t).snapView t :=
    Fab.foldl_view_at (Fab.snapView t) _
      (fun u hu f => by
        rw [Fab.snapView, Fab.takeSnapshot_tile_other hu.symm, (f.takeSnapshot_keeps u).2.2, Fab.snapView])
      (fun _ _ h => Fab.takeSnapshot_snapView_congr h) List.nodup_range (List.mem_range.mpr ht) f
  exact (Prod.mk.inj hview).1

theorem Fab.takeAll_objs (f : Fab) : f.takeAll.objs = f.objs :=
  Fab.foldl_keeps Fab.objs _ (fun f t => (f.takeSnapshot_keeps t).1) _ f

theorem Fab.takeAll_coll (f : Fab) : f.takeAll.coll = f.coll :=
  Fab.foldl_keeps Fab.coll _ (fun f t => (f.takeSnapshot_keeps t).2.1) _ f

/-! ### The arming of a snapshot -/

/-- The station of a tile takes SNAPSHOT_AT (R600). -/
def Fab.armTile (tm : Nat) (f : Fab) (t : Nat) : Fab :=
  if f.bypassed t then f else f.modTile t (fun x => { x with snap := some tm })

/-- The broadcast of SNAPSHOT_AT passes a die (R600). -/
def Fab.armDie (tm : Nat) (f : Fab) (d : Nat) : Fab :=
  if f.bcastUp d then (tilesOfDie d).foldl (Fab.armTile tm) (f.setO .inst d O.SNAPSHOT_AT 0 tm) else f

theorem Fab.armSnapshot_eq (f : Fab) (tm : Nat) : f.armSnapshot tm =
    (((List.range 4).foldl (Fab.armDie tm) f).setO .inst 0 O.SNAPSHOT_AT 0 tm).setO .inst 0 O.SNAPSHOT_STATE 0 1 := rfl

/-- A broadcast reaches the station of a tile. -/
def Fab.Reached (t : Nat) (f : Fab) : Prop := f.bcastUp (dieOf t) = true ∧ f.bypassed t = false

/-- A tile is armed. -/
def Fab.Armed (t tm : Nat) (f : Fab) : Prop := (f.tile t).snap = some tm

theorem Fab.armTile_reached {tm u : Nat} (h : f.Reached t) : (f.armTile tm u).Reached t := by
  rw [Fab.armTile]
  split
  · exact h
  · exact h

theorem Fab.armTile_armed {tm u : Nat} (h : f.Armed t tm) : (f.armTile tm u).Armed t tm := by
  rw [Fab.armTile]
  split
  · exact h
  · rw [Fab.Armed]
    by_cases hu : t = u
    · rw [hu, Fab.modTile_own]
    · rw [Fab.modTile_other _ _ _ _ hu]
      exact h

theorem Fab.armTile_arms {tm : Nat} (h : f.Reached t) : (f.armTile tm t).Armed t tm := by
  have hno : ¬f.bypassed t = true := by
    rw [h.2]
    exact Bool.false_ne_true
  rw [Fab.armTile, if_neg hno, Fab.Armed, Fab.modTile_own]

theorem Fab.armDie_reached {tm d : Nat} (h : f.Reached t) : (f.armDie tm d).Reached t := by
  rw [Fab.armDie]
  split
  · exact List.foldlRecOn (tilesOfDie d) (Fab.armTile tm) h (fun _ hf _ _ => Fab.armTile_reached hf)
  · exact h

theorem Fab.armDie_armed {tm d : Nat} (h : f.Armed t tm) : (f.armDie tm d).Armed t tm := by
  rw [Fab.armDie]
  split
  · exact List.foldlRecOn (tilesOfDie d) (Fab.armTile tm) h (fun _ hf _ _ => Fab.armTile_armed hf)
  · exact h

theorem mem_tilesOfDie_dieOf (t : Nat) : t ∈ tilesOfDie (dieOf t) :=
  List.mem_map.mpr ⟨t % 64, List.mem_range.mpr (Nat.mod_lt t (by decide)), Nat.div_add_mod t 64⟩

theorem Fab.armDie_arms {tm : Nat} (h : f.Reached t) : (f.armDie tm (dieOf t)).Armed t tm := by
  have hset : (f.setO .inst (dieOf t) O.SNAPSHOT_AT 0 tm).Reached t := h
  rw [Fab.armDie, if_pos h.1]
  exact Fab.foldl_brings (Fab.armTile tm) (fun _ _ => Fab.armTile_reached) (fun _ => Fab.armTile_arms)
    (fun _ _ => Fab.armTile_armed) (mem_tilesOfDie_dieOf t) hset

theorem Fab.armSnapshot_arms {tm : Nat} (ht : t < 256) (h : f.Reached t) : ((f.armSnapshot tm).tile t).snap = some tm := by
  have hdie : dieOf t < 4 := (Nat.div_lt_iff_lt_mul (by decide)).mpr ht
  rw [Fab.armSnapshot_eq]
  exact Fab.foldl_brings (Q := Fab.Armed t tm) (Fab.armDie tm) (fun _ _ => Fab.armDie_reached) (fun _ => Fab.armDie_arms)
    (fun _ _ => Fab.armDie_armed) (List.mem_range.mpr hdie) h

/-- The first multiple of a period that is no earlier than a time (R604). -/
theorem roundUp_eq {now p tm : Nat} (hp : p ≠ 0) (hmul : tm % p = 0) (hlo : now ≤ tm) (hhi : tm < now + p) :
    (now + p - 1) / p * p = tm := by
  obtain ⟨k, rfl⟩ := Nat.dvd_of_mod_eq_zero hmul
  have hnext : p * (k + 1) = p * k + p := Nat.mul_succ p k
  have hk : (now + p - 1) / p = k := Nat.div_eq_of_lt_le (by rw [Nat.mul_comm]; omega) (by rw [Nat.mul_comm]; omega)
  rw [hk, Nat.mul_comm]

end

/-- Settles O60. -/
theorem snapshots : Obligations.Snapshots := by
  refine ⟨?_, ?_, ?_, ?_, ?_, ?_, ?_, by decide +kernel⟩
  · intro s who tm
    refine ⟨fun hbar => next_onFab ?_, fun hlo hhi hstate hper hup => next_onFab ?_⟩
    · rw [Fab.wSnapshotAt, if_pos hbar]
      rfl
    · have hno : ¬(tm < s.fab.dieTime 0 + us 10 ∨ s.fab.dieTime 0 + ms 10000 < tm ∨ s.fab.oI O.SNAPSHOT_STATE = 1 ∨
          s.fab.oI O.COLLECT_PERIOD ≠ 0) := by
        rintro (h | h | h | h)
        · exact Nat.not_lt.mpr hlo h
        · exact Nat.not_lt.mpr hhi h
        · exact hstate h
        · exact h hper
      rw [Fab.wSnapshotAt, if_neg hno, Fab.allUp hup]
      rfl
  · intro f t tm ht hup hby
    have hkey : objKey .inst 0 O.SNAPSHOT_AT 0 ≠ objKey .inst 0 O.SNAPSHOT_STATE 0 := by decide
    refine ⟨Fab.armSnapshot_arms ht ⟨hup, hby⟩, ?_, ?_⟩
    · rw [Fab.armSnapshot_eq, Fab.oI, Fab.setO_own]
    · rw [Fab.armSnapshot_eq, Fab.oI, Fab.setO_o_ne _ _ hkey, Fab.setO_own]
  · intro s t tm ht hsnap
    refine ⟨s.fab.takeAll, next_onFab rfl, fun hdue hst => ?_, fun hearly => ?_, s.fab.takeAll_objs⟩
    · rw [s.fab.takeAll_tile ht, Fab.takeSnapshot_due hsnap hdue hst]
      exact ⟨rfl, rfl⟩
    · rw [s.fab.takeAll_tile ht, Fab.takeSnapshot_early hsnap hearly]
  · intro s hstate hcoll
    refine ⟨fun hdue => next_onFab ?_, fun hearly => next_same ?_⟩
    · have harmed : ((s.fab.takeAll.setO .inst 0 O.SNAPSHOT_STATE 0 2).setO .inst 0 O.SNAPSHOT_TIME 0
          (s.fab.oI O.SNAPSHOT_AT)).coll.armed = none := by
        simp only [Fab.setO, Fab.takeAll_coll, hcoll]
      have hall : (List.range 256).foldl (fun f t => f.takeSnapshot t) s.fab = s.fab.takeAll := rfl
      refine (if_pos ⟨hstate, hdue⟩).trans ?_
      rw [hall]
      simp only [harmed]
    · exact if_neg (fun h => Nat.not_lt.mpr h.2 hearly)
  · intro s p tm hper hp harmed hreading hstate hmul hlo hhi
    have hno : ¬(us (s.fab.oI O.COLLECT_PERIOD) = 0 ∨ s.fab.coll.armed.isSome = true ∨
        s.fab.coll.reading.isSome = true ∨ s.fab.oI O.SNAPSHOT_STATE = 1) := by
      rw [← hper, harmed, hreading]
      simp [hp, hstate]
    refine next_onFab ((if_neg hno).trans ?_)
    rw [← hper, roundUp_eq hp hmul hlo hhi]
  · intro s tm hreading hnext hring
    have hquiet : [8, 9, 10, 11].any (fun t => (s.fab.guy.ring.lookup t).isSome) = false := by
      simp [hring]
    have hno : ¬(s.fab.coll.next < 768 ∨ [8, 9, 10, 11].any (fun t => (s.fab.guy.ring.lookup t).isSome) = true) := by
      rw [hnext, hquiet]
      decide
    refine ⟨_, rfl, fun hbar => next_onFab ?_, fun hmay => next_onFab ?_⟩
    · simp only [hreading, if_neg hno, hbar, Bool.not_false, if_true]
    · simp only [hreading, if_neg hno, hmay, Bool.not_true, Bool.false_eq_true, if_false]
  · intro s who v
    refine ⟨fun hstate harmed => next_onFab ?_, fun hstate hval => next_onFab ?_⟩
    · rw [Fab.wCollectPeriod, if_pos ⟨hstate, harmed⟩]
      rfl
    · rw [Fab.wCollectPeriod, if_neg (fun h => hstate h.1), Fab.wPlain, hval]
      rfl

end Sys2Proof.Machine

/-! Proofs: what the end of a reset and a loss of supply keep (R587, R645). -/

namespace Sys2Proof.Machine

/-! ## Reset pins, the supply pins and the end of a reset -/

section

/-- The resets that stand and the dies. -/
def Fab.standing (f : Fab) : List Rst × SMap Die := (f.rsts, f.dies)

@[simp] theorem Fab.standing_ite (c : Prop) [Decidable c] (a b : Fab) :
    (if c then a else b).standing = if c then a.standing else b.standing :=
  apply_ite Fab.standing c a b

@[simp] theorem Fab.foldl_standing {α : Type} (g : Fab → α → Fab) (h : ∀ f a, (g f a).standing = f.standing)
    (l : List α) (f : Fab) : (l.foldl g f).standing = f.standing :=
  Fab.foldl_keeps Fab.standing g h l f

@[simp] theorem Fab.modCdc_standing (f : Fab) (x : Cdc) (g : CdcSt → CdcSt) :
    (f.modCdc x g).standing = f.standing := rfl

@[simp] theorem Fab.setTile_standing (f : Fab) (t : Nat) (x : Tile) :
    (f.setTile t x).standing = f.standing := rfl

@[simp] theorem Fab.modTile_standing (f : Fab) (t : Nat) (g : Tile → Tile) :
    (f.modTile t g).standing = f.standing := by
  simp [Fab.modTile]

@[simp] theorem Fab.modNi_standing (f : Fab) (t : Nat) (g : Ni → Ni) :
    (f.modNi t g).standing = f.standing := by
  simp [Fab.modNi]

@[simp] theorem Fab.modBind_standing (f : Fab) (g : Bind → Bind) :
    (f.modBind g).standing = f.standing := rfl

@[simp] theorem Fab.modSp_standing (f : Fab) (d : Nat) (g : Sp → Sp) :
    (f.modSp d g).standing = f.standing := rfl

@[simp] theorem Fab.answer_standing (f : Fab) (who code : Nat) (data : Nat) :
    (f.answer who code data).standing = f.standing := by
  unfold Fab.answer
  split <;> rfl

@[simp] theorem Fab.setO_standing (f : Fab) (sc : Scope) (num idx sub v : Nat) :
    (f.setO sc num idx sub v).standing = f.standing := rfl

@[simp] theorem Fab.bump_standing (f : Fab) (sc : Scope) (num idx sub : Nat) (n : Nat) :
    (f.bump sc num idx sub n).standing = f.standing := by
  simp [Fab.bump]

@[simp] theorem Fab.setFam_standing (f : Fab) (k : Nat) (x : Fam) :
    (f.setFam k x).standing = f.standing := rfl

@[simp] theorem Fab.modFam_standing (f : Fab) (k : Nat) (g : Fam → Fam) :
    (f.modFam k g).standing = f.standing := by
  simp [Fab.modFam]

@[simp] theorem Fab.raise_standing (f : Fab) (key code i0 i1 i2 : Nat) :
    (f.raise key code i0 i1 i2).standing = f.standing := by
  simp [Fab.raise]

@[simp] theorem Fab.raiseC_standing (f : Fab) (key code i0 i1 i2 : Nat) :
    (f.raiseC key code i0 i1 i2).standing = f.standing := by
  simp [Fab.raiseC]

@[simp] theorem Fab.endC_standing (f : Fab) (key code : Nat) :
    (f.endC key code).standing = f.standing := by
  simp [Fab.endC]

@[simp] theorem Fab.modX_standing (f : Fab) (ss c : Nat) (g : CrossSide → CrossSide) :
    (f.modX ss c g).standing = f.standing := rfl

@[simp] theorem Fab.modSide_standing (f : Fab) (ss : Nat) (g : SeamSide → SeamSide) :
    (f.modSide ss g).standing = f.standing := rfl

@[simp] theorem Fab.sbCode_standing (f : Fab) (ss : Nat) (m : SbMsg) :
    (f.sbCode ss m).standing = f.standing := by
  simp [Fab.sbCode]

@[simp] theorem Fab.sbSend_standing (f : Fab) (ss : Nat) (m : SbMsg) :
    (f.sbSend ss m).standing = f.standing := by
  simp [Fab.sbSend]

@[simp] theorem Fab.launch_standing (f : Fab) (ss c : Nat) (fr : Frame) :
    (f.launch ss c fr).standing = f.standing := by
  simp [Fab.launch]

@[simp] theorem Fab.emitNull_standing (f : Fab) (ss c : Nat) :
    (f.emitNull ss c).standing = f.standing := by
  simp [Fab.emitNull]

@[simp] theorem Fab.driveAwake_standing (f : Fab) (ss c : Nat) (level : Bool) :
    (f.driveAwake ss c level).standing = f.standing := by
  simp [Fab.driveAwake]

@[simp] theorem Fab.modSeamOut_standing (f : Fab) (ss c : Nat) (g : OutPort → OutPort) :
    (f.modSeamOut ss c g).standing = f.standing := by
  simp [Fab.modSeamOut]

@[simp] theorem Fab.takeAwake_standing (f : Fab) (ss c : Nat) (level : Bool) :
    (f.takeAwake ss c level).standing = f.standing := by
  simp [Fab.takeAwake]

@[simp] theorem Fab.modOut_standing (f : Fab) (t p : Nat) (g : OutPort → OutPort) :
    (f.modOut t p g).standing = f.standing := by
  simp [Fab.modOut]

@[simp] theorem Fab.modIn_standing (f : Fab) (t p vc : Nat) (g : InVC → InVC) :
    (f.modIn t p vc g).standing = f.standing := by
  simp [Fab.modIn]

@[simp] theorem Fab.setWire_standing (f : Fab) (t p : Nat) (w : List (List (Nat × Flit))) :
    (f.setWire t p w).standing = f.standing := by
  simp [Fab.setWire]

@[simp] theorem Fab.sendPhit_standing (f : Fab) (t p : Nat) (ph : List (Nat × Flit)) :
    (f.sendPhit t p ph).standing = f.standing := by
  simp [Fab.sendPhit]

@[simp] theorem Fab.cutOutput_standing (f : Fab) (t p : Nat) (cnt : Fab → Fab)
    (h : ∀ g, (cnt g).standing = g.standing) : (f.cutOutput t p cnt).standing = f.standing := by
  simp [Fab.cutOutput, h]

@[simp] theorem Fab.modSched_standing (f : Fab) (w : Who) (dir : Nat) (g : Sched → Sched) :
    (f.modSched w dir g).standing = f.standing := by
  unfold Fab.modSched
  split <;> simp

@[simp] theorem Fab.join_standing (f : Fab) (w : Who) (dir : Nat) (p : Packet) (stg : Option Nat) (seq : Nat)
    (ans own : Bool) :
    (f.join w dir p stg seq ans own).standing = f.standing := by
  simp [Fab.join]

@[simp] theorem Fab.takeSeq_standing (f : Fab) (w : Who) (dir : Nat) :
    (f.takeSeq w dir).1.standing = f.standing := by
  simp [Fab.takeSeq]

@[simp] theorem Fab.joinLast_standing (f : Fab) (w : Who) (dir : Nat) (p : Packet) :
    (f.joinLast w dir p).standing = f.standing := by
  simp [Fab.joinLast]

@[simp] theorem Fab.settleKnock_standing (f : Fab) (t : Nat) :
    (f.settleKnock t).standing = f.standing := by
  simp [Fab.settleKnock]

@[simp] theorem Fab.makeEligible_standing (f : Fab) (d : Nat) (which : PwbEnt → Bool) :
    (f.makeEligible d which).standing = f.standing := by
  simp [Fab.makeEligible]

@[simp] theorem Fab.sendLensInv_standing (f : Fab) (t tm : Nat) :
    (f.sendLensInv t tm).standing = f.standing := by
  simp [Fab.sendLensInv]

@[simp] theorem Fab.lensGreet_standing (f : Fab) (t : Nat) :
    (f.lensGreet t).standing = f.standing := by
  simp [Fab.lensGreet]

@[simp] theorem Fab.ticketRejected_standing (f : Fab) (reason kind counter : Nat) :
    (f.ticketRejected reason kind counter).standing = f.standing := by
  simp [Fab.ticketRejected]

@[simp] theorem Fab.endCommitOp_standing (f : Fab) (code : Nat) :
    (f.endCommitOp code).standing = f.standing := by
  simp only [Fab.endCommitOp]
  repeat' split
  all_goals simp

@[simp] theorem Fab.ackJudge_standing (f : Fab) :
    (f.ackJudge).standing = f.standing := by
  simp [Fab.ackJudge]

@[simp] theorem Fab.drainJudge_standing (f : Fab) :
    (f.drainJudge).standing = f.standing := by
  simp [Fab.drainJudge]

@[simp] theorem Fab.sendMark_standing (f : Fab) (t : Nat) :
    (f.sendMark t).standing = f.standing := by
  simp [Fab.sendMark]

@[simp] theorem Fab.famResend_standing (f : Fab) (d : Nat) :
    (f.famResend d).standing = f.standing := by
  simp [Fab.famResend]

@[simp] theorem Fab.oweLess_standing (f : Fab) :
    (f.oweLess).standing = f.standing := by
  simp [Fab.oweLess]

@[simp] theorem Fab.excStart_standing (f : Fab) (d : Nat) :
    (f.excStart d).standing = f.standing := by
  simp [Fab.excStart]

@[simp] theorem Fab.excSample_standing (f : Fab) (d : Nat) :
    (f.excSample d).standing = f.standing := by
  simp [Fab.excSample]

@[simp] theorem Fab.spWait_standing (f : Fab) (d : Nat) :
    (f.spWait d).standing = f.standing := by
  simp [Fab.spWait]

@[simp] theorem Fab.spLeave_standing (f : Fab) (d : Nat) (inst : Bool) :
    (f.spLeave d inst).standing = f.standing := by
  simp [Fab.spLeave]

@[simp] theorem Fab.seamRaise_standing (f : Fab) (ss c lane : Nat) (tx : Bool) (code i1 : Nat) :
    (f.seamRaise ss c lane tx code i1).standing = f.standing := by
  simp [Fab.seamRaise]

@[simp] theorem Fab.seamCond_standing (f : Fab) (ss c lane : Nat) (tx : Bool) (code i1 : Nat) :
    (f.seamCond ss c lane tx code i1).standing = f.standing := by
  simp [Fab.seamCond]

@[simp] theorem Fab.seamSettle_standing (f : Fab) (ss : Nat) :
    (f.seamSettle ss).standing = f.standing := by
  simp [Fab.seamSettle]

@[simp] theorem Fab.pllSettle_standing (f : Fab) (ss : Nat) :
    (f.pllSettle ss).standing = f.standing := by
  simp [Fab.pllSettle]

@[simp] theorem Fab.abandon_standing (f : Fab) (ss c : Nat) :
    (f.abandon ss c).standing = f.standing := by
  simp [Fab.abandon]

@[simp] theorem Fab.modRoute_standing (f : Fab) (ss c : Nat) (g : CrossSide → CrossSide) :
    (f.modRoute ss c g).standing = f.standing := by
  simp [Fab.modRoute]

@[simp] theorem Fab.downHalf_standing (f : Fab) (ss c : Nat) (tx : Bool) (why : Nat) :
    (f.downHalf ss c tx why).standing = f.standing := by
  simp [Fab.downHalf]

@[simp] theorem Fab.startTraining_standing (f : Fab) (ss c : Nat) (full half keep : Bool) :
    (f.startTraining ss c full half keep).standing = f.standing := by
  simp [Fab.startTraining]

@[simp] theorem Fab.tryTrain_standing (f : Fab) (ss c : Nat) :
    (f.tryTrain ss c).standing = f.standing := by
  simp [Fab.tryTrain]

@[simp] theorem Fab.peerReset_standing (f : Fab) (ss c : Nat) (all : Bool) (first : Bool) :
    (f.peerReset ss c all first).standing = f.standing := by
  simp [Fab.peerReset]

@[simp] theorem Fab.peerAck_standing (f : Fab) (ss c : Nat) :
    (f.peerAck ss c).standing = f.standing := by
  simp [Fab.peerAck]

@[simp] theorem Fab.releaseCross_standing (f : Fab) (ss c : Nat) :
    (f.releaseCross ss c).standing = f.standing := by
  simp [Fab.releaseCross]

@[simp] theorem Fab.resetSched_standing (f : Fab) (w : Who) :
    (f.resetSched w).standing = f.standing := by
  simp [Fab.resetSched]

@[simp] theorem Fab.peerEnd_standing (f : Fab) (x : Cdc) :
    (f.peerEnd x).standing = f.standing := by
  simp [Fab.peerEnd]

@[simp] theorem Fab.modGuy_standing (f : Fab) (g : Guy → Guy) :
    (f.modGuy g).standing = f.standing := rfl

@[simp] theorem Fab.openBypass_standing (f : Fab) (t : Nat) :
    (f.openBypass t).standing = f.standing := by
  simp [Fab.openBypass]

@[simp] theorem Fab.leaveUnit_standing (f : Fab) (u : Scope × Nat) (inst : Bool) :
    (f.leaveUnit u inst).standing = f.standing := by
  unfold Fab.leaveUnit
  split
  · simp
  · exact Fab.foldl_standing _ (fun f v => f.modTile_standing _ _) _ f
  · rfl

@[simp] theorem Fab.reloadRwt_standing (f : Fab) (u : Scope × Nat) :
    (f.reloadRwt u).standing = f.standing := by
  unfold Fab.reloadRwt
  split <;> simp

@[simp] theorem Fab.leaveTile_standing (f : Fab) (t : Nat) (inst : Bool) :
    (f.leaveTile t inst).standing = f.standing := by
  simp only [Fab.leaveTile]
  repeat' split
  all_goals simp

@[simp] theorem Fab.leaveCrossings_standing (f : Fab) (t : Nat) :
    (f.leaveCrossings t).standing = f.standing := by
  unfold Fab.leaveCrossings
  refine Fab.foldl_standing _ (fun f p => ?_) _ _
  split <;> simp

@[simp] theorem Fab.peerUnsupplied_standing (f : Fab) (ss : Nat) :
    (f.peerUnsupplied ss).standing = f.standing := by
  simp [Fab.peerUnsupplied]

end

end Sys2Proof.Machine

/-! Proofs: reset pins, the supply pins and the ends of resets (R584 to R589, R615, R624, R645). -/

namespace Sys2Proof.Machine

section
variable {f g : Fab} {d n : Nat} {r : Rst}

/-- A list without an element that does not have a property has an element with it as before. -/
theorem any_dropFirst {α : Type} {p q : α → Bool} (h : ∀ x, p x = true → q x = false) (l : List α) :
    (dropFirst p l).any q = l.any q := by
  induction l with
  | nil => rfl
  | cons x l ih =>
    rw [dropFirst]
    split
    case isTrue hp => rw [List.any_cons, h x hp, Bool.false_or]
    case isFalse => rw [List.any_cons, List.any_cons, ih]

/-- The reset of tile `n` that stands (R587). -/
def isTileReset (n : Nat) (r : Rst) : Bool := r.sc == .tile && r.num == n

theorem rsts_of_standing (h : f.standing = g.standing) : f.rsts = g.rsts := (Prod.mk.inj h).1

theorem die_of_standing (h : f.standing = g.standing) (d : Nat) : f.die d = g.die d := by
  rw [Fab.die, Fab.die, (Prod.mk.inj h).2]

/-! ### The pins of RST_COLD_N and RST_WARM_N -/

theorem Fab.uqCheck_rsts (f : Fab) : f.uqCheck.rsts = f.rsts := by
  rw [Fab.uqCheck]
  exact ite_keeps Fab.rsts (f.modDie_rsts _ _) rfl

/-- RST_COLD_N low starts a cold INSTANCE reset (R584). -/
theorem Fab.startReset_cold_inst (f : Fab) (hlow : f.coldLow = true) : f.startReset .inst 0 true false =
    { f.enterInstance true true with rsts := [⟨.inst, 0, true, f.run0, false⟩] } := by
  simp only [Fab.startReset, Bool.true_or, Bool.not_true, Bool.false_and, Bool.false_eq_true, if_false, hlow]

/-- RST_COLD_N is low (R584). -/
def Fab.pinLow (f : Fab) : Fab := ({ f with coldLow := true } : Fab).modMap (fun m => { m with strapErr := false })

theorem execRstColdAssert_high {s : State} (hhigh : s.fab.coldLow = false) :
    exec .rstColdAssert s = .next (s.onFab (fun f => ({ f.pinLow.enterInstance true true with
      rsts := [⟨.inst, 0, true, f.run0, false⟩] } : Fab).uqCheck)) := by
  have hno : ¬s.fab.coldLow = true := by
    rw [hhigh]
    exact Bool.false_ne_true
  exact next_onFab ((if_neg hno).trans (congrArg Fab.uqCheck (s.fab.pinLow.startReset_cold_inst rfl)))

/-- RST_WARM_N low starts a warm INSTANCE reset (R584). -/
theorem Fab.startReset_warm_inst (f : Fab) (hlow : f.coldLow = false) (hcold : f.coldRuns = false) :
    f.startReset .inst 0 false false =
      { f.enterInstance false false with rsts := [⟨.inst, 0, false, f.run0, false⟩] } := by
  have hdie : (Scope.inst == Scope.die) = false := rfl
  simp only [Fab.startReset, hcold, hdie, Bool.and_false, Bool.or_false, Bool.false_and, Bool.false_eq_true, if_false,
    hlow]

/-- The domains of a powered die are asked for at the release of RST_COLD_N (R624). -/
def Fab.askDomains (f : Fab) (d : Nat) : Fab :=
  if (f.die d).ao then
    (tilesOfDie d).foldl (fun f t => f.modPw t (fun p => { p with tlReq := true, tsReq := true }))
      (f.modDie d (fun x => { x with famReq := true }))
  else f

/-- RST_COLD_N is high, and every reset lasts from here (R586). -/
def Fab.pinHigh (f : Fab) : Fab :=
  { f with coldLow := false, rsts := f.rsts.map (fun r => { r with at_ := f.run0 }) }

/-- What the straps of the slices decide (R615, R642). -/
def Fab.readStraps (f : Fab) (straps : List Nat) : Fab :=
  (f.modMap (fun m => { m with strapErr := !strapsOk straps, present := straps.contains 0 })).modDie 0 (fun x =>
    if straps.contains 0 then { x with uqReq := x.uqReq || !x.pcUqReq } else { x with uqReq := false, uqAck := false })

theorem execRstColdRelease_low {s : State} (hlow : s.fab.coldLow = true) (straps : List Nat) :
    exec (.rstColdRelease straps) s =
      .next (s.onFab (fun f => ((List.range 4).foldl Fab.askDomains f.pinHigh).readStraps straps)) := by
  have hno : ¬(!s.fab.coldLow) = true := by
    rw [hlow]
    decide
  exact next_onFab (if_neg hno)

/-- What the release of RST_COLD_N leaves while it asks for the domains. -/
def Fab.releaseView (f : Fab) : Bool × List Rst × SMap Nat × SMap Lantern := (f.coldLow, f.rsts, f.objs, f.lan)

theorem Fab.askDomains_releaseView (f : Fab) (d : Nat) : (f.askDomains d).releaseView = f.releaseView := by
  rw [Fab.askDomains]
  have hpw (f : Fab) (t : Nat) (g : TilePow → TilePow) : (f.modPw t g).releaseView = f.releaseView := rfl
  exact ite_keeps Fab.releaseView (Fab.foldl_keeps Fab.releaseView _ (fun f t => hpw f t _) _ _) rfl

theorem Fab.readStraps_releaseView (f : Fab) (straps : List Nat) :
    (f.readStraps straps).releaseView = f.releaseView := rfl

theorem Fab.readStraps_strapErr (f : Fab) (straps : List Nat) :
    (f.readStraps straps).map.strapErr = !strapsOk straps := rfl

/-- What the release of RST_COLD_N leaves (R586, R624). -/
theorem Fab.released_releaseView (f : Fab) (straps : List Nat) :
    (((List.range 4).foldl Fab.askDomains f.pinHigh).readStraps straps).releaseView = f.pinHigh.releaseView := by
  rw [Fab.readStraps_releaseView, Fab.foldl_keeps Fab.releaseView Fab.askDomains Fab.askDomains_releaseView]

theorem strapsOk_iff (straps : List Nat) : (!strapsOk straps) = true ↔ straps ≠ [0, 1, 3, 2] := by
  rw [strapsOk, Bool.not_eq_true', beq_eq_false_iff_ne]

/-! ### The ends of resets -/

theorem execResetEnd_none {s : State} {sc : Scope}
    (h : s.fab.rsts.find? (fun r => r.sc == sc && r.num == n) = none) : exec (.resetEnd sc n) s = .next s :=
  next_same (by simp only [h])

theorem execResetEnd_early {s : State} {sc : Scope}
    (h : s.fab.rsts.find? (fun r => r.sc == sc && r.num == n) = some r) (hdue : s.fab.resetDue r = false) :
    exec (.resetEnd sc n) s = .next s :=
  next_same (by simp only [h, hdue, Bool.not_false, if_true])

/-- A tile leaves its reset (R587). -/
theorem execResetEnd_tile {s : State} (h : s.fab.rsts.find? (fun r => r.sc == .tile && r.num == n) = some r)
    (hdue : s.fab.resetDue r = true)
    (hg : g = { s.fab with rsts := dropFirst (fun r => r.sc == .tile && r.num == n) s.fab.rsts }) :
    exec (.resetEnd .tile n) s = .next (s.onFab (fun _ =>
      ((g.leaveTile n false).leaveCrossings n).famResend (dieOf n))) := by
  subst hg
  exact next_onFab (by simp only [h, hdue, Bool.not_true, Bool.false_eq_true, if_false])

theorem Fab.resetDue_tile (hsc : r.sc = .tile) : f.resetDue r = decide (r.at_ + us 20 ≤ f.run0) := by
  have hno : ¬Scope.tile = Scope.inst := by decide
  simp only [Fab.resetDue, hsc, if_neg hno, resetLasts]

/-- RST_ACTIVE_N is decided by the resets of DIE and INSTANCE scope (R625). -/
theorem Fab.rstActiveN_dropTile (h : g.rsts = dropFirst (fun r => r.sc == .tile && r.num == n) f.rsts) :
    g.rstActiveN d = f.rstActiveN d := by
  rw [Fab.rstActiveN, h, any_dropFirst, Fab.rstActiveN]
  intro x hx
  obtain ⟨hsc, -⟩ := (Bool.and_eq_true _ _).mp hx
  rw [eq_of_beq hsc]
  rfl

/-- The end of a tile reset does not move RST_ACTIVE_N (R625). -/
theorem execResetEnd_tile_rstActiveN (s : State) (n d : Nat) :
    ∃ t, exec (.resetEnd .tile n) s = .next t ∧ t.fab.rstActiveN d = s.fab.rstActiveN d := by
  cases hfind : s.fab.rsts.find? (fun r => r.sc == .tile && r.num == n) with
  | none => exact ⟨s, execResetEnd_none hfind, rfl⟩
  | some r =>
    cases hdue : s.fab.resetDue r with
    | false => exact ⟨s, execResetEnd_early hfind hdue, rfl⟩
    | true =>
      refine ⟨_, execResetEnd_tile hfind hdue rfl, Fab.rstActiveN_dropTile (n := n) ?_⟩
      refine rsts_of_standing (g := { s.fab with
        rsts := dropFirst (fun r => r.sc == .tile && r.num == n) s.fab.rsts }) ?_
      rw [State.onFab, Fab.famResend_standing, Fab.leaveCrossings_standing, Fab.leaveTile_standing]

/-! ### VDD_AO -/

/-- A die has lost VDD_AO: its crossing-sides, its tiles, its own state and its Lantern (R645). -/
def Fab.dropDie (f : Fab) (d : Nat) : Fab :=
  let f := (sidesOfDie d).foldl (fun f ss =>
    let f := (List.range 8).foldl (fun f c => f.enterCross ss c true) f
    f.modSide ss (fun x => { x with
      pll := false, lock0 := false, lock1 := false, sb := [], rd0 := false, rd1 := false })) f
  let f := (tilesOfDie d).foldl (fun f t =>
    (f.enterTile t true true).modTile t (fun x => { x with
      st := .unpowered, pw := { x.pw with tlAck := false, tsAck := false } })) f
  let f := f.modDie d (fun _ => { Die.reset d with
    rst := true, ao := false, famReq := false, famAck := false, uqReq := false, uqAck := false })
  f.modLan d (fun _ => { Lantern.reset with invalid := true })

theorem Fab.dropDie_ao (f : Fab) (d : Nat) : ((f.dropDie d).die d).ao = false := by
  have hdie (f : Fab) (g : Lantern → Lantern) : (f.modLan d g).die d = f.die d := rfl
  rw [Fab.dropDie, hdie, Fab.modDie_own]

/-- The far side of a seam sees that its peer has lost its supply (R645). -/
def Fab.tellPeer (f : Fab) (ss : Nat) : Fab :=
  if (f.die (sideDie (farSide ss))).ao then f.peerUnsupplied (farSide ss) else f

theorem Fab.tellPeer_standing (f : Fab) (ss : Nat) : (f.tellPeer ss).standing = f.standing :=
  ite_keeps Fab.standing (f.peerUnsupplied_standing _) rfl

theorem execVddAoLoss_defined {s : State} (hd : d < 4) (hao : (s.fab.die d).ao = true) (hlow : s.fab.coldLow = true) :
    exec (.vddAoLoss d) s = .next (s.onFab (fun f => ((sidesOfDie d).foldl Fab.tellPeer (f.dropDie d)).oweLess)) := by
  have hpowered : ¬(4 ≤ d ∨ (s.fab.die d).ao = false) := by
    rw [hao]
    simp [hd]
  have hdefined : ¬(s.fab.coldLow = false ∧ (List.range 4).any (fun e => e != d && (s.fab.die e).ao) = true) := by
    rw [hlow]
    exact fun h => nomatch h.1
  exact (if_neg hpowered).trans (if_neg hdefined)

end

/-- Settles O56. -/
theorem resetPins : Obligations.ResetPins := by
  refine ⟨?_, ?_, ?_, ?_, ?_, ?_, ?_, ?_, ?_⟩
  · intro s hlow
    exact execRstColdAssert_high hlow
  · intro s hlow
    refine ⟨next_same (if_pos hlow), fun h0 h1 h2 h3 straps => ?_, fun straps => ?_⟩
    · have hoff (d : Nat) (h : (s.fab.die d).ao = false) : s.fab.pinHigh.askDomains d = s.fab.pinHigh := by
        have hno : ¬(s.fab.pinHigh.die d).ao = true := fun hao => Bool.false_ne_true (h.symm.trans hao)
        rw [Fab.askDomains, if_neg hno]
      have hrange : List.range 4 = [0, 1, 2, 3] := rfl
      rw [execRstColdRelease_low hlow]
      refine next_onFab ?_
      rw [hrange, List.foldl_cons, List.foldl_cons, List.foldl_cons, List.foldl_cons, List.foldl_nil, hoff 0 h0,
        hoff 1 h1, hoff 2 h2, hoff 3 h3]
      rfl
    · obtain ⟨hcold, hview⟩ := Prod.mk.inj (s.fab.released_releaseView straps)
      obtain ⟨hrsts, hview⟩ := Prod.mk.inj hview
      obtain ⟨hobjs, hlan⟩ := Prod.mk.inj hview
      refine ⟨_, execRstColdRelease_low hlow straps, hcold, ?_, hrsts, hobjs, hlan⟩
      rw [State.onFab, Fab.readStraps_strapErr]
      exact strapsOk_iff straps
  · intro s hlow
    have hno : ¬s.fab.warmLow = true := by
      rw [hlow]
      exact Bool.false_ne_true
    refine ⟨fun hbusy => next_onFab ((if_neg hno).trans ?_), fun hcold hruns => next_onFab ((if_neg hno).trans ?_)⟩
    · have hkept : ({ s.fab with warmLow := true } : Fab).coldRuns = s.fab.coldRuns := rfl
      refine if_pos ?_
      rw [hkept]
      exact (Bool.or_eq_true _ _).mpr hbusy
    · have hkept : ({ s.fab with warmLow := true } : Fab).coldRuns = s.fab.coldRuns := rfl
      refine (if_neg ?_).trans (Fab.startReset_warm_inst _ hcold hruns)
      rw [hkept, hruns, hcold]
      decide
  · intro s hlow
    have hno : ¬(!s.fab.warmLow) = true := by
      rw [hlow]
      decide
    exact next_onFab (if_neg hno)
  · intro s d hlow
    refine ⟨⟨_, execRstColdAssert_high hlow, ?_⟩, fun n => execResetEnd_tile_rstActiveN s n d⟩
    rw [State.onFab, Fab.rstActiveN, Fab.uqCheck_rsts]
    rfl
  · intro s t r g hfind hsc hg
    refine ⟨fun hdue => ?_, fun hearly => execResetEnd_early hfind ?_⟩
    · exact execResetEnd_tile hfind ((Fab.resetDue_tile hsc).trans (decide_eq_true hdue)) hg
    · rw [Fab.resetDue_tile hsc]
      exact decide_eq_false (Nat.not_le.mpr hearly)
  · intro s r g hfind hsc hg hcold hwarm hstrap hdom hlast
    have hdue : s.fab.resetDue r = true := by
      rw [Fab.resetDue, if_pos hsc, hcold, hwarm, hstrap, hdom]
      simpa using hlast
    subst hg
    exact next_onFab (by simp only [hfind, hdue, Bool.not_true, Bool.false_eq_true, if_false])
  · intro s d hd hao
    refine ⟨fun hlow => ⟨_, execVddAoLoss_defined hd hao hlow, ?_, rfl⟩, fun e he hne heao hlow => ?_⟩
    · have hkept : ((sidesOfDie d).foldl Fab.tellPeer (s.fab.dropDie d)).oweLess.standing =
          (s.fab.dropDie d).standing := by
        rw [Fab.oweLess_standing, Fab.foldl_keeps Fab.standing _ Fab.tellPeer_standing]
      rw [State.onFab, die_of_standing hkept]
      exact s.fab.dropDie_ao d
    · have hpowered : ¬(4 ≤ d ∨ (s.fab.die d).ao = false) := by
        rw [hao]
        simp [hd]
      have hother : (List.range 4).any (fun e => e != d && (s.fab.die e).ao) = true :=
        List.any_eq_true.mpr ⟨e, List.mem_range.mpr he, by rw [heao, bne_iff_ne.mpr hne, Bool.and_self]⟩
      exact (if_neg hpowered).trans (if_pos ⟨hlow, hother⟩)
  · intro s d hd hao
    refine ⟨if_pos (Or.inr hao), fun hlow => next_onFab (if_neg ?_)⟩
    rw [hao, hlow]
    simp [hd]

end Sys2Proof.Machine
